-- ==== Sys2Proof/Word.lean ====
section
/-! DEFINITION. The word types of the model: bytes, and the register words of R6 and R9. -/

namespace Sys2Proof

/-- One byte of a frame, a message or a memory. -/
abbrev Byte := BitVec 8

/-- A 16-bit halfword. -/
abbrev W16 := BitVec 16

/-- A register word of R6: 32 bits. -/
abbrev W32 := BitVec 32

/-- A _LO/_HI register pair of R9 taken together: 64 bits. -/
abbrev W64 := BitVec 64

/-- A natural number as a register word, reduced modulo 2^32. -/
abbrev w32 (n : Nat) : W32 := BitVec.ofNat 32 n

end Sys2Proof
end

