-- ==== Sys2Proof/Syntax.lean ====
section
/-! DEFINITION. The commands of the module, one constructor per row of the table of operations and events, with the row's
operands. Register-write rows carry the facet that writes and the word written; rows that report something physical (an error
found, a level seen, a measurement) carry what was found, because nothing in the module decides it. -/

namespace Sys2Proof

/-- A facet F0–F15 (R1). -/
abbrev Facet := Fin 16
/-- A vertex number of R3. -/
abbrev Vertex := Fin 128
/-- An external vertex, 0–84. -/
abbrev ExtV := Fin 85
/-- An Ethernet vertex, 0–47 (R336). -/
abbrev EthV := Fin 48
/-- A backbone lane, 0–7. -/
abbrev LaneNo := Fin 8
/-- A CAN channel C0–C23. -/
abbrev CanCh := Fin 24
/-- A LIN channel N0–N11. -/
abbrev LinCh := Fin 12
/-- A CAN or LIN channel: 0–23 are C0–C23, 24–35 are N0–N11. -/
abbrev BusVertex := Fin 36
/-- A page with SOFT_RESET for vertices: 0–47 Ethernet, 48–71 CAN, 72–77 the LIN pairs (R576). -/
abbrev PageVertex := Fin 78
/-- A page of the register space: address bits [20:12] (R615, R616). -/
abbrev PageNo := Fin 512
/-- A lattice cell (R223). -/
abbrev CellNo := Fin 72
/-- A hardware context of a cell (R223). -/
abbrev Ctx := Fin 16

/-- What the physical layer reports of an arriving frame (R346, R355, R359, R379, R558, R220). -/
structure PhyFinding where
  /-- FCS found bad, or a byte in an errored block (R346). -/
  badFcs : Bool
  /-- The fragment ended in a collision (R355). -/
  collided : Bool
  /-- While the core is frozen, the receive FIFO of the island has room (R558). -/
  fifoRoom : Bool
  /-- A dynamic entry of the lookup was read with an uncorrectable error (R220). -/
  badDynamic : Bool
  deriving DecidableEq, Repr

/-- What the receiving side finds of a plane transfer (R55, R58, R120). -/
inductive TransferFinding where
  /-- The transfer arrives whole. -/
  | good
  /-- Its cell CRC fails, and it is repeated. -/
  | crcError
  /-- The source cell numbered `cell` has an uncorrectable error. -/
  | uncorrectable (cell : Nat)
  /-- The source cell numbered `cell` had a corrected error and is freed. -/
  | corrected (cell : Nat)
  deriving DecidableEq, Repr

/-- A unit whose memory is scrubbed (R55, R248, R260, R476). -/
inductive ScrubUnit where
  | fabric
  | planes
  | buffer
  | tables
  | locus
  | power
  | aon
  | ethernet (v : EthV)
  | can (ch : CanCh)
  | lin (j : LinCh)
  | ruleStore
  | cell (c : CellNo)
  | keyStore (slot : Fin 512) (next : Bool)
  | cipherData
  | programStore (word : Fin 524288)
  | dram (addr : Nat)
  | flash (addr : Nat)
  deriving DecidableEq, Repr

/-- The store that the shadow compare reads (R217, R316, R365). -/
inductive StoreKind where
  | cam | hash | vlan | chord | tangent
  deriving DecidableEq, Repr

/-- What the compare finds of an entry (R217, R219): it agrees with its shadow word, differs from it, or the shadow word is
uncorrectable. -/
inductive CompareFinding where
  | same | differs | shadowLost
  deriving DecidableEq, Repr

/-- What makes a cell fault (R249). -/
inductive CellFaultKind where
  | selfCheck | memory | parity | handshake
  deriving DecidableEq, Repr

/-- The data set that an Announce carries (R85): the fields of the best-master comparison. -/
structure Announce where
  priority1 : Byte
  clockClass : Byte
  accuracy : Byte
  variance : W16
  priority2 : Byte
  gm : W64
  steps : Fin 256
  deriving DecidableEq, Repr

/-- A path-delay message (R79, R82): a Pdelay_Req or Delay_Req to answer, with the stamp of its arrival, or a response with the four times of
the exchange in 1/65,536 ns: of the common mean link delay service, or of the delay-request profile of an instance. -/
inductive PdelayMsg where
  | request (sof : Nat)
  | response (t1 t2 t3 t4 : Int)
  | delayReq (d : Fin 4) (sof : Nat)
  | delayResp (d : Fin 4) (t1 t2 t3 t4 : Int)
  deriving DecidableEq, Repr

/-- A CAN message as the bus carries it (R268). -/
structure CanMsg where
  format : BitVec 2
  rtr : Bool
  id : BitVec 29
  fdf : Bool
  brs : Bool
  esi : Bool
  sec : Bool
  vcid : Byte
  sdt : Byte
  af : W32
  data : List Byte
  deriving DecidableEq, Repr

/-- The kinds of CAN error, in the order of CAN_ERR (R330). -/
inductive CanErrKind where
  | stuff | form | acknowledge | bit1 | bit0 | crc
  deriving DecidableEq, Repr

/-- An error the CAN channel meets (R282): its kind, who sends, and what decides the change of the error counters under ISO 11898-1: `heavy`
marks the cases in which a receiver's counter rises by 8, `spared` those in which a transmitter's does not rise. -/
inductive CanErr where
  | receiver (k : CanErrKind) (heavy : Bool)
  | transmitter (k : CanErrKind) (spared : Bool)
  | overload
  deriving DecidableEq, Repr

/-- How an attempt to send a CAN message that won arbitration ends (R287, R289); `spared` as in CanErr. -/
inductive CanOutcome where
  | success
  | error (k : CanErrKind) (spared : Bool)
  deriving DecidableEq, Repr

/-- How a LIN response ends (R301, R304, R308). -/
inductive LinOutcome where
  | good (data : List Byte)
  | bitError
  | framing
  | parity
  | checksum
  | collision
  | sent
  deriving DecidableEq, Repr

/-- A codeword received on a lane (R339, R346): whether it is uncorrectable, the symbols corrected, the 32 bytes of the lane control
block (R338), and the skew against the port's first lane in ns. -/
structure Codeword where
  uncorrectable : Bool
  corrected : Fin 16
  lcb : List Byte
  skew : W16
  deriving DecidableEq, Repr

/-- The far result of one window operation (R455): RESULT of R430 as a code, and the words read. -/
structure FarResult where
  code : Fin 15
  words : List W32
  deriving DecidableEq, Repr

/-- What the wake decoder of an ignoring CAN channel sees (R527, R544, R545). -/
inductive WakeDecode where
  | good (m : CanMsg) (trim : Int)
  | error
  | tolerated
  deriving DecidableEq, Repr

/-- What the ROM finds at a start (R591, R601, R603): the service receive line held at break, and the verdicts of the
signature and hash checks of each image bank; and the planes and the lattice cells that fail their self-check (R134, R251). -/
structure BootFindings where
  break_ : Bool
  sigA : Bool
  hashA : Bool
  sigB : Bool
  hashB : Bool
  planes : List (Fin 5)
  cells : List CellNo
  deriving DecidableEq, Repr

/-- What a scrub found (R55): the word, and whether its error cannot be corrected. -/
structure ScrubFinding where
  word : W32
  uncorrectable : Bool
  deriving DecidableEq, Repr

/-- What a Sync and its follow-up give beside the offset (R75, R84): the ratio of the rates, the correction in 1/65,536 ns, the origin in ns,
and the stamp of the Sync's start. -/
structure SyncMsg where
  ratio : Int
  corr : Int
  origin : Nat
  sof : Nat
  deriving DecidableEq, Repr

/-- What a lookup found of an entry read in error (R218–R220): whether its item belongs to the draining epoch, and whether the shadow word is
lost too. -/
structure EntryFinding where
  draining : Bool
  shadowLost : Bool
  deriving DecidableEq, Repr

/-- A channel's offer on the bus (R287): the channel, and whether it wins arbitration. -/
structure CanOffer where
  ch : CanCh
  won : Bool
  deriving DecidableEq, Repr

/-- A LIN header: its identifier, and whether the parity agrees (R307, R308). -/
structure LinHeader where
  id : Fin 64
  parityOk : Bool
  deriving DecidableEq, Repr

/-- How a line arrived on the service port (R606, R78): whether a character had a framing error, and the real time of its first start bit. -/
structure LineArrival where
  framing : Bool
  sof : Nat
  deriving DecidableEq, Repr

/-- The commands: one constructor per row of the table, in its order. -/
inductive Instr where
  /-- FRAME_RECEIVE (R358): A frame, message or line arriving whole at an external vertex is stamped, admitted, classified and replicated at ingress. -/
  | frameReceive (v : ExtV) (bytes : List Byte) (sof : Nat) (ph : PhyFinding)
  /-- LEARN (R197): A pending learn looks up the source station and learns, refreshes or moves a dynamic BRIDGE entry. -/
  | learn
  /-- PLANE_TRANSFER (R111): A copy crosses its plane into reserved queue cells and its input cells are freed on acknowledgement. -/
  | planeTransfer (p : Fin 5) (ph : TransferFinding)
  /-- EGRESS_TRANSMIT (R143): On a transmission opportunity the vertex starts the head copy of its highest eligible class. -/
  | egressTransmit (v : Vertex)
  /-- GATE_ENTRY_ADVANCE (R147): At the end of an interval the gate list moves to its next entry or restarts its cycle. -/
  | gateEntryAdvance (v : EthV)
  /-- PREEMPT_VERIFY (R156): The preemption verify protocol ends in success or failure. -/
  | preemptVerify (v : EthV) (ok : Bool)
  /-- AGED_DISCARD (R164): A copy or item reaching its residence ceiling is discarded wherever it stands, aborting any job. -/
  | agedDiscard (uid : Nat)
  /-- COMMIT (R34): F0's COMMIT write requests an immediate commit of the staging copy. -/
  | commit (f : Facet)
  /-- COMMIT_AT_TIME (R37): F0's COMMIT with AT_TIME requests a commit due at locus instant T. -/
  | commitAtTime (f : Facet)
  /-- CANCEL (R38): A CANCEL write disarms an ARMED or DEFERRED commit request and keeps the staging copy. -/
  | cancel (f : Facet)
  /-- VALIDATION (R34): Once staging commands and copy-forwards have ended the processor validates the staging copy, logs the epoch number and arms or refuses. -/
  | validation
  /-- COMMIT_TAKES_EFFECT (R36): At its due instant an armed commit takes effect, swapping banks and starting the older epoch's drain. -/
  | commitTakesEffect
  /-- EPOCH_RETIRE (R40): When the last item of the draining epoch has left, the epoch retires and any deferred commit takes effect. -/
  | epochRetire
  /-- EPOCH_DISCARD (R41): 10 ms after its successor took effect the older epoch's remaining items are discarded and their resources returned. -/
  | epochDiscard
  /-- COPY_FORWARD_COMPLETE (R177): The copy of the live bank into the new staging bank of tables, dispatch entries or rules completes. -/
  | copyForwardComplete (which : Fin 3)
  /-- LOCKSTEP_MISMATCH (R55): A lockstep compare mismatch restarts the management processor, or halts it after three restarts in 60 s. -/
  | lockstepMismatch
  /-- MP_RESTART_COMPLETE (R63): The management processor completes its restart and resumes validation, servo and messaging. -/
  | mpRestartComplete
  /-- ECC_SCRUB (R55): A periodic scrub of an SRAM, key store or program store corrects single-bit errors or reports uncorrectable ones. -/
  | eccScrub (u : ScrubUnit) (found : ScrubFinding)
  /-- REGISTER_WRITE (R12): A write to a register with no row of its own takes effect, is staged, or is refused under rights, locks and R38. -/
  | registerWrite (f : Facet) (addr : W32) (v : W32)
  /-- PAIR_LO_READ (R9): A read of the _LO half of a 64-bit pair latches the _HI half. -/
  | pairLoRead (f : Facet) (addr : W32)
  /-- PAIR_LO_WRITE (R10): A write to the _LO half of a 64-bit pair is held until the _HI write. -/
  | pairLoWrite (f : Facet) (addr : W32) (v : W32)
  /-- PAIR_HI_WRITE (R10): A write to the _HI half commits both halves of the pair together. -/
  | pairHiWrite (f : Facet) (addr : W32) (v : W32)
  /-- COUNTER_READ (R369): A read of an RC counter _LO returns total less the facet's baseline and moves that baseline. -/
  | counterRead (f : Facet) (addr : W32)
  /-- FAULT_CODE_READ (R631): A read of FAULT_CODE latches FAULT_ADDR and the fault stamp. -/
  | faultCodeRead (f : Facet) (page : PageNo)
  /-- EV_RAW_CLEAR (R630): F0's W1C write to EV_RAW clears event bits, a simultaneous occurrence prevailing. -/
  | evRawClear (f : Facet) (page : PageNo) (v : W32)
  /-- STAGE_VIEW_WRITE (R634): A facet's write of SYS_STAGE_VIEW selects the staged or live view of RWS registers for its reads. -/
  | stageViewWrite (f : Facet) (v : W32)
  /-- LOC_RATE_WRITE (R68): A write of LOC_RATE applies a rate correction from then on, ignored while the servo drives it. -/
  | locRateWrite (f : Facet) (v : W32)
  /-- PHASE_ADJUST (R72): F0's write of LOC_ADJ_NS starts a phase adjustment slewed, stepped or refused under R69 and R70. -/
  | phaseAdjust (f : Facet) (v : W32)
  /-- DEV_EPOCH_WRITE (R65): A write of LOC_DEV_EPOCH is accepted only while the locus is FREE. -/
  | devEpochWrite (f : Facet) (hi : Bool) (v : W32)
  /-- FORCE_HOLD (R75): Setting LOC_CTRL.FORCE_HOLD puts the locus in HOLDOVER; clearing it lets measurements count again. -/
  | forceHold (f : Facet) (v : W32)
  /-- SYNC_RECEIVE (R75): A Sync and its follow-up give an offset measurement from which the servo corrects the locus and judges lock. -/
  | syncReceive (d : Fin 4) (offset : Int) (m : SyncMsg)
  /-- SLEW_END (R69): A running slew has applied its whole correction and ends. -/
  | slewEnd
  /-- ANNOUNCE_RECEIVE (R85): An Announce feeds best-master selection, which may change the grandmaster or enter APEX. -/
  | announceReceive (d : Fin 4) (v : EthV) (a : Announce)
  /-- ANNOUNCE_RECEIPT_TIMEOUT (R73): The announce receipt timeout of the locus domain's master expires and the locus enters HOLDOVER with cause LOST. -/
  | announceReceiptTimeout (d : Fin 4)
  /-- PDELAY_RECEIVE (R79): A path-delay message is answered or used in the path-delay calculation with the link asymmetry. -/
  | pdelayReceive (v : EthV) (m : PdelayMsg)
  /-- PTP_MESSAGE_TRANSMIT (R86): At each interval the processor sends the Sync, Announce or Pdelay_Req of an instance. -/
  | ptpMessageTransmit (d : Fin 4) (v : EthV) (kind : Fin 3)
  /-- TXQ_SEL_WRITE (R90): A write of LOC_TXQn_SEL selects a vertex's transmit-stamp queue, refused for a vertex not bound to the facet. -/
  | txqSelWrite (f : Facet) (n : Facet) (v : W32)
  /-- TXQ_POP (R91): A write of POP removes the head transmit-stamp entry, or sets UNDERRUN on an empty queue. -/
  | txqPop (f : Facet) (n : Facet) (v : W32)
  /-- SYNC_OUTPUT_ASSERT (R93): At a grid instant a sync output asserts its pulse unless quiet or skipped. -/
  | syncOutputAssert (n : Fin 16)
  /-- SYNC_OUTPUT_RELEASE (R93): WIDTH after its assertion a sync output releases its pulse. -/
  | syncOutputRelease (n : Fin 16)
  /-- CAPTURE_EDGE (R100): An edge on an enabled capture input is stamped, queued or counted as overrun, and journalled. -/
  | captureEdge (n : Fin 8) (rising : Bool) (wakePin : Bool) (width : Nat)
  /-- CAPTURE_POP (R92): A write of LOC_CAPn_POP removes the head capture stamp. -/
  | capturePop (f : Facet) (n : Fin 8) (v : W32)
  /-- PLANE_FAULT (R133): A plane failing parity or self-check starts its retirement with buckets held and markers sent. -/
  | planeFault (p : Fin 5) (parity : Bool)
  /-- PLANE_MOVE (R136): F0's write of PLN_MOVE with GO moves one bucket to a named plane. -/
  | planeMove (f : Facet) (v : W32)
  /-- PLANE_FORCE_RETIRE (R137): A write of PLN_FORCE_RETIRE with GO retires the named plane as a detected fault would. -/
  | planeForceRetire (f : Facet) (v : W32)
  /-- QUIESCE_MARKER_ACK (R130): When every quiesce marker is acknowledged the bucket maps to its new plane and held copies are released. -/
  | quiesceMarkerAck (bucket : Fin 1024)
  /-- MARKER_TIMEOUT (R131): A marker unacknowledged for 8 µs causes the bucket's unacknowledged copies to be resent on the new plane. -/
  | markerTimeout (bucket : Fin 1024)
  /-- HASH_SEED_WRITE (R179): A write of TBL_HASH_SEED starts a rebuild of the staging hash bank under the new seed. -/
  | hashSeedWrite (f : Facet) (v : W32)
  /-- REBUILD_COMPLETE (R179): The staging hash rebuild ends, leaving unplaced static entries in the side list. -/
  | rebuildComplete
  /-- SEARCH (R215): Table command SEARCH finds an entry by key. -/
  | tblSearch (f : Facet) (p : Fin 4) (hash : Bool) (live : Bool)
  /-- INSERT (R215): Table command INSERT writes a new entry into the staging bank. -/
  | tblInsert (f : Facet) (p : Fin 4) (hash : Bool) (live : Bool)
  /-- UPDATE (R215): Table command UPDATE replaces the result of an entry found by key. -/
  | tblUpdate (f : Facet) (p : Fin 4) (hash : Bool) (live : Bool)
  /-- DELETE (R215): Table command DELETE removes an entry found by key or index. -/
  | tblDelete (f : Facet) (p : Fin 4) (hash : Bool) (live : Bool)
  /-- NEXT (R215): Table command NEXT returns the first valid entry at or above INDEX. -/
  | tblNext (f : Facet) (p : Fin 4) (hash : Bool) (live : Bool)
  /-- TABLE_READ (R215): Table command READ returns the entry at INDEX. -/
  | tblRead (f : Facet) (p : Fin 4) (hash : Bool) (live : Bool)
  /-- FLUSH_VERTEX (R215): Table command FLUSH_VERTEX removes every dynamic entry of a vertex from the live and staging banks. -/
  | tblFlushVertex (f : Facet) (p : Fin 4) (hash : Bool) (live : Bool)
  /-- CLEAR_REQ (R215): F0's table command CLEAR_REQ clears TBL_REHASH_STATUS.REQ. -/
  | tblClearReq (f : Facet) (p : Fin 4) (hash : Bool) (live : Bool)
  /-- TABLE_COMMAND_COMPLETE (R216): A running table command completes, returns its tag and raises its port event. -/
  | tableCommandComplete (p : Fin 4)
  /-- CMD_PORT_LOCK (R206): A write of HELD = 1 takes a free table command port as a 100 ms lease. -/
  | cmdPortLock (f : Facet) (p : Fin 4)
  /-- CMD_PORT_RELEASE (R206): The holder's write of HELD = 0 releases a table command port. -/
  | cmdPortRelease (f : Facet) (p : Fin 4)
  /-- CMD_PORT_FORCE (R206): F0's write of FORCE ends a table command port lock. -/
  | cmdPortForce (f : Facet) (p : Fin 4)
  /-- CMD_PORT_LEASE_EXPIRY (R209): A table port lease expires, ending or aborting its running command. -/
  | cmdPortLeaseExpiry (p : Fin 4)
  /-- AGEING_SCAN (R203): Each TBL_AGE_PERIOD the ageing scan removes unhit dynamic entries and clears HIT on the others. -/
  | ageingScan
  /-- SHADOW_COMPARE (R217): The background compare checks static, CAM and rule entries against the shadow and repairs or invalidates them. -/
  | shadowCompare (k : StoreKind) (idx : Nat) (found : CompareFinding)
  /-- ENTRY_REPAIR (R218): A static or CAM entry read with an uncorrectable error is repaired from the shadow while the item waits. -/
  | entryRepair (k : StoreKind) (idx : Nat) (f : Facet) (found : EntryFinding)
  /-- SF_UNBLOCK (R196): A write of TBL_SF_UNBLOCK clears BLOCKED of the selected stream filter. -/
  | sfUnblock (f : Facet) (v : W32)
  /-- JOB_ADMIT (R226): The dispatcher admits a waiting job when tag, context and output cells are available and places it on a cell. -/
  | jobAdmit
  /-- ADD (R237): Instruction ADD. -/
  | latAdd (c : CellNo) (x : Ctx)
  /-- SUB (R237): Instruction SUB. -/
  | latSub (c : CellNo) (x : Ctx)
  /-- AND (R237): Instruction AND. -/
  | latAnd (c : CellNo) (x : Ctx)
  /-- OR (R237): Instruction OR. -/
  | latOr (c : CellNo) (x : Ctx)
  /-- XOR (R237): Instruction XOR. -/
  | latXor (c : CellNo) (x : Ctx)
  /-- SHL (R237): Instruction SHL. -/
  | latShl (c : CellNo) (x : Ctx)
  /-- SHR (R237): Instruction SHR. -/
  | latShr (c : CellNo) (x : Ctx)
  /-- SAR (R237): Instruction SAR. -/
  | latSar (c : CellNo) (x : Ctx)
  /-- MUL (R237): Instruction MUL. -/
  | latMul (c : CellNo) (x : Ctx)
  /-- CMP (R236): Instruction CMP sets the flags from ra − rb. -/
  | latCmp (c : CellNo) (x : Ctx)
  /-- SEL (R237): Instruction SEL. -/
  | latSel (c : CellNo) (x : Ctx)
  /-- BSWAP (R237): Instruction BSWAP. -/
  | latBswap (c : CellNo) (x : Ctx)
  /-- ADDI (R237): Instruction ADDI. -/
  | latAddi (c : CellNo) (x : Ctx)
  /-- ANDI (R237): Instruction ANDI. -/
  | latAndi (c : CellNo) (x : Ctx)
  /-- ORI (R237): Instruction ORI. -/
  | latOri (c : CellNo) (x : Ctx)
  /-- XORI (R237): Instruction XORI. -/
  | latXori (c : CellNo) (x : Ctx)
  /-- SHLI (R237): Instruction SHLI. -/
  | latShli (c : CellNo) (x : Ctx)
  /-- SHRI (R237): Instruction SHRI. -/
  | latShri (c : CellNo) (x : Ctx)
  /-- SARI (R237): Instruction SARI. -/
  | latSari (c : CellNo) (x : Ctx)
  /-- CMPI (R236): Instruction CMPI sets the flags from ra − imm. -/
  | latCmpi (c : CellNo) (x : Ctx)
  /-- MOVI (R237): Instruction MOVI. -/
  | latMovi (c : CellNo) (x : Ctx)
  /-- LUI (R237): Instruction LUI. -/
  | latLui (c : CellNo) (x : Ctx)
  /-- EXT (R237): Instruction EXT. -/
  | latExt (c : CellNo) (x : Ctx)
  /-- INS (R237): Instruction INS. -/
  | latIns (c : CellNo) (x : Ctx)
  /-- CLZ (R237): Instruction CLZ. -/
  | latClz (c : CellNo) (x : Ctx)
  /-- WSET (R237): Instruction WSET sets a window pointer. -/
  | latWset (c : CellNo) (x : Ctx)
  /-- WGET (R237): Instruction WGET reads a window pointer. -/
  | latWget (c : CellNo) (x : Ctx)
  /-- LDW (R237): Instruction LDW loads bytes from the header window. -/
  | latLdw (c : CellNo) (x : Ctx)
  /-- STO (R237): Instruction STO stores into the output header buffer. -/
  | latSto (c : CellNo) (x : Ctx)
  /-- LDO (R237): Instruction LDO loads from the output header buffer. -/
  | latLdo (c : CellNo) (x : Ctx)
  /-- CPY (R237): Instruction CPY copies window bytes into the output header buffer. -/
  | latCpy (c : CellNo) (x : Ctx)
  /-- LD (R237): Instruction LD loads from local data. -/
  | latLd (c : CellNo) (x : Ctx)
  /-- ST (R237): Instruction ST stores into local data. -/
  | latSt (c : CellNo) (x : Ctx)
  /-- LDC (R237): Instruction LDC loads a constant word. -/
  | latLdc (c : CellNo) (x : Ctx)
  /-- SRD (R237): Instruction SRD reads the next stream bytes and sets S. -/
  | latSrd (c : CellNo) (x : Ctx)
  /-- SSKIP (R237): Instruction SSKIP advances the stream position. -/
  | latSskip (c : CellNo) (x : Ctx)
  /-- SSEEK (R237): Instruction SSEEK sets the stream position. -/
  | latSseek (c : CellNo) (x : Ctx)
  /-- SPOS (R237): Instruction SPOS reads the stream position. -/
  | latSpos (c : CellNo) (x : Ctx)
  /-- EMIT (R242): Instruction EMIT captures an output descriptor and its header bytes. -/
  | latEmit (c : CellNo) (x : Ctx)
  /-- DONE (R243): Instruction DONE ends the job and the commit unit assembles and releases its outputs. -/
  | latDone (c : CellNo) (x : Ctx)
  /-- DROP (R244): Instruction DROP ends the job with no output and discards the item. -/
  | latDrop (c : CellNo) (x : Ctx)
  /-- ABORT (R244): Instruction ABORT ends the job, discards outputs and item and journals its code. -/
  | latAbort (c : CellNo) (x : Ctx)
  /-- B (R237): Instruction B branches when its condition holds. -/
  | latB (c : CellNo) (x : Ctx)
  /-- CALL (R237): Instruction CALL pushes the return index and branches. -/
  | latCall (c : CellNo) (x : Ctx)
  /-- RET (R237): Instruction RET pops the return stack and jumps. -/
  | latRet (c : CellNo) (x : Ctx)
  /-- JR (R237): Instruction JR jumps to an instruction index. -/
  | latJr (c : CellNo) (x : Ctx)
  /-- DBNZ (R237): Instruction DBNZ decrements and branches when not zero. -/
  | latDbnz (c : CellNo) (x : Ctx)
  /-- XREQ (R245): Instruction XREQ submits a look-aside cipher or check request. -/
  | latXreq (c : CellNo) (x : Ctx)
  /-- XWAIT (R245): Instruction XWAIT waits for every request of the context and sets X. -/
  | latXwait (c : CellNo) (x : Ctx)
  /-- META (R238): Instruction META returns an item metadata field. -/
  | latMeta (c : CellNo) (x : Ctx)
  /-- RULE (R247): Instruction RULE copies a chord or tangent record of the job's epoch into local data. -/
  | latRule (c : CellNo) (x : Ctx)
  /-- CNT (R237): Instruction CNT adds to a dispatch-entry counter at commit. -/
  | latCnt (c : CellNo) (x : Ctx)
  /-- LOOKASIDE_COMPLETE (R504): A lattice look-aside request completes and writes its status and output into local data. -/
  | lookasideComplete (c : CellNo) (x : Ctx) (idx : Nat)
  /-- CODE_CACHE_FILL (R248): A code-cache line fill from the program store completes, refetched on parity error. -/
  | codeCacheFill (c : CellNo) (x : Ctx) (parity : Bool)
  /-- ORDER_LANE_RELEASE (R229): Items and committed outputs are placed on the planes in sequence order per vertex and order lane once earlier jobs end. -/
  | orderLaneRelease (v : Vertex) (lane : Fin 64)
  /-- CELL_FAULT (R249): A cell fault stops the cell and replays its uncommitted jobs on other cells. -/
  | cellFault (c : CellNo) (kind : CellFaultKind)
  /-- PERIODIC_SELF_CHECK (R253): Every LAT_CHECK_PERIOD the next cell in rotation is taken out of dispatch for its self-check. -/
  | periodicSelfCheck
  /-- SELF_CHECK_DRAIN_TIMEOUT (R253): 50 µs after dispatch stopped, the cell's remaining jobs are replayed and its check begins. -/
  | selfCheckDrainTimeout (c : CellNo)
  /-- SELF_CHECK_COMPLETE (R251): A cell's self-check ends: it passes and becomes a spare, or fails and is retired. -/
  | selfCheckComplete (c : CellNo) (pass : Bool)
  /-- LAT_FORCE_RETIRE (R255): F0's write of LAT_FORCE_RETIRE with GO treats the cell as failing its self-check. -/
  | latForceRetire (f : Facet) (v : W32)
  /-- SEGMENT_OPEN (R257): Segment command OPEN takes a FREE segment to OPEN over its range. -/
  | segmentOpen (f : Facet)
  /-- SEAL (R257): Segment command SEAL starts the check of an OPEN segment. -/
  | seal (f : Facet)
  /-- SEAL_COMPLETE (R258): The segment check ends and the segment becomes SEALED or stays OPEN with BAD_CRC. -/
  | sealComplete (i : Fin 64)
  /-- SEGMENT_FREE (R257): Segment command FREE returns a segment to FREE unless a dispatch entry names it. -/
  | segmentFree (f : Facet)
  /-- PS_DATA_WRITE (R264): A write of LAT_PS_DATA stores a word inside an OPEN segment and advances LAT_PS_ADDR. -/
  | psDataWrite (f : Facet) (v : W32)
  /-- SEGMENT_RELOAD_COMPLETE (R260): The processor has rewritten and checked a LOST segment, which is SEALED again and its jobs start. -/
  | segmentReloadComplete (i : Fin 64) (ok : Bool)
  /-- CAN_RECEIVE (R280): A CAN message valid for a receiver becomes an item stamped at its start of frame. -/
  | canReceive (ch : CanCh) (m : CanMsg) (sof : Nat)
  /-- CAN_BUS_ERROR (R282): An error or overload frame updates TEC and REC and the error state. -/
  | canBusError (ch : CanCh) (e : CanErr)
  /-- BOFF_DELAY_EXPIRY (R283): With BOFF_AUTO, CAN_BOFF_DELAY after bus-off the recovery sequence starts. -/
  | boffDelayExpiry (ch : CanCh)
  /-- CAN_RECOVER (R283): A write of CAN_CMD.RECOVER starts the bus-off recovery sequence. -/
  | canRecover (f : Facet) (ch : CanCh)
  /-- BUS_OFF_RECOVERY_COMPLETE (R283): 128 occurrences of 11 recessive bits end bus-off. -/
  | busOffRecoveryComplete (ch : CanCh)
  /-- TT_RESTART (R297): A write of CAN_CMD.TT_RESTART resumes reference messages at the next due instant. -/
  | ttRestart (f : Facet) (ch : CanCh)
  /-- RATE_DWELL_EXPIRY (R276): DWELL without a find moves rate detection to the next candidate, counting a cycle after the last. -/
  | rateDwellExpiry (ch : CanCh)
  /-- BIT_TIMING_CHANGE (R275): At the first bus-idle instant after a commit the channel takes its new bit timing or mode. -/
  | bitTimingChange (ch : CanCh)
  /-- CAN_TAKE_COPY (R284): The channel takes a copy from its class queues into its FIFO or a mailbox after checking it. -/
  | canTakeCopy (ch : CanCh)
  /-- CAN_ARBITRATION (R287): Before arbitration the channel offers the winning message among the FIFO head and eligible mailboxes. -/
  | canArbitration (o : CanOffer)
  /-- CAN_TRANSMIT_END (R289): A transmission attempt ends in success, error with retry, or abandonment at the retry limit. -/
  | canTransmitEnd (ch : CanCh) (o : CanOutcome)
  /-- TT_REFERENCE_DUE (R292): At BASE + k × CYCLE the time master offers its reference message. -/
  | ttReferenceDue (ch : CanCh)
  /-- TT_WINDOW_START (R294): An active trigger opens its EXCLUSIVE or ARBITRATING window in cycle time. -/
  | ttWindowStart (ch : CanCh) (i : Fin 64)
  /-- LIN_SLOT_START (R303): A master schedule entry's slot starts and the header of its identifier is sent. -/
  | linSlotStart (j : LinCh)
  /-- LIN_HEADER_RECEIVE (R307): A slave synchronises to a header and answers from its publish buffer or expects a response. -/
  | linHeaderReceive (j : LinCh) (h : LinHeader)
  /-- LIN_FRAME_RECEIVE (R301): A subscribed response with valid checksum becomes an item, or an erroneous frame is counted. -/
  | linFrameReceive (j : LinCh) (o : LinOutcome) (sof : Nat)
  /-- LIN_PUBLISH_UPDATE (R302): A copy reaching a LIN channel replaces its identifier's publish buffer data. -/
  | linPublishUpdate (j : LinCh)
  /-- LIN_SCHED_SEL_WRITE (R305): A write of LIN_SCHED_SEL switches table at the end of the current slot. -/
  | linSchedSelWrite (f : Facet) (j : LinCh) (v : W32)
  /-- BRIDGE_BUS_MATCH (R310): The bridge matches a BUS item against chords and WRAP tangents and submits their jobs. -/
  | bridgeBusMatch
  /-- BRIDGE_NET_MATCH (R311): The bridge parses a NET item as a tunnel frame, checks its sequence and submits the UNWRAP tangent job. -/
  | bridgeNetMatch
  /-- RULE_READ (R326): Rule command READ returns a chord or tangent record of the named bank. -/
  | ruleRead (f : Facet) (p : Fin 2) (tangent : Bool) (live : Bool)
  /-- RULE_WRITE (R326): Rule command WRITE replaces a staging rule record and sets its OWNER. -/
  | ruleWrite (f : Facet) (p : Fin 2) (tangent : Bool) (live : Bool)
  /-- RULE_CLEAR (R326): Rule command CLEAR zeroes a staging rule record. -/
  | ruleClear (f : Facet) (p : Fin 2) (tangent : Bool) (live : Bool)
  /-- RULE_COMMAND_COMPLETE (R328): A rule command completes and raises event 249. -/
  | ruleCommandComplete (p : Fin 2)
  /-- RULE_PORT_LOCK (R325): A write of HELD = 1 takes a free rule command port. -/
  | rulePortLock (f : Facet) (p : Fin 2)
  /-- RULE_PORT_RELEASE (R325): The holder's write of HELD = 0 releases a rule command port. -/
  | rulePortRelease (f : Facet) (p : Fin 2)
  /-- RULE_PORT_FORCE (R325): F0's write of FORCE ends a rule command port lock. -/
  | rulePortForce (f : Facet) (p : Fin 2)
  /-- RULE_PORT_LEASE_EXPIRY (R325): A rule command port lease expires. -/
  | rulePortLeaseExpiry (p : Fin 2)
  /-- LANE_TRAINING (R340): An enabled lane detecting a signal trains its partner's equaliser. -/
  | laneTraining (l : LaneNo) (done : Bool)
  /-- LANE_TRAINING_TIMEOUT (R340): Training not complete in 100 ms leaves the lane silent for 10 ms and counts an attempt. -/
  | laneTrainingTimeout (l : LaneNo)
  /-- LANE_SILENCE_END (R340): After 10 ms of silence the lane trains again. -/
  | laneSilenceEnd (l : LaneNo)
  /-- CODEWORD_RECEIVE (R339): An RS codeword is decoded, its LCB checked, lock gained or lost and errored blocks marked. -/
  | codewordReceive (l : LaneNo) (w : Codeword)
  /-- DEGRADE_WINDOW (R347): Each 10 ms the corrected symbols are judged to set or clear DEGRADED. -/
  | degradeWindow (l : LaneNo)
  /-- PHY_LINK_ATTEMPT_FAIL (R349): A failed link attempt counts toward DOWNSHIFT and may move to the next lower rate. -/
  | phyLinkAttemptFail (v : EthV)
  /-- LINK_UP (R349): A PHY, lane or bonded port reaches UP. -/
  | linkUp (v : EthV) (rate : Nat) (master : Bool) (sqi : Fin 8) (polInv : Bool)
  /-- LINK_DOWN (R357): A vertex's link leaves UP, aborting frames, cancelling pause and flushing learned entries. -/
  | linkDown (v : EthV)
  /-- PLCA_BEACON (R352): A PLCA beacon starts a cycle and returns a fallen-back follower to PLCA. -/
  | plcaBeacon (v : EthV)
  /-- PLCA_BEACON_TIMEOUT (R352): A follower without a beacon for 4,000 bit times falls back to CSMA/CD. -/
  | plcaBeaconTimeout (v : EthV)
  /-- PLCA_TRANSMIT_OPPORTUNITY (R354): The vertex's transmit opportunity lets it send or resend a frame. -/
  | plcaTransmitOpportunity (v : EthV)
  /-- COLLISION (R353): A collision ends an attempt, counted, with back-off or drop after 16 attempts. -/
  | collision (v : EthV) (late : Bool) (slots : Nat)
  /-- BACKOFF_EXPIRY (R353): The back-off ends and the frame is attempted again. -/
  | backoffExpiry (v : EthV)
  /-- PAUSE_FRAME_RECEIVE (R370): A received pause or PFC frame pauses classes for its quanta or ends the pause. -/
  | pauseFrameReceive (v : EthV) (pfc : Bool) (quanta : List (Option Nat))
  /-- PAUSE_EXPIRY (R370): A class's pause timer runs out. -/
  | pauseExpiry (v : EthV) (c : Fin 8)
  /-- PAUSE_WATCHDOG (R371): A class paused without a break for WDOG has pause disregarded for RELEASE. -/
  | pauseWatchdog (v : EthV) (c : Fin 8)
  /-- PAUSE_RELEASE_END (R371): RELEASE ends and pause is honoured again. -/
  | pauseReleaseEnd (v : EthV) (c : Fin 8)
  /-- PAUSE_FRAME_SEND (R372): At the next frame boundary a pending pause, refresh or quanta-0 frame is sent ahead of every class. -/
  | pauseFrameSend (v : EthV)
  /-- PAUSE_REFRESH (R372): Half the quanta elapsed with Q_IN_USE still above XON calls for another pause frame. -/
  | pauseRefresh (v : EthV)
  /-- SEC_TX_AN_WRITE (R378): A write of ETH_SEC_TX_AN selects the transmit SA from the next frame boundary. -/
  | secTxAnWrite (f : Facet) (v : EthV) (an : W32)
  /-- JOURNAL_WRITE (R395): The writer writes a staged record with its EXT record into the ring under its policy. -/
  | journalWrite
  /-- EVENT_LANE_DRAIN (R396): When the event lane has space, one COALESCED record per counted source is appended. -/
  | eventLaneDrain
  /-- POLICY_WRITE (R397): A write of JRN_CTRL.POLICY takes effect at the next record boundary. -/
  | policyWrite (f : Facet) (v : W32)
  /-- JOURNAL_READ_REQUEST (R398): A write of JRN_RD_REQ copies up to COUNT records into the read window. -/
  | journalReadRequest (f : Facet) (v : W32)
  /-- EXPORT_READ (R400): The export cursor reads a record into the merge store, moving on if overtaken or ending a replay. -/
  | exportRead
  /-- EXPORT_RELEASE (R402): The export releases its lowest-keyed record into a frame, late if needed. -/
  | exportRelease
  /-- EXPORT_FRAME_SEND (R404): A full or flushed export frame is admitted and sent as an item of vertex 99. -/
  | exportFrameSend
  /-- EXPORT_FLUSH_TIMEOUT (R403): FLUSH µs after its first record an export frame is sent. -/
  | exportFlushTimeout
  /-- CAPTURE_RING_RECEIVE (R406): A copy for vertex 99 is written into descriptors of its capture ring, or abandoned without buffers. -/
  | captureRingReceive (r : Fin 8)
  /-- CAP_TAIL_WRITE (R405): A write of CAP_r_TAIL gives descriptors to the device. -/
  | capTailWrite (f : Facet) (r : Fin 8) (v : W32)
  /-- INJECT_DATA (R408): A write of INJ_k_DATA packs a word into the FIFO or overruns. -/
  | injectData (f : Facet) (k : Fin 4) (v : W32)
  /-- INJECT_END (R409): A write of INJ_k_END closes the packet, dropping it if its length is invalid. -/
  | injectEnd (f : Facet) (k : Fin 4) (v : W32)
  /-- INJECT_SWAP (R410): CMD.SWAP hands the filled ping-pong half over as one packet. -/
  | injectSwap (f : Facet) (k : Fin 4) (valid : Fin 8)
  /-- INJECT_FLUSH (R412): CMD.FLUSH discards the FIFO from the next item boundary. -/
  | injectFlush (f : Facet) (k : Fin 4)
  /-- INJECT_ADMIT (R409): A closed injection packet is admitted and sent unclassified to INJ_k_DEST. -/
  | injectAdmit (k : Fin 4)
  /-- INJECT_IDLE_TIMEOUT (R412): A register-fed producer idle for 1 ms has its item closed as poisoned. -/
  | injectIdleTimeout (k : Fin 4)
  /-- PRODUCER_STALL_TIMEOUT (R412): An internal producer stalled 4,096 handshake periods has its item closed as poisoned. -/
  | producerStallTimeout (v : Vertex)
  /-- CROSSING_RESYNC (R411): A crossing in Gray-coded mode completes pointer resynchronisation and returns to native mode. -/
  | crossingResync (v : Vertex)
  /-- CROSSING_WAKE_TIMEOUT (R573): A crossing wake request unanswered for 1 µs raises event 43 and a fault record. -/
  | crossingWakeTimeout (v : Vertex)
  /-- OCT_FRAME (R435): An OCT frame is checked for session, sequence and cache and its operations executed or a cached reply sent. -/
  | octFrame
  /-- OCT_READ (R429): Operation READ returns N words. -/
  | octRead (id : Nat)
  /-- OCT_WRITE (R429): Operation WRITE writes N words. -/
  | octWrite (id : Nat)
  /-- OCT_MWRITE (R429): Operation MWRITE writes a masked value as one access. -/
  | octMwrite (id : Nat)
  /-- OCT_LOCK (R429): Operation LOCK takes or renews the page lock. -/
  | octLock (id : Nat)
  /-- OCT_UNLOCK (R429): Operation UNLOCK releases the page lock. -/
  | octUnlock (id : Nat)
  /-- OCT_TABLE (R429): Operation TABLE writes a command register and holds until the command completes. -/
  | octTable (id : Nat)
  /-- OCT_COMMIT (R429): Operation COMMIT writes SYS_EPOCH_CTRL and holds until validation ends. -/
  | octCommit (id : Nat)
  /-- ARP_REQUEST (R426): An ARP request for SYS_OCT_IPV4 on an OCT vertex is answered. -/
  | arpRequest
  /-- PAGE_LOCK_TAKE (R439): A write of LOCK.HELD = 1 takes a free page lock. -/
  | pageLockTake (f : Facet) (page : PageNo)
  /-- PAGE_LOCK_RELEASE (R439): The holder's write of HELD = 0 releases the page lock. -/
  | pageLockRelease (f : Facet) (page : PageNo)
  /-- PAGE_LOCK_FORCE (R439): F0's write of FORCE = 1 ends a page lock. -/
  | pageLockForce (f : Facet) (page : PageNo)
  /-- PAGE_LOCK_EXPIRY (R440): A page lock lease of 100 ms expires. -/
  | pageLockExpiry (page : PageNo)
  /-- FACET_LEASE_EXPIRY (R441): An enabled facet lease runs out and the facet is reset. -/
  | facetLeaseExpiry (f : Facet)
  /-- FACET_RESET (R442): A write of SYS_FACET_RESET with GO starts a facet reset. -/
  | facetReset (f : Facet) (v : W32)
  /-- FACET_RESET_COMPLETE (R443): The facet reset's sweeps finish, its sessions close and event 0 is raised. -/
  | facetResetComplete
  /-- EVENT_POP (R447): A write of SYS_EV_POP removes the oldest ring entry and appends catch-up entries. -/
  | eventPop (f : Facet) (v : W32)
  /-- WINDOW_ACCESS (R454): An access to an aperture page queues a far operation or fails with PEER_DOWN. -/
  | windowAccess (f : Facet) (k : Fin 8) (off : Fin 4096) (write : Bool) (v : W32)
  /-- FAR_FRAME_SEND (R454): The window sends its queued operations as one far frame with a tag. -/
  | farFrameSend (k : Fin 8)
  /-- FAR_RETRY (R454): INTERVAL without a reply resends the far frame with the same SEQ, or times it out. -/
  | farRetry (k : Fin 8)
  /-- FAR_REPLY (R455): A far reply completes held reads, reports far errors and returns the tag. -/
  | farReply (k : Fin 8) (results : List FarResult)
  /-- WINDOW_LOCK (R457): A write of BRG_WINk_LOCK.HELD = 1 sends a far LOCK. -/
  | windowLock (f : Facet) (k : Fin 8)
  /-- WINDOW_UNLOCK (R458): A write of HELD = 0 sends a far UNLOCK. -/
  | windowUnlock (f : Facet) (k : Fin 8)
  /-- WINDOW_LOCK_FORCE (R458): F0's FORCE sends UNLOCK with ABORT. -/
  | windowLockForce (f : Facet) (k : Fin 8)
  /-- WINDOW_LOCK_RENEW (R457): 50 ms without far traffic sends LOCK with RENEW. -/
  | windowLockRenew (k : Fin 8)
  /-- WINDOW_LOCK_EXPIRY (R458): The near lease of a far lock expires and UNLOCK with ABORT is sent. -/
  | windowLockExpiry (k : Fin 8)
  /-- ACCORD_MESSAGE_SEND (R460): Every 10 ms an accord message is sent on each accord vertex. -/
  | accordMessageSend
  /-- ACCORD_MESSAGE_RECEIVE (R462): An accord message updates its peer's state, senior, digest match, level and keepers. -/
  | accordMessageReceive
  /-- PEER_LOST (R462): A peer without a valid message for 50 ms becomes LOST. -/
  | peerLost (r : Fin 8)
  /-- CONFLICT_CLEAR (R462): 50 ms with only one claimant ends a rank's CONFLICT. -/
  | conflictClear (r : Fin 8)
  /-- DIGEST_RECOMPUTE (R465): After a commit the configuration digest is recomputed. -/
  | digestRecompute
  /-- CIP_SUBMIT (R495): A write of CIP_RQ_SUBMIT.GO queues a request, refuses it FULL or answers a duplicate. -/
  | cipSubmit (f : Facet) (n : Facet) (v : W32)
  /-- GCM_ENC (R491): Operation GCM_ENC starts, taking a nonce counter. -/
  | gcmEnc (n : Facet)
  /-- GCM_DEC (R485): Operation GCM_DEC starts, trying CURRENT then NEXT. -/
  | gcmDec (n : Facet)
  /-- CMAC_GEN (R488): Operation CMAC_GEN starts. -/
  | cmacGen (n : Facet)
  /-- CMAC_VER (R485): Operation CMAC_VER starts. -/
  | cmacVer (n : Facet)
  /-- XTS_ENC (R490): Operation XTS_ENC starts. -/
  | xtsEnc (n : Facet)
  /-- XTS_DEC (R490): Operation XTS_DEC starts. -/
  | xtsDec (n : Facet)
  /-- UNWRAP (R479): Operation UNWRAP starts unwrapping a blob under a KEK. -/
  | cipUnwrap (n : Facet)
  /-- CHECK (R511): Operation CHECK starts on a check unit, or ends BUSY. -/
  | cipCheck (n : Facet)
  /-- CIP_COMPLETE (R499): A facet request completes, writes its output whole and posts its completion. -/
  | cipComplete (n : Facet) (dataError : Bool)
  /-- CQ_POP (R502): A write of CIP_CQ_POP removes the oldest completion. -/
  | cqPop (f : Facet) (n : Facet) (v : W32)
  /-- PROMOTE (R487): Key command PROMOTE moves NEXT to CURRENT. -/
  | promote (f : Facet) (n : Facet)
  /-- ERASE_NEXT (R487): Key command ERASE_NEXT empties NEXT. -/
  | eraseNext (f : Facet) (n : Facet)
  /-- ERASE_ALL (R487): Key command ERASE_ALL empties both roles. -/
  | eraseAll (f : Facet) (n : Facet)
  /-- KNOWN_ANSWER_TEST (R508): Each CIP_KAT_PERIOD a pipeline is tested and retired on failure, with its requests restarted. -/
  | knownAnswerTest (p : Fin 6) (pass : Bool)
  /-- CHECK_RUN_WRITE (R511): A write of RUN restores a unit's running value, refused while SCANNING or IN_USE. -/
  | checkRunWrite (f : Facet) (u : Fin 8) (hi : Bool) (v : W32)
  /-- CHECK_SCAN (R513): A write of CHK_Uu_SCAN_CMD with GO starts a scan. -/
  | checkScan (f : Facet) (u : Fin 8) (v : W32)
  /-- SCAN_COMPLETE (R513): A scan ends, writes RESULT, compares with EXPECT and raises event 270. -/
  | scanComplete (u : Fin 8)
  /-- WAK_RUN (R521): WAK_CMD RUN changes the module from DOZE to RUN. -/
  | wakRun (f : Facet)
  /-- WAK_DOZE (R524): WAK_CMD DOZE puts the vertices of WAK_DOZE_SET to sleep. -/
  | wakDoze (f : Facet)
  /-- WAK_SLEEP (R529): WAK_CMD SLEEP sets SLEEP_REQ and starts a perimeter round, or is refused. -/
  | wakSleep (f : Facet)
  /-- WAK_CANCEL (R534): WAK_CMD CANCEL clears SLEEP_REQ and abandons any entry before the point of no return. -/
  | wakCancel (f : Facet)
  /-- TC10_SLEEP_ANSWER (R524): A partner answers a TC10 sleep request. -/
  | tc10SleepAnswer (v : EthV) (accept : Bool)
  /-- TC10_SLEEP_TIMEOUT (R524): A TC10 sleep request unanswered in 16 ms leaves the vertex awake. -/
  | tc10SleepTimeout (v : EthV)
  /-- ROUND_START (R529): A perimeter round starts and sends the token to the first member. -/
  | roundStart
  /-- PERIMETER_ANSWER (R539): A matching ANSWER records consent or keep and passes the token on, ending the round after the last. -/
  | perimeterAnswer
  /-- PERIMETER_TIMEOUT (R536): No answer in WAK_PM_TIMEOUT resends the token once, then marks the member ABSENT. -/
  | perimeterTimeout
  /-- GROUP_WAIT_TIMEOUT (R531): Peers not all consenting within 1 s make the round count as kept. -/
  | groupWaitTimeout
  /-- SLEEP_ENTRY (R533): With consent complete, notices are sent, ingress closed and queue drain begins. -/
  | sleepEntry
  /-- SLEEP_DRAIN_END (R533): Queues empty or WAK_DRAIN_MAX passes and every vertex is put to sleep. -/
  | sleepDrainEnd
  /-- SLEEP_POINT_OF_NO_RETURN (R533): The always-on domain stores the locus and WAK_SLEEPS and turns the other rails off. -/
  | sleepPointOfNoReturn
  /-- FACET_KEEP_WRITE (R542): A facet's write of WAK_FACET_KEEP changes its own keep bit, possibly abandoning sleep entry. -/
  | facetKeepWrite (f : Facet) (v : W32)
  /-- WAKE_PIN (R543): A filtered edge or level on a wake pin wakes a vertex or the module. -/
  | wakePin (k : Fin 4) (rising : Bool) (width : Nat)
  /-- WAKE_FRAME_DECODE (R544): A frame decoded while ignoring updates the frame error counter, trims the oscillator and may match a wake pattern. -/
  | wakeFrameDecode (ch : CanCh) (d : WakeDecode)
  /-- CAN_WAKE_UP_PATTERN (R543): An ISO 11898-2 wake-up pattern on a channel with ANY_WAKE wakes the module. -/
  | canWakeUpPattern (ch : CanCh)
  /-- LIN_WAKE (R543): A dominant level of at least 150 µs on an enabled LIN wakes the module. -/
  | linWake (j : LinCh) (us : Nat)
  /-- TC10_WAKE (R543): A TC10 remote wake wakes the module. -/
  | tc10Wake (v : EthV)
  /-- WAKE_TIMER (R543): WAK_TIMER seconds after sleep entry the module wakes. -/
  | wakeTimer
  /-- SERVICE_WAKE (R543): A start bit on the service receive line wakes the module. -/
  | serviceWake
  /-- AON_MEASURE (R545): Every second in RUN the always-on oscillator is measured against the locus. -/
  | aonMeasure (corr : Int)
  /-- WAKE_START (R547): A wake from SLEEP starts the module, resuming the locus at the lower bound of the sleep. -/
  | wakeStart (elapsed : Nat)
  /-- SUPPLY_IN_RANGE (R552): A supply is declared in range, taking load or ending holdup or shed. -/
  | supplyInRange (b : Bool) (dc : Bool)
  /-- SUPPLY_LOST (R553): A supply is declared lost and the other takes the load, or holdup begins. -/
  | supplyLost (b : Bool)
  /-- HOLDUP_EXPIRY (R556): The holdup is spent and VCORE is shed. -/
  | holdupExpiry
  /-- CORE_RESUME (R559): VCORE restored after a shed, the core resumes its handshakes and the processor restarts. -/
  | coreResume
  /-- RESERVE_EXPIRY (R560): The reserve after a shed is spent and the module collapses. -/
  | reserveExpiry
  /-- RAIL_FAULT (R560): A rail other than VCORE more than 10 % low for 10 µs collapses the module. -/
  | railFault (rail : Fin 8)
  /-- XO_ACCEPTED (R562): 131,072 good crystal cycles accept the crystal and let the PLLs start. -/
  | xoAccepted
  /-- XO_RESTART (R564): A crystal not accepted in time is restarted and counted. -/
  | xoRestart
  /-- XO_LOST (R565): Four missing crystal cycles declare it lost and the PLLs hold. -/
  | xoLost
  /-- PLL_UNLOCK (R565): A PLL losing lock with the crystal present holds its control word. -/
  | pllUnlock (p : Fin 6)
  /-- PACE_MEASURE (R569): Every 100 µs plane and lattice loads set the pace target up or down. -/
  | paceMeasure (plane : Fin 1024) (lattice : Fin 1024)
  /-- PACE_REQUEST_HOLD_EXPIRY (R569): 1 ms after the last pace request clears the target is released from P7. -/
  | paceRequestHoldExpiry
  /-- PACE_STEP (R567): A VCORE step settles and the sequencer moves toward the target. -/
  | paceStep
  /-- DIVIDER_STEP (R568): Every 64 processor cycles divider D moves one step toward the level's value. -/
  | dividerStep
  /-- POWER_ON_RESET (R575): A ramp from below 0.3 V causes a module reset. -/
  | powerOnReset
  /-- RESET_PIN (R578): RST_N low for 10.1 µs or more causes a device reset. -/
  | resetPin (lowNs : Nat)
  /-- RESET_COMMAND (R579): A valid PWR_RESET_CMD causes a device reset after its reply. -/
  | resetCommand (f : Facet) (v : W32)
  /-- WATCHDOG_SERVICE (R580): Firmware serves the watchdog. -/
  | watchdogService
  /-- WATCHDOG_HALF (R580): Half of TIMEOUT without service raises event 41. -/
  | watchdogHalf
  /-- WATCHDOG_TIMEOUT (R580): TIMEOUT without service performs a device reset. -/
  | watchdogTimeout
  /-- VERTEX_SOFT_RESET (R576): PAGE_CTRL.SOFT_RESET of a vertex page starts a vertex reset. -/
  | vertexSoftReset (f : Facet) (v : PageVertex)
  /-- CELL_SOFT_RESET (R577): PAGE_CTRL.SOFT_RESET of a cell page checks each cell as a periodic check would. -/
  | cellSoftReset (f : Facet) (k : Fin 36)
  /-- SOFT_RESET_COMPLETE (R627): A vertex or cell reset completes and SOFT_RESET reads 0. -/
  | softResetComplete (page : PageNo)
  /-- QUIESCE (R625): A write of PAGE_CTRL.QUIESCE holds or resumes a vertex's or cells' work. -/
  | quiesce (f : Facet) (page : PageNo) (hold : Bool)
  /-- PAGE_ENABLE_WRITE (R622): A write of PAGE_CTRL.ENABLE stages the administrative gate, discarded while a commit is pending. -/
  | pageEnableWrite (f : Facet) (page : PageNo) (v : W32)
  /-- ROM_BOOT (R591): At every start the ROM completes fuses, life-cycle requests, fallback and bank selection and starts MP_CODE. -/
  | romBoot (b : BootFindings)
  /-- IMAGE_START (R593): The image loads firmware, bridge library, segments and settings of the active bank. -/
  | imageStart (sectionsOk : Bool)
  /-- PHY_FIRMWARE_LOADED (R582): PHY firmware is loaded and the M, G and S PHYs enabled. -/
  | phyFirmwareLoaded (ok : Bool)
  /-- SETTINGS_LOADED (R598): Tables, rules, programs and channel settings are loaded from the active settings bank. -/
  | settingsLoaded
  /-- CHANNELS_JOIN (R582): CAN and LIN channels join their buses. -/
  | channelsJoin
  /-- SERDES_FIRMWARE_LOADED (R582): SerDes firmware is loaded and the lanes enabled. -/
  | serdesFirmwareLoaded (ok : Bool)
  /-- MIGRATION (R600): A trial image migrates settings into the other bank and validates them, falling back on refusal. -/
  | migration (ok : Bool)
  /-- UPD_OPEN (R594): Update command OPEN starts erasing the free bank. -/
  | updOpen (f : Facet)
  /-- BANK_ERASE_COMPLETE (R594): The bank erase ends and the bank is WRITING. -/
  | bankEraseComplete
  /-- UPD_WRITE_DATA (R594): A write of UPD_WR_DATA writes a word into a WRITING bank. -/
  | updWriteData (f : Facet) (v : W32)
  /-- UPD_VERIFY (R594): Update command VERIFY starts checking the written image. -/
  | updVerify (f : Facet)
  /-- VERIFY_COMPLETE (R591): Verification ends with the bank READY or REJECTED. -/
  | verifyComplete (sigOk : Bool) (hashOk : Bool)
  /-- ACTIVATE (R594): Update command ACTIVATE writes a boot record naming the bank as trial pair. -/
  | updActivate (f : Facet)
  /-- CONFIRM (R595): Update command CONFIRM proves the running trial image. -/
  | updConfirm (f : Facet)
  /-- PROVE_AUTO_EXPIRY (R595): PROVE_AUTO seconds after the backbone step the trial image is proven. -/
  | proveAutoExpiry
  /-- FALLBACK (R596): Update command FALLBACK marks the trial image UNPROVEN and requests fallback. -/
  | updFallback (f : Facet)
  /-- SAVE (R599): Update command SAVE starts writing the live configuration into the older snapshot half. -/
  | updSave (f : Facet)
  /-- SAVE_COMPLETE (R599): The snapshot save ends. -/
  | saveComplete
  /-- UPD_ABORT (R594): Update command ABORT returns a WRITING or READY bank to ERASED. -/
  | updAbort (f : Facet)
  /-- LC_REQUEST (R603): A write of UPD_LC_REQ with GO records a signed life-cycle request for the next start. -/
  | lcRequest (f : Facet) (v : W32) (sigOk : Bool)
  /-- MONITOR_LINE (R606): A service-port line arrives whole and is executed or discarded. -/
  | monitorLine (text : List Byte) (a : LineArrival)
  /-- IDENT (R607): Monitor command IDENT. -/
  | monIdent
  /-- HELP (R607): Monitor command HELP. -/
  | monHelp
  /-- STATUS (R607): Monitor command STATUS. -/
  | monStatus
  /-- BAUD (R606): Monitor command BAUD changes the rate after its OK. -/
  | monBaud
  /-- BAUD_REVERT (R606): No valid line at the new rate in 10 s reverts the rate. -/
  | baudRevert
  /-- ECHO (R607): Monitor command ECHO. -/
  | monEcho
  /-- CHAL (R608): Monitor command CHAL returns a new challenge. -/
  | monChal
  /-- UNLOCK (R608): Monitor command UNLOCK checks a signature and opens commands or counts a failure. -/
  | monUnlock (sigOk : Bool)
  /-- MONITOR_LOCK (R610): Monitor command LOCK ends unlock. -/
  | monLock
  /-- UNLOCK_IDLE_EXPIRY (R610): SVC_UNLOCK_IDLE seconds without a line end unlock. -/
  | unlockIdleExpiry
  /-- FORCE_LOCK (R610): F0's write of SVC_FORCE_LOCK ends unlock. -/
  | forceLock (f : Facet) (v : W32)
  /-- FLOG (R611): Monitor command FLOG returns the newest fault-log entries. -/
  | monFlog
  /-- RD (R607): Monitor command RD performs an F15 READ. -/
  | monRd
  /-- WR (R607): Monitor command WR performs an F15 WRITE. -/
  | monWr
  /-- MW (R607): Monitor command MW performs an F15 MWRITE. -/
  | monMw
  /-- MONITOR_RESET (R579): Monitor command RESET performs a device reset. -/
  | monReset
  /-- BANK (R607): Monitor command BANK reports bank states. -/
  | monBank
  /-- LOAD (R601): Monitor command LOAD starts an XMODEM-1K image load into a bank. -/
  | monLoad
  /-- XMODEM_BLOCK (R601): An XMODEM block is received and written, the last completing the load and its check. -/
  | xmodemBlock (data : List Byte) (crcOk : Bool) (last : Bool) (sigOk : Bool) (hashOk : Bool)
  /-- MONITOR_ACTIVATE (R601): Monitor command ACTIVATE makes a READY bank active. -/
  | monActivate
  /-- MONITOR_CONFIRM (R607): Monitor command CONFIRM proves the trial image. -/
  | monConfirm
  /-- RECOVER (R601): Monitor command RECOVER leaves a recovery request and resets. -/
  | monRecover
  /-- STAGE (R603): Monitor command STAGE records a signed life-cycle request. -/
  | monStage (sigOk : Bool)
  /-- BASEPLATE_OVERTEMP (R656): The baseplate passing 125 °C raises event 42, rearmed below 120 °C. -/
  | baseplateOvertemp
  /-- BASEPLATE_CRITICAL (R656): The baseplate reaching 140 °C collapses the module. -/
  | baseplateCritical
  /-- SUPPLY_B_CRANK (R552): Supply B dips below 8 V but stays above 4.5 V and is carried, setting PWR_STATUS.B_CRANK, which clears when it returns within 50 ms. -/
  | supplyBCrank (below : Bool)
  /-- TRANSCEIVER_FAULT (R335): A CAN or LIN transceiver reports thermal shutdown or dominant time-out, setting the GLB_TRX_FAULT bit and raising the channel's medium event. -/
  | transceiverFault (v : BusVertex) (present : Bool)
  /-- LIN_RESPONSE_TIMEOUT (R308): A LIN header is followed by no response within the frame time, so the frame becomes no item and is counted as no response. -/
  | linResponseTimeout (j : LinCh)
  /-- PIPELINE_PARITY_FAULT (R508): An AES pipeline fails its parity, is retired and its unfinished requests restart on the spare. -/
  | pipelineParityFault (p : Fin 6)
  /-- WAKE_LINE_OUTPUT_RELEASE (R547): WIDTH ms after a wake start a wake-line output with ASSERT_ON_WAKE releases its pulse. -/
  | wakeLineOutputRelease (k : Fin 4)
  /-- ADMISSION_QUEUE_WAIT (R225): A facet's admission queue has held a job for 5 µs, and the dispatcher requests the highest pace level. -/
  | admissionQueueWait (f : Facet)
  /-- BASEPLATE_COOLED (R656): The baseplate falls below 120 °C, rearming event 42 and, after a thermal collapse, allowing soft start again. -/
  | baseplateCooled
  deriving DecidableEq, Repr

end Sys2Proof
end

