-- ==== Sys2Proof/Decode.lean ====
section
/-! DEFINITION. The commands that a word of the table spells. No row of the table gives bits: every command comes from
outside as an operation or an event, so no word spells one (DEDUCED: log entry 2). -/

namespace Sys2Proof

/-- The command that a word spells by the table's bits: none, since no row has bits. -/
def decodeTableWord (_nbits _w : Nat) : Option Instr := none

end Sys2Proof
end

