-- ==== Sys2Proof/Machine/SMap.lean ====
section
/-! DEFINITION. Sparse maps from numbers to values as lists of pairs in one canonical form: keys strictly
rising, and no pair whose value equals what an unlisted key reads as. Registers, queues, memories and tables of the
state are held in this form, so that equal maps are equal data. -/

namespace Sys2Proof.Machine

/-- A sparse map: pairs of key and value. What an unlisted key reads as is said where the map is read. -/
abbrev SMap (α : Type) := List (Nat × α)

/-- The value at a key; an unlisted key reads as `d`. -/
def SMap.get {α : Type} (d : α) : SMap α → Nat → α
  | [], _ => d
  | (k, v) :: m, x => if x = k then v else SMap.get d m x

/-- Removes the pair of a key. -/
def SMap.erase {α : Type} (m : SMap α) (x : Nat) : SMap α :=
  m.filter (fun p => p.1 ≠ x)

/-- Puts a pair into its place in key order, in place of the pair of the same key. -/
def SMap.insert {α : Type} : SMap α → Nat → α → SMap α
  | [], x, v => [(x, v)]
  | (k, w) :: m, x, v =>
    if x < k then (x, v) :: (k, w) :: m
    else if x = k then (x, v) :: m
    else (k, w) :: SMap.insert m x v

/-- Writes a key, keeping the canonical form: writing what an unlisted key reads as removes the pair. -/
def SMap.put {α : Type} [DecidableEq α] (d : α) (m : SMap α) (x : Nat) (v : α) : SMap α :=
  if v = d then SMap.erase m x else SMap.insert m x v

/-- Applies a function to the value at a key. -/
def SMap.upd {α : Type} [DecidableEq α] (d : α) (m : SMap α) (x : Nat) (f : α → α) : SMap α :=
  SMap.put d m x (f (SMap.get d m x))

/-- Every key of the map lies above `b`, and the keys rise strictly. -/
def SMap.above {α : Type} (b : Nat) : SMap α → Bool
  | [] => true
  | (k, _) :: m => decide (b < k) && SMap.above k m

/-- The keys rise strictly. -/
def SMap.rising {α : Type} : SMap α → Bool
  | [] => true
  | (k, _) :: m => SMap.above k m

/-- The canonical form: keys strictly rising, no pair holding what its key reads as when unlisted (`d`, per key). -/
def SMap.canonical {α : Type} [DecidableEq α] (d : Nat → α) (m : SMap α) : Bool :=
  SMap.rising m && m.all (fun p => decide (p.2 ≠ d p.1))

end Sys2Proof.Machine
end

