-- ==== Sys2Proof/Machine/RegMap.lean ====
section
/-! DEFINITION. The register map: the 163 pages of R616, the registers of every page with their access codes,
reset values and writable bits (the register tables R45, R104–R107, R168–R174, R221, R261–R264, R330–R333,
R381–R386, R413–R414, R469–R471, R515–R517, R548, R583, R613–R614, R618), and the address of every register by name.
A register behind a selector (a queue window, a table entry) has the key address + 2^24 × selector. -/

namespace Sys2Proof.Machine

/-- The access codes of R12. -/
inductive RegAccess where
  | rw | ro | w1c | rc | wo | rws
  deriving DecidableEq, Repr

/-- Which half of a 64-bit pair of R9 a register is. -/
inductive PairHalf where
  | none | lo | hi
  deriving DecidableEq, Repr

/-- One row of a register table: `n1 × n2` registers at `off + s1 × i + s2 × j` of their page. `mask` holds the bits
that R11 does not reserve. -/
structure RegRow where
  off : Nat
  n1 : Nat
  s1 : Nat
  n2 : Nat
  s2 : Nat
  acc : RegAccess
  reset : Nat
  mask : Nat
  pair : PairHalf
  deriving DecidableEq, Repr

/-- The kinds of page of R616. -/
inductive PageKind where
  | sys | pwr | loc | pln | buf | que | tbl | latDisp | latProg | latCell | eth | ethCommon | fieldBus | can | lin
  | brg | window | accord | aperture | cip | chk | cipReq | jrn | rng | wak | wakCan | upd | svc
  deriving DecidableEq, Repr

/-- A page of R616: its kind and its instance. -/
structure PageRef where
  kind : PageKind
  inst : Nat
  deriving DecidableEq, Repr

/-- The block registers of the sys page kind, in the order of the spec's tables. -/
def RegMap.rowsSys0 : List RegRow := [
  ⟨0x040, 1, 0x0, 1, 0x0, .ro, 0x72000000, 0xFFFFFFFF, .none⟩,  -- SYS_ID
  ⟨0x044, 1, 0x0, 1, 0x0, .ro, 0x00000000, 0x0000FFFF, .none⟩,  -- SYS_HW_REV
  ⟨0x048, 1, 0x0, 1, 0x0, .ro, 0x00000000, 0xFFFFFFFF, .lo⟩,  -- SYS_SERIAL_LO
  ⟨0x04C, 1, 0x0, 1, 0x0, .ro, 0x00000000, 0xFFFFFFFF, .hi⟩,  -- SYS_SERIAL_HI
  ⟨0x050, 1, 0x0, 1, 0x0, .rws, 0x00000000, 0x0001FFFF, .none⟩,  -- SYS_OCT_UDP
  ⟨0x054, 1, 0x0, 1, 0x0, .rws, 0x00000000, 0xFFFFFFFF, .none⟩,  -- SYS_OCT_IPV4
  ⟨0x058, 1, 0x0, 1, 0x0, .rws, 0x00000006, 0x00000007, .none⟩,  -- SYS_OCT_TC
  ⟨0x05C, 1, 0x0, 1, 0x0, .ro, 0x00000000, 0xFFFFFFFF, .none⟩,  -- SYS_OCT_MALFORMED
  ⟨0x060, 1, 0x0, 1, 0x0, .ro, 0x00000000, 0x000003FF, .none⟩,  -- SYS_WHOAMI
  ⟨0x070, 1, 0x0, 1, 0x0, .rw, 0x00000000, 0x00000001, .none⟩,  -- SYS_STAGE_VIEW
  ⟨0x100, 1, 0x0, 1, 0x0, .wo, 0x00000000, 0x00000007, .none⟩,  -- SYS_EPOCH_CTRL
  ⟨0x104, 1, 0x0, 1, 0x0, .ro, 0x00000000, 0x0001FF0F, .none⟩,  -- SYS_EPOCH_STATUS
  ⟨0x108, 1, 0x0, 1, 0x0, .rw, 0x00000000, 0xFFFFFFFF, .lo⟩,  -- SYS_EPOCH_AT_SEC_LO
  ⟨0x10C, 1, 0x0, 1, 0x0, .rw, 0x00000000, 0xFFFFFFFF, .hi⟩,  -- SYS_EPOCH_AT_SEC_HI
  ⟨0x110, 1, 0x0, 1, 0x0, .rw, 0x00000000, 0xFFFFFFFF, .none⟩,  -- SYS_EPOCH_AT_NS
  ⟨0x114, 1, 0x0, 1, 0x0, .ro, 0x00000001, 0xFFFFFFFF, .none⟩,  -- SYS_EPOCH_NEXT
  ⟨0x118, 1, 0x0, 1, 0x0, .ro, 0x00000000, 0xFFFFFFFF, .none⟩,  -- SYS_EPOCH_DRAINING
  ⟨0x11C, 1, 0x0, 1, 0x0, .ro, 0x00000000, 0xFFFFFFFF, .none⟩,  -- SYS_EPOCH_DRAIN_ITEMS
  ⟨0x120, 1, 0x0, 1, 0x0, .ro, 0x00000000, 0xFFFFFFFF, .none⟩,  -- SYS_EPOCH_DISCARD
  ⟨0x124, 1, 0x0, 1, 0x0, .ro, 0x00000000, 0xFFFFFFFF, .none⟩,  -- SYS_EPOCH_CONFLICT
  ⟨0x128, 1, 0x0, 1, 0x0, .ro, 0x00000000, 0xFFFFFFFF, .lo⟩,  -- SYS_EPOCH_SWITCH_SEC_LO
  ⟨0x12C, 1, 0x0, 1, 0x0, .ro, 0x00000000, 0xFFFFFFFF, .hi⟩,  -- SYS_EPOCH_SWITCH_SEC_HI
  ⟨0x130, 1, 0x0, 1, 0x0, .ro, 0x00000000, 0xFFFFFFFF, .none⟩,  -- SYS_EPOCH_SWITCH_NS
  ⟨0x134, 1, 0x0, 1, 0x0, .ro, 0x00000000, 0xFFFFFFFF, .none⟩,  -- SYS_EPOCH_CONFLICT_INDEX
  ⟨0x140, 1, 0x0, 1, 0x0, .ro, 0x00001000, 0xFFFFFFFF, .none⟩,  -- SYS_TAG_FREE
  ⟨0x180, 16, 0x4, 1, 0x0, .rws, 0x00000100, 0x00001FFF, .none⟩,  -- SYS_TAG_QUOTA_n
  ⟨0x1C0, 16, 0x4, 1, 0x0, .ro, 0x00000000, 0x00001FFF, .none⟩,  -- SYS_TAG_INUSE_n
  ⟨0x200, 16, 0x8, 1, 0x0, .ro, 0x00000000, 0xFFFFFFFF, .none⟩,  -- SYS_SVC_DELAY_n
  ⟨0x204, 16, 0x8, 1, 0x0, .ro, 0x00000000, 0xFFFFFFFF, .none⟩,  -- SYS_SVC_LOSS_n
  ⟨0x300, 85, 0x4, 1, 0x0, .rws, 0x00000000, 0x0000001F, .none⟩,  -- SYS_BIND_v
  ⟨0x460, 1, 0x0, 1, 0x0, .wo, 0x00000000, 0x0000010F, .none⟩,  -- SYS_FACET_RESET
  ⟨0x464, 1, 0x0, 1, 0x0, .ro, 0x00000000, 0x0000FFF1, .none⟩,  -- SYS_FACET_RESET_STATUS
  ⟨0x480, 16, 0x4, 1, 0x0, .rws, 0x00000000, 0x0000007F, .none⟩,  -- SYS_FLEASE_n
  ⟨0x4C0, 4, 0x4, 1, 0x0, .rws, 0x00000000, 0x0000003F, .none⟩,  -- SYS_ALERT_k
  ⟨0x600, 1, 0x0, 1, 0x0, .rw, 0x00000000, 0x0000000F, .none⟩,  -- SYS_EV_VIEW
  ⟨0x610, 1, 0x0, 1, 0x0, .ro, 0x00000000, 0x000007FF, .none⟩,  -- SYS_EV_COUNT
  ⟨0x614, 4, 0x4, 1, 0x0, .ro, 0x00000000, 0xFFFFFFFF, .none⟩,  -- SYS_EV_W0–W3
  ⟨0x624, 1, 0x0, 1, 0x0, .wo, 0x00000000, 0x00000001, .none⟩,  -- SYS_EV_POP
  ⟨0x628, 1, 0x0, 1, 0x0, .rw, 0x00000000, 0x00000001, .none⟩,  -- SYS_EV_CTRL
  ⟨0x62C, 1, 0x0, 1, 0x0, .ro, 0x00000000, 0x00000003, .none⟩  -- SYS_EV_STATUS
  ]

/-- The block registers of the sys page kind, continued. -/
def RegMap.rowsSys1 : List RegRow := [
  ⟨0x630, 1, 0x0, 1, 0x0, .rw, 0x00000000, 0x000001FF, .none⟩,  -- SYS_EV_OVF_SEL
  ⟨0x634, 1, 0x0, 1, 0x0, .ro, 0x00000000, 0x0001FFFF, .none⟩,  -- SYS_EV_OVF_COUNT
  ⟨0x640, 10, 0x4, 1, 0x0, .ro, 0x00000000, 0xFFFFFFFF, .none⟩,  -- SYS_EV_OVF_MAPk
  ⟨0x680, 4, 0x10, 1, 0x0, .ro, 0x00000000, 0x0000001F, .none⟩,  -- SYS_SESSs_STATE
  ⟨0x684, 4, 0x10, 1, 0x0, .ro, 0x00000000, 0xFFFFFFFF, .none⟩,  -- SYS_SESSs_HIGH
  ⟨0x688, 4, 0x10, 1, 0x0, .ro, 0x00000000, 0xFFFFFFFF, .none⟩,  -- SYS_SESSs_DUPS
  ⟨0x68C, 4, 0x10, 1, 0x0, .ro, 0x00000000, 0xFFFFFFFF, .none⟩,  -- SYS_SESSs_STALE
  ⟨0x6C0, 1, 0x0, 1, 0x0, .ro, 0x00000000, 0x000000FF, .none⟩  -- SYS_LEASES_HELD
  ]

/-- All block registers of the sys page kind. -/
def RegMap.rowsSys : List RegRow :=
  RegMap.rowsSys0 ++ RegMap.rowsSys1

/-- The block registers of the pwr page kind, in the order of the spec's tables. -/
def RegMap.rowsPwr : List RegRow := [
  ⟨0x040, 1, 0x0, 1, 0x0, .rws, 0x00000000, 0x00000001, .none⟩,  -- PWR_CTRL
  ⟨0x044, 1, 0x0, 1, 0x0, .ro, 0x00000000, 0x000000FF, .none⟩,  -- PWR_STATUS
  ⟨0x048, 1, 0x0, 1, 0x0, .ro, 0x00000000, 0xFFFFFFFF, .none⟩,  -- PWR_VIN_A
  ⟨0x04C, 1, 0x0, 1, 0x0, .ro, 0x00000000, 0x0000FFFF, .none⟩,  -- PWR_VIN_B
  ⟨0x050, 1, 0x0, 1, 0x0, .ro, 0x00000000, 0x0000FFFF, .none⟩,  -- PWR_PIN
  ⟨0x054, 1, 0x0, 1, 0x0, .ro, 0x00000000, 0xFFFFFFFF, .none⟩,  -- PWR_TEMP
  ⟨0x058, 1, 0x0, 1, 0x0, .ro, 0x00000000, 0x00000FFF, .none⟩,  -- PWR_VCORE
  ⟨0x05C, 1, 0x0, 1, 0x0, .ro, 0x000000FF, 0x000000FF, .none⟩,  -- PWR_RAILS
  ⟨0x060, 1, 0x0, 1, 0x0, .rws, 0x0A284600, 0xFF7F7F07, .none⟩,  -- PWR_PACE_CTRL
  ⟨0x064, 1, 0x0, 1, 0x0, .ro, 0x00000077, 0x00000777, .none⟩,  -- PWR_PACE_STATUS
  ⟨0x068, 1, 0x0, 1, 0x0, .ro, 0x00000000, 0xFFFFFFFF, .none⟩,  -- PWR_PACE_STEPS
  ⟨0x06C, 1, 0x0, 1, 0x0, .ro, 0x00000000, 0xFFFFFFFF, .none⟩,  -- PWR_SUPPLY_LOSSES
  ⟨0x070, 1, 0x0, 1, 0x0, .ro, 0x00000000, 0xFFFFFFFF, .none⟩,  -- PWR_HOLDUPS
  ⟨0x074, 1, 0x0, 1, 0x0, .ro, 0x00000000, 0xFFFFFFFF, .none⟩,  -- PWR_FREEZE_DROPS
  ⟨0x078, 1, 0x0, 1, 0x0, .ro, 0x00000000, 0xFFFF000F, .none⟩,  -- PWR_RESET_CAUSE
  ⟨0x07C, 1, 0x0, 1, 0x0, .wo, 0x00000000, 0x0001FFFF, .none⟩,  -- PWR_RESET_CMD
  ⟨0x080, 1, 0x0, 1, 0x0, .rws, 0x03E80000, 0x3FFF0001, .none⟩,  -- PWR_WDOG_CTRL
  ⟨0x084, 1, 0x0, 1, 0x0, .ro, 0x00000000, 0x0001FFFF, .none⟩,  -- PWR_WDOG_STATUS
  ⟨0x100, 1, 0x0, 1, 0x0, .ro, 0x00000004, 0x00003F07, .none⟩,  -- CLK_STATUS
  ⟨0x104, 1, 0x0, 1, 0x0, .ro, 0x00000000, 0xFFFFFFFF, .none⟩,  -- CLK_XO_STARTS
  ⟨0x108, 1, 0x0, 1, 0x0, .ro, 0x00000000, 0xFFFFFFFF, .none⟩,  -- CLK_XO_LOSSES
  ⟨0x10C, 1, 0x0, 1, 0x0, .rws, 0x00000031, 0x0000007F, .none⟩,  -- CLK_SSC_MP
  ⟨0x110, 1, 0x0, 1, 0x0, .rws, 0x00000031, 0x0000007F, .none⟩,  -- CLK_SSC_DRAM
  ⟨0x114, 1, 0x0, 1, 0x0, .ro, 0x06400004, 0x07FF001F, .none⟩,  -- CLK_MP
  ⟨0x118, 1, 0x0, 1, 0x0, .ro, 0x00000000, 0x0000FFFF, .none⟩  -- CLK_IRC
  ]

/-- The block registers of the loc page kind, in the order of the spec's tables. -/
def RegMap.rowsLoc0 : List RegRow := [
  ⟨0x040, 1, 0x0, 1, 0x0, .rw, 0x00000001, 0x00000003, .none⟩,  -- LOC_CTRL
  ⟨0x044, 1, 0x0, 1, 0x0, .ro, 0x00000000, 0x000003FF, .none⟩,  -- LOC_STATUS
  ⟨0x048, 1, 0x0, 1, 0x0, .ro, 0x00000000, 0xFFFFFFFF, .lo⟩,  -- LOC_TIME_SEC_LO
  ⟨0x04C, 1, 0x0, 1, 0x0, .ro, 0x00000000, 0xFFFFFFFF, .hi⟩,  -- LOC_TIME_SEC_HI
  ⟨0x050, 1, 0x0, 1, 0x0, .ro, 0x00000000, 0xFFFFFFFF, .none⟩,  -- LOC_TIME_NS
  ⟨0x054, 1, 0x0, 1, 0x0, .ro, 0x00000000, 0x0000FFFF, .none⟩,  -- LOC_TIME_FRAC
  ⟨0x058, 1, 0x0, 1, 0x0, .rw, 0x00000000, 0xFFFFFFFF, .none⟩,  -- LOC_RATE
  ⟨0x05C, 1, 0x0, 1, 0x0, .rw, 0x00000000, 0xFFFFFFFF, .none⟩,  -- LOC_ADJ_SEC
  ⟨0x060, 1, 0x0, 1, 0x0, .rw, 0x00000000, 0xFFFFFFFF, .none⟩,  -- LOC_ADJ_NS
  ⟨0x064, 1, 0x0, 1, 0x0, .rw, 0x000003E8, 0xFFFFFFFF, .none⟩,  -- LOC_STEP_LIMIT
  ⟨0x068, 1, 0x0, 1, 0x0, .rw, 0x00000064, 0xFFFFFFFF, .none⟩,  -- LOC_SLEW_MAX
  ⟨0x06C, 1, 0x0, 1, 0x0, .rw, 0x000003E8, 0xFFFFFFFF, .none⟩,  -- LOC_BACK_LIMIT
  ⟨0x070, 1, 0x0, 1, 0x0, .rw, 0x00000064, 0xFFFFFFFF, .none⟩,  -- LOC_LOCK_THRESH
  ⟨0x074, 1, 0x0, 1, 0x0, .rw, 0x00000008, 0xFFFFFFFF, .none⟩,  -- LOC_RELOCK_COUNT
  ⟨0x078, 1, 0x0, 1, 0x0, .ro, 0x00000000, 0xFFFFFFFF, .none⟩,  -- LOC_OFFSET
  ⟨0x07C, 1, 0x0, 1, 0x0, .ro, 0x00000000, 0xFFFFFFFF, .none⟩,  -- LOC_HOLD_AGE
  ⟨0x080, 1, 0x0, 1, 0x0, .rw, 0x00000000, 0xFFFFFFFF, .lo⟩,  -- LOC_DEV_EPOCH_LO
  ⟨0x084, 1, 0x0, 1, 0x0, .rw, 0x00000000, 0xFFFFFFFF, .hi⟩,  -- LOC_DEV_EPOCH_HI
  ⟨0x088, 1, 0x0, 1, 0x0, .rws, 0x00000000, 0x00000003, .none⟩,  -- LOC_DOMAIN_SEL
  ⟨0x08C, 1, 0x0, 1, 0x0, .rws, 0x00000000, 0x0000000F, .none⟩,  -- LOC_APEX_SRC
  ⟨0x090, 1, 0x0, 1, 0x0, .ro, 0x00000000, 0xFFFFFFFF, .none⟩,  -- LOC_STEP_COUNT
  ⟨0x100, 4, 0x40, 1, 0x0, .rws, 0x00000000, 0x0000FF0F, .none⟩,  -- LOC_DOMd_CTRL
  ⟨0x104, 4, 0x40, 1, 0x0, .rws, 0xFEF8F8F8, 0xFFFFFFFF, .none⟩,  -- LOC_DOMd_PRIO
  ⟨0x108, 4, 0x40, 1, 0x0, .rws, 0x00000000, 0xFFFFFFFF, .lo⟩,  -- LOC_DOMd_PORTS_LO
  ⟨0x10C, 4, 0x40, 1, 0x0, .rws, 0x00000000, 0x0000FFFF, .hi⟩,  -- LOC_DOMd_PORTS_HI
  ⟨0x110, 4, 0x40, 1, 0x0, .rws, 0x030000FD, 0xFFFFFFFF, .none⟩,  -- LOC_DOMd_INTERVALS
  ⟨0x114, 4, 0x40, 1, 0x0, .ro, 0x00000000, 0x00FF7F07, .none⟩,  -- LOC_DOMd_STATE
  ⟨0x118, 4, 0x40, 1, 0x0, .ro, 0x00000000, 0xFFFFFFFF, .lo⟩,  -- LOC_DOMd_GM_LO
  ⟨0x11C, 4, 0x40, 1, 0x0, .ro, 0x00000000, 0xFFFFFFFF, .hi⟩,  -- LOC_DOMd_GM_HI
  ⟨0x120, 4, 0x40, 1, 0x0, .ro, 0x00000000, 0xFFFFFFFF, .lo⟩,  -- LOC_DOMd_OFS_LO
  ⟨0x124, 4, 0x40, 1, 0x0, .ro, 0x00000000, 0xFFFFFFFF, .hi⟩,  -- LOC_DOMd_OFS_HI
  ⟨0x128, 4, 0x40, 1, 0x0, .ro, 0x00000000, 0xFFFFFFFF, .none⟩,  -- LOC_DOMd_RATIO
  ⟨0x400, 16, 0x20, 1, 0x0, .rw, 0x00000000, 0x0000007F, .none⟩,  -- LOC_TXQn_SEL
  ⟨0x404, 16, 0x20, 1, 0x0, .ro, 0x00000000, 0xFFFF017F, .none⟩,  -- LOC_TXQn_STATUS
  ⟨0x408, 16, 0x20, 4, 0x4, .ro, 0x00000000, 0xFFFFFFFF, .none⟩,  -- LOC_TXQn_D0–D3
  ⟨0x418, 16, 0x20, 1, 0x0, .wo, 0x00000000, 0x00000001, .none⟩,  -- LOC_TXQn_POP
  ⟨0x600, 16, 0x40, 1, 0x0, .rws, 0x00000000, 0x0000003F, .none⟩,  -- LOC_SOn_CTRL
  ⟨0x604, 16, 0x40, 1, 0x0, .rws, 0x00000000, 0xFFFFFFFF, .lo⟩,  -- LOC_SOn_START_SEC_LO
  ⟨0x608, 16, 0x40, 1, 0x0, .rws, 0x00000000, 0xFFFFFFFF, .hi⟩,  -- LOC_SOn_START_SEC_HI
  ⟨0x60C, 16, 0x40, 1, 0x0, .rws, 0x00000000, 0xFFFFFFFF, .none⟩  -- LOC_SOn_START_NS
  ]

/-- The block registers of the loc page kind, continued. -/
def RegMap.rowsLoc1 : List RegRow := [
  ⟨0x610, 16, 0x40, 1, 0x0, .rws, 0x00000000, 0x0000FFFF, .none⟩,  -- LOC_SOn_START_FRAC
  ⟨0x614, 16, 0x40, 1, 0x0, .rws, 0x3B9ACA00, 0xFFFFFFFF, .none⟩,  -- LOC_SOn_PERIOD_NS
  ⟨0x618, 16, 0x40, 1, 0x0, .rws, 0x00000000, 0x0000FFFF, .none⟩,  -- LOC_SOn_PERIOD_FRAC
  ⟨0x61C, 16, 0x40, 1, 0x0, .rws, 0x00989680, 0xFFFFFFFF, .none⟩,  -- LOC_SOn_WIDTH_NS
  ⟨0x620, 16, 0x40, 1, 0x0, .rws, 0x00000000, 0x0000FFFF, .none⟩,  -- LOC_SOn_WIDTH_FRAC
  ⟨0x624, 16, 0x40, 1, 0x0, .ro, 0x00000000, 0x00000007, .none⟩,  -- LOC_SOn_STATUS
  ⟨0x628, 16, 0x40, 1, 0x0, .ro, 0x00000000, 0xFFFFFFFF, .none⟩,  -- LOC_SOn_SKIP
  ⟨0xA00, 8, 0x20, 1, 0x0, .rws, 0x00000000, 0x000000FF, .none⟩,  -- LOC_CAPn_CTRL
  ⟨0xA04, 8, 0x20, 1, 0x0, .ro, 0x00000000, 0xFFFF011F, .none⟩,  -- LOC_CAPn_STATUS
  ⟨0xA08, 8, 0x20, 1, 0x0, .ro, 0x00000000, 0xFFFFFFFF, .lo⟩,  -- LOC_CAPn_SEC_LO
  ⟨0xA0C, 8, 0x20, 1, 0x0, .ro, 0x00000000, 0xFFFFFFFF, .hi⟩,  -- LOC_CAPn_SEC_HI
  ⟨0xA10, 8, 0x20, 1, 0x0, .ro, 0x00000000, 0xFFFFFFFF, .none⟩,  -- LOC_CAPn_NS
  ⟨0xA14, 8, 0x20, 1, 0x0, .ro, 0x00000000, 0x00000001, .none⟩,  -- LOC_CAPn_EDGE
  ⟨0xA18, 8, 0x20, 1, 0x0, .ro, 0x00000000, 0xFFFFFFFF, .none⟩,  -- LOC_CAPn_PERIOD
  ⟨0xA1C, 8, 0x20, 1, 0x0, .wo, 0x00000000, 0x00000001, .none⟩,  -- LOC_CAPn_POP
  ⟨0xC00, 48, 0x4, 1, 0x0, .rws, 0x00000000, 0xFFFFFFFF, .none⟩  -- LOC_ASYM_v
  ]

/-- All block registers of the loc page kind. -/
def RegMap.rowsLoc : List RegRow :=
  RegMap.rowsLoc0 ++ RegMap.rowsLoc1

/-- The block registers of the pln page kind, in the order of the spec's tables. -/
def RegMap.rowsPln : List RegRow := [
  ⟨0x040, 1, 0x0, 1, 0x0, .ro, 0x0000001F, 0x003F1F1F, .none⟩,  -- PLN_STATUS
  ⟨0x044, 1, 0x0, 1, 0x0, .ro, 0x00000000, 0xFFFFFFFF, .none⟩,  -- PLN_CYCLE_PS
  ⟨0x048, 1, 0x0, 1, 0x0, .wo, 0x00000000, 0x000173FF, .none⟩,  -- PLN_MOVE
  ⟨0x04C, 1, 0x0, 1, 0x0, .ro, 0x00000000, 0x0000FF01, .none⟩,  -- PLN_MOVE_STATUS
  ⟨0x050, 1, 0x0, 1, 0x0, .wo, 0x00000000, 0x00000107, .none⟩,  -- PLN_FORCE_RETIRE
  ⟨0x054, 1, 0x0, 1, 0x0, .ro, 0x00000000, 0xFFFFFFFF, .none⟩,  -- PLN_MARKER_TIMEOUTS
  ⟨0x080, 5, 0x10, 1, 0x0, .ro, 0x00000000, 0xFFFFFFFF, .lo⟩,  -- PLN_Pp_XFER_LO
  ⟨0x084, 5, 0x10, 1, 0x0, .ro, 0x00000000, 0xFFFFFFFF, .hi⟩,  -- PLN_Pp_XFER_HI
  ⟨0x088, 5, 0x10, 1, 0x0, .ro, 0x00000000, 0xFFFFFFFF, .none⟩,  -- PLN_Pp_REPEAT
  ⟨0x08C, 5, 0x10, 1, 0x0, .ro, 0x00000000, 0x07FF03FF, .none⟩,  -- PLN_Pp_LOAD
  ⟨0x200, 128, 0x4, 1, 0x0, .ro, 0x00000000, 0x77777777, .none⟩  -- PLN_MAP_n
  ]

/-- The block registers of the buf page kind, in the order of the spec's tables. -/
def RegMap.rowsBuf : List RegRow := [
  ⟨0x040, 1, 0x0, 1, 0x0, .ro, 0x00040000, 0xFFFFFFFF, .none⟩,  -- BUF_CELLS_TOTAL
  ⟨0x044, 1, 0x0, 1, 0x0, .ro, 0x0003F000, 0xFFFFFFFF, .none⟩,  -- BUF_CELLS_FREE
  ⟨0x048, 1, 0x0, 1, 0x0, .ro, 0x00000000, 0x000007FF, .none⟩,  -- BUF_MAPPED_OUT
  ⟨0x04C, 1, 0x0, 1, 0x0, .ro, 0x00001000, 0xFFFFFFFF, .none⟩,  -- BUF_RESERVE
  ⟨0x050, 1, 0x0, 1, 0x0, .ro, 0x0003EC00, 0xFFFFFFFF, .none⟩,  -- BUF_USABLE
  ⟨0x054, 1, 0x0, 1, 0x0, .ro, 0x00000000, 0xFFFFFFFF, .none⟩,  -- BUF_DBE
  ⟨0x058, 1, 0x0, 1, 0x0, .ro, 0x00000000, 0xFFFFFFFF, .none⟩,  -- BUF_CORR
  ⟨0x080, 16, 0x4, 1, 0x0, .rws, 0x00003EC0, 0x0003FFFF, .none⟩,  -- BUF_FCAP_n
  ⟨0x0C0, 16, 0x4, 1, 0x0, .ro, 0x00000000, 0x0003FFFF, .none⟩,  -- BUF_FUSE_n
  ⟨0x100, 16, 0x10, 1, 0x0, .ro, 0x00000000, 0xFFFFFFFF, .none⟩,  -- BUF_Fn_DROP_IN
  ⟨0x104, 16, 0x10, 1, 0x0, .ro, 0x00000000, 0xFFFFFFFF, .none⟩,  -- BUF_Fn_DROP_CAP
  ⟨0x108, 16, 0x10, 1, 0x0, .ro, 0x00000000, 0xFFFFFFFF, .none⟩,  -- BUF_Fn_DROP_Q
  ⟨0x10C, 16, 0x10, 1, 0x0, .ro, 0x00000000, 0xFFFFFFFF, .none⟩,  -- BUF_Fn_AGED
  ⟨0x200, 1, 0x0, 1, 0x0, .rw, 0x00000000, 0x00001FFF, .none⟩,  -- BUF_MC_INDEX
  ⟨0x204, 1, 0x0, 1, 0x0, .rws, 0x00000000, 0x00000003, .none⟩,  -- BUF_MC_FLAGS
  ⟨0x208, 4, 0x4, 1, 0x0, .rws, 0x00000000, 0xFFFFFFFF, .none⟩  -- BUF_MC_MASKk
  ]

/-- The block registers of the que page kind, in the order of the spec's tables. -/
def RegMap.rowsQue : List RegRow := [
  ⟨0x040, 16, 0x4, 1, 0x0, .rw, 0x00000000, 0x0000007F, .none⟩,  -- Q_SEL_n
  ⟨0x100, 1, 0x0, 1, 0x0, .rws, 0x00000800, 0x0003FFFF, .none⟩,  -- Q_IN_LIM
  ⟨0x104, 1, 0x0, 1, 0x0, .ro, 0x00000000, 0x0003FFFF, .none⟩,  -- Q_IN_USE
  ⟨0x108, 1, 0x0, 1, 0x0, .rws, 0x00000000, 0x0000007F, .none⟩,  -- Q_MODE
  ⟨0x10C, 1, 0x0, 1, 0x0, .rws, 0x00000064, 0x000001FF, .none⟩,  -- Q_MERGE_W
  ⟨0x110, 1, 0x0, 1, 0x0, .rws, 0x000000FF, 0x000000FF, .none⟩,  -- Q_EXPRESS
  ⟨0x114, 1, 0x0, 1, 0x0, .rws, 0x00000000, 0xFFFFFFFF, .lo⟩,  -- Q_GCL_BASE_SEC_LO
  ⟨0x118, 1, 0x0, 1, 0x0, .rws, 0x00000000, 0xFFFFFFFF, .hi⟩,  -- Q_GCL_BASE_SEC_HI
  ⟨0x11C, 1, 0x0, 1, 0x0, .rws, 0x00000000, 0xFFFFFFFF, .none⟩,  -- Q_GCL_BASE_NS
  ⟨0x120, 1, 0x0, 1, 0x0, .rws, 0x000F4240, 0xFFFFFFFF, .none⟩,  -- Q_GCL_CYCLE_NS
  ⟨0x124, 1, 0x0, 1, 0x0, .rws, 0x00000001, 0x000007FF, .none⟩,  -- Q_GCL_LEN
  ⟨0x128, 1, 0x0, 1, 0x0, .rw, 0x00000000, 0x000003FF, .none⟩,  -- Q_GCL_INDEX
  ⟨0x12C, 1, 0x0, 1, 0x0, .rws, 0x000000FF, 0x000003FF, .none⟩,  -- Q_GCL_OP
  ⟨0x130, 1, 0x0, 1, 0x0, .rws, 0x000F4240, 0xFFFFFFFF, .none⟩,  -- Q_GCL_INTERVAL
  ⟨0x134, 1, 0x0, 1, 0x0, .ro, 0x00000000, 0x000103FF, .none⟩,  -- Q_GCL_POS
  ⟨0x138, 1, 0x0, 1, 0x0, .ro, 0x000000FF, 0x000000FF, .none⟩,  -- Q_GATES
  ⟨0x13C, 1, 0x0, 1, 0x0, .ro, 0x00000000, 0x00000003, .none⟩,  -- Q_PREEMPT_STATUS
  ⟨0x140, 1, 0x0, 1, 0x0, .ro, 0x00000000, 0xFFFFFFFF, .none⟩,  -- Q_LATE
  ⟨0x144, 1, 0x0, 1, 0x0, .ro, 0x00000000, 0xFFFFFFFF, .none⟩,  -- Q_EARLY
  ⟨0x148, 1, 0x0, 1, 0x0, .ro, 0x00000000, 0xFFFFFFFF, .none⟩,  -- Q_IN_DROP
  ⟨0x14C, 1, 0x0, 1, 0x0, .ro, 0x00000000, 0xFFFFFFFF, .none⟩,  -- Q_TOO_LONG
  ⟨0x150, 1, 0x0, 1, 0x0, .ro, 0x00000000, 0xFFFFFFFF, .none⟩,  -- Q_STOMPED
  ⟨0x200, 8, 0x20, 1, 0x0, .rws, 0x00000400, 0x0003FFFF, .none⟩,  -- Q_Cc_LIM
  ⟨0x204, 8, 0x20, 1, 0x0, .rws, 0x00000000, 0x00003FFF, .none⟩,  -- Q_Cc_MAXLEN
  ⟨0x208, 8, 0x20, 1, 0x0, .rws, 0x00000000, 0x00000001, .none⟩,  -- Q_Cc_CBS
  ⟨0x20C, 8, 0x20, 1, 0x0, .rws, 0x00000000, 0xFFFFFFFF, .none⟩,  -- Q_Cc_IDLESLOPE
  ⟨0x210, 8, 0x20, 1, 0x0, .rws, 0x00000014, 0x0000007F, .none⟩,  -- Q_Cc_CEILING
  ⟨0x214, 8, 0x20, 1, 0x0, .ro, 0x00000000, 0x0003FFFF, .none⟩,  -- Q_Cc_USE
  ⟨0x218, 8, 0x20, 1, 0x0, .ro, 0x00000000, 0xFFFFFFFF, .none⟩,  -- Q_Cc_DROP
  ⟨0x21C, 8, 0x20, 1, 0x0, .ro, 0x00000000, 0xFFFFFFFF, .none⟩,  -- Q_Cc_HOLD
  ⟨0x300, 8, 0x4, 1, 0x0, .ro, 0x00000000, 0xFFFFFFFF, .none⟩  -- Q_Cc_AGED
  ]

/-- The block registers of the tbl page kind, in the order of the spec's tables. -/
def RegMap.rowsTbl0 : List RegRow := [
  ⟨0x040, 1, 0x0, 1, 0x0, .ro, 0x00000000, 0x0000000F, .none⟩,  -- TBL_STATUS
  ⟨0x044, 1, 0x0, 1, 0x0, .rws, 0xFFFFFFFF, 0xFFFFFFFF, .none⟩,  -- TBL_HASH_SEED
  ⟨0x048, 1, 0x0, 1, 0x0, .ro, 0x00000000, 0xFFFF0003, .none⟩,  -- TBL_REHASH_STATUS
  ⟨0x04C, 1, 0x0, 1, 0x0, .rw, 0x0000012C, 0x0000FFFF, .none⟩,  -- TBL_AGE_PERIOD
  ⟨0x050, 1, 0x0, 1, 0x0, .rws, 0x00000000, 0xFFFFFFFF, .lo⟩,  -- TBL_LEARN_EN_LO
  ⟨0x054, 1, 0x0, 1, 0x0, .rws, 0x00000000, 0x0000FFFF, .hi⟩,  -- TBL_LEARN_EN_HI
  ⟨0x058, 1, 0x0, 1, 0x0, .rws, 0x00000000, 0xFFFFFFFF, .lo⟩,  -- TBL_FLUSH_DOWN_LO
  ⟨0x05C, 1, 0x0, 1, 0x0, .rws, 0x00000000, 0x0000FFFF, .hi⟩,  -- TBL_FLUSH_DOWN_HI
  ⟨0x060, 1, 0x0, 1, 0x0, .ro, 0x00000000, 0x0000FFFF, .none⟩,  -- TBL_CAM_USED
  ⟨0x064, 1, 0x0, 1, 0x0, .ro, 0x00000000, 0x0007FFFF, .none⟩,  -- TBL_HASH_USED
  ⟨0x068, 1, 0x0, 1, 0x0, .ro, 0x00000000, 0x0003FFFF, .none⟩,  -- TBL_HASH_DYN
  ⟨0x06C, 1, 0x0, 1, 0x0, .ro, 0x00000000, 0xFFFFFFFF, .none⟩,  -- TBL_LEARN_FAIL
  ⟨0x070, 1, 0x0, 1, 0x0, .ro, 0x00000000, 0xFFFFFFFF, .none⟩,  -- TBL_MOVES
  ⟨0x074, 1, 0x0, 1, 0x0, .ro, 0x00000000, 0xFFFFFFFF, .none⟩,  -- TBL_STATIC_VIOL
  ⟨0x078, 1, 0x0, 1, 0x0, .ro, 0x00000000, 0xFFFFFFFF, .none⟩,  -- TBL_COMPARE_PASSES
  ⟨0x07C, 1, 0x0, 1, 0x0, .ro, 0x00000000, 0xFFFFFFFF, .none⟩,  -- TBL_REPAIRS
  ⟨0x080, 1, 0x0, 1, 0x0, .ro, 0x00000000, 0xFFFFFFFF, .none⟩,  -- TBL_SHADOW_LOST
  ⟨0x084, 1, 0x0, 1, 0x0, .ro, 0x00000000, 0xFFFFFFFF, .none⟩,  -- TBL_DYN_DROP
  ⟨0x0C0, 16, 0x4, 1, 0x0, .rws, 0x00002000, 0x0003FFFF, .none⟩,  -- TBL_LEARN_CAP_n
  ⟨0x100, 16, 0x4, 1, 0x0, .ro, 0x00000000, 0x0003FFFF, .none⟩,  -- TBL_LEARN_USE_n
  ⟨0x200, 4, 0x80, 1, 0x0, .rw, 0x00000000, 0x0000011F, .none⟩,  -- TBL_CMDp_LOCK
  ⟨0x204, 4, 0x80, 1, 0x0, .wo, 0x00000000, 0x0000003F, .none⟩,  -- TBL_CMDp_OP
  ⟨0x208, 4, 0x80, 1, 0x0, .ro, 0x00000000, 0xFFFFFF01, .none⟩,  -- TBL_CMDp_STATUS
  ⟨0x20C, 4, 0x80, 1, 0x0, .rw, 0x00000000, 0x0003FFFF, .none⟩,  -- TBL_CMDp_INDEX
  ⟨0x210, 4, 0x80, 1, 0x0, .rw, 0x00000000, 0x00001FFF, .none⟩,  -- TBL_CMDp_MASK
  ⟨0x214, 4, 0x80, 1, 0x0, .rw, 0x00000000, 0x0000007F, .none⟩,  -- TBL_CMDp_AUX
  ⟨0x218, 4, 0x80, 1, 0x0, .rw, 0x00000000, 0xFFFFFFFF, .none⟩,  -- TBL_CMDp_RES_LO
  ⟨0x21C, 4, 0x80, 1, 0x0, .rw, 0x00000000, 0xFFFFFFFF, .none⟩,  -- TBL_CMDp_RES_HI
  ⟨0x220, 4, 0x80, 10, 0x4, .rw, 0x00000000, 0xFFFFFFFF, .none⟩,  -- TBL_CMDp_KEYk
  ⟨0x400, 128, 0x8, 1, 0x0, .rws, 0x00000000, 0xFFFFFFFF, .lo⟩,  -- TBL_DEF_v_LO
  ⟨0x404, 128, 0x8, 1, 0x0, .rws, 0x20000000, 0xFFFFFFFF, .hi⟩,  -- TBL_DEF_v_HI
  ⟨0x800, 1, 0x0, 1, 0x0, .rw, 0x00000000, 0x000003FF, .none⟩,  -- TBL_SF_INDEX
  ⟨0x804, 1, 0x0, 1, 0x0, .rws, 0x00000000, 0xFFFF000F, .none⟩,  -- TBL_SF_CTRL
  ⟨0x808, 1, 0x0, 1, 0x0, .rws, 0x00000000, 0xFFFFFFFF, .none⟩,  -- TBL_SF_CIR
  ⟨0x80C, 1, 0x0, 1, 0x0, .rws, 0x00000000, 0xFFFFFFFF, .none⟩,  -- TBL_SF_CBS
  ⟨0x810, 1, 0x0, 1, 0x0, .rws, 0x00000000, 0xFFFFFFFF, .none⟩,  -- TBL_SF_EIR
  ⟨0x814, 1, 0x0, 1, 0x0, .rws, 0x00000000, 0xFFFFFFFF, .none⟩,  -- TBL_SF_EBS
  ⟨0x818, 1, 0x0, 1, 0x0, .ro, 0x00000000, 0x00000001, .none⟩,  -- TBL_SF_STATUS
  ⟨0x81C, 1, 0x0, 1, 0x0, .wo, 0x00000000, 0x00000001, .none⟩,  -- TBL_SF_UNBLOCK
  ⟨0x820, 1, 0x0, 1, 0x0, .ro, 0x00000000, 0xFFFFFFFF, .none⟩  -- TBL_SF_SDU_DROP
  ]

/-- The block registers of the tbl page kind, continued. -/
def RegMap.rowsTbl1 : List RegRow := [
  ⟨0x824, 1, 0x0, 1, 0x0, .ro, 0x00000000, 0xFFFFFFFF, .none⟩  -- TBL_SF_RED_DROP
  ]

/-- All block registers of the tbl page kind. -/
def RegMap.rowsTbl : List RegRow :=
  RegMap.rowsTbl0 ++ RegMap.rowsTbl1

/-- The block registers of the latDisp page kind, in the order of the spec's tables. -/
def RegMap.rowsLatDisp : List RegRow := [
  ⟨0x040, 1, 0x0, 1, 0x0, .ro, 0x00000840, 0x00030F7F, .none⟩,  -- LAT_STATUS
  ⟨0x044, 1, 0x0, 1, 0x0, .ro, 0xFFFFFFFF, 0xFFFFFFFF, .none⟩,  -- LAT_CELLMAP_0
  ⟨0x048, 1, 0x0, 1, 0x0, .ro, 0xFFFFFFFF, 0xFFFFFFFF, .none⟩,  -- LAT_CELLMAP_1
  ⟨0x04C, 1, 0x0, 1, 0x0, .ro, 0x00000000, 0x000000FF, .none⟩,  -- LAT_CELLMAP_2
  ⟨0x050, 1, 0x0, 1, 0x0, .rw, 0x00000064, 0x0000FFFF, .none⟩,  -- LAT_CHECK_PERIOD
  ⟨0x054, 1, 0x0, 1, 0x0, .wo, 0x00000000, 0x0000017F, .none⟩,  -- LAT_FORCE_RETIRE
  ⟨0x058, 1, 0x0, 1, 0x0, .ro, 0x00000000, 0xFFFFFFFF, .none⟩,  -- LAT_REPLAYS
  ⟨0x05C, 1, 0x0, 1, 0x0, .ro, 0x00000000, 0xFFFFFFFF, .none⟩,  -- LAT_DATA_DEP
  ⟨0x060, 1, 0x0, 1, 0x0, .ro, 0x00000000, 0xFFFFFFFF, .none⟩,  -- LAT_TRANSIENTS
  ⟨0x064, 1, 0x0, 1, 0x0, .ro, 0x00000000, 0xFFFFFFFF, .none⟩,  -- LAT_BACKLOG
  ⟨0x068, 1, 0x0, 1, 0x0, .ro, 0x00000400, 0x000007FF, .none⟩,  -- LAT_CTX_FREE
  ⟨0x06C, 1, 0x0, 1, 0x0, .ro, 0x00000000, 0x000003FF, .none⟩,  -- LAT_ISSUE_LOAD
  ⟨0x080, 16, 0x4, 1, 0x0, .rws, 0x00000040, 0x000007FF, .none⟩,  -- LAT_CTX_QUOTA_n
  ⟨0x0C0, 16, 0x4, 1, 0x0, .ro, 0x00000000, 0x000007FF, .none⟩,  -- LAT_CTX_USE_n
  ⟨0x100, 16, 0x4, 1, 0x0, .ro, 0x00000000, 0xFFFFFFFF, .none⟩,  -- LAT_ADMIT_WAIT_n
  ⟨0x200, 1, 0x0, 1, 0x0, .rw, 0x00000000, 0x00000FFF, .none⟩,  -- LAT_DE_INDEX
  ⟨0x204, 1, 0x0, 1, 0x0, .rws, 0x00000000, 0xFFFF001F, .none⟩,  -- LAT_DE_CTRL
  ⟨0x208, 1, 0x0, 1, 0x0, .rws, 0x00000000, 0x0007FFFF, .none⟩,  -- LAT_DE_START
  ⟨0x20C, 1, 0x0, 1, 0x0, .rws, 0x00000000, 0x000FFFFF, .none⟩,  -- LAT_DE_LEN
  ⟨0x210, 1, 0x0, 1, 0x0, .rws, 0x00000000, 0x0007FFFF, .none⟩,  -- LAT_DE_CONST
  ⟨0x214, 1, 0x0, 1, 0x0, .rws, 0x00000000, 0x0001FFFF, .none⟩,  -- LAT_DE_CONST_LEN
  ⟨0x218, 1, 0x0, 1, 0x0, .rws, 0x00000100, 0x0000FFFF, .none⟩,  -- LAT_DE_BUDGET
  ⟨0x21C, 1, 0x0, 1, 0x0, .rws, 0x00002400, 0x00003FFF, .none⟩,  -- LAT_DE_OUTBYTES
  ⟨0x220, 1, 0x0, 1, 0x0, .ro, 0x00000000, 0xFFFFFFFF, .none⟩,  -- LAT_DE_DONE
  ⟨0x224, 1, 0x0, 1, 0x0, .ro, 0x00000000, 0xFFFFFFFF, .none⟩,  -- LAT_DE_DROPPED
  ⟨0x228, 1, 0x0, 1, 0x0, .ro, 0x00000000, 0xFFFFFFFF, .none⟩,  -- LAT_DE_FAULTS
  ⟨0x22C, 1, 0x0, 1, 0x0, .ro, 0x00000000, 0x07FFFFFF, .none⟩,  -- LAT_DE_LAST_FAULT
  ⟨0x230, 1, 0x0, 1, 0x0, .ro, 0x00000000, 0x0000FFFF, .none⟩,  -- LAT_DE_INSN_MAX
  ⟨0x240, 16, 0x4, 1, 0x0, .ro, 0x00000000, 0xFFFFFFFF, .none⟩  -- LAT_DE_CNTk
  ]

/-- The block registers of the latProg page kind, in the order of the spec's tables. -/
def RegMap.rowsLatProg : List RegRow := [
  ⟨0x040, 1, 0x0, 1, 0x0, .rw, 0x00000000, 0x0000003F, .none⟩,  -- LAT_SEG_INDEX
  ⟨0x044, 1, 0x0, 1, 0x0, .rw, 0x00000000, 0x0007FFFF, .none⟩,  -- LAT_SEG_START
  ⟨0x048, 1, 0x0, 1, 0x0, .rw, 0x00000000, 0x000FFFFF, .none⟩,  -- LAT_SEG_LEN
  ⟨0x04C, 1, 0x0, 1, 0x0, .wo, 0x00000000, 0x00000007, .none⟩,  -- LAT_SEG_CTRL
  ⟨0x050, 1, 0x0, 1, 0x0, .rw, 0x00000000, 0xFFFFFFFF, .none⟩,  -- LAT_SEG_CRC
  ⟨0x054, 1, 0x0, 1, 0x0, .ro, 0x00000000, 0x0003FF07, .none⟩,  -- LAT_SEG_STATUS
  ⟨0x058, 1, 0x0, 1, 0x0, .rw, 0x00000000, 0x0007FFFF, .none⟩,  -- LAT_PS_ADDR
  ⟨0x05C, 1, 0x0, 1, 0x0, .rw, 0x00000000, 0xFFFFFFFF, .none⟩,  -- LAT_PS_DATA
  ⟨0x060, 1, 0x0, 1, 0x0, .ro, 0x00080000, 0xFFFFFFFF, .none⟩,  -- LAT_PS_FREE
  ⟨0x064, 1, 0x0, 1, 0x0, .ro, 0x00000000, 0xFFFFFFFF, .none⟩  -- LAT_PS_RELOADS
  ]

/-- The block registers of the latCell page kind, in the order of the spec's tables. -/
def RegMap.rowsLatCell : List RegRow := [
  ⟨0x100, 2, 0x100, 1, 0x0, .ro, 0x00000000, 0x001F0003, .none⟩,  -- LAT_Cc_STATUS
  ⟨0x104, 2, 0x100, 1, 0x0, .ro, 0x00000000, 0x0000FFFF, .none⟩,  -- LAT_Cc_CTX_BUSY
  ⟨0x108, 2, 0x100, 1, 0x0, .ro, 0x00000000, 0xFFFFFFFF, .lo⟩,  -- LAT_Cc_ISSUED_LO
  ⟨0x10C, 2, 0x100, 1, 0x0, .ro, 0x00000000, 0xFFFFFFFF, .hi⟩,  -- LAT_Cc_ISSUED_HI
  ⟨0x110, 2, 0x100, 1, 0x0, .ro, 0x00000000, 0xFFFFFFFF, .none⟩,  -- LAT_Cc_JOBS
  ⟨0x114, 2, 0x100, 1, 0x0, .ro, 0x00000000, 0xFFFFFFFF, .none⟩,  -- LAT_Cc_CHECKS
  ⟨0x118, 2, 0x100, 1, 0x0, .ro, 0x00000000, 0xFFFFFFFF, .none⟩,  -- LAT_Cc_ECC_CORR
  ⟨0x11C, 2, 0x100, 1, 0x0, .ro, 0x00000000, 0xFFFFFFFF, .none⟩,  -- LAT_Cc_FAULTS
  ⟨0x120, 2, 0x100, 1, 0x0, .ro, 0x00000000, 0xFFFFFFFF, .none⟩  -- LAT_Cc_CACHE_MISS
  ]

/-- The block registers of the eth page kind, in the order of the spec's tables. -/
def RegMap.rowsEth0 : List RegRow := [
  ⟨0x040, 1, 0x0, 1, 0x0, .rws, 0x00000000, 0x00000001, .none⟩,  -- ETH_CTRL
  ⟨0x044, 1, 0x0, 1, 0x0, .ro, 0x00000000, 0xFFFFF00F, .none⟩,  -- ETH_STATUS
  ⟨0x048, 1, 0x0, 1, 0x0, .rws, 0x00000000, 0xFFFFFFFF, .lo⟩,  -- ETH_STATION_LO
  ⟨0x04C, 1, 0x0, 1, 0x0, .rws, 0x00000000, 0x0000FFFF, .hi⟩,  -- ETH_STATION_HI
  ⟨0x050, 1, 0x0, 1, 0x0, .rws, 0x00000000, 0x00003FFF, .none⟩,  -- ETH_MAXFRAME
  ⟨0x054, 1, 0x0, 1, 0x0, .rws, 0x00000008, 0x0000000F, .none⟩,  -- ETH_RX_FILTER
  ⟨0x058, 1, 0x0, 1, 0x0, .rws, 0x00000001, 0x001F7FFF, .none⟩,  -- ETH_PORT_VLAN
  ⟨0x05C, 1, 0x0, 1, 0x0, .rws, 0x00FAC688, 0x00FFFFFF, .none⟩,  -- ETH_PRIO_MAP
  ⟨0x060, 4, 0x8, 1, 0x0, .rws, 0x00000000, 0xFFFFFFFF, .lo⟩,  -- ETH_UCk_LO
  ⟨0x064, 4, 0x8, 1, 0x0, .rws, 0x00000000, 0x8000FFFF, .hi⟩,  -- ETH_UCk_HI
  ⟨0x080, 16, 0x4, 1, 0x0, .rws, 0x00000000, 0xFFFFFFFF, .none⟩,  -- ETH_GHASHk
  ⟨0x0C0, 1, 0x0, 1, 0x0, .rws, 0x00000000, 0x00001FFF, .none⟩,  -- ETH_PHY_CTRL
  ⟨0x0C4, 1, 0x0, 1, 0x0, .ro, 0x00000000, 0x00000FFF, .none⟩,  -- ETH_PHY_STATUS
  ⟨0x0C8, 1, 0x0, 1, 0x0, .rws, 0x80002080, 0xFFFFFFFF, .none⟩,  -- ETH_PLCA_CTRL
  ⟨0x0CC, 1, 0x0, 1, 0x0, .ro, 0x00000000, 0x00000003, .none⟩,  -- ETH_PLCA_STATUS
  ⟨0x0D0, 1, 0x0, 1, 0x0, .rws, 0x00000000, 0x0000FF0F, .none⟩,  -- ETH_FC_CTRL
  ⟨0x0D4, 1, 0x0, 1, 0x0, .rws, 0x00000600, 0x0003FFFF, .none⟩,  -- ETH_FC_XOFF
  ⟨0x0D8, 1, 0x0, 1, 0x0, .rws, 0x00000400, 0x0003FFFF, .none⟩,  -- ETH_FC_XON
  ⟨0x0DC, 1, 0x0, 1, 0x0, .rws, 0x0A14FFFF, 0xFFFFFFFF, .none⟩,  -- ETH_FC_TIMERS
  ⟨0x0E0, 1, 0x0, 1, 0x0, .ro, 0x00000000, 0x0001FFFF, .none⟩,  -- ETH_FC_STATUS
  ⟨0x100, 1, 0x0, 1, 0x0, .rws, 0x00000000, 0x00000FFF, .none⟩,  -- ETH_SEC_CTRL
  ⟨0x104, 1, 0x0, 1, 0x0, .rws, 0x00000000, 0x3FFFFFFF, .none⟩,  -- ETH_SEC_REPLAY_WIN
  ⟨0x108, 1, 0x0, 1, 0x0, .rws, 0x00000000, 0xFFFFFFFF, .lo⟩,  -- ETH_SEC_TX_SCI_LO
  ⟨0x10C, 1, 0x0, 1, 0x0, .rws, 0x00000000, 0xFFFFFFFF, .hi⟩,  -- ETH_SEC_TX_SCI_HI
  ⟨0x110, 1, 0x0, 1, 0x0, .rw, 0x00000000, 0x00000003, .none⟩,  -- ETH_SEC_TX_AN
  ⟨0x114, 1, 0x0, 1, 0x0, .ro, 0x00000000, 0x00000007, .none⟩,  -- ETH_SEC_STATUS
  ⟨0x118, 1, 0x0, 1, 0x0, .rw, 0x00000000, 0xFFFFFFFF, .lo⟩,  -- ETH_SEC_PN_THRESH_LO
  ⟨0x11C, 1, 0x0, 1, 0x0, .rw, 0xC0000000, 0xFFFFFFFF, .hi⟩,  -- ETH_SEC_PN_THRESH_HI
  ⟨0x140, 1, 0x0, 1, 0x0, .rw, 0x00000000, 0x0000003F, .none⟩,  -- ETH_SEC_SA_SEL
  ⟨0x144, 1, 0x0, 1, 0x0, .rw, 0x00000000, 0x000101FF, .none⟩,  -- ETH_SEC_SA_CTRL
  ⟨0x148, 1, 0x0, 1, 0x0, .rw, 0x00000000, 0xFFFFFFFF, .none⟩,  -- ETH_SEC_SA_SSCI
  ⟨0x14C, 3, 0x4, 1, 0x0, .wo, 0x00000000, 0xFFFFFFFF, .none⟩,  -- ETH_SEC_SA_SALTk
  ⟨0x158, 1, 0x0, 1, 0x0, .rw, 0x00000001, 0xFFFFFFFF, .lo⟩,  -- ETH_SEC_SA_PN_LO
  ⟨0x15C, 1, 0x0, 1, 0x0, .rw, 0x00000000, 0xFFFFFFFF, .hi⟩,  -- ETH_SEC_SA_PN_HI
  ⟨0x160, 1, 0x0, 1, 0x0, .rw, 0x00000000, 0xFFFFFFFF, .lo⟩,  -- ETH_SEC_RXSC_SCI_LO
  ⟨0x164, 1, 0x0, 1, 0x0, .rw, 0x00000000, 0xFFFFFFFF, .hi⟩,  -- ETH_SEC_RXSC_SCI_HI
  ⟨0x168, 1, 0x0, 1, 0x0, .rw, 0x00000000, 0x00000001, .none⟩,  -- ETH_SEC_RXSC_CTRL
  ⟨0x200, 32, 0x8, 1, 0x0, .rc, 0x00000000, 0xFFFFFFFF, .lo⟩,  -- ETH_CNTk_LO
  ⟨0x204, 32, 0x8, 1, 0x0, .rc, 0x00000000, 0xFFFFFFFF, .hi⟩,  -- ETH_CNTk_HI
  ⟨0x800, 1, 0x0, 1, 0x0, .rws, 0x00000000, 0x00000001, .none⟩  -- ETH_LANE_CTRL
  ]

/-- The block registers of the eth page kind, continued. -/
def RegMap.rowsEth1 : List RegRow := [
  ⟨0x804, 1, 0x0, 1, 0x0, .ro, 0x00000000, 0x0000FF3F, .none⟩,  -- ETH_LANE_STATUS
  ⟨0x808, 1, 0x0, 1, 0x0, .rw, 0x00010000, 0xFFFFFFFF, .none⟩,  -- ETH_LANE_DEG_THRESH
  ⟨0x80C, 1, 0x0, 1, 0x0, .ro, 0x00000000, 0xFFFFFFFF, .lo⟩,  -- ETH_LANE_PEER_ID_LO
  ⟨0x810, 1, 0x0, 1, 0x0, .ro, 0x00000000, 0xFFFFFFFF, .hi⟩,  -- ETH_LANE_PEER_ID_HI
  ⟨0x814, 1, 0x0, 1, 0x0, .ro, 0x00000000, 0x0000FFFF, .none⟩,  -- ETH_LANE_SKEW
  ⟨0x840, 20, 0x8, 1, 0x0, .rc, 0x00000000, 0xFFFFFFFF, .lo⟩,  -- ETH_FECk_LO
  ⟨0x844, 20, 0x8, 1, 0x0, .rc, 0x00000000, 0xFFFFFFFF, .hi⟩  -- ETH_FECk_HI
  ]

/-- All block registers of the eth page kind. -/
def RegMap.rowsEth : List RegRow :=
  RegMap.rowsEth0 ++ RegMap.rowsEth1

/-- The block registers of the ethCommon page kind, in the order of the spec's tables. -/
def RegMap.rowsEthCommon : List RegRow := [
  ⟨0x040, 1, 0x0, 1, 0x0, .rws, 0x00000000, 0x0000003F, .none⟩,  -- ETH_BOND
  ⟨0x044, 1, 0x0, 1, 0x0, .rw, 0x00000000, 0x00000FFF, .none⟩,  -- ETH_VT_INDEX
  ⟨0x048, 1, 0x0, 1, 0x0, .rws, 0x00000000, 0x0FFF0001, .none⟩,  -- ETH_VT_FLAGS
  ⟨0x04C, 1, 0x0, 1, 0x0, .rws, 0x00000000, 0xFFFFFFFF, .lo⟩,  -- ETH_VT_MEMBER_LO
  ⟨0x050, 1, 0x0, 1, 0x0, .rws, 0x00000000, 0x0000FFFF, .hi⟩,  -- ETH_VT_MEMBER_HI
  ⟨0x054, 1, 0x0, 1, 0x0, .rws, 0x00000000, 0xFFFFFFFF, .lo⟩,  -- ETH_VT_UNTAG_LO
  ⟨0x058, 1, 0x0, 1, 0x0, .rws, 0x00000000, 0x0000FFFF, .hi⟩  -- ETH_VT_UNTAG_HI
  ]

/-- The block registers of the fieldBus page kind, in the order of the spec's tables. -/
def RegMap.rowsFieldBus : List RegRow := [
  ⟨0x040, 1, 0x0, 1, 0x0, .ro, 0x00000000, 0x00FFFFFF, .none⟩,  -- CAN_GLB_BUSOFF
  ⟨0x044, 1, 0x0, 1, 0x0, .ro, 0x00000000, 0x00FFFFFF, .none⟩,  -- CAN_GLB_TRX_FAULT
  ⟨0x048, 1, 0x0, 1, 0x0, .ro, 0x00000000, 0x00000FFF, .none⟩,  -- LIN_GLB_TRX_FAULT
  ⟨0x04C, 1, 0x0, 1, 0x0, .ro, 0x00000000, 0x00000001, .none⟩  -- CAN_GLB_CLK
  ]

/-- The block registers of the can page kind, in the order of the spec's tables. -/
def RegMap.rowsCan : List RegRow := [
  ⟨0x040, 1, 0x0, 1, 0x0, .rws, 0x00000000, 0x000000F3, .none⟩,  -- CAN_CTRL
  ⟨0x044, 1, 0x0, 1, 0x0, .ro, 0x00000000, 0x0000000F, .none⟩,  -- CAN_STATUS
  ⟨0x048, 1, 0x0, 1, 0x0, .rws, 0x00F1E7C3, 0x07FFFFFF, .none⟩,  -- CAN_NBT
  ⟨0x04C, 1, 0x0, 1, 0x0, .rws, 0x0003DFF0, 0xFF87FFFF, .none⟩,  -- CAN_DBT
  ⟨0x050, 1, 0x0, 1, 0x0, .rws, 0x00000000, 0xFF87FFFF, .none⟩,  -- CAN_XBT
  ⟨0x054, 1, 0x0, 1, 0x0, .rws, 0x00000000, 0x013F3F3F, .none⟩,  -- CAN_XPWM
  ⟨0x058, 1, 0x0, 1, 0x0, .ro, 0x00000000, 0x73FF01FF, .none⟩,  -- CAN_ERR
  ⟨0x05C, 1, 0x0, 1, 0x0, .rws, 0x00000000, 0x0000FFFF, .none⟩,  -- CAN_BOFF_DELAY
  ⟨0x060, 1, 0x0, 1, 0x0, .wo, 0x00000000, 0x00000003, .none⟩,  -- CAN_CMD
  ⟨0x064, 1, 0x0, 1, 0x0, .rws, 0x0000001F, 0x00FFFF1F, .none⟩,  -- CAN_TX_CTRL
  ⟨0x068, 1, 0x0, 1, 0x0, .ro, 0x00000000, 0xFFFF007F, .none⟩,  -- CAN_TX_STATUS
  ⟨0x06C, 1, 0x0, 1, 0x0, .rws, 0x00640004, 0xFFFF017F, .none⟩,  -- CAN_RATE_CTRL
  ⟨0x070, 1, 0x0, 1, 0x0, .ro, 0x00000000, 0xFFFF0073, .none⟩,  -- CAN_RATE_STATUS
  ⟨0x080, 1, 0x0, 1, 0x0, .ro, 0x00000000, 0xFFFFFFFF, .none⟩,  -- CAN_RX_OK
  ⟨0x084, 1, 0x0, 1, 0x0, .ro, 0x00000000, 0xFFFFFFFF, .none⟩,  -- CAN_RX_ERRORS
  ⟨0x088, 1, 0x0, 1, 0x0, .ro, 0x00000000, 0xFFFFFFFF, .none⟩,  -- CAN_RX_PEX
  ⟨0x08C, 1, 0x0, 1, 0x0, .ro, 0x00000000, 0xFFFFFFFF, .none⟩,  -- CAN_TX_OK
  ⟨0x090, 1, 0x0, 1, 0x0, .ro, 0x00000000, 0xFFFFFFFF, .none⟩,  -- CAN_TX_ABANDONED
  ⟨0x094, 1, 0x0, 1, 0x0, .ro, 0x00000000, 0xFFFFFFFF, .none⟩,  -- CAN_TX_REPLACED
  ⟨0x098, 1, 0x0, 1, 0x0, .ro, 0x00000000, 0xFFFFFFFF, .none⟩,  -- CAN_BUSOFF_COUNT
  ⟨0x0C0, 8, 0x8, 1, 0x0, .rws, 0x00000000, 0x07FFFFFF, .none⟩,  -- CAN_CANDk_NBT
  ⟨0x0C4, 8, 0x8, 1, 0x0, .rws, 0x00000000, 0xFF87FFFF, .none⟩,  -- CAN_CANDk_DBT
  ⟨0x100, 16, 0x8, 1, 0x0, .rws, 0x00000000, 0xDFFFFFFF, .none⟩,  -- CAN_MBm_FILTER
  ⟨0x104, 16, 0x8, 1, 0x0, .rws, 0x00000000, 0xDFFFFFFF, .none⟩,  -- CAN_MBm_CTRL
  ⟨0x180, 16, 0x4, 1, 0x0, .ro, 0x00000000, 0x00000007, .none⟩,  -- CAN_MBm_STATUS
  ⟨0x200, 1, 0x0, 1, 0x0, .rws, 0x00000000, 0x00000F1F, .none⟩,  -- CAN_TT_CTRL
  ⟨0x204, 1, 0x0, 1, 0x0, .rws, 0x00000000, 0x1FFFFFFF, .none⟩,  -- CAN_TT_REF_ID
  ⟨0x208, 1, 0x0, 1, 0x0, .rws, 0x00000000, 0xFFFFFFFF, .lo⟩,  -- CAN_TT_REF_DATA_LO
  ⟨0x20C, 1, 0x0, 1, 0x0, .rws, 0x00000000, 0xFFFFFF00, .hi⟩,  -- CAN_TT_REF_DATA_HI
  ⟨0x210, 1, 0x0, 1, 0x0, .rws, 0x00000000, 0xFFFFFFFF, .lo⟩,  -- CAN_TT_BASE_SEC_LO
  ⟨0x214, 1, 0x0, 1, 0x0, .rws, 0x00000000, 0xFFFFFFFF, .hi⟩,  -- CAN_TT_BASE_SEC_HI
  ⟨0x218, 1, 0x0, 1, 0x0, .rws, 0x00000000, 0xFFFFFFFF, .none⟩,  -- CAN_TT_BASE_NS
  ⟨0x21C, 1, 0x0, 1, 0x0, .rws, 0x00989680, 0xFFFFFFFF, .none⟩,  -- CAN_TT_CYCLE_NS
  ⟨0x220, 1, 0x0, 1, 0x0, .ro, 0x00000000, 0x00003F03, .none⟩,  -- CAN_TT_STATUS
  ⟨0x224, 1, 0x0, 1, 0x0, .ro, 0x00000000, 0xFFFFFFFF, .none⟩,  -- CAN_TT_REF_LATE_MAX
  ⟨0x228, 1, 0x0, 1, 0x0, .ro, 0x00000000, 0xFFFFFFFF, .none⟩,  -- CAN_TT_HOLD
  ⟨0x400, 64, 0x10, 1, 0x0, .rws, 0x00000000, 0x00073FF3, .none⟩,  -- CAN_TT_TRIGi_CTRL
  ⟨0x404, 64, 0x10, 1, 0x0, .rws, 0x00000000, 0xFFFFFFFF, .none⟩,  -- CAN_TT_TRIGi_MARK
  ⟨0x408, 64, 0x10, 1, 0x0, .rws, 0x00000000, 0xFFFFFFFF, .none⟩  -- CAN_TT_TRIGi_LEN
  ]

/-- The block registers of the lin page kind, in the order of the spec's tables. -/
def RegMap.rowsLin : List RegRow := [
  ⟨0x100, 2, 0x400, 1, 0x0, .rws, 0x4B000000, 0x7FFF0003, .none⟩,  -- LIN_CTRL
  ⟨0x104, 2, 0x400, 1, 0x0, .ro, 0x00000000, 0x00033F07, .none⟩,  -- LIN_STATUS
  ⟨0x108, 2, 0x400, 1, 0x0, .rw, 0x00000000, 0x00000007, .none⟩,  -- LIN_SCHED_SEL
  ⟨0x10C, 2, 0x400, 1, 0x0, .ro, 0x00000000, 0xFFFFFFFF, .none⟩,  -- LIN_ERR
  ⟨0x110, 2, 0x400, 1, 0x0, .ro, 0x00000000, 0xFFFFFFFF, .none⟩,  -- LIN_NO_DATA
  ⟨0x114, 2, 0x400, 1, 0x0, .ro, 0x00000000, 0xFFFFFFFF, .none⟩,  -- LIN_REPLACED
  ⟨0x118, 2, 0x400, 1, 0x0, .ro, 0x00000000, 0xFFFFFFFF, .none⟩,  -- LIN_RX_OK
  ⟨0x11C, 2, 0x400, 1, 0x0, .ro, 0x00000000, 0xFFFFFFFF, .none⟩,  -- LIN_TX_OK
  ⟨0x200, 2, 0x400, 64, 0x4, .rws, 0x00000040, 0x0000007F, .none⟩,  -- LIN_IDi
  ⟨0x300, 2, 0x400, 1, 0x0, .rw, 0x00000000, 0x000001FF, .none⟩,  -- LIN_TAB_INDEX
  ⟨0x304, 2, 0x400, 1, 0x0, .rws, 0x00000000, 0xFFFF0FFF, .none⟩,  -- LIN_TAB_ENTRY
  ⟨0x308, 2, 0x400, 1, 0x0, .rws, 0x00000000, 0x7F7F7F7F, .none⟩  -- LIN_TAB_SPOR
  ]

/-- The block registers of the brg page kind, in the order of the spec's tables. -/
def RegMap.rowsBrg : List RegRow := [
  ⟨0x040, 1, 0x0, 1, 0x0, .ro, 0x00000000, 0x00000003, .none⟩,  -- BRG_STATUS
  ⟨0x044, 1, 0x0, 1, 0x0, .ro, 0x00000000, 0xFFFFFFFF, .none⟩,  -- BRG_NO_RULE
  ⟨0x048, 1, 0x0, 1, 0x0, .ro, 0x00000000, 0xFFFFFFFF, .none⟩,  -- BRG_MALFORMED
  ⟨0x04C, 1, 0x0, 1, 0x0, .ro, 0x00000000, 0xFFFFFFFF, .none⟩,  -- BRG_INNER_REFUSED
  ⟨0x050, 1, 0x0, 1, 0x0, .ro, 0x00000000, 0xFFFFFFFF, .none⟩,  -- BRG_SEQ_GAP
  ⟨0x054, 1, 0x0, 1, 0x0, .ro, 0x00000000, 0xFFFFFFFF, .none⟩,  -- BRG_REPAIRS
  ⟨0x058, 1, 0x0, 1, 0x0, .ro, 0x00000000, 0xFFFFFFFF, .none⟩,  -- BRG_SHADOW_LOST
  ⟨0x060, 5, 0x4, 1, 0x0, .ro, 0x00000000, 0xFFFFFFFF, .none⟩,  -- BRG_LIB_k
  ⟨0x080, 1, 0x0, 1, 0x0, .rw, 0x00000000, 0x00000FFF, .none⟩,  -- BRG_T_SEL
  ⟨0x084, 1, 0x0, 1, 0x0, .ro, 0x00000000, 0xFFFFFFFF, .none⟩,  -- BRG_T_FRAMES
  ⟨0x088, 1, 0x0, 1, 0x0, .ro, 0x00000000, 0xFFFFFFFF, .none⟩,  -- BRG_T_GAP
  ⟨0x100, 2, 0x80, 8, 0x10, .rws, 0x00000100, 0x0003FFFF, .none⟩,  -- BRG_Qd_Cc_LIM
  ⟨0x104, 2, 0x80, 8, 0x10, .ro, 0x00000000, 0x0003FFFF, .none⟩,  -- BRG_Qd_Cc_USE
  ⟨0x108, 2, 0x80, 8, 0x10, .ro, 0x00000000, 0xFFFFFFFF, .none⟩,  -- BRG_Qd_Cc_DROP
  ⟨0x10C, 2, 0x80, 8, 0x10, .rws, 0x00000014, 0x0000007F, .none⟩,  -- BRG_Qd_Cc_CEILING
  ⟨0x200, 2, 0x40, 1, 0x0, .rw, 0x00000000, 0x0000011F, .none⟩,  -- BRG_RCMDp_LOCK
  ⟨0x204, 2, 0x40, 1, 0x0, .wo, 0x00000000, 0x0000003F, .none⟩,  -- BRG_RCMDp_OP
  ⟨0x208, 2, 0x40, 1, 0x0, .ro, 0x00000000, 0x0000FF01, .none⟩,  -- BRG_RCMDp_STATUS
  ⟨0x20C, 2, 0x40, 1, 0x0, .rw, 0x00000000, 0x00001FFF, .none⟩,  -- BRG_RCMDp_INDEX
  ⟨0x210, 2, 0x40, 8, 0x4, .rw, 0x00000000, 0xFFFFFFFF, .none⟩  -- BRG_RCMDp_RECk
  ]

/-- The block registers of the window page kind, in the order of the spec's tables. -/
def RegMap.rowsWindow : List RegRow := [
  ⟨0x040, 1, 0x0, 1, 0x0, .rws, 0x000401F4, 0x000FFFFF, .none⟩,  -- BRG_W_RETRY
  ⟨0x100, 8, 0x40, 1, 0x0, .rws, 0x00000000, 0x00000F1F, .none⟩,  -- BRG_WINk_CTRL
  ⟨0x104, 8, 0x40, 1, 0x0, .rw, 0x00000000, 0xFFFFFFFC, .none⟩,  -- BRG_WINk_BASE
  ⟨0x108, 8, 0x40, 1, 0x0, .rw, 0x00000000, 0x00000107, .none⟩,  -- BRG_WINk_LOCK
  ⟨0x10C, 8, 0x40, 1, 0x0, .ro, 0x00000000, 0x0000037F, .none⟩,  -- BRG_WINk_STATUS
  ⟨0x110, 8, 0x40, 1, 0x0, .ro, 0x00000000, 0xFFFFFFFF, .none⟩,  -- BRG_WINk_ERR_ADDR
  ⟨0x114, 8, 0x40, 1, 0x0, .ro, 0x00000000, 0x000000FF, .none⟩,  -- BRG_WINk_ERR_CODE
  ⟨0x118, 8, 0x40, 1, 0x0, .ro, 0x00000000, 0xFFFFFFFF, .none⟩,  -- BRG_WINk_DATA_ERR
  ⟨0x11C, 8, 0x40, 1, 0x0, .ro, 0x00000000, 0xFFFFFFFF, .none⟩  -- BRG_WINk_RETRIES
  ]

/-- The block registers of the accord page kind, in the order of the spec's tables. -/
def RegMap.rowsAccord : List RegRow := [
  ⟨0x040, 1, 0x0, 1, 0x0, .rws, 0x00000000, 0x000001FF, .none⟩,  -- BRG_ACC_CTRL
  ⟨0x044, 1, 0x0, 1, 0x0, .rws, 0x00000000, 0xFFFFFFFF, .none⟩,  -- BRG_ACC_GROUP
  ⟨0x048, 1, 0x0, 1, 0x0, .rws, 0x00000000, 0x000000FF, .none⟩,  -- BRG_ACC_VERTICES
  ⟨0x04C, 1, 0x0, 1, 0x0, .rws, 0x00000000, 0x00003FFF, .none⟩,  -- BRG_ACC_SCOPE
  ⟨0x050, 1, 0x0, 1, 0x0, .rws, 0x00000000, 0x000001FF, .none⟩,  -- BRG_ACC_KEYSLOT
  ⟨0x054, 1, 0x0, 1, 0x0, .ro, 0x00000000, 0x00FFFF3F, .none⟩,  -- BRG_ACC_STATUS
  ⟨0x058, 1, 0x0, 1, 0x0, .ro, 0x00000000, 0x0000FFFF, .none⟩,  -- BRG_ACC_LEVEL
  ⟨0x05C, 1, 0x0, 1, 0x0, .ro, 0x00000000, 0x000000FF, .none⟩,  -- BRG_ACC_KEEPER
  ⟨0x060, 4, 0x4, 1, 0x0, .ro, 0x00000000, 0xFFFFFFFF, .none⟩,  -- BRG_ACC_DIGESTk
  ⟨0x070, 1, 0x0, 1, 0x0, .ro, 0x00000000, 0xFFFFFFFF, .none⟩,  -- BRG_ACC_FOREIGN
  ⟨0x080, 8, 0x20, 1, 0x0, .ro, 0x00000000, 0xFFFFFFFF, .lo⟩,  -- BRG_PEERr_ID_LO
  ⟨0x084, 8, 0x20, 1, 0x0, .ro, 0x00000000, 0xFFFFFFFF, .hi⟩,  -- BRG_PEERr_ID_HI
  ⟨0x088, 8, 0x20, 1, 0x0, .ro, 0x00000000, 0xFFFFFFFF, .none⟩,  -- BRG_PEERr_EPOCH
  ⟨0x08C, 8, 0x20, 1, 0x0, .ro, 0x00000000, 0xFFFFFFFF, .none⟩,  -- BRG_PEERr_VERSION
  ⟨0x090, 8, 0x20, 1, 0x0, .ro, 0x00000000, 0x00007F3F, .none⟩,  -- BRG_PEERr_STATE
  ⟨0x094, 8, 0x20, 1, 0x0, .ro, 0x00000000, 0xFFFFFFFF, .none⟩,  -- BRG_PEERr_OFFSET
  ⟨0x098, 8, 0x20, 1, 0x0, .ro, 0x00000000, 0x0000FFFF, .none⟩  -- BRG_PEERr_FEATURE
  ]

/-- The block registers of the aperture page kind, in the order of the spec's tables. -/
def RegMap.rowsAperture : List RegRow := [
  ]

/-- The block registers of the cip page kind, in the order of the spec's tables. -/
def RegMap.rowsCip : List RegRow := [
  ⟨0x040, 1, 0x0, 1, 0x0, .ro, 0x0000020D, 0x0000033F, .none⟩,  -- CIP_STATUS
  ⟨0x044, 1, 0x0, 1, 0x0, .rw, 0x00000064, 0x0000FFFF, .none⟩,  -- CIP_KAT_PERIOD
  ⟨0x048, 1, 0x0, 1, 0x0, .rw, 0x00000000, 0xFFFFFFFF, .lo⟩,  -- CIP_NONCE_THRESH_LO
  ⟨0x04C, 1, 0x0, 1, 0x0, .rw, 0xFFFF0000, 0xFFFFFFFF, .hi⟩,  -- CIP_NONCE_THRESH_HI
  ⟨0x050, 1, 0x0, 1, 0x0, .ro, 0x00000000, 0xFFFFFFFF, .none⟩,  -- CIP_REQUESTS
  ⟨0x054, 1, 0x0, 1, 0x0, .ro, 0x00000000, 0xFFFFFFFF, .none⟩,  -- CIP_RESTARTS
  ⟨0x058, 1, 0x0, 1, 0x0, .ro, 0x00000000, 0xFFFFFFFF, .none⟩,  -- CIP_KS_CORR
  ⟨0x05C, 1, 0x0, 1, 0x0, .ro, 0x00000000, 0xFFFFFFFF, .none⟩,  -- CIP_KS_LOST
  ⟨0x080, 1, 0x0, 1, 0x0, .rw, 0x00000000, 0x000001FF, .none⟩,  -- CIP_KS_INDEX
  ⟨0x084, 1, 0x0, 1, 0x0, .rws, 0x00000000, 0xFFFF000F, .none⟩  -- CIP_KS_ACCESS
  ]

/-- The block registers of the chk page kind, in the order of the spec's tables. -/
def RegMap.rowsChk : List RegRow := [
  ⟨0x100, 8, 0x40, 1, 0x0, .rws, 0x00002000, 0x00077F1F, .none⟩,  -- CHK_Uu_CTRL
  ⟨0x104, 8, 0x40, 1, 0x0, .rws, 0x00000000, 0xFFFFFFFF, .lo⟩,  -- CHK_Uu_POLY_LO
  ⟨0x108, 8, 0x40, 1, 0x0, .rws, 0x00000000, 0xFFFFFFFF, .hi⟩,  -- CHK_Uu_POLY_HI
  ⟨0x10C, 8, 0x40, 1, 0x0, .rws, 0x00000000, 0xFFFFFFFF, .lo⟩,  -- CHK_Uu_INIT_LO
  ⟨0x110, 8, 0x40, 1, 0x0, .rws, 0x00000000, 0xFFFFFFFF, .hi⟩,  -- CHK_Uu_INIT_HI
  ⟨0x114, 8, 0x40, 1, 0x0, .rws, 0x00000000, 0xFFFFFFFF, .lo⟩,  -- CHK_Uu_XOROUT_LO
  ⟨0x118, 8, 0x40, 1, 0x0, .rws, 0x00000000, 0xFFFFFFFF, .hi⟩,  -- CHK_Uu_XOROUT_HI
  ⟨0x11C, 8, 0x40, 1, 0x0, .rw, 0x00000000, 0xFFFFFFFF, .lo⟩,  -- CHK_Uu_RUN_LO
  ⟨0x120, 8, 0x40, 1, 0x0, .rw, 0x00000000, 0xFFFFFFFF, .hi⟩,  -- CHK_Uu_RUN_HI
  ⟨0x124, 8, 0x40, 1, 0x0, .rw, 0x00000000, 0xFFFFFFFF, .lo⟩,  -- CHK_Uu_EXPECT_LO
  ⟨0x128, 8, 0x40, 1, 0x0, .rw, 0x00000000, 0xFFFFFFFF, .hi⟩,  -- CHK_Uu_EXPECT_HI
  ⟨0x12C, 8, 0x40, 1, 0x0, .ro, 0x00000000, 0xFFFFFFFF, .lo⟩,  -- CHK_Uu_RESULT_LO
  ⟨0x130, 8, 0x40, 1, 0x0, .ro, 0x00000000, 0xFFFFFFFF, .hi⟩,  -- CHK_Uu_RESULT_HI
  ⟨0x134, 8, 0x40, 1, 0x0, .ro, 0x00000000, 0x0000FF0F, .none⟩,  -- CHK_Uu_STATUS
  ⟨0x138, 8, 0x40, 1, 0x0, .ro, 0x00000000, 0xFFFFFFFF, .none⟩,  -- CHK_Uu_MISMATCH
  ⟨0x13C, 8, 0x40, 1, 0x0, .wo, 0x00000000, 0x0000010F, .none⟩,  -- CHK_Uu_SCAN_CMD
  ⟨0x400, 8, 0x10, 1, 0x0, .rw, 0x00000000, 0xFFFFFFFF, .lo⟩,  -- CHK_Uu_SCAN_ADDR_LO
  ⟨0x404, 8, 0x10, 1, 0x0, .rw, 0x00000000, 0x00000007, .hi⟩,  -- CHK_Uu_SCAN_ADDR_HI
  ⟨0x408, 8, 0x10, 1, 0x0, .rw, 0x00000000, 0xFFFFFFFF, .none⟩,  -- CHK_Uu_SCAN_LEN
  ⟨0x40C, 8, 0x10, 1, 0x0, .ro, 0x00000000, 0xFFFFFFFF, .none⟩  -- CHK_Uu_SCAN_DONE
  ]

/-- The block registers of the cipReq page kind, in the order of the spec's tables. -/
def RegMap.rowsCipReq : List RegRow := [
  ⟨0x040, 8, 0x4, 1, 0x0, .rw, 0x00000000, 0xFFFFFFFF, .none⟩,  -- CIP_RQ_Dk
  ⟨0x060, 1, 0x0, 1, 0x0, .wo, 0x00000000, 0x00000001, .none⟩,  -- CIP_RQ_SUBMIT
  ⟨0x064, 1, 0x0, 1, 0x0, .ro, 0x00000000, 0x01FF01FF, .none⟩,  -- CIP_RQ_STATUS
  ⟨0x068, 1, 0x0, 1, 0x0, .ro, 0x00000000, 0x000000FF, .none⟩,  -- CIP_RQ_SUBMIT_RESULT
  ⟨0x070, 4, 0x4, 1, 0x0, .ro, 0x00000000, 0xFFFFFFFF, .none⟩,  -- CIP_CQ_W0–W3
  ⟨0x080, 1, 0x0, 1, 0x0, .wo, 0x00000000, 0x00000001, .none⟩,  -- CIP_CQ_POP
  ⟨0x084, 1, 0x0, 1, 0x0, .ro, 0x00000000, 0x00000001, .none⟩,  -- CIP_CQ_STATUS
  ⟨0x088, 1, 0x0, 1, 0x0, .ro, 0x00000000, 0xFFFFFFFF, .none⟩,  -- CIP_RQ_DUPS
  ⟨0x08C, 1, 0x0, 1, 0x0, .ro, 0x00000000, 0xFFFFFFFF, .none⟩,  -- CIP_RQ_REFUSED
  ⟨0x090, 1, 0x0, 1, 0x0, .rw, 0x00000000, 0x0000003F, .none⟩,  -- CIP_DATA_BASE
  ⟨0x0A0, 1, 0x0, 1, 0x0, .rw, 0x00000000, 0x000001FF, .none⟩,  -- CIP_KS_SEL
  ⟨0x0A4, 1, 0x0, 1, 0x0, .ro, 0x00000000, 0x00001FFF, .none⟩,  -- CIP_KS_VIEW
  ⟨0x0A8, 1, 0x0, 1, 0x0, .ro, 0x00000000, 0xFFFFFFFF, .none⟩,  -- CIP_KS_VER_CUR
  ⟨0x0AC, 1, 0x0, 1, 0x0, .ro, 0x00000000, 0xFFFFFFFF, .none⟩,  -- CIP_KS_VER_NEXT
  ⟨0x0B0, 1, 0x0, 1, 0x0, .ro, 0x00000000, 0xFFFFFFFF, .lo⟩,  -- CIP_KS_COUNT_LO
  ⟨0x0B4, 1, 0x0, 1, 0x0, .ro, 0x00000000, 0xFFFFFFFF, .hi⟩,  -- CIP_KS_COUNT_HI
  ⟨0x0B8, 1, 0x0, 1, 0x0, .ro, 0x00000000, 0xFFFFFFFF, .none⟩,  -- CIP_KS_HITS_CUR
  ⟨0x0BC, 1, 0x0, 1, 0x0, .ro, 0x00000000, 0xFFFFFFFF, .none⟩,  -- CIP_KS_HITS_NEXT
  ⟨0x0C0, 1, 0x0, 1, 0x0, .wo, 0x00000000, 0x00000003, .none⟩,  -- CIP_KS_CMD
  ⟨0x0C4, 1, 0x0, 1, 0x0, .ro, 0x00000000, 0x000000FF, .none⟩,  -- CIP_KS_CMD_RESULT
  ⟨0x400, 768, 0x4, 1, 0x0, .rw, 0x00000000, 0xFFFFFFFF, .none⟩  -- CIP_DATA_WIN
  ]

/-- The block registers of the jrn page kind, in the order of the spec's tables. -/
def RegMap.rowsJrn : List RegRow := [
  ⟨0x040, 1, 0x0, 1, 0x0, .rw, 0x00000000, 0x00000001, .none⟩,  -- JRN_CTRL
  ⟨0x044, 1, 0x0, 1, 0x0, .ro, 0x00000000, 0x0000000F, .none⟩,  -- JRN_STATUS
  ⟨0x048, 1, 0x0, 1, 0x0, .ro, 0x00000000, 0xFFFFFFFF, .lo⟩,  -- JRN_WR_INDEX_LO
  ⟨0x04C, 1, 0x0, 1, 0x0, .ro, 0x00000000, 0xFFFFFFFF, .hi⟩,  -- JRN_WR_INDEX_HI
  ⟨0x050, 1, 0x0, 1, 0x0, .ro, 0x00000000, 0xFFFFFFFF, .lo⟩,  -- JRN_OLDEST_LO
  ⟨0x054, 1, 0x0, 1, 0x0, .ro, 0x00000000, 0xFFFFFFFF, .hi⟩,  -- JRN_OLDEST_HI
  ⟨0x058, 1, 0x0, 1, 0x0, .rw, 0x00000000, 0xFFFFFFFF, .lo⟩,  -- JRN_PROTECT_LO
  ⟨0x05C, 1, 0x0, 1, 0x0, .rw, 0x00000000, 0xFFFFFFFF, .hi⟩,  -- JRN_PROTECT_HI
  ⟨0x060, 1, 0x0, 1, 0x0, .ro, 0x18000000, 0xFFFFFFFF, .none⟩,  -- JRN_CAPACITY
  ⟨0x064, 1, 0x0, 1, 0x0, .rw, 0x14000000, 0xFFFFFFFF, .none⟩,  -- JRN_FILL_THRESH
  ⟨0x068, 1, 0x0, 1, 0x0, .ro, 0x00000000, 0xFFFFFFFF, .none⟩,  -- JRN_STAGE_DROP
  ⟨0x06C, 1, 0x0, 1, 0x0, .ro, 0x00000000, 0xFFFFFFFF, .none⟩,  -- JRN_POLICY_DROP
  ⟨0x070, 1, 0x0, 1, 0x0, .ro, 0x00000000, 0xFFFFFFFF, .none⟩,  -- JRN_COALESCED
  ⟨0x074, 1, 0x0, 1, 0x0, .ro, 0x00000000, 0xFFFFFFFF, .none⟩,  -- JRN_CORRUPT
  ⟨0x078, 1, 0x0, 1, 0x0, .ro, 0x00000000, 0xFFFFFFFF, .none⟩,  -- JRN_DRAM_CORR
  ⟨0x07C, 1, 0x0, 1, 0x0, .ro, 0x00000000, 0xFFFFFFFF, .none⟩,  -- JRN_DRAM_DBE
  ⟨0x080, 1, 0x0, 1, 0x0, .rw, 0x00000000, 0xFFFFFFFF, .lo⟩,  -- JRN_RD_POS_LO
  ⟨0x084, 1, 0x0, 1, 0x0, .rw, 0x00000000, 0xFFFFFFFF, .hi⟩,  -- JRN_RD_POS_HI
  ⟨0x088, 1, 0x0, 1, 0x0, .wo, 0x00000000, 0x0000007F, .none⟩,  -- JRN_RD_REQ
  ⟨0x08C, 1, 0x0, 1, 0x0, .ro, 0x00000000, 0x00FF7F01, .none⟩,  -- JRN_RD_STATUS
  ⟨0x090, 1, 0x0, 1, 0x0, .ro, 0x00000000, 0xFFFFFFFF, .none⟩,  -- JRN_XING_DISCARD
  ⟨0x100, 1, 0x0, 1, 0x0, .rws, 0x00000000, 0xFFFF7F73, .none⟩,  -- JRN_EXP_CTRL
  ⟨0x104, 1, 0x0, 1, 0x0, .rws, 0x00000001, 0x0000FFFF, .none⟩,  -- JRN_EXP_FACETS
  ⟨0x108, 1, 0x0, 1, 0x0, .rws, 0x00000000, 0xFFFFFFFF, .lo⟩,  -- JRN_EXP_DMAC_LO
  ⟨0x10C, 1, 0x0, 1, 0x0, .rws, 0x00000000, 0x0000FFFF, .hi⟩,  -- JRN_EXP_DMAC_HI
  ⟨0x110, 1, 0x0, 1, 0x0, .rws, 0x88B60000, 0xFFFFFFFF, .none⟩,  -- JRN_EXP_VLAN
  ⟨0x114, 1, 0x0, 1, 0x0, .rws, 0x00000064, 0x000001FF, .none⟩,  -- JRN_EXP_W
  ⟨0x118, 1, 0x0, 1, 0x0, .rws, 0x00640040, 0x03FF007F, .none⟩,  -- JRN_EXP_PACK
  ⟨0x11C, 1, 0x0, 1, 0x0, .rws, 0x00000000, 0xFFFFFFFF, .lo⟩,  -- JRN_EXP_START_LO
  ⟨0x120, 1, 0x0, 1, 0x0, .rws, 0x00000000, 0xFFFFFFFF, .hi⟩,  -- JRN_EXP_START_HI
  ⟨0x124, 1, 0x0, 1, 0x0, .rws, 0x00000000, 0xFFFFFFFF, .lo⟩,  -- JRN_EXP_END_LO
  ⟨0x128, 1, 0x0, 1, 0x0, .rws, 0x00000000, 0xFFFFFFFF, .hi⟩,  -- JRN_EXP_END_HI
  ⟨0x12C, 1, 0x0, 1, 0x0, .ro, 0x00000000, 0xFFFFFFFF, .lo⟩,  -- JRN_EXP_CURSOR_LO
  ⟨0x130, 1, 0x0, 1, 0x0, .ro, 0x00000000, 0xFFFFFFFF, .hi⟩,  -- JRN_EXP_CURSOR_HI
  ⟨0x134, 1, 0x0, 1, 0x0, .ro, 0x00000000, 0xFFFFFFFF, .none⟩,  -- JRN_EXP_FRAMES
  ⟨0x138, 1, 0x0, 1, 0x0, .ro, 0x00000000, 0xFFFFFFFF, .none⟩,  -- JRN_EXP_LATE
  ⟨0x13C, 1, 0x0, 1, 0x0, .ro, 0x00000000, 0xFFFFFFFF, .none⟩,  -- JRN_EXP_EARLY
  ⟨0x140, 1, 0x0, 1, 0x0, .ro, 0x00000000, 0xFFFFFFFF, .none⟩,  -- JRN_EXP_GAP
  ⟨0x800, 512, 0x4, 1, 0x0, .ro, 0x00000000, 0xFFFFFFFF, .none⟩  -- JRN_RD_WIN
  ]

/-- The block registers of the rng page kind, in the order of the spec's tables. -/
def RegMap.rowsRng : List RegRow := [
  ⟨0x040, 1, 0x0, 1, 0x0, .rw, 0x20000000, 0xFFFFFFFF, .lo⟩,  -- RNG_DW_ADDR_LO
  ⟨0x044, 1, 0x0, 1, 0x0, .rw, 0x00000003, 0x00000007, .hi⟩,  -- RNG_DW_ADDR_HI
  ⟨0x100, 8, 0x20, 1, 0x0, .rws, 0x00000000, 0x00000001, .none⟩,  -- CAP_r_CTRL
  ⟨0x104, 8, 0x20, 1, 0x0, .rws, 0x00000000, 0xFFFFFFFF, .lo⟩,  -- CAP_r_BASE_LO
  ⟨0x108, 8, 0x20, 1, 0x0, .rws, 0x00000000, 0x00000007, .hi⟩,  -- CAP_r_BASE_HI
  ⟨0x10C, 8, 0x20, 1, 0x0, .rws, 0x00000010, 0x0001FFFF, .none⟩,  -- CAP_r_LEN
  ⟨0x110, 8, 0x20, 1, 0x0, .ro, 0x00000000, 0x0000FFFF, .none⟩,  -- CAP_r_HEAD
  ⟨0x114, 8, 0x20, 1, 0x0, .rw, 0x00000000, 0x0000FFFF, .none⟩,  -- CAP_r_TAIL
  ⟨0x118, 8, 0x20, 1, 0x0, .ro, 0x00000000, 0xFFFFFFFF, .none⟩,  -- CAP_r_NOBUF
  ⟨0x11C, 8, 0x20, 1, 0x0, .ro, 0x00000000, 0xFFFFFFFF, .none⟩,  -- CAP_r_FRAMES
  ⟨0x400, 4, 0x40, 1, 0x0, .rw, 0x00000000, 0x00000003, .none⟩,  -- INJ_k_CTRL
  ⟨0x404, 4, 0x40, 1, 0x0, .rw, 0x00000000, 0x0000077F, .none⟩,  -- INJ_k_DEST
  ⟨0x408, 4, 0x40, 1, 0x0, .wo, 0x00000000, 0xFFFFFFFF, .none⟩,  -- INJ_k_DATA
  ⟨0x40C, 4, 0x40, 1, 0x0, .wo, 0x00000000, 0x00000007, .none⟩,  -- INJ_k_END
  ⟨0x410, 4, 0x40, 1, 0x0, .wo, 0x00000000, 0x0000001F, .none⟩,  -- INJ_k_CMD
  ⟨0x414, 4, 0x40, 1, 0x0, .ro, 0x00001000, 0x00031FFF, .none⟩,  -- INJ_k_STATUS
  ⟨0x418, 4, 0x40, 1, 0x0, .w1c, 0x00000000, 0x00000003, .none⟩,  -- INJ_k_FLAGS
  ⟨0x41C, 4, 0x40, 1, 0x0, .ro, 0x00000000, 0xFFFFFFFF, .none⟩,  -- INJ_k_DROPPED
  ⟨0x800, 512, 0x4, 1, 0x0, .rw, 0x00000000, 0xFFFFFFFF, .none⟩  -- RNG_DW
  ]

/-- The block registers of the wak page kind, in the order of the spec's tables. -/
def RegMap.rowsWak : List RegRow := [
  ⟨0x040, 1, 0x0, 1, 0x0, .rws, 0x00000000, 0x00000007, .none⟩,  -- WAK_CTRL
  ⟨0x044, 1, 0x0, 1, 0x0, .wo, 0x00000000, 0x00000013, .none⟩,  -- WAK_CMD
  ⟨0x048, 1, 0x0, 1, 0x0, .ro, 0x00000000, 0x0000F107, .none⟩,  -- WAK_STATUS
  ⟨0x04C, 1, 0x0, 1, 0x0, .rws, 0x00000000, 0xFFFFFFFF, .none⟩,  -- WAK_DOZE_SET_LO
  ⟨0x050, 1, 0x0, 1, 0x0, .rws, 0x00000000, 0xFFFFFFFF, .none⟩,  -- WAK_DOZE_SET_MID
  ⟨0x054, 1, 0x0, 1, 0x0, .rws, 0x00000000, 0x000FFFFF, .none⟩,  -- WAK_DOZE_SET_HI
  ⟨0x058, 3, 0x4, 1, 0x0, .ro, 0x00000000, 0xFFFFFFFF, .none⟩,  -- WAK_ASLEEP_LO/MID/HI
  ⟨0x064, 1, 0x0, 1, 0x0, .rws, 0x000003E8, 0x0000FFFF, .none⟩,  -- WAK_ROUND_PERIOD
  ⟨0x068, 1, 0x0, 1, 0x0, .rws, 0x00000014, 0x0000FFFF, .none⟩,  -- WAK_PM_TIMEOUT
  ⟨0x06C, 1, 0x0, 1, 0x0, .rws, 0x00000019, 0x0000007F, .none⟩,  -- WAK_DRAIN_MAX
  ⟨0x070, 1, 0x0, 1, 0x0, .rws, 0x00000000, 0xFFFFFFFF, .none⟩,  -- WAK_TIMER
  ⟨0x074, 1, 0x0, 1, 0x0, .rw, 0x00000000, 0x0000FFFF, .none⟩,  -- WAK_FACET_KEEP
  ⟨0x078, 1, 0x0, 1, 0x0, .ro, 0x00000000, 0xFFFFFFFF, .none⟩,  -- WAK_KEEPERS_PM
  ⟨0x07C, 1, 0x0, 1, 0x0, .ro, 0x00000000, 0x01FFFFFF, .none⟩,  -- WAK_KEEPERS_OTHER
  ⟨0x080, 1, 0x0, 1, 0x0, .ro, 0x00000000, 0xFFFFFFFF, .none⟩,  -- WAK_ROUND
  ⟨0x084, 1, 0x0, 1, 0x0, .ro, 0x00000000, 0x000037FF, .none⟩,  -- WAK_CAUSE
  ⟨0x088, 1, 0x0, 1, 0x0, .ro, 0x00000000, 0xFFFFFFFF, .lo⟩,  -- WAK_CAUSE_SEC_LO
  ⟨0x08C, 1, 0x0, 1, 0x0, .ro, 0x00000000, 0xFFFFFFFF, .hi⟩,  -- WAK_CAUSE_SEC_HI
  ⟨0x090, 1, 0x0, 1, 0x0, .ro, 0x00000000, 0xFFFFFFFF, .none⟩,  -- WAK_CAUSE_NS
  ⟨0x094, 1, 0x0, 1, 0x0, .ro, 0x00000000, 0xFFFFFFFF, .none⟩,  -- WAK_SLEEPS
  ⟨0x098, 1, 0x0, 1, 0x0, .ro, 0x00000000, 0xFFFFFFFF, .none⟩,  -- WAK_ABANDONED
  ⟨0x09C, 1, 0x0, 1, 0x0, .ro, 0x00000000, 0xFFFFFFFF, .none⟩,  -- WAK_ENTRY_DROPS
  ⟨0x0A0, 1, 0x0, 1, 0x0, .ro, 0x00000000, 0xFFFF00FF, .none⟩,  -- WAK_AON_STATUS
  ⟨0x0A4, 1, 0x0, 1, 0x0, .ro, 0x00000000, 0xFFFFFFFF, .none⟩,  -- WAK_PM_REJECTS
  ⟨0x0C0, 4, 0x4, 1, 0x0, .rws, 0x00000000, 0x00001FFF, .none⟩,  -- WAK_PIN_k
  ⟨0x0D0, 4, 0x4, 1, 0x0, .rws, 0x00000000, 0x0001FF03, .none⟩,  -- WAK_WLO_k
  ⟨0x0E0, 1, 0x0, 1, 0x0, .rws, 0x00000000, 0x0FFF0FFF, .none⟩,  -- WAK_LIN_CTRL
  ⟨0x0E4, 1, 0x0, 1, 0x0, .rws, 0x00000000, 0x00000FFF, .none⟩,  -- WAK_LIN_TXWAKE
  ⟨0x100, 32, 0x20, 1, 0x0, .rws, 0x00000000, 0x000003FF, .none⟩,  -- WAK_PMm_CTRL
  ⟨0x104, 32, 0x20, 1, 0x0, .rws, 0x00000000, 0xFFFFFFFF, .lo⟩,  -- WAK_PMm_MAC_LO
  ⟨0x108, 32, 0x20, 1, 0x0, .rws, 0x00000000, 0x0000FFFF, .hi⟩,  -- WAK_PMm_MAC_HI
  ⟨0x10C, 32, 0x20, 1, 0x0, .rw, 0x00000000, 0x00000001, .none⟩,  -- WAK_PMm_EXCLUDE
  ⟨0x110, 32, 0x20, 1, 0x0, .ro, 0x00000000, 0xFFFFFF03, .none⟩,  -- WAK_PMm_STATUS
  ⟨0x114, 32, 0x20, 1, 0x0, .ro, 0x00000000, 0xFFFFFFFF, .none⟩,  -- WAK_PMm_KEEP_TIME
  ⟨0x118, 32, 0x20, 1, 0x0, .ro, 0x00000000, 0xFFFFFFFF, .none⟩  -- WAK_PMm_ROUNDS_KEPT
  ]

/-- The block registers of the wakCan page kind, in the order of the spec's tables. -/
def RegMap.rowsWakCan : List RegRow := [
  ⟨0x100, 6, 0x200, 1, 0x0, .rws, 0x00000080, 0x000007FF, .none⟩,  -- WAK_CANc_CTRL
  ⟨0x104, 6, 0x200, 1, 0x0, .ro, 0x00000000, 0x000000FF, .none⟩,  -- WAK_CANc_FEC
  ⟨0x108, 6, 0x200, 1, 0x0, .ro, 0x00000000, 0x00000033, .none⟩,  -- WAK_CANc_STATUS
  ⟨0x120, 6, 0x200, 4, 0x20, .rws, 0x00000000, 0x0000007F, .none⟩,  -- WAK_CANc_PATp_CTRL
  ⟨0x124, 6, 0x200, 4, 0x20, .rws, 0x00000000, 0xDFFFFFFF, .none⟩,  -- WAK_CANc_PATp_ID
  ⟨0x128, 6, 0x200, 4, 0x20, .rws, 0x00000000, 0x1FFFFFFF, .none⟩,  -- WAK_CANc_PATp_MASK
  ⟨0x12C, 6, 0x200, 4, 0x20, .rws, 0x00000000, 0xFFFFFFFF, .lo⟩,  -- WAK_CANc_PATp_DATA_LO
  ⟨0x130, 6, 0x200, 4, 0x20, .rws, 0x00000000, 0xFFFFFFFF, .hi⟩  -- WAK_CANc_PATp_DATA_HI
  ]

/-- The block registers of the upd page kind, in the order of the spec's tables. -/
def RegMap.rowsUpd : List RegRow := [
  ⟨0x040, 1, 0x0, 1, 0x0, .ro, 0x00000000, 0x00033733, .none⟩,  -- UPD_STATUS
  ⟨0x044, 1, 0x0, 1, 0x0, .ro, 0x00000000, 0xFFFFFFFF, .none⟩,  -- UPD_VERSION
  ⟨0x048, 1, 0x0, 1, 0x0, .ro, 0x00000000, 0xFFFFFFFF, .none⟩,  -- UPD_FEATURE
  ⟨0x04C, 1, 0x0, 1, 0x0, .ro, 0x00000000, 0x0000003F, .none⟩,  -- UPD_SVN_FLOOR
  ⟨0x050, 1, 0x0, 1, 0x0, .rws, 0x00000002, 0x0000FF03, .none⟩,  -- UPD_CTRL
  ⟨0x054, 1, 0x0, 1, 0x0, .wo, 0x00000000, 0x0000000F, .none⟩,  -- UPD_CMD
  ⟨0x058, 1, 0x0, 1, 0x0, .ro, 0x00000000, 0x0000FF01, .none⟩,  -- UPD_CMD_STATUS
  ⟨0x05C, 1, 0x0, 1, 0x0, .rw, 0x00000000, 0x03FFFFFC, .none⟩,  -- UPD_WR_OFFSET
  ⟨0x060, 1, 0x0, 1, 0x0, .wo, 0x00000000, 0xFFFFFFFF, .none⟩,  -- UPD_WR_DATA
  ⟨0x064, 1, 0x0, 1, 0x0, .ro, 0x00000000, 0xFFFFFFFF, .none⟩,  -- UPD_FALLBACKS
  ⟨0x068, 1, 0x0, 1, 0x0, .ro, 0x00000000, 0xFFFFFFFF, .none⟩,  -- UPD_SAVES
  ⟨0x070, 2, 0x8, 1, 0x0, .ro, 0x00000000, 0x0000FF07, .none⟩,  -- UPD_BANKb_STATUS
  ⟨0x074, 2, 0x8, 1, 0x0, .ro, 0x00000000, 0xFFFFFFFF, .none⟩,  -- UPD_BANKb_VERSION
  ⟨0x080, 2, 0x8, 1, 0x0, .ro, 0x00000000, 0x0001FFFF, .none⟩,  -- UPD_SETb_STATUS
  ⟨0x084, 2, 0x8, 1, 0x0, .ro, 0x00000000, 0xFFFFFFFF, .none⟩,  -- UPD_SETb_SEQ
  ⟨0x0A0, 4, 0x4, 1, 0x0, .ro, 0x00000000, 0xFFFFFFFF, .none⟩,  -- UPD_LC_CHALLENGE0–3
  ⟨0x0B0, 1, 0x0, 1, 0x0, .wo, 0x00000000, 0x00000107, .none⟩,  -- UPD_LC_REQ
  ⟨0x0B4, 1, 0x0, 1, 0x0, .ro, 0x00000000, 0x000000FF, .none⟩,  -- UPD_LC_STATUS
  ⟨0x0B8, 1, 0x0, 1, 0x0, .ro, 0x00000000, 0x00FFFFFF, .none⟩,  -- UPD_FUSE_RAW
  ⟨0x0C0, 1, 0x0, 1, 0x0, .ro, 0x00000000, 0xFFFFFFFF, .none⟩,  -- UPD_FLOG_COUNT
  ⟨0x0C4, 1, 0x0, 1, 0x0, .rw, 0x00000000, 0x0007FFFF, .none⟩,  -- UPD_FLOG_INDEX
  ⟨0x0C8, 8, 0x4, 1, 0x0, .ro, 0x00000000, 0xFFFFFFFF, .none⟩,  -- UPD_FLOG_W0–W7
  ⟨0x0E8, 1, 0x0, 1, 0x0, .ro, 0x00000000, 0xFFFFFFFF, .none⟩,  -- UPD_FLOG_SKIPPED
  ⟨0x100, 24, 0x4, 1, 0x0, .rw, 0x00000000, 0xFFFFFFFF, .none⟩,  -- UPD_SIG_WIN
  ⟨0x200, 24, 0x4, 1, 0x0, .rws, 0x00000000, 0xFFFFFFFF, .none⟩  -- UPD_OWNER_KEY
  ]

/-- The block registers of the svc page kind, in the order of the spec's tables. -/
def RegMap.rowsSvc : List RegRow := [
  ⟨0x040, 1, 0x0, 1, 0x0, .rws, 0x00000014, 0x00000017, .none⟩,  -- SVC_CTRL
  ⟨0x044, 1, 0x0, 1, 0x0, .ro, 0x00000004, 0xFFFF0077, .none⟩,  -- SVC_STATUS
  ⟨0x048, 1, 0x0, 1, 0x0, .rws, 0x00000258, 0x0000FFFF, .none⟩,  -- SVC_UNLOCK_IDLE
  ⟨0x04C, 1, 0x0, 1, 0x0, .ro, 0x00000000, 0xFFFFFFFF, .none⟩,  -- SVC_LINES
  ⟨0x050, 1, 0x0, 1, 0x0, .ro, 0x00000000, 0xFFFFFFFF, .none⟩,  -- SVC_LINE_ERRORS
  ⟨0x054, 1, 0x0, 1, 0x0, .ro, 0x00000000, 0xFFFFFFFF, .none⟩,  -- SVC_UNLOCK_FAILS
  ⟨0x058, 1, 0x0, 1, 0x0, .wo, 0x00000000, 0x00000001, .none⟩  -- SVC_FORCE_LOCK
  ]

/-- Base address of the first page of a kind (R616). -/
def PageKind.base : PageKind → Nat
  | .sys => 0x0 | .pwr => 0x10000 | .loc => 0x20000 | .pln => 0x40000 | .buf => 0x41000 | .que => 0x42000
  | .tbl => 0x60000 | .latDisp => 0x80000 | .latProg => 0x81000 | .latCell => 0x82000 | .eth => 0xC0000
  | .ethCommon => 0xF0000 | .fieldBus => 0x100000 | .can => 0x101000 | .lin => 0x119000 | .brg => 0x120000
  | .window => 0x121000 | .accord => 0x122000 | .aperture => 0x128000 | .cip => 0x140000 | .chk => 0x142000
  | .cipReq => 0x144000 | .jrn => 0x160000 | .rng => 0x161000 | .wak => 0x180000 | .wakCan => 0x181000
  | .upd => 0x1A0000 | .svc => 0x1C0000

/-- Number of pages of a kind (R616). -/
def PageKind.count : PageKind → Nat
  | .latCell => 36 | .eth => 48 | .can => 24 | .lin => 6 | .aperture => 8 | .cipReq => 16 | .wakCan => 4
  | .sys => 1 | .pwr => 1 | .loc => 1 | .pln => 1 | .buf => 1 | .que => 1 | .tbl => 1 | .latDisp => 1 | .latProg => 1
  | .ethCommon => 1 | .fieldBus => 1 | .brg => 1 | .window => 1 | .accord => 1 | .cip => 1 | .chk => 1 | .jrn => 1
  | .rng => 1 | .wak => 1 | .upd => 1 | .svc => 1

/-- Block type of a page, PAGE_ID [31:16] (R616, R619). -/
def PageKind.blockType : PageKind → Nat
  | .sys => 0x01 | .pwr => 0x02 | .loc => 0x03 | .pln => 0x04 | .buf => 0x05 | .que => 0x06 | .tbl => 0x07
  | .latDisp => 0x08 | .latProg => 0x09 | .latCell => 0x0A | .eth => 0x0B | .ethCommon => 0x0C | .fieldBus => 0x0D
  | .can => 0x0E | .lin => 0x0F | .brg => 0x10 | .window => 0x17 | .accord => 0x18 | .aperture => 0x19 | .cip => 0x11
  | .chk => 0x1A | .cipReq => 0x1B | .jrn => 0x12 | .rng => 0x1C | .wak => 0x15 | .wakCan => 0x16 | .upd => 0x13
  | .svc => 0x14

/-- Lowest event source of a page and the number of its EV_RAW bits in use (R616, R335, R387). On a LIN page the two
channels use bits 0–6 and 8–14 (R335). -/
def PageRef.sources (p : PageRef) : Nat × Nat :=
  match p.kind with
  | .sys => (0, 32) | .pwr => (32, 16) | .loc => (48, 32) | .pln => (80, 32) | .tbl => (112, 16)
  | .latDisp => (128, 32) | .eth => (160 + p.inst, 13) | .can => (208 + p.inst, 11) | .lin => (232 + 2 * p.inst, 14)
  | .brg => (244, 12) | .cip => (256, 20) | .jrn => (276, 16) | .wak => (292, 12) | .upd => (304, 8) | .svc => (312, 8)
  | .buf => (0, 0) | .que => (0, 0) | .latProg => (0, 0) | .latCell => (0, 0) | .ethCommon => (0, 0)
  | .fieldBus => (0, 0) | .window => (0, 0) | .accord => (0, 0) | .aperture => (0, 0) | .chk => (0, 0)
  | .cipReq => (0, 0) | .rng => (0, 0) | .wakCan => (0, 0)

/-- PAGE_CAPS.SUMMARY (R616, R620). -/
def PageKind.summary : PageKind → Bool
  | .eth => true | .can => true | _ => false

/-- PAGE_CAPS.SPLIT (R616, R620). -/
def PageKind.split : PageKind → Bool
  | .lin => true | _ => false

/-- PAGE_CAPS.GATE (R620). -/
def PageKind.gate : PageKind → Bool
  | .eth => true | .can => true | .lin => true | _ => false

/-- PAGE_CAPS.QUIESCE (R620). -/
def PageKind.quiesce : PageKind → Bool
  | .eth => true | .latCell => true | _ => false

/-- PAGE_CAPS.SOFT_RESET (R620). -/
def PageKind.softReset : PageKind → Bool
  | .eth => true | .can => true | .lin => true | .latCell => true | _ => false

/-- Base address of a page. -/
def PageRef.base (p : PageRef) : Nat := p.kind.base + 0x1000 * p.inst

/-- The kinds in address order. -/
def PageKind.all : List PageKind :=
  [.sys, .pwr, .loc, .pln, .buf, .que, .tbl, .latDisp, .latProg, .latCell, .eth, .ethCommon, .fieldBus, .can, .lin,
   .brg, .window, .accord, .aperture, .cip, .chk, .cipReq, .jrn, .rng, .wak, .wakCan, .upd, .svc]

/-- The page of an address; none where R616 lists no page (R617). -/
def pageOf (addr : Nat) : Option PageRef :=
  (PageKind.all.find? (fun k => Nat.ble k.base addr && Nat.blt addr (k.base + 0x1000 * k.count))).map
    (fun k => ⟨k, (addr - k.base) / 0x1000⟩)

/-- The block registers of a page kind. -/
def PageKind.rows : PageKind → List RegRow
  | .sys => RegMap.rowsSys | .pwr => RegMap.rowsPwr | .loc => RegMap.rowsLoc | .pln => RegMap.rowsPln
  | .buf => RegMap.rowsBuf | .que => RegMap.rowsQue | .tbl => RegMap.rowsTbl | .latDisp => RegMap.rowsLatDisp
  | .latProg => RegMap.rowsLatProg | .latCell => RegMap.rowsLatCell | .eth => RegMap.rowsEth
  | .ethCommon => RegMap.rowsEthCommon | .fieldBus => RegMap.rowsFieldBus | .can => RegMap.rowsCan
  | .lin => RegMap.rowsLin | .brg => RegMap.rowsBrg | .window => RegMap.rowsWindow | .accord => RegMap.rowsAccord
  | .aperture => RegMap.rowsAperture | .cip => RegMap.rowsCip | .chk => RegMap.rowsChk | .cipReq => RegMap.rowsCipReq
  | .jrn => RegMap.rowsJrn | .rng => RegMap.rowsRng | .wak => RegMap.rowsWak | .wakCan => RegMap.rowsWakCan
  | .upd => RegMap.rowsUpd | .svc => RegMap.rowsSvc

/-- The header registers of every page (R618). EV_ROUTE bit 0 reads 1. -/
def RegMap.header : List RegRow := [
  ⟨0x000, 1, 0, 1, 0, .ro, 0, 0xFFFFFFFF, .none⟩,   -- PAGE_ID
  ⟨0x004, 1, 0, 1, 0, .ro, 0, 0xFFFFFFFF, .none⟩,   -- PAGE_CAPS
  ⟨0x008, 1, 0, 1, 0, .rws, 1, 0x00000001, .none⟩,  -- PAGE_CTRL, the staged ENABLE
  ⟨0x00C, 1, 0, 1, 0, .ro, 0, 0xFFFFFFFF, .none⟩,   -- PAGE_STATUS
  ⟨0x010, 1, 0, 1, 0, .w1c, 0, 0xFFFFFFFF, .none⟩,  -- EV_RAW
  ⟨0x014, 1, 0, 1, 0, .rw, 0, 0xFFFFFFFF, .none⟩,   -- EV_MASK
  ⟨0x018, 1, 0, 1, 0, .ro, 0, 0xFFFFFFFF, .none⟩,   -- EV_PEND
  ⟨0x01C, 1, 0, 1, 0, .rw, 1, 0x0000FFFE, .none⟩,   -- EV_ROUTE
  ⟨0x020, 1, 0, 1, 0, .ro, 0, 0xFFFFFFFF, .none⟩,   -- FAULT_CODE
  ⟨0x024, 1, 0, 1, 0, .ro, 0, 0xFFFFFFFF, .none⟩,   -- FAULT_ADDR
  ⟨0x028, 1, 0, 1, 0, .ro, 0, 0xFFFFFFFF, .none⟩,   -- FAULT_STAMP_LO
  ⟨0x02C, 1, 0, 1, 0, .ro, 0, 0xFFFFFFFF, .none⟩,   -- FAULT_STAMP_HI
  ⟨0x030, 1, 0, 1, 0, .rws, 0, 0xFFFF000F, .none⟩,  -- OWNER
  ⟨0x034, 1, 0, 1, 0, .ro, 0, 0xFFFFFFFF, .none⟩,   -- EPOCH_STAGE
  ⟨0x038, 1, 0, 1, 0, .ro, 0, 0xFFFFFFFF, .none⟩,   -- EPOCH_LIVE
  ⟨0x03C, 1, 0, 1, 0, .rw, 0, 0x0000011F, .none⟩]   -- LOCK

/-- The index pair of the register that a row holds at an offset. A row without a spacing (0) has one register in that direction, and the
division by 0 gives 0. -/
def RegRow.index (r : RegRow) (off : Nat) : Nat × Nat :=
  ((off - r.off) / r.s1, (off - r.off) % r.s1 / r.s2)

/-- Whether a row holds a register at an offset of its page. -/
def RegRow.covers (r : RegRow) (off : Nat) : Bool :=
  Nat.ble r.off off && Nat.blt ((off - r.off) / r.s1) r.n1 && Nat.blt ((off - r.off) % r.s1 / r.s2) r.n2
    && Nat.beq ((off - r.off) % r.s1 % r.s2) 0

/-- The vertices that are not assigned: 85–95 and 109–127. -/
def rsvVertex (v : Nat) : Bool := decide ((85 ≤ v ∧ v < 96) ∨ 109 ≤ v)

/-- The register row at an address; none for an address that no register map names (R617). The lane registers exist
on the pages of vertices 0–7 only (R385); PHY registers are reserved on L vertices and PLCA registers except on S vertices (R382), and
TBL_DEF_v of a vertex that is not assigned is (R221). -/
def regRow (addr : Nat) : Option RegRow :=
  match pageOf addr with
  | none => none
  | some p =>
    let off := addr % 0x1000
    if off < 0x40 then RegMap.header.find? (fun r => r.covers off)
    else if p.kind = .eth ∧ 0x800 ≤ off ∧ 8 ≤ p.inst then none
    else if p.kind = .eth ∧ (off = 0xC0 ∨ off = 0xC4) ∧ p.inst < 8 then none
    else if p.kind = .eth ∧ (off = 0xC8 ∨ off = 0xCC) ∧ p.inst < 40 then none
    else if p.kind = .tbl ∧ 0x400 ≤ off ∧ off < 0x800 ∧ rsvVertex ((off - 0x400) / 8) then none
    else p.kind.rows.find? (fun r => r.covers off)

/-- Largest MAC frame of an Ethernet vertex (R336). -/
def ethMaxframeReset (v : Nat) : Nat :=
  if v < 24 then 16000 else if v < 40 then 9216 else 2000

/-- Largest frame of a vertex at reset (R660). -/
def largestFrameReset (v : Nat) : Nat :=
  if v < 48 then ethMaxframeReset v
  else if v < 72 then 2080
  else if v < 84 then 40
  else if v = 84 then 512
  else if 96 ≤ v ∧ v ≤ 99 then 16000
  else if v = 100 then 2304
  else if 101 ≤ v ∧ v ≤ 108 then 16000
  else 0

/-- PLN_MAP_n at reset: bucket 8n + k lies on plane (8n + k) mod 5 (R129, R168). -/
def planeMapReset (n : Nat) : Nat :=
  (List.range 8).foldl (fun a k => a + ((8 * n + k) % 5) * 2 ^ (4 * k)) 0

/-- The reset values that the register tables give by vertex, bucket or binding rather than as one number. -/
def specialReset (p : PageRef) (off sel : Nat) : Option Nat :=
  match p.kind with
  | .sys =>
    if 0x300 ≤ off ∧ off < 0x300 + 4 * 85 then
      let v := (off - 0x300) / 4
      some (if v < 48 then 0x10 else if v = 84 then 0xF else 0)
    else none
  | .pln => if 0x200 ≤ off then some (planeMapReset ((off - 0x200) / 4)) else none
  | .que =>
    if 0x200 ≤ off ∧ off < 0x300 ∧ (off - 0x200) % 0x20 = 4 then some (largestFrameReset sel) else none
  | .eth =>
    if off = 0x50 then some (ethMaxframeReset p.inst)
    else if off = 0xC0 then
      some (if p.inst < 8 then 0 else if p.inst < 24 then 0x7F2 else if p.inst < 40 then 0x61A else 0)
    else none
  | .aperture => if off < 0x40 then some 0 else none
  | _ => none

/-- What the register of a key (address + 2^24 × selector) holds at reset. -/
def resetOf (key : Nat) : W32 :=
  let addr := key % 2 ^ 24
  match pageOf addr with
  | none => 0
  | some p =>
    match specialReset p (addr % 0x1000) (key / 2 ^ 24) with
    | some n => BitVec.ofNat 32 n
    | none =>
      match regRow addr with
      | some r => BitVec.ofNat 32 r.reset
      | none => 0

/-- The registers that are stored: a sparse map of keys to words; an unlisted register holds its reset value. -/
abbrev RegFile := SMap W32

/-- The word of a register. -/
def RegFile.read (m : RegFile) (key : Nat) : W32 := SMap.get (resetOf key) m key

/-- Writes a register word, keeping the canonical form. -/
def RegFile.write (m : RegFile) (key : Nat) (v : W32) : RegFile := SMap.put (resetOf key) m key v

/-- The canonical form of a register file. -/
def RegFile.wf (m : RegFile) : Bool := SMap.canonical resetOf m

/-- The key of a register behind a selector. -/
abbrev selKey (addr sel : Nat) : Nat := addr + 2 ^ 24 * sel

/-- The page bit of an event source: base address of its page and the EV_RAW bit that the source alone fixes (R629).
On a summary page the cause gives the bit, and on a LIN page the cause within the channel's half. -/
def srcPage (src : Nat) : Nat × Nat :=
  if src < 32 then (0x0, src)
  else if src < 48 then (0x10000, src - 32)
  else if src < 80 then (0x20000, src - 48)
  else if src < 112 then (0x40000, src - 80)
  else if src < 128 then (0x60000, src - 112)
  else if src < 160 then (0x80000, src - 128)
  else if src < 208 then (0xC0000 + 0x1000 * (src - 160), 0)
  else if src < 232 then (0x101000 + 0x1000 * (src - 208), 0)
  else if src < 244 then (0x119000 + 0x1000 * ((src - 232) / 2), 8 * ((src - 232) % 2))
  else if src < 256 then (0x120000, src - 244)
  else if src < 276 then (0x140000, src - 256)
  else if src < 292 then (0x160000, src - 276)
  else if src < 304 then (0x180000, src - 292)
  else if src < 312 then (0x1A0000, src - 304)
  else (0x1C0000, src - 312)

/-- Vertex that the event of a source carries (R19). -/
def srcVertex (src : Nat) : Nat :=
  if 128 ≤ src ∧ src < 160 then 97
  else if 244 ≤ src ∧ src < 256 then 100
  else if 256 ≤ src ∧ src < 276 then 98
  else if 276 ≤ src ∧ src < 292 then 99
  else 96

/-- Vertex that the journal record of a fault in a page carries (R19). -/
def pageVertex (p : PageKind) : Nat :=
  match p with
  | .latDisp | .latProg | .latCell => 97
  | .brg | .window | .accord | .aperture => 100
  | .cip | .chk | .cipReq => 98
  | .jrn | .rng => 99
  | _ => 96

/-- SYS_EPOCH_CTRL -/
abbrev A.sysEpochCtrl : Nat := 0x100
/-- SYS_EPOCH_STATUS -/
abbrev A.sysEpochStatus : Nat := 0x104
/-- SYS_EPOCH_AT_SEC_LO -/
abbrev A.sysEpochAtSecLo : Nat := 0x108
/-- SYS_EPOCH_AT_SEC_HI -/
abbrev A.sysEpochAtSecHi : Nat := 0x10C
/-- SYS_EPOCH_AT_NS -/
abbrev A.sysEpochAtNs : Nat := 0x110
/-- SYS_EPOCH_NEXT -/
abbrev A.sysEpochNext : Nat := 0x114
/-- SYS_EPOCH_DRAINING -/
abbrev A.sysEpochDraining : Nat := 0x118
/-- SYS_EPOCH_DRAIN_ITEMS -/
abbrev A.sysEpochDrainItems : Nat := 0x11C
/-- SYS_EPOCH_DISCARD -/
abbrev A.sysEpochDiscard : Nat := 0x120
/-- SYS_EPOCH_CONFLICT -/
abbrev A.sysEpochConflict : Nat := 0x124
/-- SYS_EPOCH_SWITCH_SEC_LO -/
abbrev A.sysEpochSwitchSecLo : Nat := 0x128
/-- SYS_EPOCH_SWITCH_SEC_HI -/
abbrev A.sysEpochSwitchSecHi : Nat := 0x12C
/-- SYS_EPOCH_SWITCH_NS -/
abbrev A.sysEpochSwitchNs : Nat := 0x130
/-- SYS_EPOCH_CONFLICT_INDEX -/
abbrev A.sysEpochConflictIndex : Nat := 0x134
/-- SYS_TAG_FREE -/
abbrev A.sysTagFree : Nat := 0x140
/-- SYS_TAG_QUOTA_n -/
abbrev A.sysTagQuota (n : Nat) : Nat := 0x180 + 0x4 * n
/-- SYS_TAG_INUSE_n -/
abbrev A.sysTagInuse (n : Nat) : Nat := 0x1C0 + 0x4 * n
/-- SYS_SVC_DELAY_n -/
abbrev A.sysSvcDelay (n : Nat) : Nat := 0x200 + 0x8 * n
/-- SYS_SVC_LOSS_n -/
abbrev A.sysSvcLoss (n : Nat) : Nat := 0x204 + 0x8 * n
/-- LOC_CTRL -/
abbrev A.locCtrl : Nat := 0x20040
/-- LOC_STATUS -/
abbrev A.locStatus : Nat := 0x20044
/-- LOC_TIME_SEC_LO -/
abbrev A.locTimeSecLo : Nat := 0x20048
/-- LOC_TIME_SEC_HI -/
abbrev A.locTimeSecHi : Nat := 0x2004C
/-- LOC_TIME_NS -/
abbrev A.locTimeNs : Nat := 0x20050
/-- LOC_TIME_FRAC -/
abbrev A.locTimeFrac : Nat := 0x20054
/-- LOC_RATE -/
abbrev A.locRate : Nat := 0x20058
/-- LOC_ADJ_SEC -/
abbrev A.locAdjSec : Nat := 0x2005C
/-- LOC_ADJ_NS -/
abbrev A.locAdjNs : Nat := 0x20060
/-- LOC_STEP_LIMIT -/
abbrev A.locStepLimit : Nat := 0x20064
/-- LOC_SLEW_MAX -/
abbrev A.locSlewMax : Nat := 0x20068
/-- LOC_BACK_LIMIT -/
abbrev A.locBackLimit : Nat := 0x2006C
/-- LOC_LOCK_THRESH -/
abbrev A.locLockThresh : Nat := 0x20070
/-- LOC_RELOCK_COUNT -/
abbrev A.locRelockCount : Nat := 0x20074
/-- LOC_OFFSET -/
abbrev A.locOffset : Nat := 0x20078
/-- LOC_HOLD_AGE -/
abbrev A.locHoldAge : Nat := 0x2007C
/-- LOC_DEV_EPOCH_LO -/
abbrev A.locDevEpochLo : Nat := 0x20080
/-- LOC_DEV_EPOCH_HI -/
abbrev A.locDevEpochHi : Nat := 0x20084
/-- LOC_DOMAIN_SEL -/
abbrev A.locDomainSel : Nat := 0x20088
/-- LOC_APEX_SRC -/
abbrev A.locApexSrc : Nat := 0x2008C
/-- LOC_STEP_COUNT -/
abbrev A.locStepCount : Nat := 0x20090
/-- LOC_DOMd_CTRL -/
abbrev A.locDomCtrl (d : Nat) : Nat := 0x20100 + 0x40 * d
/-- LOC_DOMd_PRIO -/
abbrev A.locDomPrio (d : Nat) : Nat := 0x20104 + 0x40 * d
/-- LOC_DOMd_PORTS_LO -/
abbrev A.locDomPortsLo (d : Nat) : Nat := 0x20108 + 0x40 * d
/-- LOC_DOMd_PORTS_HI -/
abbrev A.locDomPortsHi (d : Nat) : Nat := 0x2010C + 0x40 * d
/-- LOC_DOMd_INTERVALS -/
abbrev A.locDomIntervals (d : Nat) : Nat := 0x20110 + 0x40 * d
/-- LOC_DOMd_STATE -/
abbrev A.locDomState (d : Nat) : Nat := 0x20114 + 0x40 * d
/-- LOC_DOMd_GM_LO -/
abbrev A.locDomGmLo (d : Nat) : Nat := 0x20118 + 0x40 * d
/-- LOC_DOMd_GM_HI -/
abbrev A.locDomGmHi (d : Nat) : Nat := 0x2011C + 0x40 * d
/-- LOC_DOMd_OFS_LO -/
abbrev A.locDomOfsLo (d : Nat) : Nat := 0x20120 + 0x40 * d
/-- LOC_DOMd_OFS_HI -/
abbrev A.locDomOfsHi (d : Nat) : Nat := 0x20124 + 0x40 * d
/-- LOC_DOMd_RATIO -/
abbrev A.locDomRatio (d : Nat) : Nat := 0x20128 + 0x40 * d
/-- LOC_TXQn_SEL -/
abbrev A.locTxqSel (n : Nat) : Nat := 0x20400 + 0x20 * n
/-- LOC_TXQn_STATUS -/
abbrev A.locTxqStatus (n : Nat) : Nat := 0x20404 + 0x20 * n
/-- LOC_TXQn_D0–D3 -/
abbrev A.locTxqD (n i : Nat) : Nat := 0x20408 + 0x20 * n + 0x4 * i
/-- LOC_TXQn_POP -/
abbrev A.locTxqPop (n : Nat) : Nat := 0x20418 + 0x20 * n
/-- LOC_SOn_CTRL -/
abbrev A.locSoCtrl (n : Nat) : Nat := 0x20600 + 0x40 * n
/-- LOC_SOn_START_SEC_LO -/
abbrev A.locSoStartSecLo (n : Nat) : Nat := 0x20604 + 0x40 * n
/-- LOC_SOn_START_SEC_HI -/
abbrev A.locSoStartSecHi (n : Nat) : Nat := 0x20608 + 0x40 * n
/-- LOC_SOn_START_NS -/
abbrev A.locSoStartNs (n : Nat) : Nat := 0x2060C + 0x40 * n
/-- LOC_SOn_START_FRAC -/
abbrev A.locSoStartFrac (n : Nat) : Nat := 0x20610 + 0x40 * n
/-- LOC_SOn_PERIOD_NS -/
abbrev A.locSoPeriodNs (n : Nat) : Nat := 0x20614 + 0x40 * n
/-- LOC_SOn_PERIOD_FRAC -/
abbrev A.locSoPeriodFrac (n : Nat) : Nat := 0x20618 + 0x40 * n
/-- LOC_SOn_WIDTH_NS -/
abbrev A.locSoWidthNs (n : Nat) : Nat := 0x2061C + 0x40 * n
/-- LOC_SOn_WIDTH_FRAC -/
abbrev A.locSoWidthFrac (n : Nat) : Nat := 0x20620 + 0x40 * n
/-- LOC_SOn_STATUS -/
abbrev A.locSoStatus (n : Nat) : Nat := 0x20624 + 0x40 * n
/-- LOC_SOn_SKIP -/
abbrev A.locSoSkip (n : Nat) : Nat := 0x20628 + 0x40 * n
/-- LOC_CAPn_CTRL -/
abbrev A.locCapCtrl (n : Nat) : Nat := 0x20A00 + 0x20 * n
/-- LOC_CAPn_STATUS -/
abbrev A.locCapStatus (n : Nat) : Nat := 0x20A04 + 0x20 * n
/-- LOC_CAPn_SEC_LO -/
abbrev A.locCapSecLo (n : Nat) : Nat := 0x20A08 + 0x20 * n
/-- LOC_CAPn_SEC_HI -/
abbrev A.locCapSecHi (n : Nat) : Nat := 0x20A0C + 0x20 * n
/-- LOC_CAPn_NS -/
abbrev A.locCapNs (n : Nat) : Nat := 0x20A10 + 0x20 * n
/-- LOC_CAPn_EDGE -/
abbrev A.locCapEdge (n : Nat) : Nat := 0x20A14 + 0x20 * n
/-- LOC_CAPn_PERIOD -/
abbrev A.locCapPeriod (n : Nat) : Nat := 0x20A18 + 0x20 * n
/-- LOC_CAPn_POP -/
abbrev A.locCapPop (n : Nat) : Nat := 0x20A1C + 0x20 * n
/-- LOC_ASYM_v -/
abbrev A.locAsym (v : Nat) : Nat := 0x20C00 + 0x4 * v
/-- PLN_STATUS -/
abbrev A.plnStatus : Nat := 0x40040
/-- PLN_CYCLE_PS -/
abbrev A.plnCyclePs : Nat := 0x40044
/-- PLN_MOVE -/
abbrev A.plnMove : Nat := 0x40048
/-- PLN_MOVE_STATUS -/
abbrev A.plnMoveStatus : Nat := 0x4004C
/-- PLN_FORCE_RETIRE -/
abbrev A.plnForceRetire : Nat := 0x40050
/-- PLN_MARKER_TIMEOUTS -/
abbrev A.plnMarkerTimeouts : Nat := 0x40054
/-- PLN_Pp_XFER_LO -/
abbrev A.plnPXferLo (p : Nat) : Nat := 0x40080 + 0x10 * p
/-- PLN_Pp_XFER_HI -/
abbrev A.plnPXferHi (p : Nat) : Nat := 0x40084 + 0x10 * p
/-- PLN_Pp_REPEAT -/
abbrev A.plnPRepeat (p : Nat) : Nat := 0x40088 + 0x10 * p
/-- PLN_Pp_LOAD -/
abbrev A.plnPLoad (p : Nat) : Nat := 0x4008C + 0x10 * p
/-- PLN_MAP_n -/
abbrev A.plnMap (n : Nat) : Nat := 0x40200 + 0x4 * n
/-- BUF_CELLS_TOTAL -/
abbrev A.bufCellsTotal : Nat := 0x41040
/-- BUF_CELLS_FREE -/
abbrev A.bufCellsFree : Nat := 0x41044
/-- BUF_MAPPED_OUT -/
abbrev A.bufMappedOut : Nat := 0x41048
/-- BUF_RESERVE -/
abbrev A.bufReserve : Nat := 0x4104C
/-- BUF_USABLE -/
abbrev A.bufUsable : Nat := 0x41050
/-- BUF_DBE -/
abbrev A.bufDbe : Nat := 0x41054
/-- BUF_CORR -/
abbrev A.bufCorr : Nat := 0x41058
/-- BUF_FCAP_n -/
abbrev A.bufFcap (n : Nat) : Nat := 0x41080 + 0x4 * n
/-- BUF_FUSE_n -/
abbrev A.bufFuse (n : Nat) : Nat := 0x410C0 + 0x4 * n
/-- BUF_Fn_DROP_IN -/
abbrev A.bufFDropIn (n : Nat) : Nat := 0x41100 + 0x10 * n
/-- BUF_Fn_DROP_CAP -/
abbrev A.bufFDropCap (n : Nat) : Nat := 0x41104 + 0x10 * n
/-- BUF_Fn_DROP_Q -/
abbrev A.bufFDropQ (n : Nat) : Nat := 0x41108 + 0x10 * n
/-- BUF_Fn_AGED -/
abbrev A.bufFAged (n : Nat) : Nat := 0x4110C + 0x10 * n
/-- BUF_MC_INDEX -/
abbrev A.bufMcIndex : Nat := 0x41200
/-- BUF_MC_FLAGS -/
abbrev A.bufMcFlags : Nat := 0x41204
/-- BUF_MC_MASKk -/
abbrev A.bufMcMask (k : Nat) : Nat := 0x41208 + 0x4 * k
/-- Q_SEL_n -/
abbrev A.qSel (n : Nat) : Nat := 0x42040 + 0x4 * n
/-- Q_IN_LIM -/
abbrev A.qInLim : Nat := 0x42100
/-- Q_IN_USE -/
abbrev A.qInUse : Nat := 0x42104
/-- Q_MODE -/
abbrev A.qMode : Nat := 0x42108
/-- Q_MERGE_W -/
abbrev A.qMergeW : Nat := 0x4210C
/-- Q_EXPRESS -/
abbrev A.qExpress : Nat := 0x42110
/-- Q_GCL_BASE_SEC_LO -/
abbrev A.qGclBaseSecLo : Nat := 0x42114
/-- Q_GCL_BASE_SEC_HI -/
abbrev A.qGclBaseSecHi : Nat := 0x42118
/-- Q_GCL_BASE_NS -/
abbrev A.qGclBaseNs : Nat := 0x4211C
/-- Q_GCL_CYCLE_NS -/
abbrev A.qGclCycleNs : Nat := 0x42120
/-- Q_GCL_LEN -/
abbrev A.qGclLen : Nat := 0x42124
/-- Q_GCL_INDEX -/
abbrev A.qGclIndex : Nat := 0x42128
/-- Q_GCL_OP -/
abbrev A.qGclOp : Nat := 0x4212C
/-- Q_GCL_INTERVAL -/
abbrev A.qGclInterval : Nat := 0x42130
/-- Q_GCL_POS -/
abbrev A.qGclPos : Nat := 0x42134
/-- Q_GATES -/
abbrev A.qGates : Nat := 0x42138
/-- Q_PREEMPT_STATUS -/
abbrev A.qPreemptStatus : Nat := 0x4213C
/-- Q_LATE -/
abbrev A.qLate : Nat := 0x42140
/-- Q_EARLY -/
abbrev A.qEarly : Nat := 0x42144
/-- Q_IN_DROP -/
abbrev A.qInDrop : Nat := 0x42148
/-- Q_TOO_LONG -/
abbrev A.qTooLong : Nat := 0x4214C
/-- Q_STOMPED -/
abbrev A.qStomped : Nat := 0x42150
/-- Q_Cc_LIM -/
abbrev A.qCLim (c : Nat) : Nat := 0x42200 + 0x20 * c
/-- Q_Cc_MAXLEN -/
abbrev A.qCMaxlen (c : Nat) : Nat := 0x42204 + 0x20 * c
/-- Q_Cc_CBS -/
abbrev A.qCCbs (c : Nat) : Nat := 0x42208 + 0x20 * c
/-- Q_Cc_IDLESLOPE -/
abbrev A.qCIdleslope (c : Nat) : Nat := 0x4220C + 0x20 * c
/-- Q_Cc_CEILING -/
abbrev A.qCCeiling (c : Nat) : Nat := 0x42210 + 0x20 * c
/-- Q_Cc_USE -/
abbrev A.qCUse (c : Nat) : Nat := 0x42214 + 0x20 * c
/-- Q_Cc_DROP -/
abbrev A.qCDrop (c : Nat) : Nat := 0x42218 + 0x20 * c
/-- Q_Cc_HOLD -/
abbrev A.qCHold (c : Nat) : Nat := 0x4221C + 0x20 * c
/-- Q_Cc_AGED -/
abbrev A.qCAged (c : Nat) : Nat := 0x42300 + 0x4 * c
/-- TBL_STATUS -/
abbrev A.tblStatus : Nat := 0x60040
/-- TBL_HASH_SEED -/
abbrev A.tblHashSeed : Nat := 0x60044
/-- TBL_REHASH_STATUS -/
abbrev A.tblRehashStatus : Nat := 0x60048
/-- TBL_AGE_PERIOD -/
abbrev A.tblAgePeriod : Nat := 0x6004C
/-- TBL_LEARN_EN_LO -/
abbrev A.tblLearnEnLo : Nat := 0x60050
/-- TBL_LEARN_EN_HI -/
abbrev A.tblLearnEnHi : Nat := 0x60054
/-- TBL_FLUSH_DOWN_LO -/
abbrev A.tblFlushDownLo : Nat := 0x60058
/-- TBL_FLUSH_DOWN_HI -/
abbrev A.tblFlushDownHi : Nat := 0x6005C
/-- TBL_CAM_USED -/
abbrev A.tblCamUsed : Nat := 0x60060
/-- TBL_HASH_USED -/
abbrev A.tblHashUsed : Nat := 0x60064
/-- TBL_HASH_DYN -/
abbrev A.tblHashDyn : Nat := 0x60068
/-- TBL_LEARN_FAIL -/
abbrev A.tblLearnFail : Nat := 0x6006C
/-- TBL_MOVES -/
abbrev A.tblMoves : Nat := 0x60070
/-- TBL_STATIC_VIOL -/
abbrev A.tblStaticViol : Nat := 0x60074
/-- TBL_COMPARE_PASSES -/
abbrev A.tblComparePasses : Nat := 0x60078
/-- TBL_REPAIRS -/
abbrev A.tblRepairs : Nat := 0x6007C
/-- TBL_SHADOW_LOST -/
abbrev A.tblShadowLost : Nat := 0x60080
/-- TBL_DYN_DROP -/
abbrev A.tblDynDrop : Nat := 0x60084
/-- TBL_LEARN_CAP_n -/
abbrev A.tblLearnCap (n : Nat) : Nat := 0x600C0 + 0x4 * n
/-- TBL_LEARN_USE_n -/
abbrev A.tblLearnUse (n : Nat) : Nat := 0x60100 + 0x4 * n
/-- TBL_CMDp_LOCK -/
abbrev A.tblCmdLock (p : Nat) : Nat := 0x60200 + 0x80 * p
/-- TBL_CMDp_OP -/
abbrev A.tblCmdOp (p : Nat) : Nat := 0x60204 + 0x80 * p
/-- TBL_CMDp_STATUS -/
abbrev A.tblCmdStatus (p : Nat) : Nat := 0x60208 + 0x80 * p
/-- TBL_CMDp_INDEX -/
abbrev A.tblCmdIndex (p : Nat) : Nat := 0x6020C + 0x80 * p
/-- TBL_CMDp_MASK -/
abbrev A.tblCmdMask (p : Nat) : Nat := 0x60210 + 0x80 * p
/-- TBL_CMDp_AUX -/
abbrev A.tblCmdAux (p : Nat) : Nat := 0x60214 + 0x80 * p
/-- TBL_CMDp_RES_LO -/
abbrev A.tblCmdResLo (p : Nat) : Nat := 0x60218 + 0x80 * p
/-- TBL_CMDp_RES_HI -/
abbrev A.tblCmdResHi (p : Nat) : Nat := 0x6021C + 0x80 * p
/-- TBL_CMDp_KEYk -/
abbrev A.tblCmdKey (p k : Nat) : Nat := 0x60220 + 0x80 * p + 0x4 * k
/-- TBL_DEF_v_LO -/
abbrev A.tblDefLo (v : Nat) : Nat := 0x60400 + 0x8 * v
/-- TBL_DEF_v_HI -/
abbrev A.tblDefHi (v : Nat) : Nat := 0x60404 + 0x8 * v
/-- TBL_SF_INDEX -/
abbrev A.tblSfIndex : Nat := 0x60800
/-- TBL_SF_CTRL -/
abbrev A.tblSfCtrl : Nat := 0x60804
/-- TBL_SF_CIR -/
abbrev A.tblSfCir : Nat := 0x60808
/-- TBL_SF_CBS -/
abbrev A.tblSfCbs : Nat := 0x6080C
/-- TBL_SF_EIR -/
abbrev A.tblSfEir : Nat := 0x60810
/-- TBL_SF_EBS -/
abbrev A.tblSfEbs : Nat := 0x60814
/-- TBL_SF_STATUS -/
abbrev A.tblSfStatus : Nat := 0x60818
/-- TBL_SF_UNBLOCK -/
abbrev A.tblSfUnblock : Nat := 0x6081C
/-- TBL_SF_SDU_DROP -/
abbrev A.tblSfSduDrop : Nat := 0x60820
/-- TBL_SF_RED_DROP -/
abbrev A.tblSfRedDrop : Nat := 0x60824
/-- LAT_STATUS -/
abbrev A.latStatus : Nat := 0x80040
/-- LAT_CELLMAP_0 -/
abbrev A.latCellmap0 : Nat := 0x80044
/-- LAT_CELLMAP_1 -/
abbrev A.latCellmap1 : Nat := 0x80048
/-- LAT_CELLMAP_2 -/
abbrev A.latCellmap2 : Nat := 0x8004C
/-- LAT_CHECK_PERIOD -/
abbrev A.latCheckPeriod : Nat := 0x80050
/-- LAT_FORCE_RETIRE -/
abbrev A.latForceRetire : Nat := 0x80054
/-- LAT_REPLAYS -/
abbrev A.latReplays : Nat := 0x80058
/-- LAT_DATA_DEP -/
abbrev A.latDataDep : Nat := 0x8005C
/-- LAT_TRANSIENTS -/
abbrev A.latTransients : Nat := 0x80060
/-- LAT_BACKLOG -/
abbrev A.latBacklog : Nat := 0x80064
/-- LAT_CTX_FREE -/
abbrev A.latCtxFree : Nat := 0x80068
/-- LAT_ISSUE_LOAD -/
abbrev A.latIssueLoad : Nat := 0x8006C
/-- LAT_CTX_QUOTA_n -/
abbrev A.latCtxQuota (n : Nat) : Nat := 0x80080 + 0x4 * n
/-- LAT_CTX_USE_n -/
abbrev A.latCtxUse (n : Nat) : Nat := 0x800C0 + 0x4 * n
/-- LAT_ADMIT_WAIT_n -/
abbrev A.latAdmitWait (n : Nat) : Nat := 0x80100 + 0x4 * n
/-- LAT_DE_INDEX -/
abbrev A.latDeIndex : Nat := 0x80200
/-- LAT_DE_CTRL -/
abbrev A.latDeCtrl : Nat := 0x80204
/-- LAT_DE_START -/
abbrev A.latDeStart : Nat := 0x80208
/-- LAT_DE_LEN -/
abbrev A.latDeLen : Nat := 0x8020C
/-- LAT_DE_CONST -/
abbrev A.latDeConst : Nat := 0x80210
/-- LAT_DE_CONST_LEN -/
abbrev A.latDeConstLen : Nat := 0x80214
/-- LAT_DE_BUDGET -/
abbrev A.latDeBudget : Nat := 0x80218
/-- LAT_DE_OUTBYTES -/
abbrev A.latDeOutbytes : Nat := 0x8021C
/-- LAT_DE_DONE -/
abbrev A.latDeDone : Nat := 0x80220
/-- LAT_DE_DROPPED -/
abbrev A.latDeDropped : Nat := 0x80224
/-- LAT_DE_FAULTS -/
abbrev A.latDeFaults : Nat := 0x80228
/-- LAT_DE_LAST_FAULT -/
abbrev A.latDeLastFault : Nat := 0x8022C
/-- LAT_DE_INSN_MAX -/
abbrev A.latDeInsnMax : Nat := 0x80230
/-- LAT_DE_CNTk -/
abbrev A.latDeCnt (k : Nat) : Nat := 0x80240 + 0x4 * k
/-- LAT_SEG_INDEX -/
abbrev A.latSegIndex : Nat := 0x81040
/-- LAT_SEG_START -/
abbrev A.latSegStart : Nat := 0x81044
/-- LAT_SEG_LEN -/
abbrev A.latSegLen : Nat := 0x81048
/-- LAT_SEG_CTRL -/
abbrev A.latSegCtrl : Nat := 0x8104C
/-- LAT_SEG_CRC -/
abbrev A.latSegCrc : Nat := 0x81050
/-- LAT_SEG_STATUS -/
abbrev A.latSegStatus : Nat := 0x81054
/-- LAT_PS_ADDR -/
abbrev A.latPsAddr : Nat := 0x81058
/-- LAT_PS_DATA -/
abbrev A.latPsData : Nat := 0x8105C
/-- LAT_PS_FREE -/
abbrev A.latPsFree : Nat := 0x81060
/-- LAT_PS_RELOADS -/
abbrev A.latPsReloads : Nat := 0x81064
/-- LAT_Cc_STATUS -/
abbrev A.latCStatus (c : Nat) : Nat := 0x82100 + 0x1000 * (c / 2) + 0x100 * (c % 2)
/-- LAT_Cc_CTX_BUSY -/
abbrev A.latCCtxBusy (c : Nat) : Nat := 0x82104 + 0x1000 * (c / 2) + 0x100 * (c % 2)
/-- LAT_Cc_ISSUED_LO -/
abbrev A.latCIssuedLo (c : Nat) : Nat := 0x82108 + 0x1000 * (c / 2) + 0x100 * (c % 2)
/-- LAT_Cc_ISSUED_HI -/
abbrev A.latCIssuedHi (c : Nat) : Nat := 0x8210C + 0x1000 * (c / 2) + 0x100 * (c % 2)
/-- LAT_Cc_JOBS -/
abbrev A.latCJobs (c : Nat) : Nat := 0x82110 + 0x1000 * (c / 2) + 0x100 * (c % 2)
/-- LAT_Cc_CHECKS -/
abbrev A.latCChecks (c : Nat) : Nat := 0x82114 + 0x1000 * (c / 2) + 0x100 * (c % 2)
/-- LAT_Cc_ECC_CORR -/
abbrev A.latCEccCorr (c : Nat) : Nat := 0x82118 + 0x1000 * (c / 2) + 0x100 * (c % 2)
/-- LAT_Cc_FAULTS -/
abbrev A.latCFaults (c : Nat) : Nat := 0x8211C + 0x1000 * (c / 2) + 0x100 * (c % 2)
/-- LAT_Cc_CACHE_MISS -/
abbrev A.latCCacheMiss (c : Nat) : Nat := 0x82120 + 0x1000 * (c / 2) + 0x100 * (c % 2)
/-- CAN_GLB_BUSOFF -/
abbrev A.canGlbBusoff : Nat := 0x100040
/-- CAN_GLB_TRX_FAULT -/
abbrev A.canGlbTrxFault : Nat := 0x100044
/-- LIN_GLB_TRX_FAULT -/
abbrev A.linGlbTrxFault : Nat := 0x100048
/-- CAN_GLB_CLK -/
abbrev A.canGlbClk : Nat := 0x10004C
/-- CAN_CTRL -/
abbrev A.canCtrl (ch : Nat) : Nat := 0x101040 + 0x1000 * ch
/-- CAN_STATUS -/
abbrev A.canStatus (ch : Nat) : Nat := 0x101044 + 0x1000 * ch
/-- CAN_NBT -/
abbrev A.canNbt (ch : Nat) : Nat := 0x101048 + 0x1000 * ch
/-- CAN_DBT -/
abbrev A.canDbt (ch : Nat) : Nat := 0x10104C + 0x1000 * ch
/-- CAN_XBT -/
abbrev A.canXbt (ch : Nat) : Nat := 0x101050 + 0x1000 * ch
/-- CAN_XPWM -/
abbrev A.canXpwm (ch : Nat) : Nat := 0x101054 + 0x1000 * ch
/-- CAN_ERR -/
abbrev A.canErr (ch : Nat) : Nat := 0x101058 + 0x1000 * ch
/-- CAN_BOFF_DELAY -/
abbrev A.canBoffDelay (ch : Nat) : Nat := 0x10105C + 0x1000 * ch
/-- CAN_CMD -/
abbrev A.canCmd (ch : Nat) : Nat := 0x101060 + 0x1000 * ch
/-- CAN_TX_CTRL -/
abbrev A.canTxCtrl (ch : Nat) : Nat := 0x101064 + 0x1000 * ch
/-- CAN_TX_STATUS -/
abbrev A.canTxStatus (ch : Nat) : Nat := 0x101068 + 0x1000 * ch
/-- CAN_RATE_CTRL -/
abbrev A.canRateCtrl (ch : Nat) : Nat := 0x10106C + 0x1000 * ch
/-- CAN_RATE_STATUS -/
abbrev A.canRateStatus (ch : Nat) : Nat := 0x101070 + 0x1000 * ch
/-- CAN_RX_OK -/
abbrev A.canRxOk (ch : Nat) : Nat := 0x101080 + 0x1000 * ch
/-- CAN_RX_ERRORS -/
abbrev A.canRxErrors (ch : Nat) : Nat := 0x101084 + 0x1000 * ch
/-- CAN_RX_PEX -/
abbrev A.canRxPex (ch : Nat) : Nat := 0x101088 + 0x1000 * ch
/-- CAN_TX_OK -/
abbrev A.canTxOk (ch : Nat) : Nat := 0x10108C + 0x1000 * ch
/-- CAN_TX_ABANDONED -/
abbrev A.canTxAbandoned (ch : Nat) : Nat := 0x101090 + 0x1000 * ch
/-- CAN_TX_REPLACED -/
abbrev A.canTxReplaced (ch : Nat) : Nat := 0x101094 + 0x1000 * ch
/-- CAN_BUSOFF_COUNT -/
abbrev A.canBusoffCount (ch : Nat) : Nat := 0x101098 + 0x1000 * ch
/-- CAN_CANDk_NBT -/
abbrev A.canCandNbt (ch k : Nat) : Nat := 0x1010C0 + 0x1000 * ch + 0x8 * k
/-- CAN_CANDk_DBT -/
abbrev A.canCandDbt (ch k : Nat) : Nat := 0x1010C4 + 0x1000 * ch + 0x8 * k
/-- CAN_MBm_FILTER -/
abbrev A.canMbFilter (ch m : Nat) : Nat := 0x101100 + 0x1000 * ch + 0x8 * m
/-- CAN_MBm_CTRL -/
abbrev A.canMbCtrl (ch m : Nat) : Nat := 0x101104 + 0x1000 * ch + 0x8 * m
/-- CAN_MBm_STATUS -/
abbrev A.canMbStatus (ch m : Nat) : Nat := 0x101180 + 0x1000 * ch + 0x4 * m
/-- CAN_TT_CTRL -/
abbrev A.canTtCtrl (ch : Nat) : Nat := 0x101200 + 0x1000 * ch
/-- CAN_TT_REF_ID -/
abbrev A.canTtRefId (ch : Nat) : Nat := 0x101204 + 0x1000 * ch
/-- CAN_TT_REF_DATA_LO -/
abbrev A.canTtRefDataLo (ch : Nat) : Nat := 0x101208 + 0x1000 * ch
/-- CAN_TT_REF_DATA_HI -/
abbrev A.canTtRefDataHi (ch : Nat) : Nat := 0x10120C + 0x1000 * ch
/-- CAN_TT_BASE_SEC_LO -/
abbrev A.canTtBaseSecLo (ch : Nat) : Nat := 0x101210 + 0x1000 * ch
/-- CAN_TT_BASE_SEC_HI -/
abbrev A.canTtBaseSecHi (ch : Nat) : Nat := 0x101214 + 0x1000 * ch
/-- CAN_TT_BASE_NS -/
abbrev A.canTtBaseNs (ch : Nat) : Nat := 0x101218 + 0x1000 * ch
/-- CAN_TT_CYCLE_NS -/
abbrev A.canTtCycleNs (ch : Nat) : Nat := 0x10121C + 0x1000 * ch
/-- CAN_TT_STATUS -/
abbrev A.canTtStatus (ch : Nat) : Nat := 0x101220 + 0x1000 * ch
/-- CAN_TT_REF_LATE_MAX -/
abbrev A.canTtRefLateMax (ch : Nat) : Nat := 0x101224 + 0x1000 * ch
/-- CAN_TT_HOLD -/
abbrev A.canTtHold (ch : Nat) : Nat := 0x101228 + 0x1000 * ch
/-- CAN_TT_TRIGi_CTRL -/
abbrev A.canTtTrigCtrl (ch i : Nat) : Nat := 0x101400 + 0x1000 * ch + 0x10 * i
/-- CAN_TT_TRIGi_MARK -/
abbrev A.canTtTrigMark (ch i : Nat) : Nat := 0x101404 + 0x1000 * ch + 0x10 * i
/-- CAN_TT_TRIGi_LEN -/
abbrev A.canTtTrigLen (ch i : Nat) : Nat := 0x101408 + 0x1000 * ch + 0x10 * i
/-- LIN_CTRL -/
abbrev A.linCtrl (c : Nat) : Nat := 0x119100 + 0x1000 * (c / 2) + 0x400 * (c % 2)
/-- LIN_STATUS -/
abbrev A.linStatus (c : Nat) : Nat := 0x119104 + 0x1000 * (c / 2) + 0x400 * (c % 2)
/-- LIN_SCHED_SEL -/
abbrev A.linSchedSel (c : Nat) : Nat := 0x119108 + 0x1000 * (c / 2) + 0x400 * (c % 2)
/-- LIN_ERR -/
abbrev A.linErr (c : Nat) : Nat := 0x11910C + 0x1000 * (c / 2) + 0x400 * (c % 2)
/-- LIN_NO_DATA -/
abbrev A.linNoData (c : Nat) : Nat := 0x119110 + 0x1000 * (c / 2) + 0x400 * (c % 2)
/-- LIN_REPLACED -/
abbrev A.linReplaced (c : Nat) : Nat := 0x119114 + 0x1000 * (c / 2) + 0x400 * (c % 2)
/-- LIN_RX_OK -/
abbrev A.linRxOk (c : Nat) : Nat := 0x119118 + 0x1000 * (c / 2) + 0x400 * (c % 2)
/-- LIN_TX_OK -/
abbrev A.linTxOk (c : Nat) : Nat := 0x11911C + 0x1000 * (c / 2) + 0x400 * (c % 2)
/-- LIN_IDi -/
abbrev A.linId (c i : Nat) : Nat := 0x119200 + 0x1000 * (c / 2) + 0x400 * (c % 2) + 0x4 * i
/-- LIN_TAB_INDEX -/
abbrev A.linTabIndex (c : Nat) : Nat := 0x119300 + 0x1000 * (c / 2) + 0x400 * (c % 2)
/-- LIN_TAB_ENTRY -/
abbrev A.linTabEntry (c : Nat) : Nat := 0x119304 + 0x1000 * (c / 2) + 0x400 * (c % 2)
/-- LIN_TAB_SPOR -/
abbrev A.linTabSpor (c : Nat) : Nat := 0x119308 + 0x1000 * (c / 2) + 0x400 * (c % 2)
/-- BRG_STATUS -/
abbrev A.brgStatus : Nat := 0x120040
/-- BRG_NO_RULE -/
abbrev A.brgNoRule : Nat := 0x120044
/-- BRG_MALFORMED -/
abbrev A.brgMalformed : Nat := 0x120048
/-- BRG_INNER_REFUSED -/
abbrev A.brgInnerRefused : Nat := 0x12004C
/-- BRG_SEQ_GAP -/
abbrev A.brgSeqGap : Nat := 0x120050
/-- BRG_REPAIRS -/
abbrev A.brgRepairs : Nat := 0x120054
/-- BRG_SHADOW_LOST -/
abbrev A.brgShadowLost : Nat := 0x120058
/-- BRG_LIB_k -/
abbrev A.brgLib (k : Nat) : Nat := 0x120060 + 0x4 * k
/-- BRG_T_SEL -/
abbrev A.brgTSel : Nat := 0x120080
/-- BRG_T_FRAMES -/
abbrev A.brgTFrames : Nat := 0x120084
/-- BRG_T_GAP -/
abbrev A.brgTGap : Nat := 0x120088
/-- BRG_Qd_Cc_LIM -/
abbrev A.brgQCLim (d c : Nat) : Nat := 0x120100 + 0x80 * d + 0x10 * c
/-- BRG_Qd_Cc_USE -/
abbrev A.brgQCUse (d c : Nat) : Nat := 0x120104 + 0x80 * d + 0x10 * c
/-- BRG_Qd_Cc_DROP -/
abbrev A.brgQCDrop (d c : Nat) : Nat := 0x120108 + 0x80 * d + 0x10 * c
/-- BRG_Qd_Cc_CEILING -/
abbrev A.brgQCCeiling (d c : Nat) : Nat := 0x12010C + 0x80 * d + 0x10 * c
/-- BRG_RCMDp_LOCK -/
abbrev A.brgRcmdLock (p : Nat) : Nat := 0x120200 + 0x40 * p
/-- BRG_RCMDp_OP -/
abbrev A.brgRcmdOp (p : Nat) : Nat := 0x120204 + 0x40 * p
/-- BRG_RCMDp_STATUS -/
abbrev A.brgRcmdStatus (p : Nat) : Nat := 0x120208 + 0x40 * p
/-- BRG_RCMDp_INDEX -/
abbrev A.brgRcmdIndex (p : Nat) : Nat := 0x12020C + 0x40 * p
/-- BRG_RCMDp_RECk -/
abbrev A.brgRcmdRec (p k : Nat) : Nat := 0x120210 + 0x40 * p + 0x4 * k
/-- ETH_CTRL -/
abbrev A.ethCtrl (v : Nat) : Nat := 0xC0040 + 0x1000 * v
/-- ETH_STATUS -/
abbrev A.ethStatus (v : Nat) : Nat := 0xC0044 + 0x1000 * v
/-- ETH_STATION_LO -/
abbrev A.ethStationLo (v : Nat) : Nat := 0xC0048 + 0x1000 * v
/-- ETH_STATION_HI -/
abbrev A.ethStationHi (v : Nat) : Nat := 0xC004C + 0x1000 * v
/-- ETH_MAXFRAME -/
abbrev A.ethMaxframe (v : Nat) : Nat := 0xC0050 + 0x1000 * v
/-- ETH_RX_FILTER -/
abbrev A.ethRxFilter (v : Nat) : Nat := 0xC0054 + 0x1000 * v
/-- ETH_PORT_VLAN -/
abbrev A.ethPortVlan (v : Nat) : Nat := 0xC0058 + 0x1000 * v
/-- ETH_PRIO_MAP -/
abbrev A.ethPrioMap (v : Nat) : Nat := 0xC005C + 0x1000 * v
/-- ETH_UCk_LO -/
abbrev A.ethUcLo (v k : Nat) : Nat := 0xC0060 + 0x1000 * v + 0x8 * k
/-- ETH_UCk_HI -/
abbrev A.ethUcHi (v k : Nat) : Nat := 0xC0064 + 0x1000 * v + 0x8 * k
/-- ETH_GHASHk -/
abbrev A.ethGhash (v k : Nat) : Nat := 0xC0080 + 0x1000 * v + 0x4 * k
/-- ETH_PHY_CTRL -/
abbrev A.ethPhyCtrl (v : Nat) : Nat := 0xC00C0 + 0x1000 * v
/-- ETH_PHY_STATUS -/
abbrev A.ethPhyStatus (v : Nat) : Nat := 0xC00C4 + 0x1000 * v
/-- ETH_PLCA_CTRL -/
abbrev A.ethPlcaCtrl (v : Nat) : Nat := 0xC00C8 + 0x1000 * v
/-- ETH_PLCA_STATUS -/
abbrev A.ethPlcaStatus (v : Nat) : Nat := 0xC00CC + 0x1000 * v
/-- ETH_FC_CTRL -/
abbrev A.ethFcCtrl (v : Nat) : Nat := 0xC00D0 + 0x1000 * v
/-- ETH_FC_XOFF -/
abbrev A.ethFcXoff (v : Nat) : Nat := 0xC00D4 + 0x1000 * v
/-- ETH_FC_XON -/
abbrev A.ethFcXon (v : Nat) : Nat := 0xC00D8 + 0x1000 * v
/-- ETH_FC_TIMERS -/
abbrev A.ethFcTimers (v : Nat) : Nat := 0xC00DC + 0x1000 * v
/-- ETH_FC_STATUS -/
abbrev A.ethFcStatus (v : Nat) : Nat := 0xC00E0 + 0x1000 * v
/-- ETH_SEC_CTRL -/
abbrev A.ethSecCtrl (v : Nat) : Nat := 0xC0100 + 0x1000 * v
/-- ETH_SEC_REPLAY_WIN -/
abbrev A.ethSecReplayWin (v : Nat) : Nat := 0xC0104 + 0x1000 * v
/-- ETH_SEC_TX_SCI_LO -/
abbrev A.ethSecTxSciLo (v : Nat) : Nat := 0xC0108 + 0x1000 * v
/-- ETH_SEC_TX_SCI_HI -/
abbrev A.ethSecTxSciHi (v : Nat) : Nat := 0xC010C + 0x1000 * v
/-- ETH_SEC_TX_AN -/
abbrev A.ethSecTxAn (v : Nat) : Nat := 0xC0110 + 0x1000 * v
/-- ETH_SEC_STATUS -/
abbrev A.ethSecStatus (v : Nat) : Nat := 0xC0114 + 0x1000 * v
/-- ETH_SEC_PN_THRESH_LO -/
abbrev A.ethSecPnThreshLo (v : Nat) : Nat := 0xC0118 + 0x1000 * v
/-- ETH_SEC_PN_THRESH_HI -/
abbrev A.ethSecPnThreshHi (v : Nat) : Nat := 0xC011C + 0x1000 * v
/-- ETH_SEC_SA_SEL -/
abbrev A.ethSecSaSel (v : Nat) : Nat := 0xC0140 + 0x1000 * v
/-- ETH_SEC_SA_CTRL -/
abbrev A.ethSecSaCtrl (v : Nat) : Nat := 0xC0144 + 0x1000 * v
/-- ETH_SEC_SA_SSCI -/
abbrev A.ethSecSaSsci (v : Nat) : Nat := 0xC0148 + 0x1000 * v
/-- ETH_SEC_SA_SALTk -/
abbrev A.ethSecSaSalt (v k : Nat) : Nat := 0xC014C + 0x1000 * v + 0x4 * k
/-- ETH_SEC_SA_PN_LO -/
abbrev A.ethSecSaPnLo (v : Nat) : Nat := 0xC0158 + 0x1000 * v
/-- ETH_SEC_SA_PN_HI -/
abbrev A.ethSecSaPnHi (v : Nat) : Nat := 0xC015C + 0x1000 * v
/-- ETH_SEC_RXSC_SCI_LO -/
abbrev A.ethSecRxscSciLo (v : Nat) : Nat := 0xC0160 + 0x1000 * v
/-- ETH_SEC_RXSC_SCI_HI -/
abbrev A.ethSecRxscSciHi (v : Nat) : Nat := 0xC0164 + 0x1000 * v
/-- ETH_SEC_RXSC_CTRL -/
abbrev A.ethSecRxscCtrl (v : Nat) : Nat := 0xC0168 + 0x1000 * v
/-- ETH_CNTk_LO -/
abbrev A.ethCntLo (v k : Nat) : Nat := 0xC0200 + 0x1000 * v + 0x8 * k
/-- ETH_CNTk_HI -/
abbrev A.ethCntHi (v k : Nat) : Nat := 0xC0204 + 0x1000 * v + 0x8 * k
/-- ETH_LANE_CTRL -/
abbrev A.ethLaneCtrl (v : Nat) : Nat := 0xC0800 + 0x1000 * v
/-- ETH_LANE_STATUS -/
abbrev A.ethLaneStatus (v : Nat) : Nat := 0xC0804 + 0x1000 * v
/-- ETH_LANE_DEG_THRESH -/
abbrev A.ethLaneDegThresh (v : Nat) : Nat := 0xC0808 + 0x1000 * v
/-- ETH_LANE_PEER_ID_LO -/
abbrev A.ethLanePeerIdLo (v : Nat) : Nat := 0xC080C + 0x1000 * v
/-- ETH_LANE_PEER_ID_HI -/
abbrev A.ethLanePeerIdHi (v : Nat) : Nat := 0xC0810 + 0x1000 * v
/-- ETH_LANE_SKEW -/
abbrev A.ethLaneSkew (v : Nat) : Nat := 0xC0814 + 0x1000 * v
/-- ETH_FECk_LO -/
abbrev A.ethFecLo (v k : Nat) : Nat := 0xC0840 + 0x1000 * v + 0x8 * k
/-- ETH_FECk_HI -/
abbrev A.ethFecHi (v k : Nat) : Nat := 0xC0844 + 0x1000 * v + 0x8 * k
/-- ETH_BOND -/
abbrev A.ethBond : Nat := 0xF0040
/-- ETH_VT_INDEX -/
abbrev A.ethVtIndex : Nat := 0xF0044
/-- ETH_VT_FLAGS -/
abbrev A.ethVtFlags : Nat := 0xF0048
/-- ETH_VT_MEMBER_LO -/
abbrev A.ethVtMemberLo : Nat := 0xF004C
/-- ETH_VT_MEMBER_HI -/
abbrev A.ethVtMemberHi : Nat := 0xF0050
/-- ETH_VT_UNTAG_LO -/
abbrev A.ethVtUntagLo : Nat := 0xF0054
/-- ETH_VT_UNTAG_HI -/
abbrev A.ethVtUntagHi : Nat := 0xF0058
/-- JRN_CTRL -/
abbrev A.jrnCtrl : Nat := 0x160040
/-- JRN_STATUS -/
abbrev A.jrnStatus : Nat := 0x160044
/-- JRN_WR_INDEX_LO -/
abbrev A.jrnWrIndexLo : Nat := 0x160048
/-- JRN_WR_INDEX_HI -/
abbrev A.jrnWrIndexHi : Nat := 0x16004C
/-- JRN_OLDEST_LO -/
abbrev A.jrnOldestLo : Nat := 0x160050
/-- JRN_OLDEST_HI -/
abbrev A.jrnOldestHi : Nat := 0x160054
/-- JRN_PROTECT_LO -/
abbrev A.jrnProtectLo : Nat := 0x160058
/-- JRN_PROTECT_HI -/
abbrev A.jrnProtectHi : Nat := 0x16005C
/-- JRN_CAPACITY -/
abbrev A.jrnCapacity : Nat := 0x160060
/-- JRN_FILL_THRESH -/
abbrev A.jrnFillThresh : Nat := 0x160064
/-- JRN_STAGE_DROP -/
abbrev A.jrnStageDrop : Nat := 0x160068
/-- JRN_POLICY_DROP -/
abbrev A.jrnPolicyDrop : Nat := 0x16006C
/-- JRN_COALESCED -/
abbrev A.jrnCoalesced : Nat := 0x160070
/-- JRN_CORRUPT -/
abbrev A.jrnCorrupt : Nat := 0x160074
/-- JRN_DRAM_CORR -/
abbrev A.jrnDramCorr : Nat := 0x160078
/-- JRN_DRAM_DBE -/
abbrev A.jrnDramDbe : Nat := 0x16007C
/-- JRN_RD_POS_LO -/
abbrev A.jrnRdPosLo : Nat := 0x160080
/-- JRN_RD_POS_HI -/
abbrev A.jrnRdPosHi : Nat := 0x160084
/-- JRN_RD_REQ -/
abbrev A.jrnRdReq : Nat := 0x160088
/-- JRN_RD_STATUS -/
abbrev A.jrnRdStatus : Nat := 0x16008C
/-- JRN_XING_DISCARD -/
abbrev A.jrnXingDiscard : Nat := 0x160090
/-- JRN_EXP_CTRL -/
abbrev A.jrnExpCtrl : Nat := 0x160100
/-- JRN_EXP_FACETS -/
abbrev A.jrnExpFacets : Nat := 0x160104
/-- JRN_EXP_DMAC_LO -/
abbrev A.jrnExpDmacLo : Nat := 0x160108
/-- JRN_EXP_DMAC_HI -/
abbrev A.jrnExpDmacHi : Nat := 0x16010C
/-- JRN_EXP_VLAN -/
abbrev A.jrnExpVlan : Nat := 0x160110
/-- JRN_EXP_W -/
abbrev A.jrnExpW : Nat := 0x160114
/-- JRN_EXP_PACK -/
abbrev A.jrnExpPack : Nat := 0x160118
/-- JRN_EXP_START_LO -/
abbrev A.jrnExpStartLo : Nat := 0x16011C
/-- JRN_EXP_START_HI -/
abbrev A.jrnExpStartHi : Nat := 0x160120
/-- JRN_EXP_END_LO -/
abbrev A.jrnExpEndLo : Nat := 0x160124
/-- JRN_EXP_END_HI -/
abbrev A.jrnExpEndHi : Nat := 0x160128
/-- JRN_EXP_CURSOR_LO -/
abbrev A.jrnExpCursorLo : Nat := 0x16012C
/-- JRN_EXP_CURSOR_HI -/
abbrev A.jrnExpCursorHi : Nat := 0x160130
/-- JRN_EXP_FRAMES -/
abbrev A.jrnExpFrames : Nat := 0x160134
/-- JRN_EXP_LATE -/
abbrev A.jrnExpLate : Nat := 0x160138
/-- JRN_EXP_EARLY -/
abbrev A.jrnExpEarly : Nat := 0x16013C
/-- JRN_EXP_GAP -/
abbrev A.jrnExpGap : Nat := 0x160140
/-- JRN_RD_WIN -/
abbrev A.jrnRdWin (i : Nat) : Nat := 0x160800 + 0x4 * i
/-- RNG_DW_ADDR_LO -/
abbrev A.rngDwAddrLo : Nat := 0x161040
/-- RNG_DW_ADDR_HI -/
abbrev A.rngDwAddrHi : Nat := 0x161044
/-- CAP_r_CTRL -/
abbrev A.capCtrl (r : Nat) : Nat := 0x161100 + 0x20 * r
/-- CAP_r_BASE_LO -/
abbrev A.capBaseLo (r : Nat) : Nat := 0x161104 + 0x20 * r
/-- CAP_r_BASE_HI -/
abbrev A.capBaseHi (r : Nat) : Nat := 0x161108 + 0x20 * r
/-- CAP_r_LEN -/
abbrev A.capLen (r : Nat) : Nat := 0x16110C + 0x20 * r
/-- CAP_r_HEAD -/
abbrev A.capHead (r : Nat) : Nat := 0x161110 + 0x20 * r
/-- CAP_r_TAIL -/
abbrev A.capTail (r : Nat) : Nat := 0x161114 + 0x20 * r
/-- CAP_r_NOBUF -/
abbrev A.capNobuf (r : Nat) : Nat := 0x161118 + 0x20 * r
/-- CAP_r_FRAMES -/
abbrev A.capFrames (r : Nat) : Nat := 0x16111C + 0x20 * r
/-- INJ_k_CTRL -/
abbrev A.injCtrl (k : Nat) : Nat := 0x161400 + 0x40 * k
/-- INJ_k_DEST -/
abbrev A.injDest (k : Nat) : Nat := 0x161404 + 0x40 * k
/-- INJ_k_DATA -/
abbrev A.injData (k : Nat) : Nat := 0x161408 + 0x40 * k
/-- INJ_k_END -/
abbrev A.injEnd (k : Nat) : Nat := 0x16140C + 0x40 * k
/-- INJ_k_CMD -/
abbrev A.injCmd (k : Nat) : Nat := 0x161410 + 0x40 * k
/-- INJ_k_STATUS -/
abbrev A.injStatus (k : Nat) : Nat := 0x161414 + 0x40 * k
/-- INJ_k_FLAGS -/
abbrev A.injFlags (k : Nat) : Nat := 0x161418 + 0x40 * k
/-- INJ_k_DROPPED -/
abbrev A.injDropped (k : Nat) : Nat := 0x16141C + 0x40 * k
/-- RNG_DW -/
abbrev A.rngDw (i : Nat) : Nat := 0x161800 + 0x4 * i
/-- SYS_ID -/
abbrev A.sysId : Nat := 0x40
/-- SYS_HW_REV -/
abbrev A.sysHwRev : Nat := 0x44
/-- SYS_SERIAL_LO -/
abbrev A.sysSerialLo : Nat := 0x48
/-- SYS_SERIAL_HI -/
abbrev A.sysSerialHi : Nat := 0x4C
/-- SYS_OCT_UDP -/
abbrev A.sysOctUdp : Nat := 0x50
/-- SYS_OCT_IPV4 -/
abbrev A.sysOctIpv4 : Nat := 0x54
/-- SYS_OCT_TC -/
abbrev A.sysOctTc : Nat := 0x58
/-- SYS_OCT_MALFORMED -/
abbrev A.sysOctMalformed : Nat := 0x5C
/-- SYS_WHOAMI -/
abbrev A.sysWhoami : Nat := 0x60
/-- SYS_STAGE_VIEW -/
abbrev A.sysStageView : Nat := 0x70
/-- SYS_BIND_v -/
abbrev A.sysBind (v : Nat) : Nat := 0x300 + 0x4 * v
/-- SYS_FACET_RESET -/
abbrev A.sysFacetReset : Nat := 0x460
/-- SYS_FACET_RESET_STATUS -/
abbrev A.sysFacetResetStatus : Nat := 0x464
/-- SYS_FLEASE_n -/
abbrev A.sysFlease (n : Nat) : Nat := 0x480 + 0x4 * n
/-- SYS_ALERT_k -/
abbrev A.sysAlert (k : Nat) : Nat := 0x4C0 + 0x4 * k
/-- SYS_EV_VIEW -/
abbrev A.sysEvView : Nat := 0x600
/-- SYS_EV_COUNT -/
abbrev A.sysEvCount : Nat := 0x610
/-- SYS_EV_W0–W3 -/
abbrev A.sysEvW (i : Nat) : Nat := 0x614 + 0x4 * i
/-- SYS_EV_POP -/
abbrev A.sysEvPop : Nat := 0x624
/-- SYS_EV_CTRL -/
abbrev A.sysEvCtrl : Nat := 0x628
/-- SYS_EV_STATUS -/
abbrev A.sysEvStatus : Nat := 0x62C
/-- SYS_EV_OVF_SEL -/
abbrev A.sysEvOvfSel : Nat := 0x630
/-- SYS_EV_OVF_COUNT -/
abbrev A.sysEvOvfCount : Nat := 0x634
/-- SYS_EV_OVF_MAPk -/
abbrev A.sysEvOvfMap (k : Nat) : Nat := 0x640 + 0x4 * k
/-- SYS_SESSs_STATE -/
abbrev A.sysSessState (s : Nat) : Nat := 0x680 + 0x10 * s
/-- SYS_SESSs_HIGH -/
abbrev A.sysSessHigh (s : Nat) : Nat := 0x684 + 0x10 * s
/-- SYS_SESSs_DUPS -/
abbrev A.sysSessDups (s : Nat) : Nat := 0x688 + 0x10 * s
/-- SYS_SESSs_STALE -/
abbrev A.sysSessStale (s : Nat) : Nat := 0x68C + 0x10 * s
/-- SYS_LEASES_HELD -/
abbrev A.sysLeasesHeld : Nat := 0x6C0
/-- BRG_W_RETRY -/
abbrev A.brgWRetry : Nat := 0x121040
/-- BRG_WINk_CTRL -/
abbrev A.brgWinCtrl (k : Nat) : Nat := 0x121100 + 0x40 * k
/-- BRG_WINk_BASE -/
abbrev A.brgWinBase (k : Nat) : Nat := 0x121104 + 0x40 * k
/-- BRG_WINk_LOCK -/
abbrev A.brgWinLock (k : Nat) : Nat := 0x121108 + 0x40 * k
/-- BRG_WINk_STATUS -/
abbrev A.brgWinStatus (k : Nat) : Nat := 0x12110C + 0x40 * k
/-- BRG_WINk_ERR_ADDR -/
abbrev A.brgWinErrAddr (k : Nat) : Nat := 0x121110 + 0x40 * k
/-- BRG_WINk_ERR_CODE -/
abbrev A.brgWinErrCode (k : Nat) : Nat := 0x121114 + 0x40 * k
/-- BRG_WINk_DATA_ERR -/
abbrev A.brgWinDataErr (k : Nat) : Nat := 0x121118 + 0x40 * k
/-- BRG_WINk_RETRIES -/
abbrev A.brgWinRetries (k : Nat) : Nat := 0x12111C + 0x40 * k
/-- BRG_ACC_CTRL -/
abbrev A.brgAccCtrl : Nat := 0x122040
/-- BRG_ACC_GROUP -/
abbrev A.brgAccGroup : Nat := 0x122044
/-- BRG_ACC_VERTICES -/
abbrev A.brgAccVertices : Nat := 0x122048
/-- BRG_ACC_SCOPE -/
abbrev A.brgAccScope : Nat := 0x12204C
/-- BRG_ACC_KEYSLOT -/
abbrev A.brgAccKeyslot : Nat := 0x122050
/-- BRG_ACC_STATUS -/
abbrev A.brgAccStatus : Nat := 0x122054
/-- BRG_ACC_LEVEL -/
abbrev A.brgAccLevel : Nat := 0x122058
/-- BRG_ACC_KEEPER -/
abbrev A.brgAccKeeper : Nat := 0x12205C
/-- BRG_ACC_DIGESTk -/
abbrev A.brgAccDigest (k : Nat) : Nat := 0x122060 + 0x4 * k
/-- BRG_ACC_FOREIGN -/
abbrev A.brgAccForeign : Nat := 0x122070
/-- BRG_PEERr_ID_LO -/
abbrev A.brgPeerIdLo (r : Nat) : Nat := 0x122080 + 0x20 * r
/-- BRG_PEERr_ID_HI -/
abbrev A.brgPeerIdHi (r : Nat) : Nat := 0x122084 + 0x20 * r
/-- BRG_PEERr_EPOCH -/
abbrev A.brgPeerEpoch (r : Nat) : Nat := 0x122088 + 0x20 * r
/-- BRG_PEERr_VERSION -/
abbrev A.brgPeerVersion (r : Nat) : Nat := 0x12208C + 0x20 * r
/-- BRG_PEERr_STATE -/
abbrev A.brgPeerState (r : Nat) : Nat := 0x122090 + 0x20 * r
/-- BRG_PEERr_OFFSET -/
abbrev A.brgPeerOffset (r : Nat) : Nat := 0x122094 + 0x20 * r
/-- BRG_PEERr_FEATURE -/
abbrev A.brgPeerFeature (r : Nat) : Nat := 0x122098 + 0x20 * r
/-- CIP_STATUS -/
abbrev A.cipStatus : Nat := 0x140040
/-- CIP_KAT_PERIOD -/
abbrev A.cipKatPeriod : Nat := 0x140044
/-- CIP_NONCE_THRESH_LO -/
abbrev A.cipNonceThreshLo : Nat := 0x140048
/-- CIP_NONCE_THRESH_HI -/
abbrev A.cipNonceThreshHi : Nat := 0x14004C
/-- CIP_REQUESTS -/
abbrev A.cipRequests : Nat := 0x140050
/-- CIP_RESTARTS -/
abbrev A.cipRestarts : Nat := 0x140054
/-- CIP_KS_CORR -/
abbrev A.cipKsCorr : Nat := 0x140058
/-- CIP_KS_LOST -/
abbrev A.cipKsLost : Nat := 0x14005C
/-- CIP_KS_INDEX -/
abbrev A.cipKsIndex : Nat := 0x140080
/-- CIP_KS_ACCESS -/
abbrev A.cipKsAccess : Nat := 0x140084
/-- CIP_RQ_Dk -/
abbrev A.cipRqD (n k : Nat) : Nat := 0x144040 + 0x1000 * n + 0x4 * k
/-- CIP_RQ_SUBMIT -/
abbrev A.cipRqSubmit (n : Nat) : Nat := 0x144060 + 0x1000 * n
/-- CIP_RQ_STATUS -/
abbrev A.cipRqStatus (n : Nat) : Nat := 0x144064 + 0x1000 * n
/-- CIP_RQ_SUBMIT_RESULT -/
abbrev A.cipRqSubmitResult (n : Nat) : Nat := 0x144068 + 0x1000 * n
/-- CIP_CQ_W0–W3 -/
abbrev A.cipCqW (n i : Nat) : Nat := 0x144070 + 0x1000 * n + 0x4 * i
/-- CIP_CQ_POP -/
abbrev A.cipCqPop (n : Nat) : Nat := 0x144080 + 0x1000 * n
/-- CIP_CQ_STATUS -/
abbrev A.cipCqStatus (n : Nat) : Nat := 0x144084 + 0x1000 * n
/-- CIP_RQ_DUPS -/
abbrev A.cipRqDups (n : Nat) : Nat := 0x144088 + 0x1000 * n
/-- CIP_RQ_REFUSED -/
abbrev A.cipRqRefused (n : Nat) : Nat := 0x14408C + 0x1000 * n
/-- CIP_DATA_BASE -/
abbrev A.cipDataBase (n : Nat) : Nat := 0x144090 + 0x1000 * n
/-- CIP_KS_SEL -/
abbrev A.cipKsSel (n : Nat) : Nat := 0x1440A0 + 0x1000 * n
/-- CIP_KS_VIEW -/
abbrev A.cipKsView (n : Nat) : Nat := 0x1440A4 + 0x1000 * n
/-- CIP_KS_VER_CUR -/
abbrev A.cipKsVerCur (n : Nat) : Nat := 0x1440A8 + 0x1000 * n
/-- CIP_KS_VER_NEXT -/
abbrev A.cipKsVerNext (n : Nat) : Nat := 0x1440AC + 0x1000 * n
/-- CIP_KS_COUNT_LO -/
abbrev A.cipKsCountLo (n : Nat) : Nat := 0x1440B0 + 0x1000 * n
/-- CIP_KS_COUNT_HI -/
abbrev A.cipKsCountHi (n : Nat) : Nat := 0x1440B4 + 0x1000 * n
/-- CIP_KS_HITS_CUR -/
abbrev A.cipKsHitsCur (n : Nat) : Nat := 0x1440B8 + 0x1000 * n
/-- CIP_KS_HITS_NEXT -/
abbrev A.cipKsHitsNext (n : Nat) : Nat := 0x1440BC + 0x1000 * n
/-- CIP_KS_CMD -/
abbrev A.cipKsCmd (n : Nat) : Nat := 0x1440C0 + 0x1000 * n
/-- CIP_KS_CMD_RESULT -/
abbrev A.cipKsCmdResult (n : Nat) : Nat := 0x1440C4 + 0x1000 * n
/-- CIP_DATA_WIN -/
abbrev A.cipDataWin (n i : Nat) : Nat := 0x144400 + 0x1000 * n + 0x4 * i
/-- CHK_Uu_CTRL -/
abbrev A.chkUCtrl (u : Nat) : Nat := 0x142100 + 0x40 * u
/-- CHK_Uu_POLY_LO -/
abbrev A.chkUPolyLo (u : Nat) : Nat := 0x142104 + 0x40 * u
/-- CHK_Uu_POLY_HI -/
abbrev A.chkUPolyHi (u : Nat) : Nat := 0x142108 + 0x40 * u
/-- CHK_Uu_INIT_LO -/
abbrev A.chkUInitLo (u : Nat) : Nat := 0x14210C + 0x40 * u
/-- CHK_Uu_INIT_HI -/
abbrev A.chkUInitHi (u : Nat) : Nat := 0x142110 + 0x40 * u
/-- CHK_Uu_XOROUT_LO -/
abbrev A.chkUXoroutLo (u : Nat) : Nat := 0x142114 + 0x40 * u
/-- CHK_Uu_XOROUT_HI -/
abbrev A.chkUXoroutHi (u : Nat) : Nat := 0x142118 + 0x40 * u
/-- CHK_Uu_RUN_LO -/
abbrev A.chkURunLo (u : Nat) : Nat := 0x14211C + 0x40 * u
/-- CHK_Uu_RUN_HI -/
abbrev A.chkURunHi (u : Nat) : Nat := 0x142120 + 0x40 * u
/-- CHK_Uu_EXPECT_LO -/
abbrev A.chkUExpectLo (u : Nat) : Nat := 0x142124 + 0x40 * u
/-- CHK_Uu_EXPECT_HI -/
abbrev A.chkUExpectHi (u : Nat) : Nat := 0x142128 + 0x40 * u
/-- CHK_Uu_RESULT_LO -/
abbrev A.chkUResultLo (u : Nat) : Nat := 0x14212C + 0x40 * u
/-- CHK_Uu_RESULT_HI -/
abbrev A.chkUResultHi (u : Nat) : Nat := 0x142130 + 0x40 * u
/-- CHK_Uu_STATUS -/
abbrev A.chkUStatus (u : Nat) : Nat := 0x142134 + 0x40 * u
/-- CHK_Uu_MISMATCH -/
abbrev A.chkUMismatch (u : Nat) : Nat := 0x142138 + 0x40 * u
/-- CHK_Uu_SCAN_CMD -/
abbrev A.chkUScanCmd (u : Nat) : Nat := 0x14213C + 0x40 * u
/-- CHK_Uu_SCAN_ADDR_LO -/
abbrev A.chkUScanAddrLo (u : Nat) : Nat := 0x142400 + 0x10 * u
/-- CHK_Uu_SCAN_ADDR_HI -/
abbrev A.chkUScanAddrHi (u : Nat) : Nat := 0x142404 + 0x10 * u
/-- CHK_Uu_SCAN_LEN -/
abbrev A.chkUScanLen (u : Nat) : Nat := 0x142408 + 0x10 * u
/-- CHK_Uu_SCAN_DONE -/
abbrev A.chkUScanDone (u : Nat) : Nat := 0x14240C + 0x10 * u
/-- WAK_CTRL -/
abbrev A.wakCtrl : Nat := 0x180040
/-- WAK_CMD -/
abbrev A.wakCmd : Nat := 0x180044
/-- WAK_STATUS -/
abbrev A.wakStatus : Nat := 0x180048
/-- WAK_DOZE_SET_LO -/
abbrev A.wakDozeSetLo : Nat := 0x18004C
/-- WAK_DOZE_SET_MID -/
abbrev A.wakDozeSetMid : Nat := 0x180050
/-- WAK_DOZE_SET_HI -/
abbrev A.wakDozeSetHi : Nat := 0x180054
/-- WAK_ASLEEP_LO/MID/HI -/
abbrev A.wakAsleep (i : Nat) : Nat := 0x180058 + 0x4 * i
/-- WAK_ROUND_PERIOD -/
abbrev A.wakRoundPeriod : Nat := 0x180064
/-- WAK_PM_TIMEOUT -/
abbrev A.wakPmTimeout : Nat := 0x180068
/-- WAK_DRAIN_MAX -/
abbrev A.wakDrainMax : Nat := 0x18006C
/-- WAK_TIMER -/
abbrev A.wakTimer : Nat := 0x180070
/-- WAK_FACET_KEEP -/
abbrev A.wakFacetKeep : Nat := 0x180074
/-- WAK_KEEPERS_PM -/
abbrev A.wakKeepersPm : Nat := 0x180078
/-- WAK_KEEPERS_OTHER -/
abbrev A.wakKeepersOther : Nat := 0x18007C
/-- WAK_ROUND -/
abbrev A.wakRound : Nat := 0x180080
/-- WAK_CAUSE -/
abbrev A.wakCause : Nat := 0x180084
/-- WAK_CAUSE_SEC_LO -/
abbrev A.wakCauseSecLo : Nat := 0x180088
/-- WAK_CAUSE_SEC_HI -/
abbrev A.wakCauseSecHi : Nat := 0x18008C
/-- WAK_CAUSE_NS -/
abbrev A.wakCauseNs : Nat := 0x180090
/-- WAK_SLEEPS -/
abbrev A.wakSleeps : Nat := 0x180094
/-- WAK_ABANDONED -/
abbrev A.wakAbandoned : Nat := 0x180098
/-- WAK_ENTRY_DROPS -/
abbrev A.wakEntryDrops : Nat := 0x18009C
/-- WAK_AON_STATUS -/
abbrev A.wakAonStatus : Nat := 0x1800A0
/-- WAK_PM_REJECTS -/
abbrev A.wakPmRejects : Nat := 0x1800A4
/-- WAK_PIN_k -/
abbrev A.wakPin (k : Nat) : Nat := 0x1800C0 + 0x4 * k
/-- WAK_WLO_k -/
abbrev A.wakWlo (k : Nat) : Nat := 0x1800D0 + 0x4 * k
/-- WAK_LIN_CTRL -/
abbrev A.wakLinCtrl : Nat := 0x1800E0
/-- WAK_LIN_TXWAKE -/
abbrev A.wakLinTxwake : Nat := 0x1800E4
/-- WAK_PMm_CTRL -/
abbrev A.wakPmCtrl (m : Nat) : Nat := 0x180100 + 0x20 * m
/-- WAK_PMm_MAC_LO -/
abbrev A.wakPmMacLo (m : Nat) : Nat := 0x180104 + 0x20 * m
/-- WAK_PMm_MAC_HI -/
abbrev A.wakPmMacHi (m : Nat) : Nat := 0x180108 + 0x20 * m
/-- WAK_PMm_EXCLUDE -/
abbrev A.wakPmExclude (m : Nat) : Nat := 0x18010C + 0x20 * m
/-- WAK_PMm_STATUS -/
abbrev A.wakPmStatus (m : Nat) : Nat := 0x180110 + 0x20 * m
/-- WAK_PMm_KEEP_TIME -/
abbrev A.wakPmKeepTime (m : Nat) : Nat := 0x180114 + 0x20 * m
/-- WAK_PMm_ROUNDS_KEPT -/
abbrev A.wakPmRoundsKept (m : Nat) : Nat := 0x180118 + 0x20 * m
/-- WAK_CANc_CTRL -/
abbrev A.wakCanCtrl (c : Nat) : Nat := 0x181100 + 0x1000 * (c / 6) + 0x200 * (c % 6)
/-- WAK_CANc_FEC -/
abbrev A.wakCanFec (c : Nat) : Nat := 0x181104 + 0x1000 * (c / 6) + 0x200 * (c % 6)
/-- WAK_CANc_STATUS -/
abbrev A.wakCanStatus (c : Nat) : Nat := 0x181108 + 0x1000 * (c / 6) + 0x200 * (c % 6)
/-- WAK_CANc_PATp_CTRL -/
abbrev A.wakCanPatCtrl (c p : Nat) : Nat := 0x181120 + 0x1000 * (c / 6) + 0x200 * (c % 6) + 0x20 * p
/-- WAK_CANc_PATp_ID -/
abbrev A.wakCanPatId (c p : Nat) : Nat := 0x181124 + 0x1000 * (c / 6) + 0x200 * (c % 6) + 0x20 * p
/-- WAK_CANc_PATp_MASK -/
abbrev A.wakCanPatMask (c p : Nat) : Nat := 0x181128 + 0x1000 * (c / 6) + 0x200 * (c % 6) + 0x20 * p
/-- WAK_CANc_PATp_DATA_LO -/
abbrev A.wakCanPatDataLo (c p : Nat) : Nat := 0x18112C + 0x1000 * (c / 6) + 0x200 * (c % 6) + 0x20 * p
/-- WAK_CANc_PATp_DATA_HI -/
abbrev A.wakCanPatDataHi (c p : Nat) : Nat := 0x181130 + 0x1000 * (c / 6) + 0x200 * (c % 6) + 0x20 * p
/-- PWR_CTRL -/
abbrev A.pwrCtrl : Nat := 0x10040
/-- PWR_STATUS -/
abbrev A.pwrStatus : Nat := 0x10044
/-- PWR_VIN_A -/
abbrev A.pwrVinA : Nat := 0x10048
/-- PWR_VIN_B -/
abbrev A.pwrVinB : Nat := 0x1004C
/-- PWR_PIN -/
abbrev A.pwrPin : Nat := 0x10050
/-- PWR_TEMP -/
abbrev A.pwrTemp : Nat := 0x10054
/-- PWR_VCORE -/
abbrev A.pwrVcore : Nat := 0x10058
/-- PWR_RAILS -/
abbrev A.pwrRails : Nat := 0x1005C
/-- PWR_PACE_CTRL -/
abbrev A.pwrPaceCtrl : Nat := 0x10060
/-- PWR_PACE_STATUS -/
abbrev A.pwrPaceStatus : Nat := 0x10064
/-- PWR_PACE_STEPS -/
abbrev A.pwrPaceSteps : Nat := 0x10068
/-- PWR_SUPPLY_LOSSES -/
abbrev A.pwrSupplyLosses : Nat := 0x1006C
/-- PWR_HOLDUPS -/
abbrev A.pwrHoldups : Nat := 0x10070
/-- PWR_FREEZE_DROPS -/
abbrev A.pwrFreezeDrops : Nat := 0x10074
/-- PWR_RESET_CAUSE -/
abbrev A.pwrResetCause : Nat := 0x10078
/-- PWR_RESET_CMD -/
abbrev A.pwrResetCmd : Nat := 0x1007C
/-- PWR_WDOG_CTRL -/
abbrev A.pwrWdogCtrl : Nat := 0x10080
/-- PWR_WDOG_STATUS -/
abbrev A.pwrWdogStatus : Nat := 0x10084
/-- CLK_STATUS -/
abbrev A.clkStatus : Nat := 0x10100
/-- CLK_XO_STARTS -/
abbrev A.clkXoStarts : Nat := 0x10104
/-- CLK_XO_LOSSES -/
abbrev A.clkXoLosses : Nat := 0x10108
/-- CLK_SSC_MP -/
abbrev A.clkSscMp : Nat := 0x1010C
/-- CLK_SSC_DRAM -/
abbrev A.clkSscDram : Nat := 0x10110
/-- CLK_MP -/
abbrev A.clkMp : Nat := 0x10114
/-- CLK_IRC -/
abbrev A.clkIrc : Nat := 0x10118
/-- UPD_STATUS -/
abbrev A.updStatus : Nat := 0x1A0040
/-- UPD_VERSION -/
abbrev A.updVersion : Nat := 0x1A0044
/-- UPD_FEATURE -/
abbrev A.updFeature : Nat := 0x1A0048
/-- UPD_SVN_FLOOR -/
abbrev A.updSvnFloor : Nat := 0x1A004C
/-- UPD_CTRL -/
abbrev A.updCtrl : Nat := 0x1A0050
/-- UPD_CMD -/
abbrev A.updCmd : Nat := 0x1A0054
/-- UPD_CMD_STATUS -/
abbrev A.updCmdStatus : Nat := 0x1A0058
/-- UPD_WR_OFFSET -/
abbrev A.updWrOffset : Nat := 0x1A005C
/-- UPD_WR_DATA -/
abbrev A.updWrData : Nat := 0x1A0060
/-- UPD_FALLBACKS -/
abbrev A.updFallbacks : Nat := 0x1A0064
/-- UPD_SAVES -/
abbrev A.updSaves : Nat := 0x1A0068
/-- UPD_BANKb_STATUS -/
abbrev A.updBankStatus (b : Nat) : Nat := 0x1A0070 + 0x8 * b
/-- UPD_BANKb_VERSION -/
abbrev A.updBankVersion (b : Nat) : Nat := 0x1A0074 + 0x8 * b
/-- UPD_SETb_STATUS -/
abbrev A.updSetStatus (b : Nat) : Nat := 0x1A0080 + 0x8 * b
/-- UPD_SETb_SEQ -/
abbrev A.updSetSeq (b : Nat) : Nat := 0x1A0084 + 0x8 * b
/-- UPD_LC_CHALLENGE0–3 -/
abbrev A.updLcChallenge (i : Nat) : Nat := 0x1A00A0 + 0x4 * i
/-- UPD_LC_REQ -/
abbrev A.updLcReq : Nat := 0x1A00B0
/-- UPD_LC_STATUS -/
abbrev A.updLcStatus : Nat := 0x1A00B4
/-- UPD_FUSE_RAW -/
abbrev A.updFuseRaw : Nat := 0x1A00B8
/-- UPD_FLOG_COUNT -/
abbrev A.updFlogCount : Nat := 0x1A00C0
/-- UPD_FLOG_INDEX -/
abbrev A.updFlogIndex : Nat := 0x1A00C4
/-- UPD_FLOG_W0–W7 -/
abbrev A.updFlogW (i : Nat) : Nat := 0x1A00C8 + 0x4 * i
/-- UPD_FLOG_SKIPPED -/
abbrev A.updFlogSkipped : Nat := 0x1A00E8
/-- UPD_SIG_WIN -/
abbrev A.updSigWin (i : Nat) : Nat := 0x1A0100 + 0x4 * i
/-- UPD_OWNER_KEY -/
abbrev A.updOwnerKey (i : Nat) : Nat := 0x1A0200 + 0x4 * i
/-- SVC_CTRL -/
abbrev A.svcCtrl : Nat := 0x1C0040
/-- SVC_STATUS -/
abbrev A.svcStatus : Nat := 0x1C0044
/-- SVC_UNLOCK_IDLE -/
abbrev A.svcUnlockIdle : Nat := 0x1C0048
/-- SVC_LINES -/
abbrev A.svcLines : Nat := 0x1C004C
/-- SVC_LINE_ERRORS -/
abbrev A.svcLineErrors : Nat := 0x1C0050
/-- SVC_UNLOCK_FAILS -/
abbrev A.svcUnlockFails : Nat := 0x1C0054
/-- SVC_FORCE_LOCK -/
abbrev A.svcForceLock : Nat := 0x1C0058
end Sys2Proof.Machine
end

