-- ==== Sys2Proof/Machine/Bits.lean ====
section
/-! DEFINITION. Bit fields of register words, byte strings in network and in little-endian order (R7, R8), the CRCs of
R128, R258 and R510, and the sorted operations on lists that several blocks share. -/

namespace Sys2Proof.Machine

/-- Field of a word: `n` bits from bit `lo`, as a number. -/
def fld (w : W32) (lo n : Nat) : Nat := w.toNat / 2 ^ lo % 2 ^ n

/-- One bit of a word. -/
def tst (w : W32) (i : Nat) : Bool := w.getLsbD i

/-- A word with the field of `n` bits from bit `lo` replaced. -/
def setFld (w : W32) (lo n v : Nat) : W32 :=
  w32 (w.toNat - fld w lo n * 2 ^ lo + (v % 2 ^ n) * 2 ^ lo)

/-- A truth value as a bit. -/
def bit (b : Bool) : Nat := if b then 1 else 0

/-- A word with one bit set to a value. -/
def setBit (w : W32) (i : Nat) (b : Bool) : W32 := setFld w i 1 (bit b)

/-- The 64-bit number of a _LO/_HI pair. -/
def pair (lo hi : W32) : Nat := lo.toNat + hi.toNat * 2 ^ 32

/-- The low word of a number. -/
def loW (n : Nat) : W32 := w32 n

/-- The second word of a number. -/
def hiW (n : Nat) : W32 := w32 (n / 2 ^ 32)

/-- A number of `n` bits read as signed. -/
def sx (n v : Nat) : Int := if v % 2 ^ n < 2 ^ (n - 1) then (v % 2 ^ n : Nat) else (v % 2 ^ n : Nat) - (2 ^ n : Nat)

/-- A signed number saturated to 32 bits, as a word. -/
def satI32 (i : Int) : W32 :=
  if i > 2147483647 then 0x7FFFFFFF else if i < -2147483648 then 0x80000000 else BitVec.ofInt 32 i

/-- A count saturated to 32 bits. -/
def sat32 (n : Nat) : W32 := w32 (min n 0xFFFFFFFF)

/-- Quotient rounded up. -/
def ceilDiv (a b : Nat) : Nat := (a + b - 1) / b

/-- Buffer cells of a length (R115). -/
def cellsOf (len : Nat) : Nat := ceilDiv len 256

/-! ## Byte strings -/

/-- The byte at an offset; 0 beyond the end. -/
def byteAt (l : List Byte) (i : Nat) : Nat := (l.getD i 0).toNat

/-- `n` bytes from an offset, most significant first (R7), as a number. -/
def beAt (l : List Byte) (off n : Nat) : Nat := (List.range n).foldl (fun a i => a * 256 + byteAt l (off + i)) 0

/-- `n` bytes from an offset, least significant first (R8), as a number. -/
def leAt (l : List Byte) (off n : Nat) : Nat :=
  (List.range n).foldr (fun i a => a * 256 + byteAt l (off + i)) 0

/-- A number as `n` bytes in network order. -/
def beBytes (n v : Nat) : List Byte := ((List.range n).map (fun i => BitVec.ofNat 8 (v / 256 ^ i))).reverse

/-- A number as `n` bytes, least significant first. -/
def leBytes (n v : Nat) : List Byte := (List.range n).map (fun i => BitVec.ofNat 8 (v / 256 ^ i))

/-- `n` bytes from an offset, zeros beyond the end. -/
def slice (l : List Byte) (off n : Nat) : List Byte := (List.range n).map (fun i => l.getD (off + i) 0)

/-- A byte string filled with zeros up to a length. -/
def padTo (n : Nat) (l : List Byte) : List Byte := l ++ List.replicate (n - l.length) 0

/-- The words of a byte string in network order, the last one filled with zeros. -/
def beWords (l : List Byte) : List W32 :=
  (List.range (ceilDiv l.length 4)).map (fun i => w32 (beAt l (4 * i) 4))

/-- The 6 bytes of a MAC address held as [15:0] bytes 0–1 in the high word and bytes 2–5 in the low word. -/
def macOf (lo hi : W32) : List Byte := beBytes 2 (fld hi 0 16) ++ beBytes 4 lo.toNat

/-! ## CRCs -/

/-- A number of `n` bits with its bits in the opposite order. -/
def reflect (n v : Nat) : Nat := (List.range n).foldl (fun a i => a * 2 + v / 2 ^ i % 2) 0

/-- One step of a CRC over a bit, most significant bit first. -/
def crcBit (width poly crc : Nat) (b : Nat) : Nat :=
  let top := crc / 2 ^ (width - 1) % 2
  let sh := crc * 2 % 2 ^ width
  if (top + b) % 2 = 1 then Nat.xor sh poly else sh

/-- A CRC over one byte (R510): REFIN feeds the byte least significant bit first. -/
def crcByte (width poly : Nat) (refin : Bool) (crc : Nat) (b : Byte) : Nat :=
  (List.range 8).foldl (fun a i => crcBit width poly a (b.toNat / 2 ^ (if refin then i else 7 - i) % 2)) crc

/-- The running value of a CRC over bytes, from a start value. -/
def crcRun (width poly : Nat) (refin : Bool) (start : Nat) (l : List Byte) : Nat :=
  l.foldl (crcByte width poly refin) start

/-- A CRC with its final reflection and XOR (R510). -/
def crcFinal (width : Nat) (refout : Bool) (xorout crc : Nat) : Nat :=
  Nat.xor (if refout then reflect width crc else crc) xorout

/-- The CRC-16 of R128: polynomial 0x1021, initial value 0xFFFF, nothing reflected. -/
def crc16 (l : List Byte) : Nat := crcRun 16 0x1021 false 0xFFFF l

/-- The CRC-32C of R258. -/
def crc32c (l : List Byte) : Nat :=
  crcFinal 32 true 0xFFFFFFFF (crcRun 32 0x1EDC6F41 true 0xFFFFFFFF l)

/-- The frame check sequence of IEEE 802.3 over a frame, as its four bytes are sent. -/
def fcsOf (l : List Byte) : List Byte :=
  leBytes 4 (crcFinal 32 true 0xFFFFFFFF (crcRun 32 0x04C11DB7 true 0xFFFFFFFF l))

/-! ## Lists -/

/-- Inserts an element before the first that it precedes. -/
def insertBy {α : Type} (lt : α → α → Bool) (x : α) : List α → List α
  | [] => [x]
  | y :: l => if lt x y then x :: y :: l else y :: insertBy lt x l

/-- Replaces the element at an index. -/
def setAt {α : Type} (l : List α) (i : Nat) (x : α) : List α := l.set i x

/-- Adds an element to a list without repeats. -/
def addTo (l : List Nat) (x : Nat) : List Nat := if l.contains x then l else l ++ [x]

/-- Removes an element of a list without repeats. -/
def dropFrom (l : List Nat) (x : Nat) : List Nat := l.filter (fun y => y ≠ x)

/-- The numbers whose bits are set in a mask of `n` bits. -/
def bitsOf (n m : Nat) : List Nat := (List.range n).filter (fun i => m / 2 ^ i % 2 = 1)

/-- The mask of a list of numbers below `n`. -/
def maskOf (n : Nat) (l : List Nat) : Nat := (List.range n).foldl (fun a i => if l.contains i then a + 2 ^ i else a) 0

/-- Number of bits set in a mask of `n` bits. -/
def popcount (n m : Nat) : Nat := (bitsOf n m).length

/-- Serial-number order of R21: a ranks before b. -/
def serialBefore (a b : W32) : Bool :=
  let d := (b - a).toNat
  (decide (1 ≤ d) && decide (d < 2 ^ 31)) || (decide (d = 2 ^ 31) && decide (a.toNat < b.toNat))

/-- Locus order of R21 on the keys (stamp, vertex, sequence number). -/
def keyBefore (a b : Nat × Nat × W32) : Bool :=
  if a.1 < b.1 then true
  else if b.1 < a.1 then false
  else if a.2.1 < b.2.1 then true
  else if b.2.1 < a.2.1 then false
  else serialBefore a.2.2 b.2.2

end Sys2Proof.Machine
end

