-- ==== Sys2Proof/Machine/Aes.lean ====
section
/-! DEFINITION. The standards that R488 and R374 name: AES (FIPS 197), GCM (NIST SP 800-38D), CMAC (NIST SP 800-38B), XTS
(IEEE 1619) and AES key wrap (RFC 3394, RFC 5649), as functions of byte strings. -/

namespace Sys2Proof.Machine

/-! ## The block cipher -/

/-- Doubling in the field of AES. -/
def gfDouble (a : Nat) : Nat := if a < 128 then 2 * a else Nat.xor (2 * a - 256) 0x1B

/-- Product in the field of AES. -/
def gfMul (a b : Nat) : Nat :=
  ((List.range 8).foldl (fun (p : Nat × Nat) i =>
    (if b / 2 ^ i % 2 = 1 then Nat.xor p.1 p.2 else p.1, gfDouble p.2)) (0, a)).1

/-- Inverse in the field of AES, as the power 254; 0 for 0. -/
def gfInv (a : Nat) : Nat :=
  let sq (x : Nat) := gfMul x x
  let a2 := sq a
  let a4 := sq a2
  let a8 := sq a4
  let a16 := sq a8
  let a32 := sq a16
  let a64 := sq a32
  gfMul (gfMul (gfMul a2 a4) (gfMul a8 a16)) (gfMul (gfMul a32 a64) (sq a64))

/-- A byte rotated left. -/
def rotl8 (a n : Nat) : Nat := (a * 2 ^ n + a / 2 ^ (8 - n)) % 256

/-- The substitution of one byte. -/
def subByte (a : Nat) : Nat :=
  let b := gfInv a
  Nat.xor (Nat.xor (Nat.xor b (rotl8 b 1)) (Nat.xor (rotl8 b 2) (rotl8 b 3))) (Nat.xor (rotl8 b 4) 0x63)

/-- The inverse substitution of one byte. -/
def invSubByte (a : Nat) : Nat := gfInv (Nat.xor (Nat.xor (rotl8 a 1) (rotl8 a 3)) (Nat.xor (rotl8 a 6) 0x05))

/-- The substitution as a table. -/
def sBox : List Byte := (List.range 256).map (fun i => BitVec.ofNat 8 (subByte i))

/-- The inverse substitution as a table. -/
def invSBox : List Byte := (List.range 256).map (fun i => BitVec.ofNat 8 (invSubByte i))

/-- Looks a byte up. -/
def subst (t : List Byte) (b : Byte) : Byte := t.getD b.toNat 0

/-- Exclusive or of byte strings, as long as the first. -/
def xorBytes (a b : List Byte) : List Byte := a.mapIdx (fun i x => x ^^^ b.getD i 0)

/-- The key words of the schedule, latest first, extended by one word. -/
def keyStep (t : List Byte) (nk : Nat) (ws : List (List Byte)) : List (List Byte) :=
  let i := ws.length
  let prev := ws.headD []
  let back := ws.getD (nk - 1) []
  let x := if i % nk = 0 then
      let r := (prev.drop 1 ++ prev.take 1).map (subst t)
      xorBytes r [BitVec.ofNat 8 ((List.range (i / nk - 1)).foldl (fun a _ => gfDouble a) 1), 0, 0, 0]
    else if nk > 6 ∧ i % nk = 4 then prev.map (subst t)
    else prev
  xorBytes back x :: ws

/-- The round keys of a 16- or 32-byte key, in order. -/
def roundKeys (t : List Byte) (key : List Byte) : List (List Byte) :=
  let nk := key.length / 4
  let start := ((List.range nk).map (fun i => slice key (4 * i) 4)).reverse
  let ws := ((List.range (4 * (nk + 7) - nk)).foldl (fun w _ => keyStep t nk w) start).reverse
  (List.range (nk + 7)).map (fun r => ((ws.drop (4 * r)).take 4).flatten)

/-- The bytes of a block with its rows shifted by `k` columns a row. -/
def shiftRows (k : Nat) (b : List Byte) : List Byte :=
  (List.range 16).map (fun i => b.getD ((i + 4 * (k * (i % 4))) % 16) 0)

/-- The columns of a block multiplied by a circulant matrix. -/
def mixColumns (m : List Nat) (b : List Byte) : List Byte :=
  (List.range 16).map (fun i =>
    let c := i / 4 * 4
    BitVec.ofNat 8 ((List.range 4).foldl (fun a j => Nat.xor a (gfMul (m.getD ((j + 4 - i % 4) % 4) 0) (byteAt b (c + j)))) 0))

/-- One block enciphered under round keys. -/
def encBlock (t : List Byte) (ks : List (List Byte)) (b : List Byte) : List Byte :=
  let n := ks.length - 1
  let b := xorBytes b (ks.headD [])
  let b := (List.range (n - 1)).foldl (fun b r =>
    xorBytes (mixColumns [2, 3, 1, 1] (shiftRows 1 (b.map (subst t)))) (ks.getD (r + 1) [])) b
  xorBytes (shiftRows 1 (b.map (subst t))) (ks.getD n [])

/-- One block deciphered under round keys. -/
def decBlock (t : List Byte) (ks : List (List Byte)) (b : List Byte) : List Byte :=
  let n := ks.length - 1
  let b := (shiftRows 3 (xorBytes b (ks.getD n []))).map (subst t)
  let b := (List.range (n - 1)).foldl (fun b r =>
    (shiftRows 3 (mixColumns [14, 11, 13, 9] (xorBytes b (ks.getD (n - 1 - r) [])))).map (subst t)) b
  xorBytes b (ks.headD [])

/-- AES of one block under a key. -/
def aesEnc (key b : List Byte) : List Byte := encBlock sBox (roundKeys sBox key) b

/-- Inverse AES of one block under a key. -/
def aesDec (key b : List Byte) : List Byte := decBlock invSBox (roundKeys sBox key) b

/-- A byte string in blocks of 16, the last one as long as it is. -/
def blocks16 (l : List Byte) : List (List Byte) :=
  (List.range (ceilDiv l.length 16)).map (fun i => (l.drop (16 * i)).take 16)

/-! ## GCM -/

/-- Product in the field of GCM, most significant bit first. -/
def ghashMul (x y : Nat) : Nat :=
  ((List.range 128).foldl (fun (p : Nat × Nat) i =>
    (if x / 2 ^ (127 - i) % 2 = 1 then Nat.xor p.1 p.2 else p.1,
     if p.2 % 2 = 1 then Nat.xor (p.2 / 2) (0xE1 * 2 ^ 120) else p.2 / 2)) (0, y)).1

/-- GHASH over whole blocks. -/
def ghash (h : Nat) (l : List Byte) : Nat :=
  (blocks16 l).foldl (fun y b => ghashMul (Nat.xor y (beAt (padTo 16 b) 0 16)) h) 0

/-- A byte string filled to whole blocks. -/
def pad16 (l : List Byte) : List Byte := padTo (16 * ceilDiv l.length 16) l

/-- The counter-mode stream applied to data, the first counter being `ctr`. -/
def gctr (key nonce : List Byte) (ctr : Nat) (data : List Byte) : List Byte :=
  let ks := roundKeys sBox key
  ((blocks16 data).mapIdx (fun i b => xorBytes b (encBlock sBox ks (nonce ++ beBytes 4 (ctr + i))))).flatten

/-- The 16-byte tag of GCM over associated data and ciphertext, for a 96-bit nonce. -/
def gcmTag (key nonce aad ct : List Byte) : List Byte :=
  let h := beAt (aesEnc key (List.replicate 16 0)) 0 16
  let s := ghash h (pad16 aad ++ pad16 ct ++ beBytes 8 (8 * aad.length) ++ beBytes 8 (8 * ct.length))
  gctr key nonce 1 (beBytes 16 s)

/-- GCM encryption: ciphertext and tag. -/
def gcmEnc (key nonce aad data : List Byte) : List Byte × List Byte :=
  let ct := gctr key nonce 2 data
  (ct, gcmTag key nonce aad ct)

/-- GCM decryption: the plaintext when the tag, of its own length, is right. -/
def gcmDec (key nonce aad ct tag : List Byte) : Option (List Byte) :=
  if (gcmTag key nonce aad ct).take tag.length = tag then some (gctr key nonce 2 ct) else none

/-! ## CMAC -/

/-- Doubling in the field of CMAC. -/
def cmacDouble (x : Nat) : Nat := if x < 2 ^ 127 then 2 * x else Nat.xor (2 * x - 2 ^ 128) 0x87

/-- The 16-byte CMAC of a message. -/
def cmac (key msg : List Byte) : List Byte :=
  let ks := roundKeys sBox key
  let k1 := cmacDouble (beAt (encBlock sBox ks (List.replicate 16 0)) 0 16)
  let bs := blocks16 msg
  let last := bs.getLastD []
  let fin := if last.length = 16 then xorBytes last (beBytes 16 k1)
    else xorBytes (padTo 16 (last ++ [0x80])) (beBytes 16 (cmacDouble k1))
  (bs.dropLast ++ [fin]).foldl (fun c b => encBlock sBox ks (xorBytes b c)) (List.replicate 16 0)

/-! ## XTS -/

/-- Multiplication of an XTS tweak by the primitive element (little-endian). -/
def xtsNext (t : List Byte) : List Byte :=
  let x := leAt t 0 16
  leBytes 16 (if x < 2 ^ 127 then 2 * x else Nat.xor (2 * x - 2 ^ 128) 0x87)

/-- One XTS block: `f` under the first key between two additions of the tweak. -/
def xtsBlock (f : List Byte → List Byte) (t b : List Byte) : List Byte := xorBytes (f (xorBytes b t)) t

/-- The tweaks of `n` blocks, from the first. -/
def xtsTweaks (t : List Byte) : Nat → List (List Byte)
  | 0 => []
  | n + 1 => t :: xtsTweaks (xtsNext t) n

/-- One data unit of at least 16 bytes, with ciphertext stealing when its length is no multiple of 16; `dec` swaps the last
two tweaks as decryption needs. -/
def xtsUnit (dec : Bool) (f : List Byte → List Byte) (t0 data : List Byte) : List Byte :=
  let n := data.length / 16
  let r := data.length % 16
  let ts := xtsTweaks t0 (n + 1)
  let tw (i : Nat) := ts.getD i []
  let blk (i : Nat) := slice data (16 * i) 16
  if r = 0 then ((List.range n).map (fun i => xtsBlock f (tw i) (blk i))).flatten
  else
    let head := ((List.range (n - 1)).map (fun i => xtsBlock f (tw i) (blk i))).flatten
    let c := xtsBlock f (tw (if dec then n else n - 1)) (blk (n - 1))
    let tail := data.drop (16 * n)
    head ++ xtsBlock f (tw (if dec then n - 1 else n)) (tail ++ c.drop r) ++ c.take r

/-- XTS over data units of `sector` bytes from a sector number (R490). -/
def xts (dec : Bool) (key : List Byte) (sectorNo sector : Nat) (data : List Byte) : List Byte :=
  let half := key.length / 2
  let k1 := roundKeys sBox (key.take half)
  let k2 := roundKeys sBox (key.drop half)
  let f (b : List Byte) := if dec then decBlock invSBox k1 b else encBlock sBox k1 b
  ((List.range (ceilDiv data.length sector)).map (fun i =>
    xtsUnit dec f (encBlock sBox k2 (leBytes 16 (sectorNo + i))) ((data.drop (sector * i)).take sector))).flatten

/-! ## Key wrap -/

/-- One step of the inverse of key wrap: A and the 8-byte blocks, for step number `t` of `n` blocks. -/
def unwrapStep (ks : List (List Byte)) (n : Nat) (p : List Byte × List (List Byte)) (t : Nat) : List Byte × List (List Byte) :=
  let i := (t - 1) % n
  let b := decBlock invSBox ks (xorBytes p.1 (beBytes 8 t) ++ p.2.getD i [])
  (b.take 8, p.2.set i (b.drop 8))

/-- The inverse of key wrap over a blob of at least 24 bytes: the integrity value and the plaintext blocks. -/
def unwrapRaw (key blob : List Byte) : List Byte × List Byte :=
  let n := blob.length / 8 - 1
  let ks := roundKeys sBox key
  let rs := (List.range n).map (fun i => slice blob (8 * (i + 1)) 8)
  let p := (List.range (6 * n)).foldl (fun p i => unwrapStep ks n p (6 * n - i)) (blob.take 8, rs)
  (p.1, p.2.flatten)

/-- The plaintext of a blob wrapped under RFC 3394 with the default initial value, or under RFC 5649; none when neither
integrity check passes (R479). -/
def keyUnwrap (key blob : List Byte) : Option (List Byte) :=
  let (a, p) := unwrapRaw key blob
  if a = List.replicate 8 0xA6 then some p
  else if a.take 4 = [0xA6, 0x59, 0x59, 0xA6] then
    let m := beAt a 4 4
    if p.length < m + 8 ∧ m ≤ p.length ∧ (p.drop m).all (fun b => b = 0) then some (p.take m) else none
  else none

end Sys2Proof.Machine
end

