-- ==== Sys2Proof/Config.lean ====
section
/-! DEFINITION. What an implementation fixes and the values the spec leaves open: opaque constants, applied to the counter
`fresh` of the state or to the operands they depend on. Nothing can be proved of their values. -/

namespace Sys2Proof

/-- A free 32-bit value (DESIGN CHOICE: log entry 1). -/
opaque Config.freeWord : Nat → W32

/-- A free bit (DESIGN CHOICE: log entry 1). -/
opaque Config.freeBit : Nat → Bool

/-- offsetScaledLogVariance of the module's own data set (DESIGN CHOICE: log entry 8). -/
opaque Config.clockVariance : W16

/-- clockIdentity of the module (DESIGN CHOICE: log entry 8). -/
opaque Config.clockIdentity : W64

/-- LOC_RATE that the servo writes after a measurement: from the counter, the old rate, the offset and the measured rate
(DESIGN CHOICE: log entry 9). -/
opaque Config.servoRate : Nat → W32 → Int → Int → W32

/-- The frame of a protocol message of IEEE 802.1AS or 1588: kind, vertex, what it says (DESIGN CHOICE: log entry 10). -/
opaque Config.ptpMessage : Nat → Nat → List Int → List Byte

/-- The root key in fuses (R480, DESIGN CHOICE: log entry 11). -/
opaque Config.rootKey : List Byte

/-- Longest time in ns of a CAN XL frame through the end of intermission: from its data bytes and the CAN clock cycles of a nominal and
of a data bit (DESIGN CHOICE: log entry 13). -/
opaque Config.xlFrameTime : Nat → Nat → Nat → Nat

/-- The bytes over which the configuration digest is taken, from the values in scope (R465, DESIGN CHOICE: log entry 15). -/
opaque Config.digestBytes : List (Nat × W32) → List Byte

/-- Where the bridge library of an image puts its programs (R321, DESIGN CHOICE: log entry 16): BRG_LIB_0–4, and at 5 the start of segment 63. -/
opaque Config.bridgeLib : Nat → W32

/-- A byte of the DRAM regions whose contents the spec does not lay out (shadows, program copies, the management processor's own memory): from
the counter and the address (DESIGN CHOICE: log entry 18). -/
opaque Config.dramByte : Nat → Nat → Byte

end Sys2Proof
end

