-- ==== Sys2Proof/Machine/Keys.lean ====
section
/-! DEFINITION. The headers of a frame as the classifier reads them, and the flow key of an item (R189) on which its plane depends
(R128). -/

namespace Sys2Proof.Machine

/-! ## Kinds of hash keys (R185) -/

/-- KIND of a hash key. -/
def hashKind (k : BitVec 320) : Nat := k.toNat % 16

/-- Whether a key is double-width. -/
def hashWide (k : BitVec 320) : Bool := hashKind k = 3

/-! ## Headers -/

/-- EtherType of a frame after any tags (R363, R376). -/
def etherType (stag : Bool) (d : List Byte) : Nat :=
  let isTag (t : Nat) : Bool := t = 0x8100 || (stag && t = 0x88A8)
  let t0 := beAt d 12 2
  if isTag t0 then
    let t1 := beAt d 16 2
    if isTag t1 then beAt d 20 2 else t1
  else t0

/-- Offset of the EtherType after any tags (R363). -/
def typeOff (stag : Bool) (d : List Byte) : Nat :=
  let isTag (t : Nat) : Bool := t = 0x8100 || (stag && t = 0x88A8)
  if isTag (beAt d 12 2) then if isTag (beAt d 16 2) then 20 else 16 else 12

/-- Whether an IP protocol has ports (R189). -/
def hasPorts (p : Nat) : Bool := p = 6 || p = 17 || p = 33 || p = 132 || p = 136

/-- The chain of IPv6 extension headers (R189): the next-header field of the key, and the offset of the ports where the
datagram has them. `limit` is the first byte beyond the 256 bytes after the fixed header, or beyond the item. -/
def ip6Chain (d : List Byte) (limit : Nat) : Nat → Nat → Nat → Nat × Option Nat
  | 0, nh, _ => (nh, none)
  | n + 1, nh, pos =>
    if nh = 0 ∨ nh = 43 ∨ nh = 60 then
      if pos + 8 ≤ limit then ip6Chain d limit n (byteAt d pos) (pos + 8 * (byteAt d (pos + 1) + 1)) else (nh, none)
    else if nh = 44 then
      if pos + 8 ≤ limit then
        if beAt d (pos + 2) 2 / 8 ≠ 0 ∨ byteAt d (pos + 3) % 2 = 1 then (byteAt d pos, none)
        else ip6Chain d limit n (byteAt d pos) (pos + 8)
      else (nh, none)
    else if pos ≤ limit then (nh, if hasPorts nh then some pos else none)
    else (nh, none)

/-- The FLOW4 or FLOW6 key of an IP item (R185, R189); none for any other item. `o` is the offset of the IP header. -/
def flowIp (v et o : Nat) (d : List Byte) : Option (BitVec 320) :=
  if et = 0x0800 ∧ byteAt d o / 16 = 4 then
    let proto := byteAt d (o + 9)
    let frag := decide (beAt d (o + 6) 2 % 16384 ≠ 0)
    let p := o + byteAt d o % 16 * 4
    let (sp, dp) := if hasPorts proto && !frag then (beAt d p 2, beAt d (p + 2) 2) else (0, 0)
    some (BitVec.ofNat 320 (2 + v * 2 ^ 4 + proto * 2 ^ 11 + beAt d (o + 12) 4 * 2 ^ 19 + beAt d (o + 16) 4 * 2 ^ 51
      + sp * 2 ^ 83 + dp * 2 ^ 99))
  else if et = 0x86DD ∧ byteAt d o / 16 = 6 then
    let (nh, ports) := ip6Chain d (min d.length (o + 40 + 256)) 40 (byteAt d (o + 6)) (o + 40)
    let (sp, dp) := match ports with
      | some p => (beAt d p 2, beAt d (p + 2) 2)
      | none => (0, 0)
    some (BitVec.ofNat 320 (3 + v * 2 ^ 4 + nh * 2 ^ 11 + beAt d (o + 8) 16 * 2 ^ 19 + beAt d (o + 24) 16 * 2 ^ 147
      + sp * 2 ^ 275 + dp * 2 ^ 291))
  else none

/-- The flow key of an Ethernet item (R189). -/
def flowEth (v vid : Nat) (stag : Bool) (d : List Byte) : List Byte :=
  let et := etherType stag d
  match flowIp v et (typeOff stag d + 2) d with
  | some k => leBytes (if hashWide k then 40 else 20) k.toNat
  | none => leBytes 20 (5 + v * 2 ^ 4 + vid % 4096 * 2 ^ 11 + beAt d 0 6 * 2 ^ 23 + beAt d 6 6 * 2 ^ 71 + et * 2 ^ 119)

/-- The flow key of a CAN or LIN item in its stored form (R189). -/
def flowBus (v : Nat) (d : List Byte) : List Byte := leBytes 20 (6 + v * 2 ^ 4 + beAt d 0 4 % 2 ^ 29 * 2 ^ 11)

/-- The flow key of a frame that the device makes at an internal vertex (R189): its VID is that of its tag. -/
def flowOwn (v : Nat) (d : List Byte) : List Byte :=
  flowEth v (if beAt d 12 2 = 0x8100 then beAt d 14 2 % 4096 else 0) false d

end Sys2Proof.Machine
end

