-- ==== Sys2Proof/Machine/State.lean ====
section
/-! DEFINITION. The state of the module as plain data, the reasons a step can stop, and the state after reset.
Registers that the register map gives and nothing else computes are held in the register files; everything that is
structured (queues, jobs, sessions, rings, locks, channels, modes) has a field of its own. Times are held as
nanoseconds: `now` is real time on the time-base PLL (R41), `locus` is the locus in units of 1/65,536 ns (R64). -/

namespace Sys2Proof.Machine

/-! ## Items, copies and jobs (chapters 01, 03, 04, 05) -/

/-- A stamped item (R17, R18, R30). `data` is the stored form: for an Ethernet or internal frame the bytes from the
destination address to the byte before the FCS, for a CAN or LIN message the form of R268. -/
structure Item where
  uid : Nat
  stamp : Nat
  vertex : Nat
  seq : W32
  epoch : W32
  facet : Nat
  data : List Byte
  len : Nat
  vid : Nat
  pcp : Nat
  tagged : Bool
  verified : Bool
  tc : Nat
  flow : List Byte
  res : BitVec 64
  rule : W32
  deriving DecidableEq, Repr

/-- A pending learn (R197): the item, and the FID that its own epoch's VLAN entry gave it. -/
structure LearnReq where
  item : Item
  fid : Nat
  deriving DecidableEq, Repr

/-- What becomes of a copy whose ingress frame ended badly (R158): nothing; a corrupted FCS if it is sent cut-through; the same, and no
copy at all if it would have to be stored. -/
inductive Stomp where
  | no | ifCut | orDrop
  deriving DecidableEq, Repr

/-- A copy of an item, or of a job output, on its way to one egress vertex (R111, R117, R138). `src` names the input
record whose cells hold it (0: reserve cells), `data` the bytes to send (they differ from the item's for a job output), `reserved` the
queue cells it holds, `cut` that it may go cut-through, `built` that it leaves as built although it is no job output (R455). -/
structure Copy where
  item : Item
  src : Nat
  egress : Nat
  tc : Nat
  data : List Byte
  len : Nat
  outIdx : Option Nat
  txId : Option W16
  reserved : Nat
  cut : Bool
  stomp : Stomp
  built : Bool
  held : Bool
  errs : Nat
  late : Bool
  deriving DecidableEq, Repr

/-- The input cells of one item or job output (R115, R116): the vertex and facet charged, the cells, and how many
copies, jobs or waiting lanes still need them. -/
structure InputRec where
  id : Nat
  uid : Nat
  vertex : Nat
  facet : Nat
  cells : Nat
  refs : Nat
  deriving DecidableEq, Repr

/-- A job waiting for admission or running (R226, R231): its item, dispatch entry and bridge rule. `bridge` is the
bridge direction that submitted it (0 BUS, 1 NET), `seqNo` the tangent sequence number of R313, `since` the real time of
its arrival at the admission queue. -/
structure JobReq where
  item : Item
  src : Nat
  de : Nat
  rule : Option (Nat × Bool)
  bridge : Option Nat
  seqNo : Nat
  since : Nat
  lane : Nat
  seqIdx : Nat
  deriving DecidableEq, Repr

/-- An output captured by EMIT (R241, R242). -/
structure JobOut where
  w0 : W32
  w1 : W32
  start : Nat
  plen : Nat
  head : List Byte
  deriving DecidableEq, Repr

/-- A look-aside request of a job (R245, R246, R503). -/
structure LookReq where
  idx : Nat
  desc : List W32
  done : Bool
  error : Bool
  deriving DecidableEq, Repr

/-- The six flags of R236. -/
structure LatFlags where
  z : Bool
  n : Bool
  c : Bool
  v : Bool
  s : Bool
  x : Bool
  deriving DecidableEq, Repr

/-- A job in a hardware context: the resources of R232's table. -/
structure Job where
  req : JobReq
  tag : Nat
  reservedCells : Nat
  pc : Nat
  regs : Vector W32 16
  wptr : Vector Nat 8
  flags : LatFlags
  ohb : SMap Byte
  local_ : SMap Byte
  pos : Nat
  stack : List Nat
  outs : List JobOut
  cnts : List (Nat × W32)
  executed : Nat
  looks : List LookReq
  lookCount : Nat
  /-- The next SRD is the first at its position: it may wait (R261). -/
  cold : Bool
  attempts : Nat
  deriving DecidableEq, Repr

/-- The answer the look-aside engine keeps for a tag and index (R246). -/
structure LookAnswer where
  tag : Nat
  idx : Nat
  status : Nat
  out : List Byte
  deriving DecidableEq, Repr

/-- State of a lattice cell (R265). -/
inductive CellState where
  | inService | spare | checking | retired
  deriving DecidableEq, Repr

/-- A lattice cell: its state, whether its check is a periodic one, and when dispatch to it stopped (R250–R254). -/
structure Cell where
  st : CellState
  noDispatch : Bool
  periodic : Bool
  inPlace : Bool
  since : Nat
  deriving DecidableEq, Repr

/-- A program segment (R257, R264); `gone` marks a LOST one whose copy is uncorrectable too (R260). -/
structure Segment where
  st : Nat
  start : Nat
  len : Nat
  crc : W32
  result : Nat
  busy : Bool
  gone : Bool
  deriving DecidableEq, Repr

/-- One entry of an order lane (R229): an item, how many of its jobs are unfinished, and the copies that wait for its
turn. -/
structure LaneEntry where
  item : Item
  idx : Nat
  pend : Nat
  ready : List Copy
  deriving DecidableEq, Repr

/-- A prefix CAM entry (R181, R193); `port` is the command port that wrote it last (R34). -/
structure CamEntry where
  key : BitVec 176
  prefixLen : Nat
  care : Nat
  res : BitVec 64
  port : Nat
  deriving DecidableEq, Repr

/-- A hash-store entry at its handle (R185, R186). -/
structure HashEntry where
  key : BitVec 320
  res : BitVec 64
  port : Nat
  deriving DecidableEq, Repr

/-- A chord or tangent record of eight words (R317, R318); `port` as in R34. -/
structure RuleRec where
  words : List W32
  port : Nat
  deriving DecidableEq, Repr

/-- One bank of the configuration: the staged registers, and the table, VLAN, dispatch and rule stores (R176, R231,
R316, R365). VLAN and dispatch entries are registers behind their selectors. -/
structure Bank where
  regs : RegFile
  cam : SMap (Option CamEntry)
  hash : SMap (Option HashEntry)
  chords : SMap (Option RuleRec)
  tangents : SMap (Option RuleRec)
  deriving DecidableEq, Repr

/-! ## Epochs, tags and the management processor (chapter 01) -/

/-- STATE of SYS_EPOCH_STATUS (R46). -/
inductive CommitState where
  | idle | validating | armed | deferred
  deriving DecidableEq, Repr

/-- The commit machinery (R34–R46): the live epoch, the draining one, the request in progress with the locus instant at which it is due (in
1/65,536 ns), the instant of the last switch (in ns) and the epoch before it. -/
structure EpochSt where
  live : W32
  draining : Option W32
  drainStart : Nat
  st : CommitState
  atTime : Option Nat
  due : Nat
  result : Nat
  warn : Bool
  reqNo : W32
  copyTbl : Bool
  copyDe : Bool
  copyRules : Bool
  switchNs : Nat
  prev : W32
  deriving DecidableEq, Repr

/-- The management processor (R55, R59, R63, R587). -/
inductive MpState where
  | stopped | boot | running | restarting | halted
  deriving DecidableEq, Repr

/-! ## Locus, domains, sync outputs, captures (chapter 02) -/

/-- State of the locus (R108). -/
inductive LocusState where
  | free | locking | locked | holdover | apex
  deriving DecidableEq, Repr

/-- The locus discipline (R64–R77). `slew` is the part of a correction not yet applied, in 1/65,536 ns; `frac` the
remainder of the rate correction of each nanosecond. `rate` is the rate in force (R68, R74), `holdAge` the age that the
last holdover reached, or the age with which a running one began. -/
structure LocusSt where
  st : LocusState
  cause : Nat
  rate : W32
  slew : Int
  frac : Int
  slewing : Bool
  slewFrac : Nat
  holdStart : Nat
  holdAge : Nat
  inThresh : Nat
  diverged : Bool
  deriving DecidableEq, Repr

/-- What an Announce of a master said (R85), as the words of its data set comparison in order. -/
structure AnnounceSet where
  dataset : List Nat
  gm : BitVec 64
  steps : Nat
  vertex : Nat
  at_ : Nat
  deriving DecidableEq, Repr

/-- One time-domain instance (R82–R86). `tx` holds when each message kind was last sent on a vertex (key vertex × 4 + kind),
`lastSync` when the last Sync came or listening began; the `sync` fields what that Sync said (R84): its stamp, its correction in 1/65,536 ns
and the time of its origin in ns. `meanDelay` is the path delay of a vertex under the delay-request profile. -/
structure DomainSt where
  role : Nat
  best : Option AnnounceSet
  slaveVertex : Nat
  steps : Nat
  gm : BitVec 64
  offset : Int
  ratio : Int
  lastSync : Nat
  syncSof : Nat
  syncCorr : Int
  syncOrigin : Nat
  tx : SMap Nat
  meanDelay : SMap Int
  deriving DecidableEq, Repr

/-- A message of the time domains whose transmit stamp the processor waits for (R82, R84): its item, the kind of what follows (4 Follow_Up,
5 nothing: a one-step Sync, 6 Pdelay_Resp_Follow_Up), the instance, and for a relayed Sync the stamp of the one received. -/
structure PtpOut where
  uid : Nat
  kind : Nat
  dom : Nat
  vertex : Nat
  relayed : Option Nat
  deriving DecidableEq, Repr

/-- An entry of a transmit-stamp queue (R89). -/
structure TxStamp where
  stamp : Nat
  id : W16
  ingress : Nat
  failed : Bool
  deriving DecidableEq, Repr

/-- The transmit-stamp queue of a vertex (R87, R88) with the entry popped last (R92). -/
structure TxStampQ where
  entries : List TxStamp
  lost : Nat
  last : TxStamp
  deriving DecidableEq, Repr

/-- A sync output (R93–R98). `next` is the next grid index, `release` the locus instant (1/65,536 ns) at which an
active pulse releases. -/
structure SyncOut where
  active : Bool
  release : Nat
  next : Nat
  done : Bool
  deriving DecidableEq, Repr

/-- One stamp of a capture FIFO (R100). -/
structure CapStamp where
  stamp : Nat
  rising : Bool
  deriving DecidableEq, Repr

/-- A capture unit (R100–R102). -/
structure CapUnit where
  fifo : List CapStamp
  overruns : Nat
  under : Bool
  last : CapStamp
  lastRise : Option Nat
  lastFall : Option Nat
  period : Nat
  deriving DecidableEq, Repr

/-! ## Planes and egress (chapter 03) -/

/-- A move of buckets off a plane (R130–R137): whether it retires the plane, the plane, the buckets held with their
targets, the real time at which the markers left, and the locus ns and DETAIL of the fault that started it. -/
structure PlaneMove where
  retiring : Bool
  plane : Nat
  buckets : List (Nat × Nat)
  since : Nat
  stamp : Nat
  detail : Nat
  deriving DecidableEq, Repr

/-- A plane that failed while a move ran and waits for its retirement (R135), with the DETAIL and the stamp of its fault. -/
structure PlaneWait where
  plane : Nat
  detail : Nat
  stamp : Nat
  deriving DecidableEq, Repr

/-- The plane set (R128–R137). -/
structure PlaneSt where
  inService : List Nat
  retired : List Nat
  exhausted : Bool
  map : SMap Nat
  move : Option PlaneMove
  pendingRetire : List PlaneWait
  result : Nat
  deriving DecidableEq, Repr

/-- The gate list of a vertex as it runs (R145–R155): entry, start of the current entry in locus ns, states, hold. -/
structure GateRun where
  pos : Nat
  states : Nat
  holdMac : Bool
  deriving DecidableEq, Repr

/-- Preemption status of a vertex (R156). -/
inductive PreemptSt where
  | disabled | verifying | succeeded | failed
  deriving DecidableEq, Repr

/-- A frame in transmission, or preempted (R153, R154): the copy, the bytes it leaves as (without FCS), the locus ns of its first symbol
after the SFD, the bytes (FCS included) that earlier fragments carried, those of the piece on the medium with the real times at which it
began and at which its last bit leaves. -/
structure TxFrame where
  copy : Copy
  bytes : List Byte
  sof : Nat
  sent : Nat
  piece : Nat
  began : Nat
  endAt : Nat
  deriving DecidableEq, Repr

/-- The egress side of a vertex (R143–R163): frame in transmission, preempted frame (R153), the real time at which the medium is free,
CBS credits (in 10^-6 bit) with the real time they hold for and the classes that were shaped then, the merge store, the highest key
sent, and the holds counted (R152): class, item, and the instant of the close that held it. -/
structure EgressSt where
  tx : Option TxFrame
  suspended : Option TxFrame
  busyUntil : Nat
  credit : SMap Int
  creditAt : SMap Nat
  shaped : List Nat
  merge : List Copy
  maxSent : Option (Nat × Nat × W32)
  preempt : PreemptSt
  gate : GateRun
  holdCounted : List (Nat × Nat × Nat)
  deriving DecidableEq, Repr

/-! ## Ethernet vertices (chapter 07) -/

/-- State of a backbone lane (R339, R340, R385). -/
inductive LaneState where
  | down | training | locking | up | disabled
  deriving DecidableEq, Repr

/-- A 64b/66b block of a backbone lane (R337): control or data, and its eight bytes, the block type first in a control block. -/
structure LaneBlock where
  ctl : Bool
  bytes : List Byte
  deriving DecidableEq, Repr

/-- A lane control block (R338). -/
structure Lcb where
  version : Nat
  lane : Nat
  width : Nat
  localFault : Bool
  remoteFault : Bool
  degraded : Bool
  cwc : W32
  peerId : W64
  deriving DecidableEq, Repr

/-- A backbone lane (R337–R347): `localFault` to `skew` as last received; `blocks` wait to be sent at the lowest lane of a port, `scr` is the
scrambler's last 58 bits, `line` the PAM4 levels of the codeword last sent. -/
structure LaneSt where
  st : LaneState
  good : Nat
  bad : Nat
  cwcMiss : Nat
  lastCwc : Option W32
  degraded : Bool
  miswired : Bool
  remoteFault : Bool
  localFault : Bool
  attempts : Nat
  since : Nat
  silent : Bool
  peerId : BitVec 64
  lanePos : Nat
  width : Nat
  skew : Nat
  corrWin : Nat
  winStart : Nat
  blocks : List LaneBlock
  scr : BitVec 58
  line : List (Fin 4)
  deriving DecidableEq, Repr

/-- State of a single-pair PHY (R349, R382). -/
inductive PhyState where
  | down | training | up | disabled | sleep
  deriving DecidableEq, Repr

/-- An Ethernet vertex: link, PHY, PLCA, CSMA/CD, flow control (R348–R373). Times are real times. -/
structure EthSt where
  linkUp : Bool
  rate : Nat
  phy : PhyState
  phyRate : Nat
  master : Bool
  sqi : Nat
  polInv : Bool
  fails : Nat
  downshift : Nat
  plcaActive : Bool
  fallback : Bool
  lastBeacon : Nat
  attempts : Nat
  backoffUntil : Nat
  contending : Option Copy
  pauseUntil : SMap Nat
  pausedSince : SMap Nat
  releaseUntil : SMap Nat
  xoff : Bool
  xoffAt : Nat
  pausePend : Option Bool
  anInUse : Nat
  anPend : Option Nat
  txExhausted : Bool
  lane : LaneSt
  deriving DecidableEq, Repr

/-! ## CAN, LIN and the bridge (chapter 06) -/

/-- Error state of a CAN channel (R282). -/
inductive CanErrState where
  | active | passive | busOff
  deriving DecidableEq, Repr

/-- Where a CAN message on offer comes from (R287, R292). -/
inductive CanSource where
  | fifo
  | mailbox (m : Nat)
  | reference
  deriving DecidableEq, Repr

/-- A CAN message waiting in the FIFO or a mailbox, with the errors its attempts have met (R289). -/
structure CanPending where
  copy : Copy
  errors : Nat
  window : Option Nat
  heldIn : Option Nat
  deriving DecidableEq, Repr

/-- A CAN channel (R272–R299). -/
structure CanSt where
  ctrl : W32
  nbt : W32
  dbt : W32
  xbt : W32
  xpwm : W32
  timingPending : Bool
  effEpoch : W32
  tec : Nat
  rec_ : Nat
  lastErr : Nat
  err : CanErrState
  recovering : Bool
  recCount : Nat
  boffAt : Nat
  fifo : List CanPending
  mbox : SMap (Option CanPending)
  mboxNext : SMap (Option Copy)
  offer : Option CanSource
  sending : Option CanSource
  sofAt : Nat
  pexWait : Bool
  busBusy : Bool
  detectPending : Bool
  cand : Nat
  goodFrames : Nat
  found : Bool
  dwellStart : Nat
  ttConflict : Bool
  ttActive : Bool
  ttArmed : Bool
  ttK : Nat
  ttRefStart : Option Nat
  ttRefPending : Bool
  ttRefDue : Nat
  ttWindows : List Nat
  trxFault : Bool
  selective : Bool
  deriving DecidableEq, Repr

/-- A LIN publish buffer (R302): data, whether it was ever filled, and the copy not yet carried by a response. -/
structure LinBuf where
  data : List Byte
  filled : Bool
  fresh : Option Copy
  deriving DecidableEq, Repr

/-- A LIN channel (R300–R308). -/
structure LinSt where
  table : Nat
  entry : Nat
  pendingTable : Option Nat
  resolving : Option (Nat × Nat × Nat)
  slotStart : Nat
  slotEnd : Nat
  running : Bool
  expecting : Option Nat
  headerAt : Nat
  synced : Bool
  bufs : SMap LinBuf
  trxFault : Bool
  deriving DecidableEq, Repr

/-- The message bridge (R312, R313): sequence counters, last accepted sequence numbers, counters of the tangents. -/
structure BridgeSt where
  wrapSeq : SMap Nat
  rxSeq : SMap (Option Nat)
  tFrames : SMap Nat
  tGap : SMap Nat
  deriving DecidableEq, Repr

/-- A running table or rule command (R208, R325): issuer, result and outputs to show when it completes; `flush` is the vertex that a
FLUSH_VERTEX flushes. -/
structure PortCmd where
  facet : Nat
  tag : Nat
  code : Nat
  result : Nat
  index : Option Nat
  mask : Option Nat
  res : Option (BitVec 64)
  key : Option (List W32)
  count : Nat
  flush : Option Nat
  deriving DecidableEq, Repr

/-! ## Journal, rings, injection (chapter 08) -/

/-- A journal record of eight words (R390). -/
structure JRec where
  w0 : W32
  w1 : W32
  w2 : W32
  w3 : W32
  w4 : W32
  w5 : W32
  w6 : W32
  w7 : W32
  deriving DecidableEq, Repr

/-- A record with its EXT record (R392, R395). -/
structure JEntry where
  rec_ : JRec
  ext : Option JRec
  deriving DecidableEq, Repr

/-- The journal writer and its export (R393–R404). The ring maps a slot to a record. -/
structure JournalSt where
  ring : SMap JRec
  wr : Nat
  oldest : Nat
  policy : Bool
  staging : List JEntry
  lostStaging : Nat
  lostPolicy : Nat
  eventLane : List JEntry
  coalesce : SMap Nat
  corruptSlots : List Nat
  rdGot : Nat
  rdResult : Nat
  expOn : Bool
  expReplay : Bool
  cursor : Nat
  store : List JEntry
  hi : Option Nat
  hiAt : Nat
  expMax : Option (Nat × Nat × W32)
  frame : List JRec
  frameAt : Nat
  frameSeq : W32
  deriving DecidableEq, Repr

/-- An injection FIFO (R408–R412). -/
structure InjSt where
  words : List W32
  closed : List (List Byte)
  bad : Bool
  half : Nat
  halves : List (List Byte)
  lastWrite : Nat
  flush : Bool
  deriving DecidableEq, Repr

/-- The crossing of a vertex or island (R411, R573). -/
structure Crossing where
  gray : Bool
  since : Nat
  waking : Option Nat
  deriving DecidableEq, Repr

/-! ## Facets, control transport, windows, accord (chapter 09) -/

/-- Result codes of R430. -/
inductive Rsp where
  | ok | rights | align | conflict | armed | locked | unmapped | range | notExecuted | farError | farTimeout | peerDown
  | lost | badOp | busy
  deriving DecidableEq, Repr

/-- The answer of the last register access: the model's own field, what the reply to the access carries. -/
structure Access where
  rsp : Rsp
  data : List W32
  deriving DecidableEq, Repr

/-- A lease of a lock (R439, R440): holder and the real time at which it expires. -/
structure Lease where
  holder : Nat
  deadline : Nat
  deriving DecidableEq, Repr

/-- An event-ring entry (R446). -/
structure EvEntry where
  src : Nat
  overflow : Bool
  count : Nat
  stamp : Nat
  deriving DecidableEq, Repr

/-- The overflow record of one source of a ring (R448). -/
structure EvOvf where
  count : Nat
  first : Nat
  deriving DecidableEq, Repr

/-- A facet's event ring (R447, R448, R450). -/
structure EvRing where
  entries : List EvEntry
  ovf : SMap (Option EvOvf)
  episode : Bool
  under : Bool
  last : EvEntry
  notify : Bool
  deriving DecidableEq, Repr

/-- Where an OCT reply goes (R432): arrival vertex, MAC, VLAN tag, and IP address and port when it came over UDP. -/
structure OctPeer where
  vertex : Nat
  mac : List Byte
  tci : Option W16
  udp : Option (W32 × W16)
  deriving DecidableEq, Repr

/-- One OCT operation of a frame (R428). -/
structure OctOp where
  code : Nat
  n : Nat
  flags : Nat
  addr : Nat
  words : List W32
  deriving DecidableEq, Repr

/-- The outcome of one OCT operation (R428). -/
structure OctRes where
  rsp : Rsp
  words : List W32
  deriving DecidableEq, Repr

/-- A reply kept in a session's cache (R435). -/
structure CacheEnt where
  seq : W32
  crc : W32
  reply : List Byte
  deriving DecidableEq, Repr

/-- An OCT session (R434–R438). -/
structure Session where
  isOpen : Bool
  high : W32
  cache : List CacheEnt
  opened : Option (W32 × W32)
  dups : Nat
  stale : Nat
  deriving DecidableEq, Repr

/-- An OCT frame in execution (R431, R435–R437). `sess` is facet × 4 + session, or 64 + rank for a peer session. `held`
marks an operation that waits (R429), `stale` a frame whose session was opened again (R438), `resets` one whose reply a
device reset follows (R579). -/
structure OctExec where
  id : Nat
  sess : Nat
  facet : Nat
  peer : Bool
  rank : Nat
  sid : Nat
  epoch : W32
  stamp : Nat
  vertex : Nat
  seqNo : W32
  itemSeq : W32
  crc : W32
  stop : Bool
  dst : OctPeer
  ops : List OctOp
  done : List OctRes
  held : Bool
  stale : Bool
  resets : Bool
  deriving DecidableEq, Repr

/-- What waits for a far read (R455): the command that made it, an OCT frame, or a line of the monitor. -/
inductive FarFor where
  | command
  | frame (id : Nat)
  | monitor
  deriving DecidableEq, Repr

/-- An operation waiting in a window (R454): far OCT code, far address, words, what waits for a read, and FLAGS.
A READ holds in `flags` how many words it asks for, and in `words` those that the near side has already read. -/
structure FarOp where
  code : Nat
  addr : Nat
  words : List W32
  waiter : FarFor
  flags : Nat
  deriving DecidableEq, Repr

/-- A far frame in flight (R454). `opens` marks the first one to a peer, which opens the session there (R434); `dropped` one that a
facet reset left behind (R459). -/
structure FarFrame where
  ops : List FarOp
  seqNo : W32
  sentAt : Nat
  tries : Nat
  tag : Nat
  opens : Bool
  dropped : Bool
  deriving DecidableEq, Repr

/-- STATE of BRG_WINk_LOCK (R470). -/
inductive FarLock where
  | none | requesting | granted | denied
  deriving DecidableEq, Repr

/-- A window of the bridge (R452–R459). -/
structure WindowSt where
  queue : List FarOp
  flight : Option FarFrame
  lock : FarLock
  lastFar : Nat
  deriving DecidableEq, Repr

/-- An accord peer (R462). `rival` is a second claimant of the rank and when it was last heard; `quietCount` counts
messages in a row that ask for sleep (R531); `opened` says whether a far frame has opened a session there. -/
structure PeerSt where
  state : Nat
  id : BitVec 64
  epoch : W32
  version : W32
  power : Nat
  keeper : Bool
  digest : List Byte
  digestValid : Bool
  vertex : Nat
  offset : W32
  feature : Nat
  heard : Nat
  mac : List Byte
  rival : Option (BitVec 64 × Nat)
  seqOut : W32
  quietCount : Nat
  opened : Bool
  deriving DecidableEq, Repr

/-- The accord block (R460–R468). -/
structure AccordSt where
  peers : SMap PeerSt
  senior : Nat
  digest : List Byte
  digestValid : Bool
  digestDue : Bool
  msgSeq : Nat
  lastSent : Nat
  level : Nat
  match_ : Bool
  deriving DecidableEq, Repr

/-- A facet reset in progress (R443). -/
structure FacetReset where
  facet : Nat
  since : Nat
  discarded : Nat
  keep : Option Nat
  deriving DecidableEq, Repr

/-! ## Cipher engine and check units (chapter 10) -/

/-- A key in one role of a slot (R473); `start` is the COUNT_START its blob gave, `count` the next nonce counter. -/
structure KeyRole where
  key : List Byte
  usage : Nat
  lenCode : Nat
  version : W32
  fixed : W32
  start : BitVec 64
  count : BitVec 64
  exhausted : Bool
  hits : Nat
  deriving DecidableEq, Repr

/-- A key to be installed by an UNWRAP in progress (R481, R482). -/
structure Blob where
  slot : Nat
  role : Nat
  key : KeyRole
  deriving DecidableEq, Repr

/-- A facet request that has started: its result is decided when it starts, and shown when it completes (R483, R499). `blob` is
the key that an UNWRAP still has to have judged, `unit` the check unit in use with its new running value `run`, `pipe` its
pipeline. -/
structure CipRun where
  facet : Nat
  id : Nat
  desc : List W32
  tag : Nat
  status : Nat
  keyUsed : Nat
  value : BitVec 64
  out : Option (List Byte)
  blob : Option Blob
  unit : Option Nat
  run : Option Nat
  pipe : Nat
  deriving DecidableEq, Repr

/-- A completion entry (R502). -/
structure CipComp where
  w0 : W32
  w1 : W32
  w2 : W32
  w3 : W32
  deriving DecidableEq, Repr

/-- A facet's cipher request page (R494–R502). `window` holds the last accepted identifiers with their completions. -/
structure CipFacet where
  queue : List (List W32)
  comps : List CipComp
  last : CipComp
  under : Bool
  window : List (W32 × Option CipComp)
  deriving DecidableEq, Repr

/-- A check unit (R509–R515). -/
structure ChkUnit where
  scanning : Option (Nat × Nat × Nat × Bool)
  inUse : Bool
  refused : Bool
  lastMatch : Bool
  result : Nat
  deriving DecidableEq, Repr

/-- The cipher engine (R473–R508). `lost` holds the roles (slot × 2 + role) that an uncorrectable error erased (R476),
`turn` the facet served last (R498), `katAt` the real time of the last known-answer test of each pipeline (R507). -/
structure CipherSt where
  keys : SMap (Option KeyRole)
  lost : List Nat
  facets : SMap CipFacet
  running : List CipRun
  nextId : Nat
  answers : List LookAnswer
  data : SMap Byte
  inService : List Nat
  spares : List Nat
  units : SMap ChkUnit
  turn : Nat
  katAt : SMap Nat
  deriving DecidableEq, Repr

/-! ## Sleep, wake, perimeter (chapter 11) -/

/-- Power mode of the module. -/
inductive PowerMode where
  | run | doze | sleep | off
  deriving DecidableEq, Repr

/-- Phase of a sleep request (WAK_STATUS, R548). -/
inductive SleepPhase where
  | none | round | waitRound | groupWait | preparing | dark
  deriving DecidableEq, Repr

/-- A perimeter member (R536–R541). -/
structure MemberSt where
  status : Nat
  reason : Nat
  holdMs : Nat
  keepSince : Option Nat
  keepTime : Nat
  roundsKept : Nat
  deriving DecidableEq, Repr

/-- The token outstanding in a perimeter round (R536). -/
structure Token where
  member : Nat
  tries : Nat
  sentAt : Nat
  deriving DecidableEq, Repr

/-- The wake block and the sleep sequence. -/
structure WakeSt where
  mode : PowerMode
  phase : SleepPhase
  req : Bool
  result : Nat
  prev : PowerMode
  token : Option Token
  consent : List Nat
  keep : List Nat
  nextRound : Nat
  groupAt : Nat
  drainAt : Nat
  closed : Bool
  asleep : List Nat
  before : List Nat
  tc10 : SMap (Option Nat)
  hadKeeper : Bool
  members : SMap MemberSt
  aon : Nat
  entryAon : Nat
  entryLocus : Nat
  trimmedFor : Nat
  trimAt : Option Nat
  trimVertex : Nat
  trimBad : Bool
  corr : Int
  measuredAt : Nat
  latched : Option (Nat × Nat × Nat)
  wlo : SMap (Option (Nat × Bool))
  noticeDue : List Nat
  deriving DecidableEq, Repr

/-! ## Power, clocks, pace, reset (chapter 12) -/

/-- Power entry, clocks and the pace sequencer. -/
structure PowerSt where
  aOk : Bool
  bOk : Bool
  aDc : Bool
  bCrank : Bool
  aCarry : Bool
  bCarry : Bool
  holdup : Bool
  shed : Bool
  lostAt : Nat
  wasA : Bool
  collapsed : Bool
  thermal : Bool
  over125 : Bool
  resetHeld : Bool
  level : Nat
  target : Nat
  divider : Nat
  planeReq : Bool
  latReq : Bool
  reqClear : Option Nat
  belowSince : Option Nat
  lastMeasure : Nat
  preBackbone : Bool
  xoOk : Bool
  xoLost : Bool
  ircBoot : Bool
  plls : List Nat
  xoDue : Nat
  cause : Nat
  devResets : Nat
  wdogAt : Nat
  wdogHalf : Bool
  resetDue : Bool
  startAt : Nat
  deriving DecidableEq, Repr

/-! ## Firmware, life cycle, monitor (chapter 13) -/

/-- An image bank of the flash (R594): its state code of UPD_BANKb_STATUS, the last code of R591, its words. -/
structure ImageBank where
  st : Nat
  code : Nat
  words : SMap W32
  deriving DecidableEq, Repr

/-- One snapshot half of a settings bank (R593, R598, R599): the saved configuration with the owner's sealed segments and their
words. -/
structure Snapshot where
  valid : Bool
  seq : W32
  content : Bank
  segs : SMap Segment
  ps : SMap W32
  deriving DecidableEq, Repr

/-- A settings bank (R598–R600). -/
structure SettingsBank where
  valid : Bool
  version : Nat
  seq : W32
  half0 : Snapshot
  half1 : Snapshot
  log : List W32
  deriving DecidableEq, Repr

/-- The boot record in force (R588). -/
structure BootRec where
  image : Nat
  settings : Nat
  trial : Option (Nat × Nat)
  left : Nat
  fallback : Bool
  unproven : Bool
  recover : Bool
  lcReq : Option (Nat × Bool)
  recSeq : Nat
  deriving DecidableEq, Repr

/-- Start-up progress (R582). -/
inductive BootStep where
  | held | rom | recovery | voidMonitor | image | phyLoaded | settings | joined | backbone
  deriving DecidableEq, Repr

/-- Firmware and life cycle. -/
structure FirmwareSt where
  banks : SMap ImageBank
  sets : SMap SettingsBank
  rec_ : BootRec
  recOld : BootRec
  fuses : List (BitVec 8)
  floor : List (BitVec 32)
  step : BootStep
  runImage : Nat
  runSet : Nat
  trialRun : Bool
  unproven : Bool
  fallenBack : Bool
  defaults : Bool
  busy : Option Nat
  saving : Bool
  cmdResult : Nat
  xmodem : Bool
  challenge : List Byte
  starts : Nat
  lcStatus : Nat
  backboneAt : Option Nat
  flog : List JRec
  flogSec : Nat
  flogInSec : Nat
  flogTotal : Nat
  deriving DecidableEq, Repr

/-- The Flenagil monitor on the service port (R606–R610). `load` is the bank and the next byte of an XMODEM load, `held` says that the
line at the front waits for a far read. -/
structure MonitorSt where
  unlock : Nat
  failsRow : Nat
  refuseUntil : Nat
  rate : Nat
  oldRate : Nat
  rateAt : Option Nat
  echo : Bool
  challenge : Option (List Byte)
  lastLine : Nat
  load : Option (Nat × Nat)
  held : Bool
  lines : List Item
  output : List String
  deriving DecidableEq, Repr

/-! ## The machine -/

/-- A frame handed to a medium: vertex, bytes, whether its FCS is corrupted, its start of frame on the locus. The model's
observation of what leaves the module; nothing of the module reads it. -/
structure OutFrame where
  vertex : Nat
  bytes : List Byte
  badFcs : Bool
  sof : Nat
  deriving DecidableEq, Repr

/-- The state of the module. -/
structure State where
  /-- The commands that wait, first in, first out. -/
  pending : List Instr
  /-- Real time in ns. -/
  now : Nat
  /-- The locus in 1/65,536 ns. -/
  locus : Nat
  /-- Number of free values taken so far: the model's own field. -/
  fresh : Nat
  /-- Answer of the last register access: the model's own field. -/
  resp : Access
  /-- What left the module: the model's own field. -/
  outbox : List OutFrame
  /-- The registers that no epoch binds. -/
  regs : RegFile
  /-- _LO halves written and held (R10), by key. -/
  loHeld : SMap (Option W32)
  /-- _HI halves latched by a read of _LO (R9), by key. -/
  hiLatch : SMap (Option W32)
  /-- Baselines of the RC counters (R369), by key + 2^24 × (0 for F0, 1 for the bound facet). -/
  baseline : SMap Nat
  /-- Totals of the RC counters (R369), by address of their _LO. -/
  counters : SMap Nat
  /-- Fault stamps latched by a read of FAULT_CODE (R631), by page base. -/
  faultLatch : SMap (List W32)
  /-- Pages whose SOFT_RESET is running (R622, R627), by base. -/
  softReset : List Nat
  live : Bank
  staging : Bank
  drain : Bank
  /-- The shadow image in DRAM of the live bank, and that of the draining one (R217, R316, R365). Only its static entries, its CAM and
  VLAN entries and its rules mean anything. -/
  shadow : Bank
  drainShadow : Bank
  epoch : EpochSt
  /-- Tags in use with the facet charged (R48). -/
  tags : SMap (Option Nat)
  /-- Tags in use with the OCT frame whose operation took them (R54). -/
  tagFrames : SMap (Option Nat)
  /-- Facets inside a tag-quota episode, and inside a context-quota episode (R50). -/
  quotaEp : List Nat
  ctxEp : List Nat
  /-- Per-vertex sequence number that the next item takes (R17). -/
  seqs : SMap W32
  /-- Last stamp of each vertex (R80). -/
  lastStamp : SMap Nat
  /-- Next identity of items, input records and OCT frames: the model's own numbering. -/
  nextId : Nat
  mp : MpState
  mpRestarts : List Nat
  loc : LocusSt
  domains : SMap DomainSt
  /-- Messages of the time domains that wait for their transmit stamp, and the mean link delays of the vertices (R82, R84). -/
  ptpOut : List PtpOut
  linkDelay : SMap Int
  txq : SMap TxStampQ
  syncs : SMap SyncOut
  caps : SMap CapUnit
  plane : PlaneSt
  /-- Input records (R115, R116). -/
  inputs : List InputRec
  /-- Order lanes, by vertex × 64 + lane (R229). -/
  lanes : SMap (List LaneEntry)
  /-- Copies waiting at each plane input, in order (R118, R130). -/
  planeQ : SMap (List Copy)
  /-- Class queues, by vertex × 8 + class (R143, R144). -/
  queues : SMap (List Copy)
  egress : SMap EgressSt
  /-- Buffer cells mapped out, corrected errors of a cell, and the cells due to be mapped out when the input record that holds them is
  freed: record and cell (R120). -/
  mappedOut : Nat
  cellErrs : SMap Nat
  cellDue : List (Nat × Nat)
  /-- Learns that the classifier has handed over (R197). -/
  learnQ : List LearnReq
  /-- Hash side list of entries unplaced by a rebuild (R179). -/
  unplaced : List HashEntry
  rebuilding : Bool
  reqRehash : Bool
  /-- A compare pass runs over the tables, over the rule stores (R217, R316). -/
  tblCompare : Bool
  brgCompare : Bool
  /-- Real time of the last ageing scan (R203). -/
  ageAt : Nat
  cmds : SMap (Option PortCmd)
  meters : SMap (List Nat)
  blocked : List Nat
  admission : SMap (List JobReq)
  admitTurn : Nat
  ctxs : SMap (Option Job)
  /-- Issue turn of a cell, and the lines of its code cache (R224, R257), by cell. -/
  issueTurn : SMap Nat
  codeLines : SMap (List Nat)
  /-- Real time of the last instruction issued, and of the last transfer of a plane (R168, R262). -/
  lastIssue : Option Nat
  lastXfer : SMap (Option Nat)
  /-- Jobs that a cell fault stopped and that wait for another cell (R249). -/
  replayQ : List Job
  cells : SMap Cell
  checkTurn : Nat
  checkAt : Nat
  segs : SMap Segment
  ps : SMap W32
  psBad : List Nat
  eth : SMap EthSt
  can : SMap CanSt
  lin : SMap LinSt
  bridge : BridgeSt
  jrn : JournalSt
  inj : SMap InjSt
  cross : SMap Crossing
  /-- The ring region of DRAM (R388), by byte address. -/
  dram : SMap Byte
  rings : SMap EvRing
  locks : SMap (Option Lease)
  fleases : SMap (Option Nat)
  sessions : SMap Session
  octIn : List (Item × OctPeer)
  /-- Frames taken by the control path for the management processor: accord, perimeter, ARP and TO_MP items. -/
  ctlIn : List Item
  octRun : List OctExec
  facetAddr : SMap (Option OctPeer)
  facetReset : Option FacetReset
  facetResets : SMap (Option (Nat × Nat))
  windows : SMap WindowSt
  accord : AccordSt
  cip : CipherSt
  wake : WakeSt
  power : PowerSt
  fw : FirmwareSt
  svc : MonitorSt
  deriving DecidableEq, Repr

/-! ## Reasons to stop -/

/-- Reasons for a fault. No command of this module ends in one: every command has an effect in every state. -/
inductive Fault where
  /-- Raised by nothing: kept so that the type says what a stop would be. Safe. -/
  | none
  deriving DecidableEq, Repr

/-- Reasons for a refusal. -/
inductive Refusal where
  /-- A row of the table without a meaning in the model; raised by Dispatch alone. Safe. -/
  | notModelled (mnemonic : String)
  deriving DecidableEq, Repr

/-! ## The state after reset -/

/-- An empty bank: every register at its reset value, every store empty. -/
def Bank.reset : Bank := ⟨[], [], [], [], []⟩

/-- The item that no queue holds: the value an empty slot shows. -/
def Item.nil : Item := ⟨0, 0, 0, 0, 0, 0, [], 0, 0, 0, false, false, 0, [], 0, 0xFFFFFFFF⟩

/-- An empty transmit-stamp queue; the entry popped last reads as zero before any POP. -/
def TxStampQ.reset : TxStampQ := ⟨[], 0, ⟨0, 0, 0, false⟩⟩

/-- A sync output at reset: off. -/
def SyncOut.reset : SyncOut := ⟨false, 0, 0, false⟩

/-- A capture unit at reset. -/
def CapUnit.reset : CapUnit := ⟨[], 0, false, ⟨0, false⟩, none, none, 0⟩

/-- The egress side of a vertex at reset: idle, every gate open (Q_GATES). -/
def EgressSt.reset : EgressSt := ⟨none, none, 0, [], [], [], [], none, .disabled, ⟨0, 0xFF, false⟩, []⟩

/-- A lane at reset. -/
def LaneSt.reset : LaneSt := ⟨.disabled, 0, 0, 0, none, false, false, false, false, 0, 0, false, 0, 0, 0, 0, 0, 0, [], 0, []⟩

/-- An Ethernet vertex at reset: its link down. -/
def EthSt.reset : EthSt :=
  { linkUp := false, rate := 0, phy := .disabled, phyRate := 0, master := false, sqi := 0, polInv := false, fails := 0,
    downshift := 0, plcaActive := false, fallback := false, lastBeacon := 0, attempts := 0, backoffUntil := 0,
    contending := none, pauseUntil := [], pausedSince := [], releaseUntil := [], xoff := false, xoffAt := 0,
    pausePend := none, anInUse := 0, anPend := none, txExhausted := false,
    lane := LaneSt.reset }

/-- A CAN channel at reset: off, with the reset bit timing in force. -/
def CanSt.reset : CanSt :=
  { ctrl := 0, nbt := 0x00F1E7C3, dbt := 0x0003DFF0, xbt := 0, xpwm := 0, timingPending := false, effEpoch := 0,
    tec := 0, rec_ := 0, lastErr := 0, err := .active, recovering := false, recCount := 0, boffAt := 0, fifo := [],
    mbox := [], mboxNext := [], offer := none, sending := none, sofAt := 0, pexWait := false, busBusy := false, detectPending := false, cand := 0,
    goodFrames := 0, found := false, dwellStart := 0, ttConflict := false, ttActive := false, ttArmed := false, ttK := 0,
    ttRefStart := none, ttRefPending := false, ttRefDue := 0, ttWindows := [], trxFault := false, selective := false }

/-- A LIN publish buffer at reset: it has never received data. -/
def LinBuf.reset : LinBuf := ⟨[], false, none⟩

/-- A LIN channel at reset. -/
def LinSt.reset : LinSt :=
  { table := 0, entry := 0, pendingTable := none, resolving := none, slotStart := 0, slotEnd := 0, running := false,
    expecting := none, headerAt := 0, synced := false, bufs := [], trxFault := false }

/-- A lattice cell at reset: cells 0–63 in service, 64–71 spare (R223). -/
def Cell.reset (c : Nat) : Cell := ⟨if c < 64 then .inService else .spare, false, false, false, 0⟩

/-- A program segment at reset: FREE. -/
def Segment.reset : Segment := ⟨0, 0, 0, 0, 0, false, false⟩

/-- A zero record. -/
def JRec.nil : JRec := ⟨0, 0, 0, 0, 0, 0, 0, 0⟩

/-- The journal at reset: JRN_WR_INDEX 0 (R389). -/
def JournalSt.reset : JournalSt :=
  { ring := [], wr := 0, oldest := 0, policy := false, staging := [], lostStaging := 0, lostPolicy := 0,
    eventLane := [], coalesce := [], corruptSlots := [], rdGot := 0, rdResult := 0, expOn := false, expReplay := false,
    cursor := 0, store := [], hi := none, hiAt := 0, expMax := none, frame := [], frameAt := 0, frameSeq := 0 }

/-- An injection FIFO at reset. -/
def InjSt.reset : InjSt := ⟨[], [], false, 0, [], 0, false⟩

/-- A crossing at reset: native mode. -/
def Crossing.reset : Crossing := ⟨false, 0, none⟩

/-- An event ring at reset. -/
def EvRing.reset : EvRing := ⟨[], [], false, false, ⟨0, false, 0, 0⟩, false⟩

/-- A session at reset: closed (R434). -/
def Session.reset : Session := ⟨false, 0, [], none, 0, 0⟩

/-- A window at reset. -/
def WindowSt.reset : WindowSt := ⟨[], none, .none, 0⟩

/-- An accord peer at reset: ABSENT. -/
def PeerSt.reset : PeerSt := ⟨0, 0, 0, 0, 0, false, [], false, 0, 0, 0, 0, [], none, 0, 0, false⟩

/-- A time-domain instance at reset: DISABLED. -/
def DomainSt.reset : DomainSt := ⟨0, none, 0, 0, 0, 0, 0, 0, 0, 0, 0, [], []⟩

/-- A facet's cipher request page at reset. -/
def CipFacet.reset : CipFacet := ⟨[], [], ⟨0, 0, 0, 0⟩, false, []⟩

/-- A check unit at reset. -/
def ChkUnit.reset : ChkUnit := ⟨none, false, false, false, 0⟩

/-- A perimeter member at reset. -/
def MemberSt.reset : MemberSt := ⟨0, 0, 0, none, 0, 0⟩

/-- A snapshot half that holds nothing. -/
def Snapshot.reset : Snapshot := ⟨false, 0, Bank.reset, [], []⟩

/-- A settings bank that holds nothing; its epoch log is empty. -/
def SettingsBank.reset : SettingsBank := ⟨false, 0, 0, Snapshot.reset, Snapshot.reset, []⟩

/-- What an erased flash word reads as. -/
def erasedWord : W32 := 0xFFFFFFFF

/-- The header words of the image that the model's flash holds in bank A at first power (DESIGN CHOICE: log entry 4): the
fields of R589 of an image that every check of R591 but the signature passes in stage STOCK. -/
def factoryHeader : SMap W32 :=
  [(0x00, 0x4F51494D), (0x01, 0x00010400), (0x02, 0x72000000), (0x03, 0x01000000), (0x04, 0x00010004), (0x05, 1), (0x06, 1),
   (0x07, 0x0000000F), (0x08, 0), (0x09, 0), (0x0A, 0), (0x0B, 0), (0x0C, 0), (0x0D, 0), (0x0E, 0), (0x0F, 0),
   (0x10, 1), (0x11, 0x400), (0x12, 0x1000), (0x13, 0), (0x20, 2), (0x21, 0x1400), (0x22, 0x1000), (0x23, 0),
   (0x30, 3), (0x31, 0x2400), (0x32, 0x1000), (0x33, 0), (0x40, 4), (0x41, 0x3400), (0x42, 0x1000), (0x43, 0)]
  ++ (List.range 152).map (fun i => (0x50 + i, (0 : W32)))

/-- An erased image bank. -/
def ImageBank.reset : ImageBank := ⟨0, 0, []⟩

/-- Event, wake, power and firmware state at the release of a module reset (t0 of R582). -/
def WakeSt.reset : WakeSt :=
  { mode := .run, phase := .none, req := false, result := 0, prev := .run, token := none, consent := [], keep := [],
    nextRound := 0, groupAt := 0, drainAt := 0, closed := false, asleep := [], before := [], tc10 := [], hadKeeper := false,
    members := [], aon := 0, entryAon := 0, entryLocus := 0, trimmedFor := 0, trimAt := none, trimVertex := 0,
    trimBad := false, corr := 0, measuredAt := 0, latched := none, wlo := [], noticeDue := [] }

/-- Power entry and clocks at the release of a module reset: level P7 (R571), the ROM on the internal oscillator. Which
supplies are in range the spec leaves to the vehicle (DESIGN CHOICE: log entry 3). -/
def PowerSt.reset : PowerSt :=
  { aOk := true, bOk := true, aDc := true, bCrank := false, aCarry := true, bCarry := false, holdup := false,
    shed := false, lostAt := 0, wasA := true, collapsed := false, thermal := false, over125 := false,
    resetHeld := false, level := 7, target := 7, divider := 4, planeReq := false, latReq := false,
    reqClear := none, belowSince := none, lastMeasure := 0, preBackbone := true, xoOk := false, xoLost := false,
    ircBoot := true, plls := [], xoDue := 50000000, cause := 0, devResets := 0, wdogAt := 0, wdogHalf := false,
    resetDue := false, startAt := 0 }

/-- Firmware at the release of a module reset: the ROM is about to run (R591). -/
def FirmwareSt.reset : FirmwareSt :=
  { banks := [(0, ⟨3, 0, factoryHeader⟩)], sets := [],
    rec_ := ⟨0, 0, none, 0, false, false, false, none, 1⟩,
    recOld := ⟨0, 0, none, 0, false, false, false, none, 0⟩, fuses := [0, 0, 0], floor := [0, 0, 0], step := .rom,
    runImage := 0, runSet := 0, trialRun := false, unproven := false, fallenBack := false, defaults := false,
    busy := none, saving := false, cmdResult := 0, xmodem := false, challenge := [], starts := 0, lcStatus := 0,
    backboneAt := none, flog := [], flogSec := 0, flogInSec := 0, flogTotal := 0 }

/-- The monitor at reset: locked, 115,200 bit/s (R606). -/
def MonitorSt.reset : MonitorSt := ⟨0, 0, 0, 4, 4, none, true, none, 0, none, false, [], []⟩

/-- The epochs at reset with an empty epoch log: epoch 0 live (R43). -/
def EpochSt.reset : EpochSt := ⟨0, none, 0, .idle, none, 0, 0, false, 0, false, false, false, 0, 0⟩

/-- The state right after a module reset: every register at its reset value, the locus at 0 in state FREE (R66), no item
anywhere, every plane in service (R134), the management processor in its ROM. -/
def State.reset : State :=
  { pending := [], now := 0, locus := 0, fresh := 0, resp := ⟨.ok, []⟩, outbox := [], regs := [], loHeld := [],
    hiLatch := [], baseline := [], counters := [], faultLatch := [], softReset := [], live := Bank.reset,
    staging := Bank.reset, drain := Bank.reset, shadow := Bank.reset, drainShadow := Bank.reset, epoch := EpochSt.reset, tags := [], tagFrames := [], quotaEp := [], ctxEp := [],
    seqs := [], lastStamp := [], nextId := 0, mp := .boot, mpRestarts := [],
    loc := ⟨.free, 0, 0, 0, 0, false, 0, 0, 0, 0, false⟩, domains := [], ptpOut := [], linkDelay := [], txq := [], syncs := [], caps := [],
    plane := ⟨[0, 1, 2, 3, 4], [], false, [], none, [], 0⟩, inputs := [], lanes := [], planeQ := [], queues := [],
    egress := [], mappedOut := 0, cellErrs := [], cellDue := [], learnQ := [], unplaced := [], rebuilding := false, reqRehash := false, tblCompare := false, brgCompare := false, ageAt := 0,
    cmds := [], meters := [], blocked := [], admission := [], admitTurn := 0, ctxs := [], issueTurn := [], codeLines := [], lastIssue := none, lastXfer := [], replayQ := [], cells := [],
    checkTurn := 0, checkAt := 0, segs := [], ps := [], psBad := [], eth := [], can := [], lin := [],
    bridge := ⟨[], [], [], []⟩, jrn := JournalSt.reset, inj := [], cross := [], dram := [], rings := [],
    locks := [], fleases := [], sessions := [], octIn := [], ctlIn := [], octRun := [], facetAddr := [],
    facetReset := none, facetResets := [], windows := [],
    accord := ⟨[], 0, [], false, false, 0, 0, 0, false⟩,
    cip := ⟨[], [], [], [], 0, [], [], [0, 1, 2, 3, 4], [5], [], 15, []⟩, wake := WakeSt.reset, power := PowerSt.reset,
    fw := FirmwareSt.reset, svc := MonitorSt.reset }

end Sys2Proof.Machine
end

