-- ==== Sys2Proof/Machine/Ops.lean ====
section
/-! DEFINITION. The operations that several blocks share: reading and writing registers and banks, time and stamps,
sequence numbers, journal records, events and their rings, fault records, tags, buffer cells, placing a copy on a plane,
dropping a copy. Each takes what it acts on first and the state last. -/

namespace Sys2Proof.Machine

/-! ## Outcomes -/

/-- A command that has run: what it leaves, with the queue of waiting commands and real time as they were (only the
step takes from the queue, and only an idle step lets time pass: DESIGN CHOICE, log entry 5). -/
def ran (s t : State) : Host.Outcome State Fault Refusal :=
  .next { t with pending := s.pending, now := s.now }

/-- Power states in which the main die works: not collapsed, not held in reset, not in SLEEP or OFF (R520, R560, R578). -/
def State.on (s : State) : Bool :=
  !s.power.collapsed && !s.power.resetHeld && (s.wake.mode = .run || s.wake.mode = .doze)

/-- The self-timed core works: the die works and VCORE is not shed (R557). -/
def State.coreOn (s : State) : Bool := s.on && !s.power.shed

/-- The management processor runs (R59, R63). -/
def State.mpOn (s : State) : Bool := s.coreOn && decide (s.mp = .running)

/-- An effect of a condition: without it the command finds nothing to do and changes nothing (DEDUCED: log entry 6). -/
def only (c : Bool) (f : State → State) (s : State) : State := if c then f s else s

/-! ## Registers and banks -/

/-- A register that no epoch binds. -/
def State.reg (s : State) (a : Nat) : W32 := s.regs.read a

/-- The live value of a staged register (R13). -/
def State.cfg (s : State) (a : Nat) : W32 := s.live.regs.read a

/-- The staged value of a staged register. -/
def State.stg (s : State) (a : Nat) : W32 := s.staging.regs.read a

/-- The bank of an epoch: the live one, or the one that drains (R30, R40). -/
def State.bankOf (s : State) (e : W32) : Bank := if e = s.epoch.live then s.live else s.drain

/-- The value of a staged register in an epoch. -/
def State.at_ (s : State) (e : W32) (a : Nat) : W32 := (s.bankOf e).regs.read a

/-- Writes a register that no epoch binds. -/
def setReg (a : Nat) (v : W32) (s : State) : State := { s with regs := s.regs.write a v }

/-- Writes a number to a register, modulo 2^32. -/
def setRegN (a n : Nat) (s : State) : State := setReg a (w32 n) s

/-- Adds to a counter register that saturates. -/
def addSat (a n : Nat) (s : State) : State := setReg a (sat32 ((s.reg a).toNat + n)) s

/-- Adds one to a counter register that saturates. -/
def bump (a : Nat) (s : State) : State := addSat a 1 s

/-- Adds to a 64-bit counter pair of registers. -/
def addPair (lo hi n : Nat) (s : State) : State :=
  let v := pair (s.reg lo) (s.reg hi) + n
  setReg hi (hiW v) (setReg lo (loW v) s)

/-- Takes from a count register, not below 0. -/
def subReg (a n : Nat) (s : State) : State := setRegN a ((s.reg a).toNat - n) s

/-- Sets a live register, as only the device does (the values a start loads). -/
def setLive (a : Nat) (v : W32) (s : State) : State := { s with live := { s.live with regs := s.live.regs.write a v } }

/-- Sets a staged register. -/
def setStaged (a : Nat) (v : W32) (s : State) : State :=
  { s with staging := { s.staging with regs := s.staging.regs.write a v } }

/-! ## Time, stamps and sequence numbers -/

/-- The locus in whole ns: the 96-bit form of R64 as one number. -/
def State.ns (s : State) : Nat := s.locus / 65536

/-- Seconds of a time in ns. -/
def secOf (t : Nat) : Nat := t / 1000000000

/-- Nanoseconds within the second. -/
def nsOf (t : Nat) : Nat := t % 1000000000

/-- A time of seconds and nanoseconds in ns. -/
def timeOf (sec ns : Nat) : Nat := sec * 1000000000 + ns

/-- The stamp that a vertex gives now: the locus, never below its last stamp (R80, R81). -/
def State.stampOf (s : State) (v : Nat) : Nat := max s.ns (SMap.get 0 s.lastStamp v)

/-- The sequence number that the next item of a vertex takes (R17). -/
def State.seqOf (s : State) (v : Nat) : W32 := SMap.get 0 s.seqs v

/-- The key (R21) that the next item of a vertex made now takes. -/
def State.ownKey (s : State) (v : Nat) : Nat × Nat × W32 := (s.stampOf v, v, s.seqOf v)

/-- Takes a sequence number at a vertex under a stamp (R17, R80). -/
def takeSeq (v stamp : Nat) (s : State) : State :=
  { s with seqs := SMap.upd 0 s.seqs v (· + 1), lastStamp := SMap.put 0 s.lastStamp v stamp }

/-! ## Journal records (R390–R396) -/

/-- A journal record (R390) of a key, type and words. -/
def recOf (key : Nat × Nat × W32) (typ facet reason tc : Nat) (late remote : Bool) (epoch w6 w7 : W32) : JRec :=
  ⟨loW (secOf key.1), hiW (secOf key.1), w32 (nsOf key.1), key.2.2,
   w32 (key.2.1 % 128 + typ * 2 ^ 8 + facet * 2 ^ 12 + reason * 2 ^ 16 + tc % 8 * 2 ^ 24 + bit late * 2 ^ 27
     + bit remote * 2 ^ 28), epoch, w6, w7⟩

/-- The EXT record of a record with 96 payload bits (R392). -/
def extOf (r : JRec) (w5 w6 w7 : W32) : JRec := { r with w4 := setFld r.w4 8 4 0xF, w5 := w5, w6 := w6, w7 := w7 }

/-- Records of a list of entries, EXT records counted. -/
def entryCount (l : List JEntry) : Nat := l.foldl (fun n e => n + 1 + bit e.ext.isSome) 0

/-- Stages the GAP record of a staging loss when space has returned (R395). The record is an item of vertex 99 (R19). -/
def flushGap (s : State) : State :=
  if s.jrn.lostStaging > 0 ∧ entryCount s.jrn.staging + 1 ≤ 8192 then
    let k := s.ownKey 99
    let r := recOf k 0xC 0 0 0 false false s.epoch.live (w32 s.jrn.lostStaging) 1
    takeSeq 99 k.1 { s with jrn := { s.jrn with staging := s.jrn.staging ++ [⟨r, none⟩], lostStaging := 0 } }
  else s

/-- Stages a record with its EXT record, or drops and counts it when the area is full (R395); raises no event itself. -/
def stageQuiet (e : JEntry) (s : State) : State :=
  let s := flushGap s
  let n := 1 + bit e.ext.isSome
  if entryCount s.jrn.staging + n ≤ 8192 then
    { s with jrn := { s.jrn with staging := s.jrn.staging ++ [e] } }
  else
    addSat A.jrnStageDrop n { s with jrn := { s.jrn with lostStaging := s.jrn.lostStaging + n } }

/-! ## Items made by the device -/

/-- An item of an internal vertex, stamped now (R19, R81), with the frame bytes given and their flow key (R189); facet F0 (R48). -/
def State.ownItem (s : State) (v tc : Nat) (data : List Byte) : Item :=
  { uid := s.nextId, stamp := s.stampOf v, vertex := v, seq := s.seqOf v, epoch := s.epoch.live, facet := 0, data := data,
    len := data.length + 4, vid := 0, pcp := 0, tagged := false, verified := false, tc := tc, flow := flowOwn v data,
    res := 0, rule := 0xFFFFFFFF }

/-- The key of an item (R21). -/
def Item.key (i : Item) : Nat × Nat × W32 := (i.stamp, i.vertex, i.seq)

/-- The stored copy of an item for an egress vertex. -/
def copyOf (i : Item) (src egress tc reserved : Nat) : Copy :=
  ⟨i, src, egress, tc, i.data, i.len, none, none, reserved, false, .no, false, false, 0, false⟩

/-- The bucket of a copy (R128): bits [9:0] of the CRC-16 of the flow key and the egress vertex. -/
def bucketOf (flow : List Byte) (egress : Nat) : Nat := crc16 (flow ++ [BitVec.ofNat 8 (egress % 128)]) % 1024

/-- The plane that a bucket maps to (R129). -/
def State.planeOf (s : State) (b : Nat) : Nat := SMap.get (b % 5) s.plane.map b

/-- Whether a bucket is held by a move or retirement (R130). -/
def State.held (s : State) (b : Nat) : Bool :=
  match s.plane.move with
  | none => false
  | some m => m.buckets.any (fun p => p.1 = b)

/-- Cells of the copies that wait at a plane input. -/
def State.planeCells (s : State) (p : Nat) : Nat :=
  (SMap.get [] s.planeQ p).foldl (fun n c => n + cellsOf c.len) 0

/-- The planes' pace request (R114): 64 cells that wait at any input request the highest level; below 64 at every input the request
ends. -/
def planePace (s : State) : State :=
  if (List.range 5).any (fun p => decide (64 ≤ s.planeCells p)) then { s with power := { s.power with planeReq := true } }
  else if s.power.planeReq then { s with power := { s.power with planeReq := false, reqClear := some s.now } }
  else s

/-- Places a copy at the input of the plane of its bucket (R128), held while its bucket moves (R130). -/
def placeCopy (c : Copy) (s : State) : State :=
  let b := bucketOf c.item.flow c.egress
  let c' := { c with held := s.held b }
  planePace { s with planeQ := SMap.upd [] s.planeQ (s.planeOf b) (fun l => l ++ [c']) }

/-- W7 of the ITEM record of an Ethernet frame (R391). -/
def ethW7 (i : Item) : W32 :=
  let off := if i.tagged then 16 else 12
  w32 (i.vid % 4096 + i.pcp % 8 * 2 ^ 12 + bit i.tagged * 2 ^ 15 + beAt i.data off 2 * 2 ^ 16)

/-- W7 of the ITEM record of a CAN or LIN message (R268, R391): FORMAT and ID of the stored form. -/
def canW7 (i : Item) : W32 := w32 (byteAt i.data 0 / 64 % 4 * 2 ^ 30 + beAt i.data 0 4 % 2 ^ 29)

/-- W7 of the ITEM record of an item: the CAN or LIN form for vertices 48–83, the Ethernet form otherwise. -/
def itemW7 (i : Item) : W32 := if 48 ≤ i.vertex ∧ i.vertex < 84 then canW7 i else ethW7 i

/-- W6 of the ITEM record of a classified item (R391, R193). -/
def itemW6 (i : Item) : W32 :=
  w32 (i.len % 2 ^ 14 + (i.res.toNat / 2 ^ 60 % 2) * 2 ^ 14 + (i.res.toNat / 2 ^ 47 % 2 ^ 13) * 2 ^ 15
    + (i.res.toNat / 2 ^ 61 % 8) * 2 ^ 28)

/-- The ITEM record of an item (R391, R394). -/
def itemRec (i : Item) (reason : Nat) (w6 : W32) : JRec :=
  recOf i.key 0 i.facet reason i.tc false false i.epoch w6 (itemW7 i)

/-- W6 of the ITEM record of a device item that goes to one vertex: ACTION FORWARD, DEST the vertex. -/
def ownW6 (i : Item) (egress : Nat) : W32 := w32 (i.len % 2 ^ 14 + egress % 128 * 2 ^ 15)

/-- Reserve cells in use (R119): those of the records in journal staging, and those of the copies that no input record holds. -/
def State.reserveUse (s : State) : Nat :=
  let cells (l : List Copy) : Nat := (l.map (fun c => if c.src = 0 then cellsOf c.len else 0)).sum
  cellsOf (32 * entryCount s.jrn.staging) + (s.planeQ.map (fun q => cells q.2)).sum + (s.queues.map (fun q => cells q.2)).sum
    + (s.egress.map (fun p => cells (p.2.merge ++ (p.2.tx.toList ++ p.2.suspended.toList).map (·.copy)))).sum

/-- Sends an item of an internal vertex as one copy in reserve cells (R119, R432): the item takes its sequence number,
has its ITEM record, and its copy is placed on its plane. A message that finds none of the 4,096 reserve cells free is not made
(DESIGN CHOICE: log entry 33). -/
def sendQuiet (v egress tc : Nat) (data : List Byte) (s : State) : State :=
  let i := s.ownItem v tc data
  if s.reserveUse + cellsOf i.len > 4096 then s
  else
    let s := takeSeq v i.stamp { s with nextId := s.nextId + 1 }
    placeCopy (copyOf i 0 egress tc 0) (stageQuiet ⟨itemRec i 0 (ownW6 i egress), none⟩ s)

/-! ## Control frames -/

/-- The Ethernet address of a vertex: ETH_STATION of the live configuration. -/
def State.station (s : State) (v : Nat) : List Byte := macOf (s.cfg (A.ethStationLo v)) (s.cfg (A.ethStationHi v))

/-- An Ethernet frame without its FCS, filled to 60 bytes (IEEE 802.3 minimum). -/
def ethFrame (dst src : List Byte) (tci : Option W16) (etherType : Nat) (payload : List Byte) : List Byte :=
  padTo 60 (dst ++ src ++ (match tci with
    | none => []
    | some t => beBytes 2 0x8100 ++ beBytes 2 t.toNat) ++ beBytes 2 etherType ++ payload)

/-- The ones-complement sum of the 16-bit words of a byte string. -/
def ipSum (l : List Byte) : Nat :=
  (List.range (ceilDiv l.length 2)).foldl
    (fun a i => let n := a + beAt l (2 * i) 2; if n < 65536 then n else n - 65535) 0

/-- A UDP/IPv4 datagram with a zero UDP checksum (R426); time to live 64 and identification 0 are the model's
(PRESUMED: log entry 7). -/
def udpPacket (srcIp dstIp : W32) (srcPort dstPort : Nat) (payload : List Byte) : List Byte :=
  let hdr (ck : Nat) := beBytes 2 0x4500 ++ beBytes 2 (28 + payload.length) ++ beBytes 4 0 ++ beBytes 2 0x4011 ++ beBytes 2 ck
    ++ beBytes 4 srcIp.toNat ++ beBytes 4 dstIp.toNat
  hdr (65535 - ipSum (hdr 0)) ++ beBytes 2 srcPort ++ beBytes 2 dstPort ++ beBytes 2 (8 + payload.length) ++ beBytes 2 0
    ++ payload

/-- The frame that carries an OCT payload to where a request came from (R426, R432). -/
def State.octFrame (s : State) (p : OctPeer) (payload : List Byte) : List Byte :=
  match p.udp with
  | none => ethFrame p.mac (s.station p.vertex) p.tci 0x88B5 payload
  | some (ip, port) =>
    ethFrame p.mac (s.station p.vertex) p.tci 0x0800
      (udpPacket (s.cfg A.sysOctIpv4) ip (fld (s.cfg A.sysOctUdp) 0 16) port.toNat payload)

/-- Sends an OCT frame of the device as an item of vertex 96 in the class of SYS_OCT_TC (R432). -/
def sendOct (p : OctPeer) (payload : List Byte) (s : State) : State :=
  sendQuiet 96 p.vertex (fld (s.cfg A.sysOctTc) 0 3) (s.octFrame p payload) s

/-! ## Events (R445–R450) -/

/-- Sources that the block chapters mark as faults (R175, R220, R248, R333, R415, R472, R518, R550, R583, R614). -/
def faultSource (src : Nat) : Bool :=
  [11, 12, 13, 32, 33, 34, 35, 36, 38, 39, 40, 41, 43, 44, 80, 81, 82, 83, 84, 85, 86, 87, 97, 116, 117, 118, 119, 128, 129,
   130, 131, 132, 133, 134, 135, 136, 247, 248, 264, 265, 266, 267, 268, 284, 285, 287, 288, 300, 303, 304, 305, 311].contains
    src

/-- The EV_RAW bits of a page that are faults (R387, R335, and the sources above). -/
def faultBits (p : PageRef) : Nat :=
  match p.kind with
  | .eth => 2 ^ 12
  | .can => 2 ^ 10
  | .lin => 2 ^ 6 + 2 ^ 14
  | _ => (List.range 32).foldl (fun a i => if i < p.sources.2 ∧ faultSource (p.sources.1 + i) then a + 2 ^ i else a) 0

/-- An occurrence of an event: its source, its page and bit, the facets that the block chapter names beside F0 and
EV_ROUTE, and whether it goes to F0's ring alone (a fault, or event 5). -/
structure Occ where
  src : Nat
  page : Nat
  bit : Nat
  facets : List Nat
  alone : Bool
  deriving DecidableEq, Repr

/-- The payload of an event notification (R450): NOTIFY = 1, COUNT 0, SEQ 0. -/
def notifyPayload : List Byte := [0x01, 0x10, 0, 0, 0, 0, 0, 0, 0, 0, 0, 0]

/-- Appends an entry to a facet's ring, or counts the occurrence in its overflow record (R447, R448); a ring that was
empty and has NOTIFY sends its notification (R450). -/
def pushRing (f : Nat) (e : EvEntry) (s : State) : State :=
  let r := SMap.get EvRing.reset s.rings f
  if r.entries.length < 1024 ∧ r.ovf = [] then
    let s := { s with rings := SMap.put EvRing.reset s.rings f { r with entries := r.entries ++ [e] } }
    if r.entries = [] ∧ r.notify then
      match SMap.get none s.facetAddr f with
      | none => s
      | some p => sendOct p notifyPayload s
    else s
  else
    let o := match SMap.get none r.ovf e.src with
      | none => ⟨1, e.stamp⟩
      | some o => ⟨min (o.count + 1) 0xFFFF, o.first⟩
    let r' := { r with ovf := SMap.put none r.ovf e.src (some o), episode := true }
    { s with rings := SMap.put EvRing.reset s.rings f r' }

/-- The rings an occurrence writes to (R445, R448). -/
def State.targets (s : State) (o : Occ) : List Nat :=
  if tst (s.reg (o.page + 0x14)) o.bit then []
  else if o.alone then [0]
  else (List.range 16).filter (fun f => f = 0 || tst (s.reg (o.page + 0x1C)) f || o.facets.contains f)

/-- One occurrence: its EV_RAW bit, its ring entries, and its EVENT record through the event lane (R396, R445). -/
def occur (o : Occ) (s : State) : State :=
  let v := srcVertex o.src
  let k := s.ownKey v
  let raw := setBit (s.reg (o.page + 0x10)) o.bit true
  let s := takeSeq v k.1 (setReg (o.page + 0x10) raw s)
  let s := (s.targets o).foldl (fun s f => pushRing f ⟨o.src, false, 1, k.1⟩ s) s
  if s.jrn.eventLane.length < 512 ∧ s.jrn.coalesce = [] then
    let r := recOf k 4 0 0 0 false false s.epoch.live (w32 o.src) raw
    { s with jrn := { s.jrn with eventLane := s.jrn.eventLane ++ [⟨r, none⟩] } }
  else
    bump A.jrnCoalesced { s with jrn := { s.jrn with coalesce := SMap.upd 0 s.jrn.coalesce o.src (· + 1) } }

/-- The occurrence of a source whose bit the source alone fixes (R629). -/
def occOf (src : Nat) (facets : List Nat) : Occ :=
  ⟨src, (srcPage src).1, (srcPage src).2, facets, faultSource src || src = 5⟩

/-- Facets whose ring is in an overflow episode. -/
def State.episodes (s : State) : Nat := (List.range 16).foldl (fun n f => n + bit (SMap.get EvRing.reset s.rings f).episode) 0

/-- The events that an operation of the event machinery itself causes: 5 for each ring whose episode began (R448), 279 when
coalescing started, 278 for each staging drop (R415). `a` is the state before. -/
def settle : Nat → State → State → State
  | 0, _, s => s
  | n + 1, a, s =>
    let eps := s.episodes - a.episodes
    let coal := decide (a.jrn.coalesce = [] ∧ s.jrn.coalesce ≠ [])
    let drops := (s.reg A.jrnStageDrop).toNat - (a.reg A.jrnStageDrop).toNat
    if eps = 0 ∧ !coal ∧ drops = 0 then s
    else
      let t := (List.range (min eps 16)).foldl (fun t _ => occur (occOf 5 []) t) s
      let t := if coal then occur (occOf 279 []) t else t
      let t := if drops > 0 then occur (occOf 278 []) t else t
      settle n s t

/-- Raises an occurrence. -/
def raiseOcc (o : Occ) (s : State) : State := settle 6 s (occur o s)

/-- Raises the event of a source (R445), with the facets that its chapter names. -/
def raiseTo (src : Nat) (facets : List Nat) (s : State) : State := raiseOcc (occOf src facets) s

/-- Raises the event of a source. -/
def raise (src : Nat) (s : State) : State := raiseTo src [] s

/-- Stages a record with its EXT record (R395); a drop raises event 278. -/
def stage (e : JEntry) (s : State) : State := settle 6 s (stageQuiet e s)

/-- Stages a record of an internal vertex, which takes its sequence number there (R19). -/
def record (v typ : Nat) (w6 w7 : W32) (s : State) : State :=
  let k := s.ownKey v
  stage ⟨recOf k typ 0 0 0 false false s.epoch.live w6 w7, none⟩ (takeSeq v k.1 s)

/-- Stages an ADMIN record of vertex 96 (R391): subtype, facet, how a lease ended, and W7. -/
def adminRec (sub facet ending : Nat) (w7 : W32) (s : State) : State :=
  record 96 0xA (w32 (sub + facet * 2 ^ 8 + ending * 2 ^ 12)) w7 s

/-! ## Bindings and bound facets -/

/-- The facet bound to a vertex in a bank (R416); internal vertices act for F0 (R48). -/
def Bank.bound (b : Bank) (v : Nat) : Nat :=
  if v < 84 then fld (b.regs.read (A.sysBind v)) 0 4 else if v = 84 then 15 else 0

/-- The facet bound to a vertex in the live epoch. -/
def State.bound (s : State) (v : Nat) : Nat := s.live.bound v

/-! ## Arrivals (R17, R30, R36, R121) -/

/-- The epoch of an item with a stamp (R30, R36): the one before the last switch for a stamp earlier than its instant. -/
def State.epochAt (s : State) (stamp : Nat) : W32 := if stamp < s.epoch.switchNs then s.epoch.prev else s.epoch.live

/-- An item that carries the epoch before the last switch drains, although that epoch had no other item left (R30, R40). -/
def reopen (e : W32) (s : State) : State :=
  if e ≠ s.epoch.live ∧ s.epoch.draining.isNone then { s with epoch := { s.epoch with draining := some e } } else s

/-- Stamps an arrival at a vertex (R17, R80): the item, which carries its bytes, and the state after. -/
def stampItem (v sof : Nat) (d : List Byte) (len : Nat) (s : State) : Item × State :=
  let stamp := max (SMap.get 0 s.lastStamp v) (min sof s.ns)
  let e := s.epochAt stamp
  let i : Item :=
    { uid := s.nextId, stamp := stamp, vertex := v, seq := s.seqOf v, epoch := e, facet := (s.bankOf e).bound v, data := d,
      len := len, vid := 0, pcp := 0, tagged := false, verified := false, tc := 0, flow := [], res := 0, rule := 0xFFFFFFFF }
  (i, takeSeq v stamp (reopen e { s with nextId := s.nextId + 1 }))

/-- ETH_MAXFRAME of a vertex in a bank. -/
def Bank.maxFrame (b : Bank) (v : Nat) : Nat := fld (b.regs.read (A.ethMaxframe v)) 0 14

/-- The largest frame of a vertex (R660). -/
def Bank.largest (b : Bank) (v : Nat) : Nat := if v < 48 then b.maxFrame v else largestFrameReset v

/-! ## Events of the vertices -/

/-- Raises a cause of an Ethernet vertex page (R387): bit 12 is a fault, the others reach the bound facet. -/
def raiseEth (v b : Nat) (s : State) : State :=
  raiseOcc ⟨160 + v, 0xC0000 + 0x1000 * v, b, [s.bound v], b = 12⟩ s

/-- Raises a cause of a CAN page (R335). -/
def raiseCan (ch b : Nat) (s : State) : State :=
  raiseOcc ⟨208 + ch, 0x101000 + 0x1000 * ch, b, [s.bound (48 + ch)], b = 10⟩ s

/-- Raises a cause of a LIN channel (R335). -/
def raiseLin (j b : Nat) (s : State) : State :=
  raiseOcc ⟨232 + j, 0x119000 + 0x1000 * (j / 2), 8 * (j % 2) + b, [s.bound (72 + j)], b = 6⟩ s

/-! ## Fault records (R61, R611, R631) -/

/-- Writes a fault-log entry (R611): the FAULT record with the start count in W5; at most 16 a second of real time. -/
def flogWrite (r : JRec) (s : State) : State :=
  let sec := s.now / 1000000000
  let n := if s.fw.flogSec = sec then s.fw.flogInSec else 0
  if n < 16 then
    let e := { r with w5 := w32 s.fw.starts }
    let wrapped := decide (0 < s.fw.flogTotal ∧ s.fw.flogTotal % 524288 = 0)
    let f := { s.fw with flog := (e :: s.fw.flog).take 524288, flogSec := sec, flogInSec := n + 1, flogTotal := s.fw.flogTotal + 1 }
    if wrapped then raise 310 { s with fw := f } else { s with fw := f }
  else bump A.updFlogSkipped { s with fw := { s.fw with flogSec := sec, flogInSec := n } }

/-- Writes the fault record of a page with its detection stamp: the fault registers, the count of PAGE_STATUS, the journal
record and the fault-log entry (R61, R631, R632). -/
def faultAt (p : PageRef) (detail addr stamp : Nat) (s : State) : State :=
  let code := w32 (p.kind.blockType * 2 ^ 16 + detail)
  let st := s.reg (p.base + 0x0C)
  let s := setReg (p.base + 0x20) code (setRegN (p.base + 0x24) addr s)
  let s := setRegN (p.base + 0x28) (nsOf stamp) (setRegN (p.base + 0x2C) (secOf stamp) s)
  let s := setReg (p.base + 0x0C) (setFld st 8 8 (min (fld st 8 8 + 1) 255)) s
  let v := pageVertex p.kind
  let k := s.ownKey v
  let r := recOf k 5 0 0 0 false false s.epoch.live code (w32 addr)
  flogWrite r (stage ⟨r, none⟩ (takeSeq v k.1 s))

/-- Writes the fault record of a page, detected now. -/
def fault (p : PageRef) (detail addr : Nat) (s : State) : State := faultAt p detail addr s.ns s

/-- A count of a facet's service counters (R47). -/
def svcDelay (f n : Nat) (s : State) : State := addSat (A.sysSvcDelay f) n s

/-- A loss in a facet's service counters (R47). -/
def svcLoss (f n : Nat) (s : State) : State := addSat (A.sysSvcLoss f) n s

/-! ## Tags (R48–R50) -/

/-- Tags that a facet holds. -/
def State.tagsOf (s : State) (f : Nat) : Nat := (s.tags.filter (fun p => p.2 = some f)).length

/-- The lowest number from `n` that a sparse map does not list. -/
def firstFree {α : Type} : Nat → SMap α → Nat
  | n, [] => n
  | n, (k, _) :: m => if k = n then firstFree (n + 1) m else if k < n then firstFree n m else n

/-- Whether a facet may start an operation (R50). -/
def State.tagOk (s : State) (f : Nat) : Bool :=
  decide (s.tagsOf f < fld (s.cfg (A.sysTagQuota f)) 0 13) && decide (firstFree 0 s.tags < 4096)

/-- The tag that the next operation takes. -/
def State.nextTag (s : State) : Nat := firstFree 0 s.tags

/-- Charges the next tag to a facet. -/
def takeTag (f : Nat) (s : State) : State := { s with tags := SMap.put none s.tags s.nextTag (some f) }

/-- Raises event 6 the first time in an episode that an operation of a facet waits or is refused at its quota (R50). -/
def tagWait (f : Nat) (s : State) : State :=
  if s.tagsOf f < fld (s.cfg (A.sysTagQuota f)) 0 13 ∨ s.quotaEp.contains f then s
  else raise 6 { s with quotaEp := addTo s.quotaEp f }

/-- The quota episodes that have ended (R50): those of the facets that hold fewer tags than their quota. -/
def endQuota (s : State) : State :=
  { s with quotaEp := s.quotaEp.filter (fun f => !decide (s.tagsOf f < fld (s.cfg (A.sysTagQuota f)) 0 13)) }

/-- Returns a tag; the quota episode of its facet ends (R50). -/
def returnTag (t : Nat) (s : State) : State :=
  endQuota { s with tags := SMap.put none s.tags t none, tagFrames := SMap.put none s.tagFrames t none }

/-! ## Buffer cells (R115–R123) -/

/-- Key of Q_IN_USE of a vertex. -/
def inUseKey (v : Nat) : Nat := selKey A.qInUse v

/-- Direction of an item at the bridge (R309): 0 BUS, 1 NET, by its ingress vertex. -/
def bridgeDir (ingress : Nat) : Nat := if 48 ≤ ingress ∧ ingress < 84 then 0 else 1

/-- Key of the use count of a class of a vertex: Q_Cc_USE, or BRG_Qd_Cc_USE of the bridge for an item of an ingress vertex (R309). -/
def qUseKey (v c ingress : Nat) : Nat := if v = 100 then A.brgQCUse (bridgeDir ingress) c else selKey (A.qCUse c) v

/-- The limit of a class of a vertex in a bank: Q_Cc_LIM, or BRG_Qd_Cc_LIM of the bridge. -/
def Bank.qLim (b : Bank) (v c ingress : Nat) : Nat :=
  fld (b.regs.read (if v = 100 then A.brgQCLim (bridgeDir ingress) c else selKey (A.qCLim c) v)) 0 18

/-- The residence ceiling of a class of a vertex in a bank, in ms: Q_Cc_CEILING, or BRG_Qd_Cc_CEILING of the bridge (R166, R309). -/
def Bank.qCeiling (b : Bank) (v c ingress : Nat) : Nat :=
  fld (b.regs.read (if v = 100 then A.brgQCCeiling (bridgeDir ingress) c else selKey (A.qCCeiling c) v)) 0 7

/-- The cap of a facet: while an epoch drains, the smaller of its caps in the two epochs (R123). -/
def State.capOf (s : State) (f : Nat) : Nat :=
  let live := fld (s.cfg (A.bufFcap f)) 0 18
  if s.epoch.draining.isSome then min live (fld (s.drain.regs.read (A.bufFcap f)) 0 18) else live

/-- Whether a facet's cap admits more cells. -/
def State.capFits (s : State) (f n : Nat) : Bool := decide ((s.reg (A.bufFuse f)).toNat + n ≤ s.capOf f)

/-- Charges input cells to a vertex and a facet. -/
def chargeIn (v f n : Nat) (s : State) : State := addSat (A.bufFuse f) n (addSat (inUseKey v) n s)

/-- Returns input cells. -/
def freeIn (v f n : Nat) (s : State) : State := subReg (A.bufFuse f) n (subReg (inUseKey v) n s)

/-- Charges queue cells to a vertex, class and facet. -/
def chargeQ (v c ingress f n : Nat) (s : State) : State := addSat (A.bufFuse f) n (addSat (qUseKey v c ingress) n s)

/-- Returns queue cells. -/
def freeQ (v c ingress f n : Nat) (s : State) : State := subReg (A.bufFuse f) n (subReg (qUseKey v c ingress) n s)

/-- Opens the input record of an item or job output: its cells are charged until `refs` holders have let go (R115). -/
def openInput (uid v f cells refs : Nat) (s : State) : State :=
  chargeIn v f cells { s with inputs := s.inputs ++ [⟨s.nextId, uid, v, f, cells, refs⟩], nextId := s.nextId + 1 }

/-- The buffer page. -/
def bufPage : PageRef := ⟨.buf, 0⟩

/-- A cell is mapped out as it is freed, up to 1,024 cells: event 84, and 85 with the last (R120). -/
def mapOut (cell : Nat) (s : State) : State :=
  if s.mappedOut < 1024 then
    let m := s.mappedOut + 1
    let s := raise 84 (fault bufPage 0x111 cell (setRegN A.bufMappedOut m { s with mappedOut := m }))
    if m = 1024 then raise 85 s else s
  else s

/-- Maps out the cells of an input record that are due for it when the record's cells are freed (R120). -/
def mapOutDue (id : Nat) (s : State) : State :=
  let due := s.cellDue.filter (fun p => p.1 = id)
  due.foldl (fun s p => mapOut p.2 s) { s with cellDue := s.cellDue.filter (fun p => p.1 ≠ id) }

/-- One holder of an input record lets go; the last one frees the cells (R116). -/
def release (id : Nat) (s : State) : State :=
  match s.inputs.find? (fun r => r.id = id) with
  | none => s
  | some r =>
    if r.refs ≤ 1 then mapOutDue id (freeIn r.vertex r.facet r.cells { s with inputs := s.inputs.filter (fun x => x.id ≠ id) })
    else { s with inputs := s.inputs.map (fun x => if x.id = id then { x with refs := x.refs - 1 } else x) }

/-- The input cells of an item that the control path took are freed when it has taken effect or is discarded (R115, R116). -/
def consume (uid : Nat) (s : State) : State :=
  match s.inputs.find? (fun r => r.uid = uid) with
  | none => s
  | some r => release r.id s

/-- More holders of an input record. -/
def retain (id n : Nat) (s : State) : State :=
  { s with inputs := s.inputs.map (fun x => if x.id = id then { x with refs := x.refs + n } else x) }

/-- Why the input side refuses an item of a vertex in an epoch that may take `n` cells (R121): its limit, or its facet's cap. -/
def State.inputRefusal (s : State) (e : W32) (v f n : Nat) : Option Nat :=
  if (s.reg (inUseKey v)).toNat + n > fld (s.at_ e (selKey A.qInLim v)) 0 18 then some 1
  else if !s.capFits f n then some 2
  else none

/-- Why the input side refuses an arriving frame (R121): it counts as the largest frame of its vertex. -/
def State.inputRefused (s : State) (i : Item) : Option Nat :=
  s.inputRefusal i.epoch i.vertex i.facet (cellsOf ((s.bankOf i.epoch).largest i.vertex))

/-! ## Drops (R125, R393) -/

/-- The FATE record of a copy (R391, R393). -/
def fateRec (c : Copy) (egress reason : Nat) (late : Bool) (s : State) : JRec :=
  recOf c.item.key 1 c.item.facet reason c.tc late false c.item.epoch
    (w32 (egress + (match c.outIdx with
      | none => 0
      | some i => i % 256 * 2 ^ 8 + 2 ^ 16)))
    (sat32 (s.ns - c.item.stamp))

/-- Stages the FATE record of a copy. -/
def fate (c : Copy) (egress reason : Nat) (late : Bool) (s : State) : State :=
  stage ⟨fateRec c egress reason late s, none⟩ s

/-- Counts a dropped item of a facet and vertex under its reason code of R125, and raises its event (R175). `v` is the
ingress vertex for the ingress reasons and the egress vertex for those of a queue, `c` the class, `ingress` the vertex of the
item. -/
def countDrop (reason f v c ingress : Nat) (s : State) : State :=
  if reason = 1 then raise 88 (bump (A.bufFDropIn f) (bump (selKey A.qInDrop v) s))
  else if reason = 2 then raise 89 (bump (A.bufFDropCap f) s)
  else if reason = 3 ∧ v = 100 then raise 246 (bump (A.bufFDropQ f) (bump (A.brgQCDrop (bridgeDir ingress) c) s))
  else if reason = 3 then raise 90 (bump (A.bufFDropQ f) (bump (selKey (A.qCDrop c) v) s))
  else if reason = 4 then raise 91 (bump (A.bufFAged f) (bump (selKey (A.qCAged c) v) s))
  else if reason = 7 then bump (selKey A.qTooLong v) s
  else if reason = 9 ∨ reason = 0xE then bump (selKey A.qInDrop v) s
  else s

/-- Drops a copy that has not left the input side (it holds its input record): FATE with egress 0x7F (R391). -/
def dropAtInput (reason : Nat) (c : Copy) (s : State) : State :=
  let v := if reason = 0xE ∨ reason = 1 then c.item.vertex else c.egress
  release c.src (countDrop reason c.item.facet v c.tc c.item.vertex (fate c 0x7F reason false s))

/-- Drops a copy that holds queue cells: it returns them and, when it has not crossed, lets its input record go. -/
def dropReserved (reason : Nat) (crossed : Bool) (c : Copy) (s : State) : State :=
  let s := freeQ c.egress c.tc c.item.vertex c.item.facet c.reserved s
  let s := countDrop reason c.item.facet c.egress c.tc c.item.vertex
    (fate c (if crossed then c.egress else 0x7F) reason false s)
  if crossed then s else release c.src s

/-- Stages the ITEM record of an item dropped at ingress before classification (R391), and counts the drop. -/
def dropItem (reason : Nat) (i : Item) (s : State) : State :=
  countDrop reason i.facet i.vertex i.tc i.vertex (stage ⟨itemRec i reason 0, none⟩ s)

/-! ## Admission of copies (R117, R122, R124) -/

/-- Cells that a copy reserves (R117): a cut-through copy reserves those of its class's MAXLEN. -/
def State.reserveOf (s : State) (c : Copy) : Nat :=
  if c.cut then cellsOf (fld (s.at_ c.item.epoch (selKey (A.qCMaxlen c.tc) c.egress)) 0 14) else cellsOf c.len

/-- Why a copy is refused: its class limit, the facet cap, its length; none admits it (R122, R124). -/
def State.refusal (s : State) (c : Copy) : Option Nat :=
  let n := s.reserveOf c
  if !c.cut ∧ c.len > fld (s.at_ c.item.epoch (selKey (A.qCMaxlen c.tc) c.egress)) 0 14 then some 7
  else if (s.reg (qUseKey c.egress c.tc c.item.vertex)).toNat + n > (s.bankOf c.item.epoch).qLim c.egress c.tc c.item.vertex then some 3
  else if !s.capFits c.item.facet n then some 2
  else none

/-- Admits a copy: it reserves its queue cells and is placed on its plane; or drops it alone (R122). The copy holds its
input record until it has crossed. -/
def admitCopy (c : Copy) (s : State) : State :=
  match s.refusal c with
  | some r => dropAtInput r c s
  | none =>
    let n := s.reserveOf c
    placeCopy { c with reserved := n } (chargeQ c.egress c.tc c.item.vertex c.item.facet n s)

/-- Sends an item of an internal vertex through admission as one copy (R409, R404): none when admission refuses it. -/
def State.ownFits (s : State) (v egress tc : Nat) (data : List Byte) : Bool :=
  let i := s.ownItem v tc data
  let n := cellsOf i.len
  decide ((s.reg (inUseKey v)).toNat + n ≤ fld (s.cfg (selKey A.qInLim v)) 0 18) && s.capFits 0 (2 * n)
    && (s.refusal (copyOf i 0 egress tc 0)).isNone

/-- Admits an item of an internal vertex and its one copy (the caller has asked `ownFits`). -/
def sendOwn (v egress tc : Nat) (data : List Byte) (s : State) : State :=
  let i := s.ownItem v tc data
  let s := takeSeq v i.stamp { s with nextId := s.nextId + 1 }
  let s := stage ⟨itemRec i 0 (ownW6 i egress), none⟩ s
  let id := s.nextId
  admitCopy (copyOf i id egress tc 0) (openInput i.uid v 0 (cellsOf i.len) 1 s)

/-- Sends an item of an internal vertex through admission (R119, R121): one that finds no input cells is dropped. -/
def sendMessage (v egress tc : Nat) (data : List Byte) (s : State) : State :=
  let i := s.ownItem v tc data
  match s.inputRefusal i.epoch v 0 (cellsOf i.len) with
  | some reason => dropItem reason i (takeSeq v i.stamp { s with nextId := s.nextId + 1 })
  | none => sendOwn v egress tc data s

/-- A free value of 32 bits: the next of the uninterpreted sequence (DESIGN CHOICE: log entry 1). -/
def State.freeWord (s : State) : W32 := Config.freeWord s.fresh

/-- A free bit (DESIGN CHOICE: log entry 1). -/
def State.freeBit (s : State) : Bool := Config.freeBit s.fresh

/-- Moves to the next free value. -/
def freshen (s : State) : State := { s with fresh := s.fresh + 1 }

/-- The FATE record of a copy that is lost for a reason to which the spec gives no code: a free value (log entry 45). -/
def unnamedFate (c : Copy) (s : State) : State := freshen (fate c c.egress (s.freeWord.toNat % 256) false s)

/-- Keeps the answer of a register access. -/
def answer (r : Rsp) (data : List W32) (s : State) : State := { s with resp := ⟨r, data⟩ }

end Sys2Proof.Machine
end

