-- ==== Sys2Proof/Machine/Gates.lean ====
section
/-! DEFINITION. Time gates (R145, R147–R151, R155): the gate list of a vertex in an epoch, where it stands at a locus
instant, and when a class's gate next closes. -/

namespace Sys2Proof.Machine

/-- One entry of a gate list: gate states, OP, interval in ns. -/
structure GateEntry where
  states : Nat
  op : Nat
  interval : Nat
  deriving DecidableEq, Repr

/-- Whether the gate list of a vertex is in force in a bank (Q_MODE.GATES). -/
def Bank.gated (b : Bank) (v : Nat) : Bool := tst (b.regs.read (selKey A.qMode v)) 2

/-- CYCLE of a vertex's list in ns. -/
def Bank.gclCycle (b : Bank) (v : Nat) : Nat := (b.regs.read (selKey A.qGclCycleNs v)).toNat

/-- BASE of a vertex's list in ns. -/
def Bank.gclBase (b : Bank) (v : Nat) : Nat :=
  timeOf (pair (b.regs.read (selKey A.qGclBaseSecLo v)) (b.regs.read (selKey A.qGclBaseSecHi v)))
    (b.regs.read (selKey A.qGclBaseNs v)).toNat

/-- Selector of an entry of a vertex's gate list: vertex × 1024 + index. -/
def gclSel (v i : Nat) : Nat := v * 1024 + i

/-- The gate list of a vertex (R172). -/
def Bank.gateList (b : Bank) (v : Nat) : List GateEntry :=
  (List.range (min 1024 (fld (b.regs.read (selKey A.qGclLen v)) 0 11))).map (fun i =>
    let w := b.regs.read (selKey A.qGclOp (gclSel v i))
    ⟨fld w 0 8, fld w 8 2, (b.regs.read (selKey A.qGclInterval (gclSel v i))).toNat⟩)

/-- Phase of an instant within the cycles BASE + k × CYCLE, k any integer (R147). -/
def gclPhase (base cycle t : Nat) : Nat :=
  if cycle = 0 then 0 else (((t : Int) - (base : Int)) % (cycle : Int)).toNat

/-- The entry whose interval covers a phase, with its index: the last entry holds to the end of the cycle. -/
def gateWalk : List GateEntry → Nat → Nat → Nat × GateEntry
  | [], i, _ => (i, ⟨0xFF, 0, 0⟩)
  | [e], i, _ => (i, e)
  | e :: f :: l, i, ph => if ph < e.interval then (i, e) else gateWalk (f :: l) (i + 1) (ph - e.interval)

/-- The live entry of a vertex's list at an instant (R147, R148). -/
def Bank.gateAt (b : Bank) (v t : Nat) : Nat × GateEntry :=
  gateWalk (b.gateList v) 0 (gclPhase (b.gclBase v) (b.gclCycle v) t)

/-- The gate states of a vertex at an instant: all open when no list is in force (R174). -/
def Bank.gatesAt (b : Bank) (v t : Nat) : Nat := if b.gated v then (b.gateAt v t).2.states else 0xFF

/-- Whether a class's gate is open at an instant. -/
def Bank.gateOpen (b : Bank) (v c t : Nat) : Bool := b.gatesAt v t / 2 ^ c % 2 = 1

/-- Time from the start of the cycle to the first entry, at or after a phase, that closes a class; none when no entry
closes it. The list is given with its cycle; `acc` is where the entry starts. -/
def closeAfter (cycle c ph : Nat) : List GateEntry → Nat → Option Nat
  | [], _ => none
  | e :: l, acc =>
    if cycle ≤ acc then none
    else
      let fin := if l = [] then cycle else min cycle (acc + e.interval)
      if e.states / 2 ^ c % 2 = 0 ∧ ph < fin then some (max acc ph) else closeAfter cycle c ph l (acc + e.interval)

/-- The instant at which a class's gate next closes, from an instant at which it is open; none when it never closes
(R151). -/
def Bank.gateClose (b : Bank) (v c t : Nat) : Option Nat :=
  if !b.gated v then none
  else
    let cy := b.gclCycle v
    let ph := gclPhase (b.gclBase v) cy t
    match closeAfter cy c ph (b.gateList v) 0 with
    | some p => some (t + (p - ph))
    | none => (closeAfter cy c 0 (b.gateList v) 0).map (fun p => t + (cy - ph) + p)

/-- Time for which a class's gate is open within the first `ph` ns of the cycle (R147). `acc` is where the entry starts. -/
def openUpTo (cycle c ph : Nat) : List GateEntry → Nat → Nat
  | [], _ => 0
  | e :: l, acc =>
    let fin := if l = [] then cycle else min cycle (acc + e.interval)
    (if e.states / 2 ^ c % 2 = 1 then min ph fin - min ph acc else 0) + openUpTo cycle c ph l (acc + e.interval)

/-- Time for which a class's gate is open from one instant to a later one. -/
def Bank.openTime (b : Bank) (v c t0 t1 : Nat) : Nat :=
  if !b.gated v then t1 - t0
  else
    let cy := b.gclCycle v
    let l := b.gateList v
    let upTo (t : Nat) : Int :=
      ((t : Int) - (b.gclBase v : Int)) / (cy : Int) * (openUpTo cy c cy l 0 : Nat)
        + (openUpTo cy c (gclPhase (b.gclBase v) cy t) l 0 : Nat)
    (upTo t1 - upTo t0).toNat

/-- The bank that governs a class queue: that of the epoch of its head copy (R145). -/
def State.queueBank (s : State) (v c : Nat) : Bank :=
  match (SMap.get [] s.queues (v * 8 + c)).head? with
  | none => s.live
  | some k => s.bankOf k.item.epoch

/-- Whether a class of a vertex is shaped in a bank (R146). -/
def Bank.shapes (b : Bank) (v c : Nat) : Bool := tst (b.regs.read (selKey (A.qCCbs c) v)) 0

/-- Brings the credit of a class up to date (R146): it rises at idleSlope while copies wait and the gate is open; with
an empty queue a negative credit recovers to zero (IEEE 802.1Qav) and a positive one is zero. A class that was not shaped before starts
at zero. -/
def touchCredit (v c : Nat) (s : State) : State :=
  let b := s.queueBank v c
  let e := SMap.get EgressSt.reset s.egress v
  let set (e : EgressSt) : State := { s with egress := SMap.put EgressSt.reset s.egress v e }
  if !b.shapes v c then
    if e.shaped.contains c then
      set { e with shaped := dropFrom e.shaped c, credit := SMap.put 0 e.credit c 0, creditAt := SMap.put 0 e.creditAt c 0 }
    else s
  else if !e.shaped.contains c then
    set { e with shaped := addTo e.shaped c, credit := SMap.put 0 e.credit c 0, creditAt := SMap.put 0 e.creditAt c s.now }
  else
    let was := SMap.get 0 e.creditAt c
    let old := SMap.get 0 e.credit c
    let slope := (b.regs.read (selKey (A.qCIdleslope c) v)).toNat
    let gain : Int := (slope * b.openTime v c (s.ns - (s.now - was)) s.ns : Nat)
    let idle := decide (SMap.get [] s.queues (v * 8 + c) = [])
    let new := if was > s.now then old else if idle then min 0 (old + gain) else old + gain
    set { e with credit := SMap.put 0 e.credit c new, creditAt := SMap.put 0 e.creditAt c (max was s.now) }

/-- Whether preemptable fragments are held (R155): the last Set-And-Hold or Set-And-Release entry up to the live one,
round the list, is a Hold. -/
def Bank.macHeld (b : Bank) (v t : Nat) : Bool :=
  b.gated v &&
    (let l := b.gateList v
     let i := (b.gateAt v t).1
     let round := l.drop (i + 1) ++ l.take (i + 1)
     match (round.filter (fun e => e.op = 1 || e.op = 2)).getLast? with
     | some e => e.op = 1
     | none => false)

/-- Sets the recorded position and states of a vertex's gate list to those that the locus names (R147, R148, R71). -/
def regate (v : Nat) (s : State) : State :=
  let g : GateRun := ⟨if s.live.gated v then (s.live.gateAt v s.ns).1 else 0, s.live.gatesAt v s.ns, s.live.macHeld v s.ns⟩
  { s with egress := SMap.upd EgressSt.reset s.egress v (fun e => { e with gate := g }) }

/-- Every gate list resumes at the position that the locus names (R71). -/
def regateAll (s : State) : State := (List.range 48).foldl (fun s v => regate v s) s

/-- GATE_ENTRY_ADVANCE (R147): the gate list of a vertex moves to the entry that covers the present instant. -/
def execGateEntryAdvance (v : EthV) (s : State) : Host.Outcome State Fault Refusal :=
  ran s (only (s.coreOn && s.live.gated v) (regate v) s)

end Sys2Proof.Machine
end

