-- ==== Sys2Proof/Machine/Planes.lean ====
section
/-! DEFINITION. The five planes (R111–R137): the transfer of a copy, buffer-cell errors, the move of buckets, retirement. -/

namespace Sys2Proof.Machine

/-- The plane page. -/
def plnPage : PageRef := ⟨.pln, 0⟩

/-- The copies at a plane input. -/
def State.planeIn (s : State) (p : Nat) : List Copy := SMap.get [] s.planeQ p

/-- Sets the copies at a plane input; the planes' pace request follows (R114). -/
def setPlaneIn (p : Nat) (l : List Copy) (s : State) : State := planePace { s with planeQ := SMap.put [] s.planeQ p l }

/-- Transfers that a copy takes (R111): ⌈L/32⌉ sectors, at least one, two to a transfer. -/
def transfersOf (len : Nat) : Nat := ceilDiv (max 1 (ceilDiv len 32)) 2

/-- Whether a vertex is a sorted-merge egress in an epoch (R162). -/
def State.merges (s : State) (e : W32) (v : Nat) : Bool := decide (v < 48) && tst (s.at_ e (selKey A.qMode v)) 1

/-- Key of the class queue of a vertex. -/
def qKey (v c : Nat) : Nat := v * 8 + c

/-- Copies in a class queue. -/
def State.queue (s : State) (v c : Nat) : List Copy := SMap.get [] s.queues (qKey v c)

/-- Sets a class queue. -/
def setQueue (v c : Nat) (l : List Copy) (s : State) : State := { s with queues := SMap.put [] s.queues (qKey v c) l }

/-- The egress side of a vertex. -/
def State.out (s : State) (v : Nat) : EgressSt := SMap.get EgressSt.reset s.egress v

/-- Sets the egress side of a vertex. -/
def setOut (v : Nat) (e : EgressSt) (s : State) : State := { s with egress := SMap.put EgressSt.reset s.egress v e }

/-- The first copy at a plane input that its bucket does not hold, with the rest. -/
def nextCopy (l : List Copy) : Option (Copy × List Copy) :=
  match l.find? (fun c => !c.held) with
  | none => none
  | some c => some (c, l.eraseIdx (l.findIdx (fun c => !c.held)))

/-- A corrected error of a buffer cell (R55, R120): from its fourth the cell is mapped out when it is next freed, with the input record
that holds it where there is one, else at once. -/
def cellCorrected (cell : Nat) (holder : Option Nat) (s : State) : State :=
  let s := raise 87 (fault bufPage 0x101 cell (bump A.bufCorr s))
  let n := SMap.get 0 s.cellErrs cell + 1
  let s : State := { s with cellErrs := SMap.put 0 s.cellErrs cell n }
  if n ≠ 4 then s
  else match holder with
    | some id => { s with cellDue := s.cellDue ++ [(id, cell)] }
    | none => mapOut cell s

/-- An uncorrectable error of a buffer cell is counted and raised; the item that the cell held is lost to its facet (R58, R120). -/
def cellGone (cell : Nat) (facet : Option Nat) (s : State) : State :=
  let s := bump A.bufDbe s
  raise 86 (fault bufPage 0x102 cell (match facet with
    | none => s
    | some f => svcLoss f 1 s))

/-- An uncorrectable buffer cell discards the item in it (R58, R120): every copy of it still at the input side goes. Reserve cells hold one
copy alone. -/
def cellLost (cell : Nat) (c : Copy) (s : State) : State :=
  let mine (d : Copy) : Bool := d.src = c.src && (c.src ≠ 0 || d.item.uid = c.item.uid)
  let drop (d : Copy) (s : State) : State :=
    release d.src (freeQ d.egress d.tc d.item.vertex d.item.facet d.reserved (fate d 0x7F 6 false s))
  let gone := ((List.range 5).map (fun p => (s.planeIn p).filter mine)).flatten
  let s := (List.range 5).foldl (fun s p => setPlaneIn p ((s.planeIn p).filter (fun d => !mine d)) s) s
  cellGone cell (some c.item.facet) (gone.foldl (fun s d => drop d s) s)

/-! ## Moves of buckets (R129–R137) -/

/-- The buckets that map to a plane, in ascending order. -/
def State.bucketsOn (s : State) (p : Nat) : List Nat := (List.range 1024).filter (fun b => s.planeOf b = p)

/-- Holds the copies of buckets that wait at a plane input (R130, step 1). A copy whose transfer has begun (it has met an
error) is in flight and is not held. -/
def holdBuckets (bs : List Nat) (s : State) : State :=
  let mark (c : Copy) : Copy := if c.errs = 0 ∧ bs.contains (bucketOf c.item.flow c.egress) then { c with held := true } else c
  (List.range 5).foldl (fun s p => setPlaneIn p ((s.planeIn p).map mark) s) s

/-- Starts the move of buckets off a plane (R130). -/
def startMove (retiring : Bool) (p : Nat) (bs : List (Nat × Nat)) (stamp detail : Nat) (s : State) : State :=
  holdBuckets (bs.map (·.1)) { s with plane := { s.plane with move := some ⟨retiring, p, bs, s.now, stamp, detail⟩ } }

/-- Pairs buckets with target planes, round-robin (R133). -/
def dealBuckets (targets : List Nat) (bs : List Nat) : List (Nat × Nat) :=
  if targets = [] then [] else bs.mapIdx (fun i b => (b, targets.getD (i % targets.length) 0))

/-- Completes a retirement (R133, R135): the plane is retired; event 81, or 82 when a plane was already retired; the fault
record with its detection stamp. -/
def retired (m : PlaneMove) (s : State) : State :=
  let again := decide (s.plane.retired ≠ [])
  let pl := { s.plane with inService := dropFrom s.plane.inService m.plane, retired := addTo s.plane.retired m.plane,
                           exhausted := s.plane.exhausted || again }
  let s := raise 81 { s with plane := pl }
  let s := if again then raise 82 (faultAt plnPage 0x108 m.plane m.stamp s) else s
  faultAt plnPage m.detail m.plane m.stamp s

/-- Starts the retirement of a plane (R133): event 80; its buckets are dealt over the planes that stay in service. -/
def startRetire (p stamp detail : Nat) (s : State) : State :=
  let targets := (List.range 5).filter (fun q => q ≠ p ∧ s.plane.inService.contains q)
  let bs := dealBuckets targets (s.bucketsOn p)
  let s := raise 80 s
  if bs = [] then retired ⟨true, p, [], s.now, stamp, detail⟩ s else startMove true p bs stamp detail s

/-- Ends the move in progress when it has no bucket left; the next plane that waits for retirement follows (R135). -/
def endMove (s : State) : State :=
  match s.plane.move with
  | none => s
  | some m =>
    if m.buckets ≠ [] then s
    else
      let s : State := { s with plane := { s.plane with move := none } }
      let s := if m.retiring then retired m s else s
      match s.plane.pendingRetire with
      | [] => s
      | p :: l =>
        let s : State := { s with plane := { s.plane with pendingRetire := l } }
        if s.plane.inService.contains p.plane then startRetire p.plane p.stamp p.detail s else s

/-- Maps a bucket to its new plane and releases its held copies there in order (R130, step 3); each delays an item of its
facet (R132). -/
def remap (b target : Nat) (s : State) : State :=
  let mine (c : Copy) : Bool := bucketOf c.item.flow c.egress = b
  let all := ((List.range 5).map (fun p => (s.planeIn p).filter mine)).flatten
  let s := (List.range 5).foldl (fun s p => setPlaneIn p ((s.planeIn p).filter (fun c => !mine c)) s) s
  let s : State := { s with plane := { s.plane with
    map := SMap.put (b % 5) s.plane.map b target,
    move := s.plane.move.map (fun m => { m with buckets := m.buckets.filter (fun x => x.1 ≠ b) }) } }
  let freed := all.map (fun c => { c with held := false, errs := 0 })
  let s := setPlaneIn target (s.planeIn target ++ freed) s
  endMove ((all.filter (·.held)).foldl (fun s c => svcDelay c.item.facet 1 s) s)

/-- The target of a bucket in the move in progress. -/
def State.moveTarget (s : State) (b : Nat) : Option Nat :=
  match s.plane.move with
  | none => none
  | some m => (m.buckets.find? (fun x => x.1 = b)).map (·.2)

/-- QUIESCE_MARKER_ACK (R130): every marker of a bucket is acknowledged, none of its copies being in flight any more. -/
def execQuiesceMarkerAck (bucket : Fin 1024) (s : State) : Host.Outcome State Fault Refusal :=
  let flying := (List.range 5).any (fun p =>
    (s.planeIn p).any (fun c => !c.held && decide (bucketOf c.item.flow c.egress = bucket)))
  ran s (only (s.coreOn && !flying) (fun s =>
    match s.moveTarget bucket with
    | none => s
    | some t => remap bucket t s) s)

/-- MARKER_TIMEOUT (R131): 8 µs without acknowledgement; the unacknowledged copies are sent again on the new plane, ahead of
the held ones. -/
def execMarkerTimeout (bucket : Fin 1024) (s : State) : Host.Outcome State Fault Refusal :=
  let late := match s.plane.move with
    | none => false
    | some m => decide (m.since + 8000 ≤ s.now)
  ran s (only (s.coreOn && late) (fun s =>
    match s.moveTarget bucket with
    | none => s
    | some t => raise 97 (fault plnPage 0x110 t (bump A.plnMarkerTimeouts (remap bucket t s)))) s)

/-- Whether a plane is retired, being retired, or waits for it. -/
def State.planeGoing (s : State) (p : Nat) : Bool :=
  !s.plane.inService.contains p || s.plane.pendingRetire.any (fun x => x.plane = p)
    || (match s.plane.move with
      | none => false
      | some m => m.retiring && decide (m.plane = p))

/-- A plane fails with the DETAIL of its fault (R133, R135): it is retired, after a move or retirement in progress. -/
def planeFails (p detail : Nat) (s : State) : State :=
  if s.plane.move.isSome then { s with plane := { s.plane with pendingRetire := s.plane.pendingRetire ++ [⟨p, detail, s.ns⟩] } }
  else startRetire p s.ns detail s

/-- PLANE_FAULT (R133, R135): a plane in service fails parity or its self-check. -/
def execPlaneFault (p : Fin 5) (parity : Bool) (s : State) : Host.Outcome State Fault Refusal :=
  ran s (only (s.coreOn && !s.planeGoing p) (planeFails p (if parity then 0x104 else 0x103)) s)

/-- A write of PLN_MOVE (R136, R421): a facet other than F0 is refused with RIGHTS, and with GO its result is shown in
PLN_MOVE_STATUS; a refused move shows its result there; else the bucket moves. -/
def plnMoveWritten (f : Nat) (v : W32) (s : State) : Rsp × State :=
  let setRes (r : Nat) (s : State) : State := { s with plane := { s.plane with result := r } }
  let b := fld v 0 10
  let t := fld v 12 3
  if f ≠ 0 then (.rights, if tst v 16 then setRes 3 s else s)
  else if !tst v 16 then (.ok, s)
  else if s.plane.move.isSome then (.ok, setRes 2 s)
  else if !s.plane.inService.contains t then (.ok, setRes 1 s)
  else (.ok, setRes 0 (startMove false (s.planeOf b) [(b, t)] s.ns 0 s))

/-- Whether a retirement runs. -/
def State.retiring (s : State) : Bool := s.plane.move.any (fun m => m.retiring)

/-- A write of PLN_FORCE_RETIRE (R137): refused when a plane is retired or draining, else the plane retires as on a
fault. -/
def plnForceWritten (v : W32) (s : State) : Rsp × State :=
  let p := fld v 0 3
  if !tst v 8 then (.ok, s)
  else if s.plane.retired ≠ [] ∨ s.retiring ∨ s.planeGoing p then (.conflict, s)
  else (.ok, planeFails p 0x103 s)

/-- PLN_STATUS (R169). -/
def State.plnStatus (s : State) : W32 :=
  let (mv, dr, dp) := match s.plane.move with
    | none => (false, false, 0)
    | some m => (!m.retiring, m.retiring, if m.retiring then m.plane else 0)
  w32 (maskOf 5 s.plane.inService + maskOf 5 s.plane.retired * 2 ^ 8 + bit dr * 2 ^ 16 + dp * 2 ^ 17
    + bit s.plane.exhausted * 2 ^ 20 + bit mv * 2 ^ 21)

end Sys2Proof.Machine
end

