-- ==== Sys2Proof/Machine/EthBase.lean ====
section
/-! DEFINITION. What the Ethernet vertices share: gates of vertices, bonded ports, counters, VLAN entries, keys of slots, and
inline MACsec (R374–R380). -/

namespace Sys2Proof.Machine

/-! ## Vertices and ports -/

/-- Base address of the page of an external vertex 0–83 (R616). -/
def vertexPage (v : Nat) : Nat :=
  if v < 48 then 0xC0000 + 0x1000 * v
  else if v < 72 then 0x101000 + 0x1000 * (v - 48)
  else 0x119000 + 0x1000 * ((v - 72) / 2)

/-- The page of an Ethernet vertex. -/
def ethPage (v : Nat) : PageRef := ⟨.eth, v⟩

/-- How far the start-up has come (R582). -/
def BootStep.rank : BootStep → Nat
  | .held => 0 | .rom => 1 | .recovery => 1 | .voidMonitor => 1 | .image => 2 | .phyLoaded => 3 | .settings => 4 | .joined => 5
  | .backbone => 6

/-- Whether the start-up has enabled the medium of a vertex (R564, R582, R601): the crystal accepted; PHYs after their firmware,
channels when they join, lanes after theirs. -/
def State.started (s : State) (v : Nat) : Bool :=
  !s.power.ircBoot && decide ((if v < 8 then 6 else if v < 48 then 3 else 5) ≤ s.fw.step.rank)

/-- Whether the lane, PHY or transceiver of a vertex works: started, not in reset, not put to sleep (R521). -/
def State.physOn (s : State) (v : Nat) : Bool :=
  s.started v && !s.softReset.contains (vertexPage v) && !s.wake.asleep.contains v

/-- Whether a vertex takes part in traffic: its page's live ENABLE (R623), and its medium works. -/
def State.vertexOn (s : State) (v : Nat) : Bool := tst (s.cfg (vertexPage v + 8)) 0 && s.physOn v

/-- The state of an Ethernet vertex. -/
def State.ethSt (s : State) (v : Nat) : EthSt := SMap.get EthSt.reset s.eth v

/-- Sets the state of an Ethernet vertex. -/
def setEth (v : Nat) (e : EthSt) (s : State) : State := { s with eth := SMap.put EthSt.reset s.eth v e }

/-- Adds to a counter of an Ethernet vertex page (R369, R384). -/
def ethCount (v k n : Nat) (s : State) : State :=
  { s with counters := SMap.upd 0 s.counters (A.ethCntLo v k) (· + n) }

/-- Adds to a FEC counter of a lane (R385). -/
def fecCount (v k n : Nat) (s : State) : State :=
  { s with counters := SMap.upd 0 s.counters (A.ethFecLo v k) (· + n) }

/-- The lowest lane of the port that a lane belongs to in a bank (R341, R342); a vertex other than a lane is its own. -/
def Bank.portOf (b : Bank) (v : Nat) : Nat :=
  let w := b.regs.read A.ethBond
  if 8 ≤ v then v
  else if tst w (4 + v / 4) then v / 4 * 4
  else if tst w (v / 2) then v / 2 * 2
  else v

/-- Lanes of the port of a lane (R341). -/
def Bank.portWidth (b : Bank) (v : Nat) : Nat :=
  let w := b.regs.read A.ethBond
  if 8 ≤ v then 1 else if tst w (4 + v / 4) then 4 else if tst w (v / 2) then 2 else 1

/-- Whether a vertex is a member of a bonded port, not its reported vertex (R342). -/
def Bank.member (b : Bank) (v : Nat) : Bool := b.portOf v ≠ v

/-- Whether the MAC of an Ethernet vertex works. -/
def State.macOn (s : State) (v : Nat) : Bool :=
  s.vertexOn v && tst (s.cfg (A.ethCtrl v)) 0 && !s.live.member v

/-- MAC rate of a vertex's link in Mbit/s; 0 when it is down. -/
def State.macRate (s : State) (v : Nat) : Nat := if (s.ethSt v).linkUp then (s.ethSt v).rate else 0

/-! ## VLAN entries (R363–R366) -/

/-- Whether a VID has a VALID entry. -/
def Bank.vlanValid (b : Bank) (vid : Nat) : Bool := tst (b.regs.read (selKey A.ethVtFlags vid)) 0

/-- The FID of a VID; 0 without a VALID entry (R365). -/
def Bank.fid (b : Bank) (vid : Nat) : Nat :=
  if b.vlanValid vid then fld (b.regs.read (selKey A.ethVtFlags vid)) 16 12 else 0

/-- Whether a vertex is a member of a VID's VALID entry. -/
def Bank.vlanMember (b : Bank) (vid v : Nat) : Bool :=
  b.vlanValid vid && decide (pair (b.regs.read (selKey A.ethVtMemberLo vid)) (b.regs.read (selKey A.ethVtMemberHi vid)) / 2 ^ v % 2 = 1)

/-- Whether a vertex is in a VID's untagged set. -/
def Bank.vlanUntagged (b : Bank) (vid v : Nat) : Bool :=
  b.vlanValid vid && decide (pair (b.regs.read (selKey A.ethVtUntagLo vid)) (b.regs.read (selKey A.ethVtUntagHi vid)) / 2 ^ v % 2 = 1)

/-- A frame with a tag inserted after its addresses. -/
def insertTag (tci : Nat) (d : List Byte) : List Byte := d.take 12 ++ beBytes 2 0x8100 ++ beBytes 2 tci ++ d.drop 12

/-- A frame without its outer tag. -/
def removeTag (d : List Byte) : List Byte := d.take 12 ++ d.drop 16

/-- The bytes of a copy after the egress tag rules of a vertex (R366); job outputs leave as built (R367). -/
def State.egressBytes (s : State) (c : Copy) : List Byte :=
  if c.outIdx.isSome ∨ c.built ∨ 48 ≤ c.item.vertex then c.data
  else
    let b := s.bankOf c.item.epoch
    let prio := c.item.tagged && decide (beAt c.data 14 2 % 4096 = 0)
    let tci := c.item.vid % 4096 + c.item.pcp % 8 * 2 ^ 13
    if b.vlanUntagged c.item.vid c.egress then if c.item.tagged then removeTag c.data else c.data
    else if !c.item.tagged then insertTag tci c.data
    else if prio then insertTag tci (removeTag c.data)
    else c.data

/-! ## Keys (R473, R485) -/

/-- The key in a role of a slot: 0 CURRENT, 1 NEXT. -/
def State.keyOf (s : State) (slot role : Nat) : Option KeyRole := SMap.get none s.cip.keys (slot * 2 + role)

/-- Sets the key of a role. -/
def setKey (slot role : Nat) (k : Option KeyRole) (s : State) : State :=
  { s with cip := { s.cip with keys := SMap.put none s.cip.keys (slot * 2 + role) k } }

/-- Empties a role of a slot; what an uncorrectable error took from it before is no longer asked for (R475, R487). -/
def eraseRole (slot role : Nat) (s : State) : State :=
  setKey slot role none { s with cip := { s.cip with lost := dropFrom s.cip.lost (slot * 2 + role) } }

/-- A use that ends for want of a key in the given roles, one of which an uncorrectable error erased, is a loss of its facet (R476). -/
def lostKey (roles : List Nat) (slot f : Nat) (s : State) : State :=
  if roles.any (fun r => s.cip.lost.contains (slot * 2 + r)) then svcLoss f 1 s else s

/-- OWNER of a slot in force (R474). -/
def State.keyOwner (s : State) (slot : Nat) : Nat := fld (s.cfg (selKey A.cipKsAccess slot)) 0 4

/-- Counts an acceptance under a role (R485); the first under a NEXT key raises event 260. -/
def keyHit (slot role : Nat) (s : State) : State :=
  match s.keyOf slot role with
  | none => s
  | some k =>
    let s := setKey slot role (some { k with hits := min (k.hits + 1) 0xFFFFFFFF }) s
    if role = 1 ∧ k.hits = 0 then raiseTo 260 [s.keyOwner slot] s else s

/-! ## MACsec -/

/-- Selector of an SA's registers: transmit SAs by AN, receive SAs by channel and AN (R382). -/
def saSel (rx : Bool) (ch an : Nat) : Nat := if rx then 32 + 4 * (ch % 8) + an % 4 else an % 4

/-- The 12-byte salt of an SA: SALTk holds bits [32k+31:32k]. -/
def State.saSalt (s : State) (v sel : Nat) : List Byte :=
  beBytes 4 (s.reg (selKey (A.ethSecSaSalt v 2) sel)).toNat ++ beBytes 4 (s.reg (selKey (A.ethSecSaSalt v 1) sel)).toNat
    ++ beBytes 4 (s.reg (selKey (A.ethSecSaSalt v 0) sel)).toNat

/-- The packet number of an SA. -/
def State.saPn (s : State) (v sel : Nat) : Nat :=
  pair (s.reg (selKey (A.ethSecSaPnLo v) sel)) (s.reg (selKey (A.ethSecSaPnHi v) sel))

/-- Sets the packet number of an SA. -/
def setPn (v sel n : Nat) (s : State) : State :=
  setReg (selKey (A.ethSecSaPnHi v) sel) (hiW n) (setReg (selKey (A.ethSecSaPnLo v) sel) (loW n) s)

/-- Whether an SA is VALID. -/
def State.saValid (s : State) (v sel : Nat) : Bool := tst (s.reg (selKey (A.ethSecSaCtrl v) sel)) 16

/-- Key slot of an SA. -/
def State.saSlot (s : State) (v sel : Nat) : Nat := fld (s.reg (selKey (A.ethSecSaCtrl v) sel)) 0 9

/-- The XPN nonce of an SA and packet number: SSCI and number, exclusive-or the salt. -/
def State.xpnNonce (s : State) (v sel pn : Nat) : List Byte :=
  xorBytes (beBytes 4 (s.reg (selKey (A.ethSecSaSsci v) sel)).toNat ++ beBytes 8 pn) (s.saSalt v sel)

/-- A key of a role that MACsec may use with the suite of a vertex in a bank (R486). -/
def State.secKey (s : State) (b : Bank) (v slot role : Nat) : Option (List Byte) :=
  match s.keyOf slot role with
  | none => none
  | some k => if k.usage % 2 = 1 ∧ k.lenCode = bit (tst (b.regs.read (A.ethSecCtrl v)) 2) then some k.key else none

/-- CONF_OFFSET of a vertex in bytes. -/
def Bank.confOffset (b : Bank) (v : Nat) : Nat :=
  let c := fld (b.regs.read (A.ethSecCtrl v)) 3 2
  if c = 1 then 30 else if c = 2 then 50 else 0

/-- Bytes that MACsec adds at a vertex (R380). -/
def Bank.secOverhead (b : Bank) (v : Nat) : Nat :=
  let c := b.regs.read (A.ethSecCtrl v)
  if !tst c 0 then 0 else if tst c 5 then 32 else 24

/-- Whether MACsec leaves a frame without protection (R376). -/
def Bank.secExempt (b : Bank) (v : Nat) (d : List Byte) : Bool :=
  let t := beAt d 12 2
  decide (t = 0x888E) || (decide (t = 0x88F7) && tst (b.regs.read (A.ethSecCtrl v)) 6)

/-- The transmit SA of the next frame for protection (R377): the one in use, or the next one when it is exhausted and
AUTO_NEXT allows it; with whether it moved. -/
def State.txSa (s : State) (b : Bank) (v : Nat) : Option (Nat × Bool) :=
  let e := s.ethSt v
  if !e.txExhausted ∧ s.saValid v (saSel false 0 e.anInUse) then some (e.anInUse, false)
  else if e.txExhausted ∧ tst (b.regs.read (A.ethSecCtrl v)) 10 ∧ s.saValid v (saSel false 0 ((e.anInUse + 1) % 4)) then
    some ((e.anInUse + 1) % 4, true)
  else none

/-- The transmit SA written last comes into use at a frame boundary (R378). -/
def anBoundary (v : Nat) (s : State) : State :=
  let e := s.ethSt v
  match e.anPend with
  | none => s
  | some a => setEth v { e with anInUse := a, anPend := none, txExhausted := false } s

/-- Protects a frame for transmission (R377) under the settings of its epoch (R30): the frame that leaves, or none when no usable SA or
key is there. -/
def secTransmit (b : Bank) (v : Nat) (d : List Byte) (s : State) : Option (List Byte) × State :=
  let c := b.regs.read (A.ethSecCtrl v)
  if !tst c 0 || b.secExempt v d then (some d, s)
  else
    match s.txSa b v with
    | none => (none, ethCount v 24 1 s)
    | some (an, moved) =>
      let sel := saSel false 0 an
      match s.secKey b v (s.saSlot v sel) 0 with
      | none => (none, ethCount v 24 1 (lostKey [0] (s.saSlot v sel) (s.bound v) s))
      | some key =>
        let pn := s.saPn v sel
        let conf := tst c 11
        let sci := beBytes 4 (b.regs.read (A.ethSecTxSciHi v)).toNat ++ beBytes 4 (b.regs.read (A.ethSecTxSciLo v)).toNat
        let body := d.drop 12
        let tci := an + bit conf * 12 + bit (tst c 5) * 32
        let tag := beBytes 2 0x88E5 ++ beBytes 1 tci ++ beBytes 1 (if body.length < 48 then body.length else 0)
          ++ beBytes 4 pn ++ (if tst c 5 then sci else [])
        let off := if conf then min (b.confOffset v) body.length else body.length
        let (ct, icv) := gcmEnc key (s.xpnNonce v sel pn) (d.take 12 ++ tag ++ body.take off) (body.drop off)
        let full := decide (pn = 2 ^ 64 - 1)
        let e := s.ethSt v
        let s := setEth v { e with anInUse := an, txExhausted := full } s
        let s := if full then raiseEth v 9 s else setPn v sel (pn + 1) s
        let s := if moved then raiseEth v 9 s else s
        let thr := pair (s.reg (A.ethSecPnThreshLo v)) (s.reg (A.ethSecPnThreshHi v))
        let s := if pn + 1 = thr then raiseEth v 8 s else s
        (some (d.take 12 ++ tag ++ body.take off ++ ct ++ icv), ethCount v 23 1 s)

/-- How a received frame fares at the MACsec unit: passed on with its bytes and whether it verified, or dropped with a
reason. `failed` marks a frame that is passed on although its verification failed (VALIDATE Check), `atEnd` a drop that the end of the frame
alone decides: a failed verification. -/
inductive SecVerdict where
  | pass (d : List Byte) (verified failed : Bool)
  | drop (reason : Nat) (atEnd : Bool)
  deriving DecidableEq, Repr

/-- The receive channel of a frame by its SCI: explicit, implied by ES from the source address, or the first VALID one
(R379). -/
def State.rxChannel (s : State) (v : Nat) (d : List Byte) : Option Nat :=
  let tci := byteAt d 14
  let valid (ch : Nat) : Bool := tst (s.reg (selKey (A.ethSecRxscCtrl v) ch)) 0
  let sciOf (ch : Nat) : Nat := pair (s.reg (selKey (A.ethSecRxscSciLo v) ch)) (s.reg (selKey (A.ethSecRxscSciHi v) ch))
  if tci / 32 % 2 = 1 then (List.range 8).find? (fun ch => valid ch && sciOf ch = beAt d 20 8)
  else if tci / 64 % 2 = 1 then (List.range 8).find? (fun ch => valid ch && sciOf ch = beAt d 6 6 * 65536 + 1)
  else (List.range 8).find? valid

/-- The 64-bit packet number of a received frame from its low 32 bits and the lowest acceptable number (IEEE 802.1AE
XPN). -/
def xpnRecover (lowest pn : Nat) : Nat :=
  let up := lowest / 2 ^ 32
  if lowest / 2 ^ 31 % 2 = 1 ∧ pn < 2 ^ 31 then (up + 1) % 2 ^ 32 * 2 ^ 32 + pn else up * 2 ^ 32 + pn

/-- Verifies a received frame (R379, R485) under the settings of an epoch. A failure drops it with VALIDATE Strict, and
passes it on unverified otherwise. -/
def secReceive (v : Nat) (e : W32) (d : List Byte) (s : State) : SecVerdict × State :=
  let b := s.bankOf e
  let c := b.regs.read (A.ethSecCtrl v)
  let strict := fld c 7 2 = 2
  let check := fld c 7 2 ≠ 0
  let fail (reason k : Nat) (d' : List Byte) (s : State) : SecVerdict × State :=
    let s := if check then ethCount v k 1 s else s
    let s := if check ∧ (k = 26 ∨ k = 27) then raiseEth v 10 s else s
    (if strict then .drop reason (k = 26) else .pass d' false (check && k = 26), s)
  if !tst c 1 || b.secExempt v d then (.pass d false false, s)
  else if beAt d 12 2 ≠ 0x88E5 then fail 0x1D 29 d s
  else
    let tci := byteAt d 14
    let hdr := if tci / 32 % 2 = 1 then 28 else 20
    let body := d.drop hdr
    let ct := body.take (body.length - 16)
    let icv := body.drop (body.length - 16)
    let plain := d.take 12 ++ ct
    match s.rxChannel v d with
    | none => fail 0x1E 28 plain s
    | some ch =>
      let sel := saSel true ch (tci % 4)
      if !s.saValid v sel then fail 0x1E 28 plain s
      else
        let slot := s.saSlot v sel
        let pn := xpnRecover (s.saPn v sel) (beAt d 16 4)
        let conf := tci / 8 % 2 = 1
        let off := if conf then min (b.confOffset v) ct.length else ct.length
        let aad := d.take hdr ++ ct.take off
        let tryKey (role : Nat) : Option (List Byte) :=
          match s.secKey b v slot role with
          | none => none
          | some key => gcmDec key (s.xpnNonce v sel pn) aad (ct.drop off) icv
        if (s.secKey b v slot 0).isNone ∧ (s.secKey b v slot 1).isNone then fail 0x1E 28 plain (lostKey [0, 1] slot (s.bound v) s)
        else if tst c 9 ∧ pn < s.saPn v sel then fail 0x1D 27 plain s
        else
          let accept (role : Nat) (p : List Byte) (s : State) : SecVerdict × State :=
            let win := fld (s.at_ e (A.ethSecReplayWin v)) 0 30
            let low := max (s.saPn v sel) (pn + 1 - win)
            (.pass (d.take 12 ++ ct.take off ++ p) true false, ethCount v 25 1 (keyHit slot role (setPn v sel low s)))
          match tryKey 0, tryKey 1 with
          | some p, _ => accept 0 p s
          | none, some p => accept 1 p s
          | none, none => fail 0x1D 26 plain s

/-- A received frame as the beginning of it reads before its end is known (R158): its SecTAG taken off and its data deciphered, unverified;
any other frame as it is. -/
def State.secClear (s : State) (b : Bank) (v : Nat) (d : List Byte) : List Byte :=
  if !tst (b.regs.read (A.ethSecCtrl v)) 1 || b.secExempt v d || beAt d 12 2 ≠ 0x88E5 then d
  else
    let tci := byteAt d 14
    let body := d.drop (if tci / 32 % 2 = 1 then 28 else 20)
    let ct := body.take (body.length - 16)
    let sel := (s.rxChannel v d).map (fun ch => saSel true ch (tci % 4))
    match sel.bind (fun sel => (s.secKey b v (s.saSlot v sel) 0).map (fun key => (sel, key))) with
    | some (sel, key) =>
      let off := if tci / 8 % 2 = 1 then min (b.confOffset v) ct.length else ct.length
      d.take 12 ++ ct.take off ++ gctr key (s.xpnNonce v sel (xpnRecover (s.saPn v sel) (beAt d 16 4))) 2 (ct.drop off)
    | none => d.take 12 ++ ct

end Sys2Proof.Machine
end

