-- ==== Sys2Proof/Machine/Cipher.lean ====
section
/-! DEFINITION. The cipher engine and the check units (chapter 10): the operations of R488 under the keys of slots, facet requests,
the installation of keys, key commands, pipelines, checks and scans. -/

namespace Sys2Proof.Machine

/-- The cipher engine page. -/
def cipPage : PageRef := ⟨.cip, 0⟩

/-- Life-cycle stage (R602): 0 STOCK, 1 DEVELOP, 2 FIELD, 3 RETURNED, 4 VOID, from the bits that two fuse copies hold. -/
def State.stage (s : State) : Nat :=
  let held (i : Nat) : Bool := decide (2 ≤ (s.fw.fuses.filter (fun c => c.getLsbD i)).length)
  if held 3 then 4 else if held 2 then 3 else if held 1 then 2 else if held 0 then 1 else 0

/-- ROOT_AVAILABLE (R480). -/
def State.rootAvailable (s : State) : Bool := decide (s.stage < 3)

/-! ## Rights and keys -/

/-- Whether a facet's request may name a slot (R474). -/
def State.mayUse (s : State) (f slot : Nat) : Bool :=
  decide (f = 0) || decide (f = s.keyOwner slot) || tst (s.cfg (selKey A.cipKsAccess slot)) (16 + f)

/-- Whether a facet loads, promotes and erases the keys of a slot (R474). -/
def State.mayLoad (s : State) (f slot : Nat) : Bool := decide (f = 0) || decide (f = s.keyOwner slot)

/-- TAG_LEN in bytes (R489). -/
def tagLenOf (c : Nat) : Option Nat := if c = 0 then some 16 else if c = 4 ∨ c = 8 ∨ (12 ≤ c ∧ c ≤ 15) then some c else none

/-- What a request gives: STATUS, KEY_USED, output bytes, value (R502). -/
structure CipOut where
  status : Nat
  keyUsed : Nat
  out : List Byte
  value : Nat
  deriving DecidableEq, Repr

/-- A request that ends with a status alone. -/
def CipOut.fail (st : Nat) : CipOut := ⟨st, 0, [], 0⟩

/-- AES key bytes of a length code (R478): codes 0 and 1 are AES keys, 2 and 3 XTS keys. -/
def keyLen (code : Nat) : Nat := if code = 0 then 16 else if code = 3 then 64 else 32

/-- GCM_ENC (R484, R491, R492): the next counter of CURRENT is taken when the request starts. -/
def runGcmEnc (slot tl : Nat) (aad data : List Byte) (s : State) : CipOut × State :=
  match s.keyOf slot 0 with
  | none => (.fail 2, s)
  | some k =>
    if k.usage / 2 % 2 = 0 then (.fail 3, s)
    else if k.exhausted then (.fail 7, s)
    else
      let n := k.count.toNat
      let (ct, tag) := gcmEnc k.key (beBytes 4 k.fixed.toNat ++ beBytes 8 n) aad data
      let last := decide (n = 2 ^ 64 - 1)
      let s := setKey slot 0 (some { k with count := if last then k.count else k.count + 1, exhausted := last }) s
      let thr := pair (s.reg A.cipNonceThreshLo) (s.reg A.cipNonceThreshHi)
      let s := if n + 1 = thr then raiseTo 258 [s.keyOwner slot] s else s
      let s := if last then raiseTo 259 [s.keyOwner slot] s else s
      (⟨0, 0, ct ++ tag.take tl, n⟩, s)

/-- Tries CURRENT, then NEXT (R485, R486): the first role whose key `f` accepts. -/
def tryRoles {α : Type} (slot use : Nat) (f : List Byte → Option α) (s : State) : Except Nat (Nat × α) :=
  let usable (k : KeyRole) : Bool := decide (k.usage / 2 ^ use % 2 = 1)
  match s.keyOf slot 0, s.keyOf slot 1 with
  | none, none => .error 2
  | some a, none => if usable a then (f a.key).elim (.error 1) (fun x => .ok (0, x)) else .error 3
  | none, some b => if usable b then (f b.key).elim (.error 1) (fun x => .ok (1, x)) else .error 3
  | some a, some b =>
    if !usable a then .error 3
    else match f a.key with
      | some x => .ok (0, x)
      | none => if usable b then (f b.key).elim (.error 1) (fun x => .ok (1, x)) else .error 3

/-- GCM_DEC (R485, R493). A truncated tag is compared over its length. -/
def runGcmDec (slot : Nat) (nonce aad ct tag : List Byte) (s : State) : CipOut × State :=
  let dec (key : List Byte) : Option (List Byte) :=
    if (gcmTag key nonce aad ct).take tag.length = tag then some (gctr key nonce 2 ct) else none
  match tryRoles slot 1 dec s with
  | .error e => (.fail e, s)
  | .ok (r, p) => (⟨0, r, p, 0⟩, keyHit slot r s)

/-- CMAC_GEN (R484). -/
def runCmacGen (slot tl : Nat) (msg : List Byte) (s : State) : CipOut × State :=
  match s.keyOf slot 0 with
  | none => (.fail 2, s)
  | some k => if k.usage / 4 % 2 = 0 then (.fail 3, s) else (⟨0, 0, (cmac k.key msg).take tl, 0⟩, s)

/-- CMAC_VER (R485). -/
def runCmacVer (slot : Nat) (msg tag : List Byte) (s : State) : CipOut × State :=
  match tryRoles slot 2 (fun key => if (cmac key msg).take tag.length = tag then some () else none) s with
  | .error e => (.fail e, s)
  | .ok (r, _) => (⟨0, r, [], 0⟩, keyHit slot r s)

/-- XTS in either direction (R484, R490). -/
def runXts (dec : Bool) (slot sectorNo sector : Nat) (data : List Byte) (s : State) : CipOut × State :=
  if data.length < 16 ∨ (data.length % sector ≠ 0 ∧ data.length % sector < 16) then (.fail 5, s)
  else
    match s.keyOf slot 0 with
    | none => (.fail 2, s)
    | some k => if k.usage / 8 % 2 = 0 then (.fail 3, s) else (⟨0, 0, xts dec k.key sectorNo sector data, 0⟩, s)

/-- Runs a keyed operation of R488 (codes 1 to 6) for a facet. -/
def runKeyed (op f slot tagCode sector sectorNo : Nat) (nonce aad data tag : List Byte) (s : State) : CipOut × State :=
  if !s.mayUse f slot then (.fail 4, s)
  else if (tagLenOf tagCode).isNone ∧ op ≤ 4 then (.fail 5, s)
  else if aad.length > 16384 ∨ data.length > 16384 then (.fail 5, s)
  else
    let tl := (tagLenOf tagCode).getD 16
    let (o, s) := match op with
      | 1 => runGcmEnc slot tl aad data s
      | 2 => runGcmDec slot nonce aad data tag s
      | 3 => runCmacGen slot tl data s
      | 4 => runCmacVer slot data tag s
      | 5 => runXts false slot sectorNo sector data s
      | 6 => runXts true slot sectorNo sector data s
      | _ => (.fail 0x0D, s)
    (o, if o.status = 2 then lostKey (if op = 2 ∨ op = 4 then [0, 1] else [0]) slot f s else s)

/-! ## Check units (R509–R515) -/

/-- A profile of a check unit in a bank: WIDTH, POLY, INIT, REFIN, REFOUT, XOROUT, with EN, CMP_EN and FACET. -/
structure ChkProfile where
  width : Nat
  poly : Nat
  init : Nat
  refin : Bool
  refout : Bool
  xorout : Nat
  en : Bool
  cmp : Bool
  facet : Nat
  deriving DecidableEq, Repr

/-- The profile of a check unit. -/
def Bank.chk (b : Bank) (u : Nat) : ChkProfile :=
  let r (a : Nat) := b.regs.read a
  let c := r (A.chkUCtrl u)
  ⟨fld c 8 7, pair (r (A.chkUPolyLo u)) (r (A.chkUPolyHi u)), pair (r (A.chkUInitLo u)) (r (A.chkUInitHi u)), tst c 16, tst c 17,
    pair (r (A.chkUXoroutLo u)) (r (A.chkUXoroutHi u)), tst c 4, tst c 18, fld c 0 4⟩

/-- The running value after bytes. -/
def ChkProfile.feed (p : ChkProfile) (start : Nat) (l : List Byte) : Nat := crcRun p.width p.poly p.refin (start % 2 ^ p.width) l

/-- The final value of a running one. -/
def ChkProfile.final (p : ChkProfile) (run : Nat) : Nat := crcFinal p.width p.refout p.xorout run % 2 ^ p.width

/-- The state of a check unit. -/
def State.unit (s : State) (u : Nat) : ChkUnit := SMap.get ChkUnit.reset s.cip.units u

/-- Sets the state of a check unit. -/
def setUnit (u : Nat) (c : ChkUnit) (s : State) : State := { s with cip := { s.cip with units := SMap.put ChkUnit.reset s.cip.units u c } }

/-- RUN of a unit. -/
def State.chkRun (s : State) (u : Nat) : Nat := pair (s.reg (A.chkURunLo u)) (s.reg (A.chkURunHi u))

/-- Sets RUN. -/
def setRun (u n : Nat) (s : State) : State := setReg (A.chkURunHi u) (hiW n) (setReg (A.chkURunLo u) (loW n) s)

/-- EXPECT of a unit. -/
def State.chkExpect (s : State) (u : Nat) : Nat := pair (s.reg (A.chkUExpectLo u)) (s.reg (A.chkUExpectHi u))

/-- Compares a final value with EXPECT (R514): whether it matches, the counter, the event and LAST_MATCH. -/
def compareChk (u value : Nat) (s : State) : Bool × State :=
  let p := s.live.chk u
  if !p.cmp then (true, s)
  else if value = s.chkExpect u % 2 ^ 64 then (true, setUnit u { s.unit u with lastMatch := true } s)
  else (false, raiseTo 269 [p.facet] (bump (A.chkUMismatch u) (setUnit u { s.unit u with lastMatch := false } s)))

/-- A commit that changes a profile sets RUN to the new INIT (R519). -/
def chkCommit (old : Bank) (s : State) : State :=
  (List.range 8).foldl (fun s u => if old.chk u ≠ s.live.chk u then setRun u (s.live.chk u).init s else s) s

/-- A commit that changes the OWNER of a slot erases its roles (R475). -/
def keyCommit (old : Bank) (s : State) : State :=
  (List.range 512).foldl (fun s slot =>
    if fld (old.regs.read (selKey A.cipKsAccess slot)) 0 4 ≠ s.keyOwner slot then
      raiseTo 271 [s.keyOwner slot] (eraseRole slot 1 (eraseRole slot 0 s))
    else s) s

/-! ## Facet requests (R494–R502) -/

/-- The request page of a facet. -/
def State.cipFacet (s : State) (n : Nat) : CipFacet := SMap.get CipFacet.reset s.cip.facets n

/-- Sets the request page of a facet. -/
def setCipFacet (n : Nat) (c : CipFacet) (s : State) : State :=
  { s with cip := { s.cip with facets := SMap.put CipFacet.reset s.cip.facets n c } }

/-- Bytes of a facet's data area; what nothing has written reads as 0 (DESIGN CHOICE: log entry 12). -/
def State.area (s : State) (n off len : Nat) : List Byte := (List.range len).map (fun i => SMap.get 0 s.cip.data (n * 65536 + off + i))

/-- Writes bytes into a facet's data area. -/
def putArea (n off : Nat) (l : List Byte) (s : State) : State :=
  let d := (l.mapIdx (fun i b => (i, b))).foldl (fun m p => SMap.put 0 m (n * 65536 + (off + p.1) % 65536) p.2) s.cip.data
  { s with cip := { s.cip with data := d } }

/-- Requests of a facet that run. -/
def State.cipRunning (s : State) (n : Nat) : List CipRun := s.cip.running.filter (fun r => r.facet = n)

/-- A write of CIP_RQ_SUBMIT.GO (R495, R496). -/
def submitWritten (n : Nat) (s : State) : State :=
  let c := s.cipFacet n
  let d := (List.range 8).map (fun k => s.reg (A.cipRqD n k))
  let id := d.getD 0 0
  let res (r : Nat) (s : State) : State := setRegN (A.cipRqSubmitResult n) r s
  if c.queue.length + (s.cipRunning n).length + c.comps.length ≥ 256 then
    raiseTo 263 [n] (bump (A.cipRqRefused n) (res 1 s))
  else
    match c.window.find? (fun p => p.1 = id) with
    | some (_, comp) =>
      let s := match comp with
        | none => s
        | some e => setCipFacet n { c with comps := c.comps ++ [{ e with w1 := setBit e.w1 9 true }] } s
      raiseTo 262 [n] (bump (A.cipRqDups n) (res 2 s))
    | none =>
      let w := c.window ++ [(id, none)]
      res 0 (setCipFacet n { c with queue := c.queue ++ [d], window := w.drop (w.length - 512) } s)

/-- OP of a descriptor. -/
def descOp (d : List W32) : Nat := fld (d.getD 1 0) 0 4

/-- Whether every unused field of a descriptor is zero (R501). -/
def descOk (d : List W32) : Bool :=
  let op := descOp d
  let w (k : Nat) : W32 := d.getD k 0
  let gcm := decide (op = 1 ∨ op = 2)
  let xts := decide (op = 5 ∨ op = 6)
  let z (b : Bool) : Bool := b
  z (decide (1 ≤ op ∧ op ≤ 8))
    && (op = 7 || decide (fld (w 1) 13 11 = 0))
    && (!(op = 8 || (op = 7 && tst (w 1) 13)) || decide (fld (w 1) 4 9 = 0))
    && (op ≤ 4 || decide (fld (w 1) 24 4 = 0)) && (xts || !tst (w 1) 28) && (op = 8 || decide (fld (w 1) 29 3 = 0))
    && (!(op = 4 || op = 7 || op = 8) || decide (fld (w 2) 16 16 = 0))
    && !tst (w 3) 15 && !tst (w 3) 31 && (gcm || decide (fld (w 3) 16 15 = 0))
    && (op = 2 || ((xts || decide (w 4 = 0 ∧ w 5 = 0)) && decide (w 6 = 0)))
    && decide (fld (w 7) 2 30 = 0) && (op = 8 || decide (w 7 = 0))

/-- Whether the input and output ranges of a request are allowed (R499). -/
def rangesOk (src n dst m : Nat) : Bool :=
  decide (src + n ≤ 65536 ∧ dst + m ≤ 65536)
    && (decide (n = 0 ∨ m = 0) || decide (src = dst ∧ n = m) || decide (src + n ≤ dst) || decide (dst + m ≤ src))

/-- The key of a blob's plaintext (R478, R479). -/
def blobKey (p : List Byte) : Option KeyRole :=
  let usage := byteAt p 1
  let len := byteAt p 2
  let xts := decide (usage / 8 % 2 = 1)
  let key := p.drop 24
  let bad := decide (byteAt p 0 ≠ 1 ∨ usage ≥ 32 ∨ len > 3 ∨ byteAt p 3 ≠ 0 ∨ beAt p 20 4 ≠ 0 ∨ p.length ≠ 24 + keyLen len)
    || (xts && decide (usage ≠ 8)) || (xts && decide (len < 2)) || (!xts && decide (2 ≤ len))
    || (xts && decide (key.take (keyLen len / 2) = key.drop (keyLen len / 2)))
  if bad then none
  else
    let n := BitVec.ofNat 64 (beAt p 12 8)
    some ⟨key, usage, len, w32 (beAt p 4 4), w32 (beAt p 8 4), n, n, false, 0⟩

/-- UNWRAP (R479, R480): the key that the blob holds and the KEK's role, or a status. -/
def runUnwrap (f kek : Nat) (root : Bool) (target : Nat) (blob : List Byte) (s : State) : Except Nat (Nat × KeyRole) :=
  if !s.mayLoad f target then .error 4
  else if root then
    if f ≠ 0 then .error 4
    else if !s.rootAvailable then .error 2
    else match (keyUnwrap Config.rootKey blob).bind blobKey with
      | some k => .ok (0, k)
      | none => .error 8
  else if !s.mayUse f kek then .error 4
  else
    match tryRoles kek 4 (fun key => keyUnwrap key blob) s with
    | .error e => .error (if e = 1 then 8 else e)
    | .ok (r, p) => match blobKey p with
      | some k => .ok (r, k)
      | none => .error 8

/-- The next pipeline for a request. -/
def State.pipeline (s : State) : Nat := s.cip.inService.getD (s.cip.nextId % max 1 s.cip.inService.length) 0

/-- The result of a facet request at its start. -/
def runDesc (n : Nat) (d : List W32) (s : State) : CipRun × State :=
  let op := descOp d
  let w (k : Nat) : W32 := d.getD k 0
  let src := fld (w 2) 0 16
  let dst := fld (w 2) 16 16
  let len := fld (w 3) 0 15
  let aadLen := fld (w 3) 16 15
  let tl := (tagLenOf (fld (w 1) 24 4)).getD 16
  let inLen := len + aadLen + (if op = 2 ∨ op = 4 then tl else 0)
  let outLen := if op = 1 then len + tl else if op = 2 ∨ op = 5 ∨ op = 6 then len else if op = 3 then tl else 0
  let mk (o : CipOut) (blob : Option Blob) (u run : Option Nat) : CipRun :=
    ⟨n, s.cip.nextId, d, s.nextTag, o.status, o.keyUsed, BitVec.ofNat 64 o.value, if o.status = 0 ∧ outLen > 0 then some o.out else none,
      blob, u, run, s.pipeline⟩
  let fail (st : Nat) : CipRun × State := (mk (.fail st) none none none, s)
  if !descOk d then fail 0x0D
  else if len > 16384 ∨ aadLen > 16384 then fail 5
  else if !rangesOk src inLen dst outLen then fail 6
  else
    let data := s.area n (src + aadLen) len
    if op = 7 then
      if len ≠ 48 ∧ len ≠ 64 ∧ len ≠ 96 then fail 5
      else match runUnwrap n (fld (w 1) 4 9) (tst (w 1) 13) (fld (w 1) 14 9) data s with
        | .error e => (mk (.fail e) none none none, if e = 2 ∧ !tst (w 1) 13 then lostKey [0, 1] (fld (w 1) 4 9) n s else s)
        | .ok (r, k) => (mk ⟨0, r, [], 0⟩ (some ⟨fld (w 1) 14 9, bit (tst (w 1) 23), k⟩) none none, s)
    else if op = 8 then
      let u := fld (w 1) 29 3
      let p := s.live.chk u
      if n ≠ 0 ∧ p.facet ≠ n then fail 4
      else if (s.unit u).inUse ∨ (s.unit u).scanning.isSome then fail 0x0E
      else
        let run := p.feed (if tst (w 7) 0 then p.init else s.chkRun u) data
        let v := if tst (w 7) 1 then p.final run else run
        (mk ⟨0, 0, [], v⟩ none (some u) (some run), setUnit u { s.unit u with inUse := true } s)
    else
      let nonce := beBytes 4 (w 4).toNat ++ beBytes 4 (w 5).toNat ++ beBytes 4 (w 6).toNat
      let sectorNo := (w 4).toNat * 2 ^ 32 + (w 5).toNat
      let (o, t) := runKeyed op n (fld (w 1) 4 9) (fld (w 1) 24 4) (if tst (w 1) 28 then 4096 else 512) sectorNo nonce
        (s.area n src aadLen) data (s.area n (src + aadLen + len) tl) s
      (mk o none none none, t)

/-- The facet whose turn it is (R498): after the one served last, the next whose head request finds a tag. The lattice port never waits: its
requests run when they are issued. -/
def State.cipTurn (s : State) : Option Nat :=
  ((List.range 16).map (fun k => (s.cip.turn + 1 + k) % 16)).find? (fun f => decide ((s.cipFacet f).queue ≠ []) && s.tagOk f)

/-- Starts the head request of a facet when its operation is `op`, a tag is free (R497) and it is the facet's turn (R498). -/
def startRequest (op n : Nat) (s : State) : State :=
  let c := s.cipFacet n
  match c.queue with
  | [] => s
  | d :: l =>
    if descOp d ≠ op then s
    else if !s.tagOk n then tagWait n s
    else if s.cipTurn ≠ some n then s
    else
      let (r, s) := runDesc n d s
      let s := takeTag n (setCipFacet n { s.cipFacet n with queue := l } s)
      { s with cip := { s.cip with running := s.cip.running ++ [r], nextId := s.cip.nextId + 1, turn := n } }

/-- A request whose OP is none of R488 starts in the place of any operation and ends with BAD_OP. -/
def startAny (op n : Nat) (s : State) : State :=
  match (s.cipFacet n).queue with
  | [] => s
  | d :: _ => startRequest (if descOp d = 0 ∨ descOp d > 8 then descOp d else op) n s

/-- GCM_ENC (R491). -/
def execGcmEnc (n : Facet) (s : State) : Host.Outcome State Fault Refusal := ran s (only s.coreOn (startAny 1 n) s)
/-- GCM_DEC (R485). -/
def execGcmDec (n : Facet) (s : State) : Host.Outcome State Fault Refusal := ran s (only s.coreOn (startAny 2 n) s)
/-- CMAC_GEN (R488). -/
def execCmacGen (n : Facet) (s : State) : Host.Outcome State Fault Refusal := ran s (only s.coreOn (startAny 3 n) s)
/-- CMAC_VER (R485). -/
def execCmacVer (n : Facet) (s : State) : Host.Outcome State Fault Refusal := ran s (only s.coreOn (startAny 4 n) s)
/-- XTS_ENC (R490). -/
def execXtsEnc (n : Facet) (s : State) : Host.Outcome State Fault Refusal := ran s (only s.coreOn (startAny 5 n) s)
/-- XTS_DEC (R490). -/
def execXtsDec (n : Facet) (s : State) : Host.Outcome State Fault Refusal := ran s (only s.coreOn (startAny 6 n) s)
/-- UNWRAP (R479). -/
def execCipUnwrap (n : Facet) (s : State) : Host.Outcome State Fault Refusal := ran s (only s.coreOn (startAny 7 n) s)
/-- CHECK (R511). -/
def execCipCheck (n : Facet) (s : State) : Host.Outcome State Fault Refusal := ran s (only s.coreOn (startAny 8 n) s)

/-! ## Installation of keys (R481–R483) -/

/-- Whether two keys of one version have equal headers and keys. -/
def sameKey (a b : KeyRole) : Bool :=
  decide (a.key = b.key ∧ a.usage = b.usage ∧ a.lenCode = b.lenCode ∧ a.version = b.version ∧ a.fixed = b.fixed ∧ a.start = b.start)

/-- The judgement of a key against its role (R481): a status, and whether it is installed. -/
def State.judgeKey (s : State) (b : Blob) : Nat × Bool :=
  let v := b.key.version.toNat
  let order := match s.keyOf b.slot (1 - b.role) with
    | none => true
    | some o => if b.role = 1 then decide (o.version.toNat < v) else decide (v < o.version.toNat)
  let install : Nat × Bool := if order then (0, true) else (9, false)
  match s.keyOf b.slot b.role with
  | none => install
  | some k =>
    if k.version.toNat < v then install
    else if k.version.toNat = v then if sameKey k b.key then (0, false) else (0x0A, false)
    else (9, false)

/-- Decides every running request for a slot and role together (R482): the highest version is judged, lower ones are stale,
differing contents of the highest conflict. -/
def decideKeys (slot role : Nat) (s : State) : State :=
  let mine (r : CipRun) : Option Blob := r.blob.filter (fun b => b.slot = slot ∧ b.role = role)
  let bs := s.cip.running.filterMap mine
  let top := bs.foldl (fun a b => max a b.key.version.toNat) 0
  let tops := bs.filter (fun b => b.key.version.toNat = top)
  match tops with
  | [] => s
  | b :: l =>
    let conflict := l.any (fun x => !sameKey x.key b.key)
    let (st, install) := if conflict then (0x0A, false) else s.judgeKey b
    let s := if install then setKey slot role (some b.key) s else s
    let s : State := { s with cip := { s.cip with lost := if install then dropFrom s.cip.lost (slot * 2 + role) else s.cip.lost } }
    let settle_ (r : CipRun) : CipRun := match mine r with
      | none => r
      | some x =>
        if x.key.version.toNat = top then { r with status := st, blob := none, value := BitVec.ofNat 64 top }
        else { r with status := 9, blob := none }
    let s := if install then raiseTo 256 [s.keyOwner slot] s else s
    let refused := (bs.length - tops.length) + (if st = 0 then 0 else tops.length)
    let s := (List.range refused).foldl (fun s _ => raiseTo 257 [s.keyOwner slot] s) s
    { s with cip := { s.cip with running := s.cip.running.map settle_ } }

/-- Posts the completion of the oldest running request of a facet (R497, R499); the final value of a CHECK is compared (R514). -/
def complete (n : Nat) (dataError : Bool) (s : State) : State :=
  let s := match (s.cipRunning n).head? with
    | some r => match r.blob with
      | some b => if dataError then s else decideKeys b.slot b.role s
      | none => s
    | none => s
  match (s.cipRunning n).head? with
  | none => s
  | some r =>
    let s : State := { s with cip := { s.cip with running := s.cip.running.filter (fun x => x.id ≠ r.id) } }
    let st := if dataError then 0x0F else r.status
    let s := if dataError then svcLoss n 1 s else s
    let s := match r.out with
      | some l => if dataError then s else putArea n (fld (r.desc.getD 2 0) 16 16) l s
      | none => s
    let s := match r.unit with
      | some u =>
        let s := setUnit u { s.unit u with inUse := false } s
        match r.run with
        | some x => if dataError then s else setRun u x s
        | none => s
      | none => s
    let (st, s) := match r.unit with
      | some u =>
        if dataError || !tst (r.desc.getD 7 0) 1 then (st, s)
        else let (ok, s) := compareChk u r.value.toNat s
             (if ok then st else 0x0B, s)
      | none => (st, s)
    let op := descOp r.desc
    let v := if st = 0 ∨ op = 8 then r.value.toNat else 0
    let id := r.desc.getD 0 0
    let comp : CipComp := ⟨id, w32 (st + r.keyUsed * 2 ^ 8 + op * 2 ^ 16), loW v, hiW v⟩
    let c := s.cipFacet n
    let s := setCipFacet n { c with comps := c.comps ++ [comp], window := c.window.map (fun p => if p.1 = id then (p.1, some comp) else p) } s
    let s := bump A.cipRequests (returnTag r.tag s)
    if st = 1 then raiseTo 261 [n] s else s

/-- CIP_COMPLETE (R499). -/
def execCipComplete (n : Facet) (dataError : Bool) (s : State) : Host.Outcome State Fault Refusal :=
  ran s (only s.coreOn (complete n dataError) s)

/-- A write of CIP_CQ_POP (R92, R502): the oldest completion goes, or UNDERRUN is set. -/
def cqPopped (n : Nat) (s : State) : State :=
  let c := s.cipFacet n
  match c.comps with
  | [] => setCipFacet n { c with under := true } s
  | e :: l => setCipFacet n { c with comps := l, last := e, under := false } s

/-- A write of CIP_KS_CMD by the requester of a facet's page (R487). -/
def ksCmdWritten (n : Nat) (v : W32) (s : State) : State :=
  let slot := fld (s.reg (A.cipKsSel n)) 0 9
  let res (r : Nat) (s : State) : State := setRegN (A.cipKsCmdResult n) r s
  let code := fld v 0 2
  if code = 0 then s
  else if !s.mayLoad n slot then res 4 s
  else if code = 1 then
    match s.keyOf slot 1 with
    | none => res 1 s
    | some k => res 0 (eraseRole slot 1 (setKey slot 0 (some { k with hits := 0 }) (eraseRole slot 0 s)))
  else if code = 2 then res 0 (eraseRole slot 1 s)
  else res 0 (eraseRole slot 1 (eraseRole slot 0 s))

/-! ## Pipelines (R507, R508) -/

/-- A pipeline fails its test or its parity (R508): it is retired, a spare takes its place, its requests restart. -/
def pipelineFails (p detail : Nat) (s : State) : State :=
  if s.cip.inService.contains p then
    let mine := s.cip.running.filter (fun r => r.pipe = p)
    let spare := s.cip.spares.head?
    let service := dropFrom s.cip.inService p ++ spare.toList
    let next := service.getD 0 0
    let s : State := { s with cip := { s.cip with inService := service, spares := s.cip.spares.drop 1,
                                                  running := s.cip.running.map (fun r => if r.pipe = p then { r with pipe := next } else r) } }
    let s := mine.foldl (fun s r => svcDelay r.facet 1 (bump A.cipRestarts s)) s
    let s := raise 264 (fault cipPage detail p s)
    if spare.isSome then raise 265 s else raise 266 (fault cipPage 0x108 p s)
  else if s.cip.spares.contains p then
    raise 264 (fault cipPage detail p { s with cip := { s.cip with spares := dropFrom s.cip.spares p } })
  else s

/-- KNOWN_ANSWER_TEST (R507, R508): the test of a pipeline that is not retired, CIP_KAT_PERIOD ms after its last one. -/
def execKnownAnswerTest (p : Fin 6) (pass : Bool) (s : State) : Host.Outcome State Fault Refusal :=
  let due := decide (SMap.get 0 s.cip.katAt p + fld (s.reg A.cipKatPeriod) 0 16 * 1000000 ≤ s.now)
  ran s (only (s.coreOn && due && (s.cip.inService.contains p.val || s.cip.spares.contains p.val)) (fun s =>
    let s : State := { s with cip := { s.cip with katAt := SMap.put 0 s.cip.katAt p s.now } }
    if pass then s else pipelineFails p 0x103 s) s)

/-- PIPELINE_PARITY_FAULT (R508). -/
def execPipelineParityFault (p : Fin 6) (s : State) : Host.Outcome State Fault Refusal :=
  ran s (only s.coreOn (pipelineFails p 0x104) s)

/-! ## Scans (R511, R513) -/

/-- A write of RUN while the unit is free; otherwise it has no effect and sets REFUSED (R511). -/
def runWritten (u n : Nat) (s : State) : State :=
  let c := s.unit u
  if c.inUse ∨ c.scanning.isSome then setUnit u { c with refused := true } s
  else setRun u (n % 2 ^ (s.live.chk u).width) (setUnit u { c with refused := false } s)

/-- A write of CHK_Uu_SCAN_CMD by the unit's facet or F0 (R513). -/
def scanWritten (f u : Nat) (v : W32) (s : State) : State :=
  let c := s.unit u
  let src := fld v 0 2
  let addr := pair (s.reg (A.chkUScanAddrLo u)) (s.reg (A.chkUScanAddrHi u)) % 2 ^ 35
  let len := (s.reg (A.chkUScanLen u)).toNat
  let limit := if src = 0 then 65536 else if src = 1 then 524288 else 0x380000000
  if !tst v 8 then s
  else if c.inUse ∨ c.scanning.isSome then setUnit u { c with refused := true } s
  else if ((src = 1 ∨ src = 2) ∧ f ≠ 0) ∨ src = 3 ∨ addr + len > limit then setUnit u { c with result := 6 } s
  else
    let s := if tst v 2 then setRun u (s.live.chk u).init s else s
    setRegN (A.chkUScanDone u) 0 (setUnit u { c with scanning := some (src, addr, len, tst v 3), refused := false } s)

/-- A byte of DRAM as a scan reads it (R388, R513): the journal ring holds its records under R8, the ring region its bytes; the contents of the
other regions are not laid out (DESIGN CHOICE: log entry 18). -/
def State.dramAt (s : State) (a : Nat) : Byte :=
  if a < 0x300000000 then
    let r := SMap.get JRec.nil s.jrn.ring (a / 32)
    let w := [r.w0, r.w1, r.w2, r.w3, r.w4, r.w5, r.w6, r.w7].getD (a % 32 / 4) 0
    w.extractLsb' (8 * (a % 4)) 8
  else if 0x320000000 ≤ a ∧ a < 0x360000000 then SMap.get 0 s.dram a
  else Config.dramByte s.fresh a

/-- The bytes of a scan. -/
def State.scanBytes (s : State) (u src addr len : Nat) : List Byte :=
  if src = 0 then s.area (s.live.chk u).facet addr len
  else if src = 1 then ((List.range len).map (fun i => beBytes 4 (SMap.get 0 s.ps (addr + i)).toNat)).flatten
  else (List.range len).map (fun i => s.dramAt (addr + i))

/-- The amount that a scan reads before a word known to be uncorrectable (DESIGN CHOICE: log entry 18); none when it meets none. -/
def State.scanStops (s : State) (src addr len : Nat) : Option Nat :=
  let bad := if src = 1 then s.psBad
    else if src = 2 then s.jrn.corruptSlots.map (fun k => max addr (32 * k))
    else []
  let inside := bad.filter (fun a => decide (addr ≤ a ∧ a < addr + len)
    && (src = 1 || s.jrn.corruptSlots.contains (a / 32)))
  match inside with
  | [] => none
  | a :: l => some (l.foldl min a - addr)

/-- SCAN_COMPLETE (R513, R514): an uncorrectable word ends the scan with DATA_ERROR and no value. -/
def execScanComplete (u : Fin 8) (s : State) : Host.Outcome State Fault Refusal :=
  ran s (only s.coreOn (fun s =>
    match (s.unit u).scanning with
    | none => s
    | some (src, addr, len, fin) =>
      let p := s.live.chk u
      match s.scanStops src addr len with
      | some n => raiseTo 270 [p.facet] (setRegN (A.chkUScanDone u) n (setUnit u { s.unit u with scanning := none, result := 0x0F } s))
      | none =>
        let run := p.feed (s.chkRun u) (s.scanBytes u src addr len)
        let s := if src = 2 then freshen s else s
        let v := if fin then p.final run else run
        let s := setRun u run (setRegN (A.chkUScanDone u) len s)
        let s := setReg (A.chkUResultHi u) (hiW v) (setReg (A.chkUResultLo u) (loW v) s)
        let (ok, s) := if fin then compareChk u v s else (true, s)
        raiseTo 270 [p.facet] (setUnit u { s.unit u with scanning := none, result := if ok then 0 else 0x0B } s)) s)

/-- A facet reset stops the scan of a unit at the next word (R515): how many words it has fed by then is a free value. -/
def stopScan (u : Nat) (s : State) : State :=
  match (s.unit u).scanning with
  | none => s
  | some (src, addr, len, _) =>
    let n := (Config.freeWord s.fresh).toNat % (min len ((s.scanStops src addr len).getD len) + 1)
    let run := (s.live.chk u).feed (s.chkRun u) (s.scanBytes u src addr n)
    setRun u run (setRegN (A.chkUScanDone u) n (setUnit u { s.unit u with scanning := none } (freshen s)))

/-- The cipher side of a facet reset (R500, R515): queued and running requests go, completions and window empty, the scans of
its units stop. -/
def cipReset (f : Nat) (s : State) : State :=
  let mine := s.cipRunning f
  let s : State := { s with cip := { s.cip with running := s.cip.running.filter (fun r => r.facet ≠ f) } }
  let s := mine.foldl (fun s r =>
    let s := match r.unit with
      | some u => setUnit u { s.unit u with inUse := false } s
      | none => s
    returnTag r.tag s) s
  let s := setCipFacet f { CipFacet.reset with last := (s.cipFacet f).last, under := (s.cipFacet f).under } s
  (List.range 8).foldl (fun s u => if (s.live.chk u).facet = f then stopScan u s else s) s

end Sys2Proof.Machine
end

