-- ==== Sys2Proof/Machine/Lane.lean ====
section
/-! DEFINITION. The framing of a backbone lane (R337, R338, R343): frames as 64b/66b blocks, transcoded to blocks of 257 bits, scrambled,
dealt to the lanes of a port, and sent in codewords of RS(544,514) as PAM4 levels. -/

namespace Sys2Proof.Machine

/-- The lane of an L vertex. -/
def State.lane (s : State) (l : Nat) : LaneSt := (s.ethSt l).lane

/-- Sets the lane of an L vertex. -/
def setLane (l : Nat) (x : LaneSt) (s : State) : State := setEth l { s.ethSt l with lane := x } s

/-- Lanes of the port whose lowest lane is `v`. -/
def Bank.lanesOf (b : Bank) (v : Nat) : List Nat := (List.range (b.portWidth v)).map (fun i => v + i)

/-- WIDTH code of a port (R338). -/
def Bank.widthCode (b : Bank) (v : Nat) : Nat := if b.portWidth v = 1 then 0 else if b.portWidth v = 2 then 1 else 2

/-- Whether a lane is enabled (R340). -/
def State.laneOn (s : State) (l : Nat) : Bool := s.physOn l && tst (s.cfg (A.ethLaneCtrl l)) 0

/-- Bits of bytes in the order of transmission: the least significant bit of each byte first. -/
def wireBits (l : List Byte) : List Bool := (l.map (fun b => (List.range 8).map b.getLsbD)).flatten

/-- A list in groups of `n`, from its first element; `k` bounds the number of groups. -/
def groups {α : Type} (n : Nat) : Nat → List α → List (List α)
  | 0, _ => []
  | k + 1, l => l.take n :: groups n k (l.drop n)

/-! ## Blocks (R337; IEEE 802.3 Clauses 82 and 91) -/

/-- An idle block. -/
def LaneBlock.idle : LaneBlock := ⟨true, [0x1E, 0, 0, 0, 0, 0, 0, 0]⟩

/-- Block type of a terminate block with `n` data bytes. -/
def termType (n : Nat) : Byte := ([0x87, 0x99, 0xAA, 0xB4, 0xCC, 0xD2, 0xE1, 0xFF] : List Byte).getD n 0x87

/-- The 64b/66b blocks of a frame with its FCS: preamble and start-frame delimiter in the start block, data blocks, the terminate
block. -/
def frameBlocks (frame : List Byte) : List LaneBlock :=
  let n := frame.length / 8
  let rest := frame.drop (n * 8)
  ⟨true, [0x78, 0x55, 0x55, 0x55, 0x55, 0x55, 0x55, 0xD5]⟩ :: (groups 8 n frame).map (fun d => ⟨false, d⟩)
    ++ [⟨true, padTo 8 (termType rest.length :: rest)⟩]

/-- Four 64b/66b blocks transcoded: the header bit and 256 payload bits. A group with a control block names its data blocks in four bits and
omits the second nibble of the first block type. -/
def transcode (g : List LaneBlock) : Bool × List Bool :=
  let bits := (g.map (fun b => wireBits b.bytes)).flatten
  match g.findIdx? (fun b => b.ctl) with
  | none => (true, bits)
  | some c => (false, g.map (fun b => !b.ctl) ++ bits.take (64 * c + 4) ++ bits.drop (64 * c + 8))

/-- The scrambler x^58 + x^39 + 1 over bits, from the last 58 bits it sent. -/
def scramble (st : BitVec 58) : List Bool → List Bool × BitVec 58
  | [] => ([], st)
  | d :: l =>
    let o := d != (st.getLsbD 38 != st.getLsbD 57)
    let (r, e) := scramble ((st <<< 1) ||| BitVec.ofNat 58 (bit o)) l
    (o :: r, e)

/-! ## Codewords (R337; IEEE 802.3 Clauses 91 and 120) -/

/-- Product in the field of 1,024 elements of x^10 + x^3 + 1. -/
def rsMul (a b : BitVec 10) : BitVec 10 :=
  (List.range 10).reverse.foldl (fun p i =>
    let q := (p <<< 1) ^^^ (if p.getLsbD 9 then 0x009 else 0)
    if b.getLsbD i then q ^^^ a else q) 0

/-- Powers of the primitive element, from exponent 0. -/
def rsPow : Nat → BitVec 10
  | 0 => 1
  | n + 1 => rsMul 2 (rsPow n)

/-- Coefficients of the generator polynomial below its leading 1, highest first: the roots are the powers 0 to 29. -/
def rsGenerator : List (BitVec 10) :=
  ((List.range 30).foldl (fun g j => List.zipWith (· ^^^ ·) (g ++ [0]) (0 :: g.map (rsMul (rsPow j)))) [1]).drop 1

/-- The 30 parity symbols of a message, in the order of transmission. -/
def rsParity (m : List (BitVec 10)) : List (BitVec 10) :=
  m.foldl (fun r d =>
    let f := d ^^^ r.headD 0
    List.zipWith (· ^^^ ·) (r.drop 1 ++ [0]) (rsGenerator.map (rsMul f))) (List.replicate 30 0)

/-- Bits as 10-bit symbols, the first bit least significant. -/
def symbolsOf (n : Nat) (l : List Bool) : List (BitVec 10) :=
  (groups 10 n l).map (fun g => g.foldr (fun b a => (a <<< 1) ||| BitVec.ofNat 10 (bit b)) 0)

/-- The codeword of a message of 5,140 bits. -/
def rsCodeword (bits : List Bool) : List (BitVec 10) :=
  let m := symbolsOf 514 bits
  m ++ rsParity m

/-- PAM4 levels of bits, two bits a level in Gray code. -/
def pam4 (n : Nat) (l : List Bool) : List (Fin 4) :=
  (groups 2 n l).map (fun g => match g with
    | [false, true] => 1
    | [true, true] => 2
    | [true, false] => 3
    | _ => 0)

/-- The levels of a codeword on the line. -/
def lineOf (symbols : List (BitVec 10)) : List (Fin 4) :=
  pam4 2720 ((symbols.map (fun x => (List.range 10).map x.getLsbD)).flatten)

/-! ## The lane control block (R338) -/

/-- The 32 bytes of a lane control block. CWC and PEER_ID stand most significant byte first (DEDUCED: log entry 69). -/
def Lcb.bytes (b : Lcb) : List Byte :=
  padTo 32 ([BitVec.ofNat 8 b.version, BitVec.ofNat 8 (b.lane + b.width * 2 ^ 3),
    BitVec.ofNat 8 (bit b.localFault + bit b.remoteFault * 2 + bit b.degraded * 4), 0] ++ beBytes 4 b.cwc.toNat ++ beBytes 8 b.peerId.toNat)

/-- The lane control block that 32 bytes hold; reserved bits are ignored. -/
def Lcb.ofBytes (l : List Byte) : Lcb :=
  { version := byteAt l 0, lane := byteAt l 1 % 8, width := byteAt l 1 / 8 % 4, localFault := byteAt l 2 % 2 = 1,
    remoteFault := byteAt l 2 / 2 % 2 = 1, degraded := byteAt l 2 / 4 % 2 = 1, cwc := w32 (beAt l 4 4),
    peerId := BitVec.ofNat 64 (beAt l 8 8) }

/-- The identity of the module in control blocks and messages (R338): its serial number (DEDUCED: log entry 14). -/
def State.peerId (s : State) : Nat := pair (s.reg A.sysSerialLo) (s.reg A.sysSerialHi)

/-- CWC of the codeword that begins at a real time: the codewords of 5,440 bits at 112 Gbit/s since power came on, the same on every lane
(R343; DESIGN CHOICE: log entry 69). -/
def cwcAt (t : Nat) : W32 := w32 (t * 112 / 5440)

/-- The control block that a lane sends (R338, R347). -/
def State.lcb (s : State) (l : Nat) : Lcb :=
  let x := s.lane l
  { version := 1, lane := l - s.live.portOf l, width := s.live.widthCode l, localFault := decide (x.st ≠ .up), remoteFault := x.localFault,
    degraded := x.degraded, cwc := cwcAt s.now, peerId := BitVec.ofNat 64 s.peerId }

/-! ## Sending -/

/-- The blocks of a frame wait at the lowest lane of its port. A frame sent in fragments shows its blocks when its last one has left
(DESIGN CHOICE: log entry 69). -/
def feedLane (v : Nat) (frame : List Byte) (badFcs : Bool) (s : State) : State :=
  if 8 ≤ v then s
  else
    let fcs := fcsOf frame
    let x := s.lane v
    setLane v { x with blocks := x.blocks ++ frameBlocks (frame ++ (if badFcs then fcs.map (~~~ ·) else fcs)) } s

/-- A lane sends a codeword: its control block and nineteen MAC data blocks, whose payload is scrambled. -/
def sendCodeword (l : Nat) (data : List (Bool × List Bool)) (s : State) : State :=
  let x := s.lane l
  let (bits, scr) := data.foldl (fun (r : List Bool × BitVec 58) (b : Bool × List Bool) =>
    let (p, e) := scramble r.2 b.2
    (r.1 ++ b.1 :: p, e)) ([], x.scr)
  setLane l { x with scr := scr, line := lineOf (rsCodeword (false :: wireBits (s.lcb l).bytes ++ bits)) } s

/-- Whether a lane sends codewords: its training is done (R337, R340). -/
def State.framing (s : State) (l : Nat) : Bool := s.laneOn l && decide ((s.lane l).st = .locking ∨ (s.lane l).st = .up)

/-- The lanes of a port each send a codeword: the waiting blocks, then idle blocks, transcoded and dealt round-robin over the lanes in
ascending order (R343). -/
def sendPort (v : Nat) (s : State) : State :=
  let w := s.live.portWidth v
  let x := s.lane v
  let n := 76 * w
  let blocks := (groups 4 (19 * w) (x.blocks.take n ++ List.replicate (n - x.blocks.length) LaneBlock.idle)).map transcode
  let s := setLane v { x with blocks := x.blocks.drop n } s
  (List.range w).foldl (fun s i =>
    if s.framing (v + i) then sendCodeword (v + i) (((List.range 19).map (fun k => blocks.getD (k * w + i) (false, [])))) s else s) s

/-- A codeword time of the lanes ends: every port with a lane that frames sends (R337). -/
def laneTick (s : State) : State :=
  if cwcAt s.now = cwcAt (s.now - 1) then s
  else (List.range 8).foldl (fun s v => if !s.live.member v && (s.live.lanesOf v).any s.framing then sendPort v s else s) s

end Sys2Proof.Machine
end

