-- ==== Sys2Proof/Machine/Locus.lean ====
section
/-! DEFINITION. The locus (chapter 02): its states and corrections, time domains, transmit-stamp queues, sync outputs and
capture inputs. -/

namespace Sys2Proof.Machine

/-! ## State and corrections (R67–R77) -/

/-- Code of a locus state (R108). -/
def LocusState.code : LocusState → Nat
  | .free => 0 | .locking => 1 | .locked => 2 | .holdover => 3 | .apex => 4

/-- LOC_HOLD_AGE in ms (R74). -/
def State.holdAge (s : State) : Nat :=
  if s.loc.st = .holdover then min 0xFFFFFFFF (s.loc.holdAge + (s.now - s.loc.holdStart) / 1000000) else s.loc.holdAge

/-- Enters a locus state: events 48, 49 and 50, and the STATE record (R74, R110, R391). In HOLDOVER the rate in force
stays; out of it LOC_RATE is in force. FORCE_HOLD keeps the locus in HOLDOVER (R75): with FORCE_HOLD already 1, an entry to LOCKING or LOCKED
from any state leads to HOLDOVER with cause FORCED, and a slew that runs goes on in HOLDOVER (DESIGN CHOICE: log entry 66). -/
def enterLocus (st : LocusState) (cause : Nat) (s : State) : State :=
  let forced := tst (s.reg A.locCtrl) 1 && (st = .locking || st = .locked)
  let st := if forced then LocusState.holdover else st
  let cause := if forced then 4 else cause
  if st = s.loc.st then s
  else
    let age := s.holdAge
    let l := { s.loc with st := st, inThresh := 0 }
    let l := if st = .holdover then { l with cause := cause, holdStart := s.now, holdAge := 0 }
      else { l with holdAge := age, rate := s.reg A.locRate, diverged := false }
    let s := record 96 8 (w32 (1 + st.code * 2 ^ 8)) (s.reg A.locStepCount) { s with loc := l }
    let s := raise 48 s
    let s := if st = .holdover then raise 49 s else s
    if st = .locked then raise 50 s else s

/-- Enters HOLDOVER with a cause from LOCKING or LOCKED (R73). -/
def holdover (cause : Nat) (s : State) : State :=
  if s.loc.st = .locking ∨ s.loc.st = .locked then enterLocus .holdover cause s else s

/-- START, PERIOD and WIDTH of a sync output in 1/65,536 ns, and its mode and QUIET, in a bank (R107, R109). -/
structure SyncCfg where
  mode : Nat
  quiet : Bool
  start : Nat
  period : Nat
  width : Nat
  deriving DecidableEq, Repr

/-- The settings of a sync output in a bank. -/
def Bank.syncCfg (b : Bank) (n : Nat) : SyncCfg :=
  let c := b.regs.read (A.locSoCtrl n)
  let u (hi lo : Nat) := (b.regs.read hi).toNat * 65536 + fld (b.regs.read lo) 0 16
  ⟨fld c 0 2, tst c 5,
   pair (b.regs.read (A.locSoStartSecLo n)) (b.regs.read (A.locSoStartSecHi n)) * 1000000000 * 65536
     + u (A.locSoStartNs n) (A.locSoStartFrac n),
   u (A.locSoPeriodNs n) (A.locSoPeriodFrac n), u (A.locSoWidthNs n) (A.locSoWidthFrac n)⟩

/-- Index of the first grid instant not earlier than an instant (R93). -/
def SyncCfg.firstFrom (c : SyncCfg) (t : Nat) : Nat :=
  if c.period = 0 ∨ t ≤ c.start then 0 else ceilDiv (t - c.start) c.period

/-- Whether an output is held quiet (R98). -/
def State.quieted (s : State) (c : SyncCfg) : Bool := c.quiet && !(s.loc.st = .locked || s.loc.st = .apex)

/-- Adds skipped pulses of an output: SKIP and one event 77 (R96, R97). -/
def syncSkip (n k : Nat) (s : State) : State :=
  if k = 0 then s else raise 77 (addSat (A.locSoSkip n) k s)

/-- What a forward step does to a sync output (R97, R98): the grid instants inside the skipped interval are skipped, and a
pulse whose release lies inside it releases. -/
def syncStep (old new n : Nat) (s : State) : State :=
  let c := s.live.syncCfg n
  let o := SMap.get SyncOut.reset s.syncs n
  let o1 := if o.active ∧ o.release ≤ new then { o with active := false } else o
  let q := s.quieted c
  if c.mode = 1 ∧ c.period > 0 then
    let first := max o.next (c.firstFrom (old + 1))
    let next := max first (c.firstFrom new)
    let s := { s with syncs := SMap.put SyncOut.reset s.syncs n { o1 with next := next } }
    if q then s else syncSkip n (next - first) s
  else if c.mode = 2 ∧ !o.done ∧ old < c.start ∧ c.start < new then
    syncSkip n 1 { s with syncs := SMap.put SyncOut.reset s.syncs n { o1 with done := true } }
  else { s with syncs := SMap.put SyncOut.reset s.syncs n o1 }

/-- BASE of a CAN channel's reference messages in ns. -/
def State.ttBase (s : State) (ch : Nat) : Nat :=
  timeOf (pair (s.cfg (A.canTtBaseSecLo ch)) (s.cfg (A.canTtBaseSecHi ch))) (s.cfg (A.canTtBaseNs ch)).toNat

/-- CYCLE of a channel in ns. -/
def State.ttCycle (s : State) (ch : Nat) : Nat := (s.cfg (A.canTtCycleNs ch)).toNat

/-- The latest due instant BASE + k × CYCLE of a reference message not after `t`, and k modulo 2^CYCLES (R292). -/
def State.ttDueAt (s : State) (ch t : Nat) : Nat × Nat :=
  let cycle := max 1 (s.ttCycle ch)
  let base := s.ttBase ch
  let ph := gclPhase base cycle t
  let k : Int := ((t : Int) - ph - base) / cycle
  (t - ph, (k % ((2 ^ fld (s.cfg (A.canTtCtrl ch)) 1 3 : Nat) : Int)).toNat)

/-- A forward step over due instants (R299): the references of a time master that lie inside are not sent, the cycle count advances past
them, and the cycle time of the last one skipped has no start (DEDUCED: log entry 43). -/
def ttSkip (old ch : Nat) (s : State) : State :=
  let c := SMap.get CanSt.reset s.can ch
  let (due, k) := s.ttDueAt ch (s.ns - 1)
  if c.ttActive ∧ old < due ∧ c.ttRefDue < due then
    { s with can := SMap.put CanSt.reset s.can ch { c with ttRefDue := due, ttK := k, ttRefStart := none, ttWindows := [] } }
  else s

/-- A forward step by `d` (in 1/65,536 ns) (R71): the STEP record with the old time, LOC_STEP_COUNT, event 51; an armed
at-time commit inside the skipped interval becomes due at the instant of the step; gates and sync outputs resume. -/
def forwardStep (d : Nat) (s : State) : State :=
  let old := s.locus
  let s := bump A.locStepCount { s with locus := old + d }
  let e := s.epoch
  let s := if (e.st = .armed ∨ e.st = .deferred) ∧ e.atTime.isSome ∧ old < e.due ∧ e.due ≤ s.locus then
      { s with epoch := { e with due := s.locus } } else s
  let k := s.ownKey 96
  let r := recOf k 8 0 0 0 false false s.epoch.live (w32 (s.loc.st.code * 2 ^ 8)) (s.reg A.locStepCount)
  let o := old / 65536
  let s := stage ⟨r, some (extOf r (loW (secOf o)) (hiW (secOf o)) (w32 (nsOf o)))⟩ (takeSeq 96 k.1 s)
  let s := (List.range 24).foldl (fun s ch => ttSkip o ch s) (raise 51 s)
  (List.range 16).foldl (fun s n => syncStep old s.locus n s) (regateAll s)

/-- How a correction ended. -/
inductive Correction where
  | slewed | stepped | refused
  deriving DecidableEq, Repr

/-- What a correction (in 1/65,536 ns) does with the slew not yet applied (R69, R70, R72). -/
def State.judge (s : State) (d : Int) : Correction × Int :=
  let sum := s.loc.slew + d
  if sum ≥ 0 then
    if sum ≤ ((s.reg A.locStepLimit).toNat : Int) * 65536 then (.slewed, sum) else (.stepped, sum)
  else if -sum > ((s.reg A.locBackLimit).toNat : Int) * 1000000 * 65536 then (.refused, sum)
  else (.slewed, sum)

/-- A refused backward correction (R70): DIVERGED from LOCKING or LOCKED; the servo in APEX raises event 52 once until a
measured offset returns within the limit; a phase adjustment raises it. -/
def refuseBack (servo : Bool) (s : State) : State :=
  if s.loc.st = .locking ∨ s.loc.st = .locked then raise 52 (enterLocus .holdover 6 s)
  else if servo ∧ s.loc.diverged then s
  else raise 52 (if servo then { s with loc := { s.loc with diverged := true } } else s)

/-- Applies a correction of the locus (R69–R72). -/
def correct (servo : Bool) (d : Int) (s : State) : State :=
  match s.judge d with
  | (.slewed, sum) => { s with loc := { s.loc with slew := sum, slewing := s.loc.slewing || sum ≠ 0 } }
  | (.stepped, sum) => forwardStep sum.toNat { s with loc := { s.loc with slew := 0, slewing := false, slewFrac := 0 } }
  | (.refused, _) => refuseBack servo s

/-- SLEW_END (R69): a slew that has applied its whole correction ends. -/
def execSlewEnd (s : State) : Host.Outcome State Fault Refusal :=
  ran s (only (s.loc.slewing && s.loc.slew = 0)
    (fun s => { s with loc := { s.loc with slewing := false, slewFrac := 0 } }) s)

/-! ### What writes of the locus page do beyond storing the word -/

/-- No measurement made so far counts toward LOC_RELOCK_COUNT any more (R75). -/
def recount (s : State) : State := { s with loc := { s.loc with inThresh := 0 } }

/-- A write of LOC_CTRL (R73, R75): setting FORCE_HOLD puts the locus in HOLDOVER; once it is cleared, measurements count from then on. -/
def locCtrlWritten (v : W32) (s : State) : State :=
  let s := if tst (s.reg A.locCtrl) 1 = tst v 1 then s else recount s
  let s := setReg A.locCtrl v s
  if tst v 1 then holdover 4 s else s

/-- A write of LOC_RATE (R68, R74): ignored while the servo drives it; in HOLDOVER the rate of entry stays in force. -/
def locRateWritten (v : W32) (s : State) : State :=
  if tst (s.reg A.locCtrl) 0 then s
  else
    let s := setReg A.locRate v s
    if s.loc.st = .holdover then s else { s with loc := { s.loc with rate := v } }

/-- A write of LOC_ADJ_NS (R72): the answer and the state it leaves. A value outside its range is answered RANGE, and an adjustment that R70
refuses in LOCKING or LOCKED is answered CONFLICT too (DESIGN CHOICE: log entry 66). -/
def locAdjWritten (v : W32) (s : State) : Rsp × State :=
  let ns := sx 32 v.toNat
  if ns > 999999999 ∨ ns < -999999999 then (.range, s)
  else if tst (s.reg A.locCtrl) 0 ∧ s.loc.st ≠ .apex then (.conflict, s)
  else
    let s := setReg A.locAdjNs v s
    let d := (sx 32 (s.reg A.locAdjSec).toNat * 1000000000 + ns) * 65536
    (if (s.judge d).1 = .refused then .conflict else .ok, correct false d s)

/-! ## Time domains (R82–R86) -/

/-- The period in ns of a signed log2 interval in seconds, kept between 2^-16 s and 2^16 s. -/
def logInterval (b : Nat) : Nat :=
  let e := sx 8 b
  if e ≥ 0 then 1000000000 * 2 ^ (min e.toNat 16) else 1000000000 / 2 ^ (min (-e).toNat 16)

/-- Whether an instance is enabled in the live epoch. -/
def State.domOn (s : State) (d : Nat) : Bool := tst (s.cfg (A.locDomCtrl d)) 0

/-- Whether a vertex is in an instance's port set. -/
def State.domPort (s : State) (d v : Nat) : Bool :=
  pair (s.cfg (A.locDomPortsLo d)) (s.cfg (A.locDomPortsHi d)) / 2 ^ v % 2 = 1

/-- The instance that disciplines the locus (R84). -/
def State.locDom (s : State) : Nat := fld (s.cfg A.locDomainSel) 0 2

/-- The state of an instance. -/
def State.dom (s : State) (d : Nat) : DomainSt := SMap.get DomainSt.reset s.domains d

/-- Sets the state of an instance. -/
def setDom (d : Nat) (x : DomainSt) (s : State) : State := { s with domains := SMap.put DomainSt.reset s.domains d x }

/-- Sets the role of an instance; a change raises event 54 + d (R110). -/
def setRole (d role : Nat) (s : State) : State :=
  if (s.dom d).role = role then s else raise (54 + d) (setDom d { s.dom d with role := role } s)

/-- The words compared in best-master selection (R85, IEEE 802.1AS-2020): lower is better, in order. -/
def announceWords (a : Announce) : List Nat :=
  [a.priority1.toNat, a.clockClass.toNat, a.accuracy.toNat, a.variance.toNat, a.priority2.toNat, a.gm.toNat,
   a.steps.val]

/-- The module's own data set: its staged priorities; variance and identity are fixed by the implementation
(DESIGN CHOICE: log entry 8). -/
def State.ownSet (s : State) (d : Nat) : List Nat :=
  let p := s.cfg (A.locDomPrio d)
  [fld p 0 8, fld p 16 8, fld p 24 8, Config.clockVariance.toNat, fld p 8 8, Config.clockIdentity.toNat, 0]

/-- Lexicographic order on data sets. -/
def better : List Nat → List Nat → Bool
  | [], _ => false
  | _ :: _, [] => false
  | a :: l, b :: m => if a < b then true else if b < a then false else better l m

/-- What the locus does when its domain chooses a master (R73, R85): a first master, or the loss of APEX, leads to
LOCKING; another grandmaster puts LOCKING or LOCKED in HOLDOVER with cause CHANGED; in HOLDOVER the measurements from the new or restored
master count from its choice on (R75). -/
def locMaster (changed restored : Bool) (s : State) : State :=
  match s.loc.st with
  | .free => enterLocus .locking 0 s
  | .apex => enterLocus .locking 0 s
  | .holdover => if changed || restored then recount s else s
  | .locking => if changed then holdover 2 s else s
  | .locked => if changed then holdover 2 s else s

/-- The module wins best-master selection in an instance (R85). -/
def domWin (d : Nat) (s : State) : State :=
  let x := s.dom d
  let s := if x.gm = Config.clockIdentity ∧ x.best.isNone then s else
    raise 53 (setDom d { x with best := none, gm := Config.clockIdentity, steps := 0 } s)
  if d = s.locDom then enterLocus .apex 0 (setRole d 4 s) else setRole d 3 s

/-- Takes an Announce as the best master of an instance: the instance is its slave (R85). -/
def domFollow (d : Nat) (b : AnnounceSet) (s : State) : State :=
  let x := s.dom d
  let changed := decide (x.gm ≠ b.gm)
  let restored := x.best.isNone
  let s := setDom d { x with best := some b, gm := b.gm, steps := b.steps + 1, slaveVertex := b.vertex } s
  let s := if changed then raise 53 s else s
  let s := setRole d 2 s
  if d = s.locDom then locMaster changed restored s else s

/-- ANNOUNCE_RECEIVE (R85). -/
def execAnnounceReceive (d : Fin 4) (v : EthV) (a : Announce) (s : State) : Host.Outcome State Fault Refusal :=
  ran s (only (s.mpOn && s.domOn d && s.domPort d v) (fun s =>
    let x := s.dom d
    let b : AnnounceSet := ⟨announceWords a, a.gm, a.steps.val, v, s.now⟩
    let own := s.ownSet d
    let cand := match x.best with
      | none => b
      | some o => if o.vertex = v.val ∨ better b.dataset o.dataset then b else o
    if tst (s.cfg (A.locDomCtrl d)) 2 ∧ better own cand.dataset then domWin d s else domFollow d cand s) s)

/-- Whether the announce receipt timeout of an instance has run since a time (R86). -/
def State.announceDue (s : State) (d since : Nat) : Bool :=
  let i := s.cfg (A.locDomIntervals d)
  decide (since + fld i 24 8 * logInterval (fld i 8 8) ≤ s.now)

/-- ANNOUNCE_RECEIPT_TIMEOUT (R73, R85): the master of the instance is lost, and the locus that followed it enters HOLDOVER
with cause LOST; an instance that has listened for the timeout without a master, and may be grandmaster, wins. -/
def execAnnounceReceiptTimeout (d : Fin 4) (s : State) : Host.Outcome State Fault Refusal :=
  ran s (only (s.mpOn && s.domOn d) (fun s =>
    let x := s.dom d
    match x.best with
    | some b =>
      only (s.announceDue d b.at_) (fun s =>
        let s := setRole d 1 (setDom d { x with best := none, lastSync := s.now } s)
        if d.val = s.locDom then holdover 1 s else s) s
    | none =>
      only (x.role = 1 && s.announceDue d x.lastSync && tst (s.cfg (A.locDomCtrl d)) 2) (domWin d) s) s)

/-- The servo's new LOC_RATE after a measurement: the law is the implementation's, a free value (DESIGN CHOICE: log entry 9). -/
def servoRate (offset ratio : Int) (s : State) : State :=
  let r := Config.servoRate s.fresh (s.reg A.locRate) offset ratio
  let s := freshen (setReg A.locRate r s)
  if s.loc.st = .holdover then s else { s with loc := { s.loc with rate := r } }

/-- One offset measurement (in ns, master less locus) of the locus domain (R70, R75): LOC_OFFSET; within the threshold it
counts toward LOCKED; a larger one is removed in LOCKING. -/
def measure (offset ratio : Int) (s : State) : State :=
  let s := setReg A.locOffset (satI32 offset) s
  let servo := tst (s.reg A.locCtrl) 0
  let mag := offset.natAbs
  let inside := decide (mag ≤ (s.reg A.locLockThresh).toNat)
  let far := decide (mag > (s.reg A.locBackLimit).toNat * 1000000)
  if s.loc.st = .free ∨ s.loc.st = .apex ∨ tst (s.reg A.locCtrl) 1 then s
  else if s.loc.st = .holdover ∧ s.loc.cause = 6 ∧ far then s
  else
    let s := if servo then servoRate offset ratio s else s
    if inside then
      if s.loc.st = .locked then s
      else if s.loc.inThresh + 1 ≥ (s.reg A.locRelockCount).toNat then enterLocus .locked 0 s
      else { s with loc := { s.loc with inThresh := s.loc.inThresh + 1 } }
    else
      let s := enterLocus .locking 0 { s with loc := { s.loc with inThresh := 0 } }
      if servo then correct true (offset * 65536) s else s

/-- SYNC_RECEIVE (R75, R84): every instance reports its offset and rate; the one of LOC_DOMAIN_SEL disciplines the
locus. -/
def execSyncReceive (d : Fin 4) (offset : Int) (m : SyncMsg) (s : State) : Host.Outcome State Fault Refusal :=
  ran s (only (s.mpOn && s.domOn d && (s.dom d).role = 2) (fun s =>
    let s := setDom d { s.dom d with offset := offset, ratio := m.ratio, lastSync := s.now, syncSof := m.sof, syncCorr := m.corr,
                                     syncOrigin := m.origin } s
    if d.val = s.locDom then measure offset m.ratio s else s) s)

/-- Whether an instance runs the IEEE 1588 profile, and whether over UDP (R82, R107). -/
def State.dom1588 (s : State) (d : Nat) : Bool := tst (s.cfg (A.locDomCtrl d)) 1
/-- UDP of a 1588 instance. -/
def State.domUdp (s : State) (d : Nat) : Bool := s.dom1588 d && tst (s.cfg (A.locDomCtrl d)) 3

/-- The time of every domain in ns at a locus stamp (R65). -/
def State.domTime (s : State) (t : Nat) : Nat := t + pair (s.reg A.locDevEpochLo) (s.reg A.locDevEpochHi) * 1000000000

/-- What every message of an instance says first: its domain number, whether it goes over UDP, the grandmaster, the steps to it. -/
def State.domHead (s : State) (d : Nat) : List Int :=
  let x := s.dom d
  [fld (s.cfg (A.locDomCtrl d)) 8 8, bit (s.domUdp d), x.gm.toNat, x.steps]

/-- Origin in ns and correction in 1/65,536 ns that a Sync of an instance sent at a stamp carries (R84): of the module's own time when it is
master; of the Sync received, corrected by the link delay and the residence time at the domain's rate, when it is relayed. -/
def State.syncSays (s : State) (d : Nat) (relayed : Option Nat) (sof : Nat) : List Int :=
  match relayed with
  | none => [s.domTime sof, 0]
  | some t0 =>
    let x := s.dom d
    let res : Int := ((sof - t0 : Nat) : Int) * 65536
    let delay := SMap.get 0 (if s.dom1588 d then x.meanDelay else s.linkDelay) x.slaveVertex
    [x.syncOrigin, x.syncCorr + delay + res + res * x.ratio / 256000000000]

/-- Sends a message of the processor on a vertex; its transmit stamp comes back under a kind (R82). -/
def ptpSend (kind follows d v : Nat) (relayed : Option Nat) (body : List Int) (s : State) : State :=
  let uid := s.nextId
  let out := s.ptpOut.filter (fun o => !decide (o.kind = follows ∧ o.dom = d ∧ o.vertex = v))
  sendMessage 96 v 7 (Config.ptpMessage kind v (s.domHead d ++ body))
    { s with ptpOut := if follows = 0 then s.ptpOut else out ++ [⟨uid, follows, d, v, relayed⟩] }

/-- The transmit stamp of a message of the time domains comes back (R82, R84): the message that follows it is sent. -/
def ptpStamped (uid sof : Nat) (s : State) : State :=
  match s.ptpOut.find? (fun o => o.uid = uid) with
  | none => s
  | some o =>
    let s : State := { s with ptpOut := s.ptpOut.filter (fun o => o.uid ≠ uid) }
    if !s.mpOn ∨ o.kind = 5 then s
    else if o.kind = 4 then ptpSend 4 0 o.dom o.vertex none (s.syncSays o.dom o.relayed sof) s
    else ptpSend 6 0 o.dom o.vertex none [(s.domTime sof : Nat)] s

/-- The bytes of a one-step Sync, into which the vertex writes its stamp as it leaves (R82); none for any other frame. -/
def State.oneStep (s : State) (uid v sof : Nat) : Option (List Byte) :=
  (s.ptpOut.find? (fun o => o.uid = uid ∧ o.kind = 5)).map (fun o =>
    Config.ptpMessage 5 v (s.domHead o.dom ++ s.syncSays o.dom o.relayed sof))

/-- Path delay from the four times of an exchange and the link asymmetry of a vertex (R79). -/
def State.delayOf (s : State) (v : Nat) (t1 t2 t3 t4 : Int) : Int := ((t4 - t1) - (t3 - t2)) / 2 + sx 32 (s.cfg (A.locAsym v)).toNat

/-- PDELAY_RECEIVE (R79, R82): a request is answered with a response of the device, in two steps under 802.1AS; the times of a response give
the path delay with the link asymmetry: the common mean link delay of the vertex, or that of a 1588 instance. -/
def execPdelayReceive (v : EthV) (m : PdelayMsg) (s : State) : Host.Outcome State Fault Refusal :=
  ran s (only s.mpOn (fun s =>
    match m with
    | .request sof => ptpSend 3 6 0 v none [(s.domTime sof : Nat)] s
    | .response t1 t2 t3 t4 => { s with linkDelay := SMap.put 0 s.linkDelay v.val (s.delayOf v t1 t2 t3 t4) }
    | .delayReq d sof =>
      only (s.domOn d && s.dom1588 d && s.domPort d v && decide (3 ≤ (s.dom d).role))
        (fun s => ptpSend 7 0 d v none [(s.domTime sof : Nat)] s) s
    | .delayResp d t1 t2 t3 t4 =>
      only (s.domOn d && s.dom1588 d && s.domPort d v) (fun s =>
        setDom d { s.dom d with meanDelay := SMap.put 0 (s.dom d).meanDelay v.val (s.delayOf v t1 t2 t3 t4) } s) s) s)

/-- PTP_MESSAGE_TRANSMIT (R82, R84, R86): kind 0 Sync, 1 Announce, 2 Pdelay_Req (Delay_Req of a 1588 instance), at its interval, on a vertex of
the port set: Sync and Announce on a vertex other than the one of its master, from an instance that has a master or is one. A Sync is two-step
under 802.1AS, and one-step under 1588. -/
def execPtpMessageTransmit (d : Fin 4) (v : EthV) (kind : Fin 3) (s : State) : Host.Outcome State Fault Refusal :=
  ran s (only (s.mpOn && s.domOn d && s.domPort d v) (fun s =>
    let x := s.dom d
    let i := s.cfg (A.locDomIntervals d)
    let every := logInterval (fld i (8 * kind.val) 8)
    let key := v.val * 4 + kind.val
    let last := SMap.get 0 x.tx key
    let dueNow := decide (last = 0 ∨ last + every ≤ s.now)
    let master := x.role = 3 || x.role = 4
    let allowed := if kind.val = 2 then !s.dom1588 d || (x.role = 2 && v.val = x.slaveVertex)
      else master || (x.role = 2 && v.val ≠ x.slaveVertex)
    only (dueNow && allowed) (fun s =>
      let s := setDom d { x with tx := SMap.put 0 x.tx key s.now } s
      let relayed := if master then none else some x.syncSof
      match kind with
      | 0 => if s.dom1588 d then ptpSend 5 5 d v relayed [] s else ptpSend 0 4 d v relayed [] s
      | 1 => ptpSend 1 0 d v none (((x.best.map (·.dataset)).getD (s.ownSet d)).map (fun (n : Nat) => (n : Int))) s
      | 2 => ptpSend (if s.dom1588 d then 8 else 2) 0 d v none [] s) s) s)

/-- What a commit does to the instances and the locus (R73, R85): an instance that is enabled listens, one that is disabled
stops; another LOC_DOMAIN_SEL leads the locus to follow the new instance through LOCKING, or into APEX when the module is that instance's
master already; the old instance is a master like any other then (R107). In HOLDOVER its cause DIVERGED becomes CHANGED, and from APEX the
locus enters LOCKING although the new instance may have no master yet (DESIGN CHOICE: log entry 66). -/
def locCommit (old : Bank) (s : State) : State :=
  let s := (List.range 4).foldl (fun s d =>
    let was := tst (old.regs.read (A.locDomCtrl d)) 0
    let is := s.domOn d
    if is ∧ !was then setRole d 1 (setDom d { DomainSt.reset with lastSync := s.now } s)
    else if was ∧ !is then setDom d { DomainSt.reset with role := 0 } (setRole d 0 s)
    else s) s
  let oldDom := fld (old.regs.read A.locDomainSel) 0 2
  if oldDom = s.locDom then s
  else
    let s := if (s.dom oldDom).role = 4 then setRole oldDom 3 s else s
    if (s.dom s.locDom).role = 3 then enterLocus .apex 0 (setRole s.locDom 4 s)
    else if s.loc.st = .holdover then recount { s with loc := { s.loc with cause := if s.loc.cause = 6 then 2 else s.loc.cause } }
    else if s.loc.st = .apex then enterLocus .locking 0 s
    else holdover 2 s

/-! ## Transmit stamps (R87–R92) -/

/-- The transmit-stamp queue of a vertex. -/
def State.txQueue (s : State) (v : Nat) : TxStampQ := SMap.get TxStampQ.reset s.txq v

/-- A transmit stamp arrives at the queue of its vertex (R87, R88); an empty queue that fills raises event 60 + n for each
port that shows it. -/
def txStamp (v : Nat) (e : TxStamp) (s : State) : State :=
  let q := s.txQueue v
  if q.entries.length < 64 then
    let s := { s with txq := SMap.put TxStampQ.reset s.txq v { q with entries := q.entries ++ [e] } }
    if q.entries = [] then
      (List.range 16).foldl (fun s n => if fld (s.reg (A.locTxqSel n)) 0 7 = v then raise (60 + n) s else s) s
    else s
  else raise 76 { s with txq := SMap.put TxStampQ.reset s.txq v { q with lost := min (q.lost + 1) 0xFFFF } }

/-- A POP at a port (R91, R92): the head entry of the selected queue goes, and UNDERRUN clears; an empty queue sets
UNDERRUN. UNDERRUN of port n is bit 8 of its STATUS register. -/
def txqPopped (n : Nat) (s : State) : State :=
  let v := fld (s.reg (A.locTxqSel n)) 0 7
  let q := s.txQueue v
  match q.entries with
  | [] => setReg (A.locTxqStatus n) 0x100 s
  | e :: l => setReg (A.locTxqStatus n) 0 { s with txq := SMap.put TxStampQ.reset s.txq v { q with entries := l, last := e } }

/-- The entry that a port shows: the head, or the last one popped (R91, R92). -/
def State.txqShown (s : State) (n : Nat) : TxStamp :=
  let q := s.txQueue (fld (s.reg (A.locTxqSel n)) 0 7)
  q.entries.headD q.last

/-! ## Sync outputs (R93–R98) -/

/-- Whether the shared time pins have passed to their function of highest precedence (R106): from the entry to SLEEP or DOZE until the next
entry to RUN. -/
def State.yields (s : State) : Bool := s.wake.mode ≠ .run || s.wake.phase = .preparing || s.wake.phase = .dark

/-- SYNC_OUTPUT_ASSERT (R93, R98, R106): the next grid instant of an output has come. A quiet output, and one whose pin has
yielded to a wake-line output, makes no pulse; a one-shot START that passes in quiet is skipped. -/
def execSyncOutputAssert (n : Fin 16) (s : State) : Host.Outcome State Fault Refusal :=
  let c := s.live.syncCfg n
  let o := SMap.get SyncOut.reset s.syncs n
  let q := s.quieted c
  let yielded := decide (12 ≤ n.val) && s.yields
  ran s (only (s.on && !o.active) (fun s =>
    if c.mode = 1 then
      let g := c.start + o.next * c.period
      let o' := if q ∨ yielded then { o with next := o.next + 1 }
        else { o with next := o.next + 1, active := true, release := g + c.width }
      only (g ≤ s.locus) (fun s => { s with syncs := SMap.put SyncOut.reset s.syncs n o' }) s
    else
      only (c.mode = 2 && !o.done && c.start ≤ s.locus) (fun s =>
        if q then syncSkip n 1 { s with syncs := SMap.put SyncOut.reset s.syncs n { o with done := true } }
        else
          let o' := if yielded then { o with done := true }
            else { o with done := true, active := true, release := c.start + c.width }
          { s with syncs := SMap.put SyncOut.reset s.syncs n o' }) s) s)

/-- SYNC_OUTPUT_RELEASE (R93): WIDTH after its assertion the pulse releases. -/
def execSyncOutputRelease (n : Fin 16) (s : State) : Host.Outcome State Fault Refusal :=
  let o := SMap.get SyncOut.reset s.syncs n
  ran s (only (s.on && o.active && o.release ≤ s.locus) (fun s =>
    { s with syncs := SMap.put SyncOut.reset s.syncs n { o with active := false } }) s)

/-- The addresses of a sync output's staged registers. -/
def soRegs (n : Nat) : List Nat :=
  [A.locSoCtrl n, A.locSoStartSecLo n, A.locSoStartSecHi n, A.locSoStartNs n, A.locSoStartFrac n, A.locSoPeriodNs n,
   A.locSoPeriodFrac n, A.locSoWidthNs n, A.locSoWidthFrac n]

/-- What a commit that takes effect at locus instant `t` (1/65,536 ns) does to an output whose registers it changes
(R95, R96). -/
def soCommit (old : Bank) (t n : Nat) (s : State) : State :=
  if (soRegs n).all (fun a => old.regs.read a = s.cfg a) then s
  else
    let c := s.live.syncCfg n
    let o := SMap.get SyncOut.reset s.syncs n
    let release := if o.active then o.release else 0
    if c.mode = 1 then
      let k0 := c.firstFrom t
      let k1 := max k0 (c.firstFrom release)
      syncSkip n (k1 - k0) { s with syncs := SMap.put SyncOut.reset s.syncs n { o with next := k1, done := false } }
    else if c.mode = 2 then
      let miss := decide (c.start < t ∨ c.start < release)
      syncSkip n (bit miss) { s with syncs := SMap.put SyncOut.reset s.syncs n { o with next := 0, done := miss } }
    else { s with syncs := SMap.put SyncOut.reset s.syncs n { o with next := 0, done := false } }

/-! ## Capture inputs (R100–R103) -/

/-- The state of a capture unit. -/
def State.cap (s : State) (n : Nat) : CapUnit := SMap.get CapUnit.reset s.caps n

/-- LOC_CAPn_PERIOD after a capture (R107): ns since the last capture of the same polarity. -/
def CapUnit.taken (u : CapUnit) (t : Nat) (rising : Bool) : CapUnit :=
  let last := if rising then u.lastRise else u.lastFall
  let p := match last with
    | none => u.period
    | some l => min (t - l) 0xFFFFFFFF
  if rising then { u with period := p, lastRise := some t } else { u with period := p, lastFall := some t }

/-- The servo's correction toward the PPS edge in APEX (R85): the edge belongs on the nearest whole second. -/
def ppsEdge (t : Nat) (s : State) : State :=
  let ph := nsOf t
  let d : Int := if ph < 500000000 then -(ph : Int) else 1000000000 - (ph : Int)
  let s := if d.natAbs ≤ (s.reg A.locBackLimit).toNat * 1000000 then { s with loc := { s.loc with diverged := false } } else s
  correct true (d * 65536) (servoRate d 0 s)

/-- CAPTURE_EDGE (R100–R103, R106): an edge of a pulse `width` ns long on the unit's own pin or on its wake pin. -/
def execCaptureEdge (n : Fin 8) (rising wakePin : Bool) (width : Nat) (s : State) : Host.Outcome State Fault Refusal :=
  let c := s.cfg (A.locCapCtrl n)
  let alt := tst c 7 && decide (4 ≤ n.val) && !s.yields
  let sel := tst c 0 && tst c (if rising then 1 else 2) && (alt == wakePin) && decide (fld c 3 4 * 10 ≤ width)
  ran s (only (s.on && sel) (fun s =>
    let k := s.ownKey 96
    let u := (s.cap n).taken k.1 rising
    let put (u : CapUnit) (s : State) : State := { s with caps := SMap.put CapUnit.reset s.caps n u }
    let s := if u.fifo.length < 16 then raise 78 (put { u with fifo := u.fifo ++ [⟨k.1, rising⟩] } s)
      else raise 79 (put { u with overruns := min (u.overruns + 1) 0xFFFF } s)
    let s := record 96 9 (w32 (n.val + bit rising * 2 ^ 8)) 0 s
    let a := s.cfg A.locApexSrc
    only (s.loc.st = .apex && tst a 3 && fld a 0 3 = n.val && rising && tst (s.reg A.locCtrl) 0 && s.mpOn)
      (ppsEdge k.1) s) s)

/-- A POP of a capture FIFO (R92, R107). -/
def capPopped (n : Nat) (s : State) : State :=
  let u := s.cap n
  let u := match u.fifo with
    | [] => { u with under := true }
    | c :: l => { u with fifo := l, last := c, under := false }
  { s with caps := SMap.put CapUnit.reset s.caps n u }

/-- The stamp that a capture unit shows: the oldest, or the last one popped. -/
def State.capShown (s : State) (n : Nat) : CapStamp := (s.cap n).fifo.headD (s.cap n).last

/-! ## The passing of one nanosecond (DESIGN CHOICE: log entry 5) -/

/-- The locus counter over one real ns (R68–R70): a nominal 1 ns corrected by the rate in force, plus as much of a running
slew as LOC_SLEW_MAX allows. -/
def locTick (s : State) : State :=
  let acc := s.loc.frac + sx 32 s.loc.rate.toNat * 256
  let step := 65536 + acc / 1000000000
  let lim := s.loc.slewFrac + (s.reg A.locSlewMax).toNat * 65536
  let part := min (lim / 1000000) s.loc.slew.natAbs
  let sl : Int := if s.loc.slew < 0 then -(part : Int) else part
  { s with locus := s.locus + (step + sl).toNat,
           loc := { s.loc with frac := acc % 1000000000, slew := s.loc.slew - sl,
                               slewFrac := if s.loc.slew = 0 then 0 else lim % 1000000 } }

end Sys2Proof.Machine
end

