-- ==== Sys2Proof/Machine/Egress.lean ====
section
/-! DEFINITION. Egress (R143–R163): which copy a vertex sends next, the frame it becomes, preemption, sorted-merge, and the
end of a transmission. -/

namespace Sys2Proof.Machine

/-- Time in ns that `n` bytes take at a rate in Mbit/s. -/
def wireTime (n rate : Nat) : Nat := if rate = 0 then 0 else ceilDiv (n * 8000) rate

/-- Whether a class of a vertex is paused (R370, R371): its timer runs and no RELEASE disregards it. -/
def State.paused (s : State) (v c : Nat) : Bool :=
  let e := s.ethSt v
  decide (SMap.get 0 e.pauseUntil c > s.now) && decide (SMap.get 0 e.releaseUntil c ≤ s.now)

/-- Whether preemption is in use at a vertex under the settings of an epoch (R30, R153, R156). -/
def State.preempts (s : State) (b : Bank) (v : Nat) : Bool :=
  let m := b.regs.read (selKey A.qMode v)
  decide (v < 24) && tst m 3 && (tst m 4 || (s.out v).preempt = .succeeded)

/-- Whether a class is preemptable (R153). -/
def State.preemptable (s : State) (b : Bank) (v c : Nat) : Bool := s.preempts b v && !tst (b.regs.read (selKey A.qExpress v)) c

/-- Bytes of the first fragment of a preemptable frame (R154), and the least of every fragment but the last (R153). -/
def Bank.fragment (b : Bank) (v : Nat) : Nat := 64 * (1 + fld (b.regs.read (selKey A.qMode v)) 5 2)

/-- L_tx of a copy (R151): every byte sent from the destination address to the FCS; for a copy sent cut-through, whose length is not known
when it starts, the MAXLEN of its class. -/
def State.txLen (s : State) (c : Copy) : Nat :=
  let b := s.bankOf c.item.epoch
  if c.cut then fld (b.regs.read (selKey (A.qCMaxlen c.tc) c.egress)) 0 14
  else
    let n := (s.egressBytes c).length + 4
    let m := if s.merges c.item.epoch c.egress then 20 else 0
    let o := if b.secExempt c.egress c.data then 0 else b.secOverhead c.egress
    n + m + o

/-- Time in ns until the gate of a class closes under the list of a bank; none when it does not (R151). -/
def State.gateLeft (s : State) (b : Bank) (v c : Nat) : Option Nat := (b.gateClose v c s.ns).map (fun t => t - s.ns)

/-- Whether `n` bytes may start now before the gate of a class closes (R151). -/
def State.gateFits (s : State) (b : Bank) (v c n : Nat) : Bool :=
  match s.gateLeft b v c with
  | none => true
  | some w => decide (wireTime (n + 8) (s.macRate v) ≤ w)

/-- How many of the `left` bytes of a preemptable frame its next piece carries before its gate closes (R154; IEEE 802.3br): all of them
where they fit; else a fragment, which ends with an mCRC of 4 bytes, has at least the size of R153 and leaves at least 64 bytes; none when
no piece may start. -/
def State.pieceOf (s : State) (b : Bank) (v c left : Nat) : Option Nat :=
  match s.gateLeft b v c with
  | none => some left
  | some w =>
    if wireTime (left + 8) (s.macRate v) ≤ w then some left
    else
      let n := min (w * s.macRate v / 8000 - 12) (left - 64)
      if b.fragment v ≤ n + 4 then some n else none

/-- An earlier output of the same job waits in another class of the vertex, or is being sent (R24): the job's outputs leave in the order in
which it emitted them, whatever their classes (DEDUCED: log entry 37). -/
def State.outputBefore (s : State) (v c : Nat) : Bool :=
  match (s.queue v c).head? with
  | none => false
  | some k =>
    let earlier (x : Copy) : Bool := decide (x.item.uid = k.item.uid ∧ x.item.rule = k.item.rule) &&
      (match x.outIdx, k.outIdx with
        | some m, some n => decide (m < n)
        | _, _ => false)
    (List.range 8).any (fun d => decide (d ≠ c) && (s.queue v d).any earlier)
      || (s.out v).suspended.any (fun f => earlier f.copy)

/-- The conditions of R143 on a class but its length. -/
def State.classReady (s : State) (v c : Nat) : Bool :=
  let b := s.queueBank v c
  decide (s.queue v c ≠ []) && b.gateOpen v c s.ns && !s.paused v c && !s.outputBefore v c
    && (!b.shapes v c || decide (SMap.get 0 (s.out v).credit c ≥ 0))

/-- Whether the head copy of a class fits (R151, R154). -/
def State.headFits (s : State) (v c : Nat) : Bool :=
  match (s.queue v c).head? with
  | none => false
  | some k =>
    let b := s.bankOf k.item.epoch
    if s.preemptable b v c then (s.pieceOf b v c (s.txLen k)).isSome else s.gateFits b v c (s.txLen k)

/-- Whether the gate list of a class's head copy holds its fragments (R155). -/
def State.headHeld (s : State) (v c : Nat) : Bool :=
  let b := s.queueBank v c
  s.preemptable b v c && b.macHeld v s.ns

/-- The class that a vertex sends from (R143): the highest that is eligible; with a preempted frame waiting, only an express
one. Items of one flow in different classes follow their classes, not R26 (DESIGN CHOICE: log entry 65). -/
def State.pickClass (s : State) (v : Nat) : Option Nat :=
  (List.range 8).reverse.find? (fun c =>
    s.classReady v c && s.headFits v c && !s.headHeld v c
      && ((s.out v).suspended.isNone || !s.preemptable (s.queueBank v c) v c))

/-- Counts a hold for every class whose head is kept back by its length alone: one for a frame and the window that it misses (R152). -/
def countHolds (v : Nat) (s : State) : State :=
  (List.range 8).foldl (fun s c =>
    let o := s.out v
    match (s.queue v c).head? with
    | none => s
    | some k =>
      let key := (c, k.item.uid, ((s.queueBank v c).gateClose v c s.ns).getD 0)
      if s.classReady v c && !s.headFits v c && !o.holdCounted.contains key then
        raise 94 (bump (selKey (A.qCHold c) v)
          (setOut v { o with holdCounted := o.holdCounted.filter (fun x => x.1 ≠ c) ++ [key] } s))
      else s) s

/-- The copy of the merge store that a sorted-merge egress may send now, with whether it is late or early (R159–R161). -/
def State.pickMerge (s : State) (v : Nat) : Option (Copy × Bool × Bool) :=
  let o := s.out v
  match o.merge.head? with
  | none => none
  | some c =>
    let w := fld (s.at_ c.item.epoch (selKey A.qMergeW v)) 0 9 * 1000
    let late := match o.maxSent with
      | none => false
      | some k => keyBefore c.item.key k
    let due := decide (c.item.stamp + w ≤ s.ns)
    let full := decide (o.merge.length ≥ 32768)
    if s.paused v c.tc then none
    else if late then some (c, true, false)
    else if due then some (c, false, false)
    else if full then some (c, false, true)
    else none

/-- The 20-byte merge trailer of a copy (R163). -/
def mergeTrailer (c : Copy) (late : Bool) : List Byte :=
  beBytes 8 (secOf c.item.stamp) ++ beBytes 4 (nsOf c.item.stamp) ++ beBytes 4 c.item.seq.toNat
    ++ beBytes 1 (c.item.vertex % 128) ++ beBytes 1 (bit late + 2 * bit c.outIdx.isSome) ++ beBytes 1 (c.outIdx.getD 0)
    ++ beBytes 1 1

/-- Counts a frame sent (R384). -/
def countTx (v : Nat) (bytes : List Byte) (s : State) : State :=
  let s := ethCount v 11 1 (ethCount v 10 (bytes.length + 4) s)
  if bytes.take 6 = List.replicate 6 0xFF then ethCount v 13 1 s
  else if byteAt bytes 0 % 2 = 1 then ethCount v 12 1 s
  else s

/-- A frame leaves through the medium: what an observer sees, and the blocks of a backbone lane (R337). -/
def emit (v : Nat) (bytes : List Byte) (badFcs : Bool) (sof : Nat) (s : State) : State :=
  feedLane v bytes badFcs { s with outbox := s.outbox ++ [⟨v, bytes, badFcs, sof⟩] }

/-- The transmit stamp of a copy, where its result or its job asked for one (R87); that of a message of the time domains returns to the
processor. -/
def stampSent (v : Nat) (c : Copy) (sof : Nat) (s : State) : State :=
  let s := ptpStamped c.item.uid sof s
  match c.txId with
  | some i => txStamp v ⟨sof, i, c.item.vertex, false⟩ s
  | none =>
    if c.outIdx.isNone ∧ c.item.res.getLsbD 42 then txStamp v ⟨sof, c.item.seq.setWidth 16, c.item.vertex, false⟩ s else s

/-- A copy has left: its queue cells are free. -/
def freeCopy (c : Copy) (s : State) : State := freeQ c.egress c.tc c.item.vertex c.item.facet c.reserved s

/-- Bytes of a frame in transmission with its FCS. -/
def TxFrame.total (f : TxFrame) : Nat := f.bytes.length + 4

/-- Ends a transmission whose last bit has left (R146, R158): counters, transmit stamp, cells. After a fragment the rest of the frame
waits (R154). -/
def finishTx (v : Nat) (s : State) : State :=
  let o := s.out v
  match o.tx with
  | none => s
  | some f =>
    if f.endAt > s.now then s
    else if f.sent + f.piece < f.total then
      setOut v { o with tx := none, suspended := some { f with sent := f.sent + f.piece, piece := 0 } } s
    else
      let s := setOut v { o with tx := none } s
      let e := s.ethSt v
      let s := setEth v { e with contending := none, attempts := 0 } s
      let long := decide (f.copy.cut ∧ f.copy.len > fld (s.at_ f.copy.item.epoch (selKey (A.qCMaxlen f.copy.tc) v)) 0 14)
      let bad := decide (f.copy.stomp ≠ .no)
      let s := if bad then bump (selKey A.qStomped v) s else s
      let s := if long then bump (selKey A.qTooLong v) s else s
      let s := if v < 48 then countTx v f.bytes s else s
      stampSent v f.copy f.sof (freeCopy f.copy (emit v f.bytes (bad || long) f.sof s))

/-- Ends every transmission whose time has come. -/
def finishAll (s : State) : State := (s.egress.map (·.1)).foldl (fun s v => finishTx v s) s

/-- Puts a piece of a frame on the medium: `n` of its bytes, with an mCRC when they are not its last; the credit of a shaped class falls at
sendSlope while they last (R146). -/
def sendPiece (v : Nat) (f : TxFrame) (n : Nat) (s : State) : State :=
  let rate := s.macRate v
  let c := f.copy.tc
  let b := s.bankOf f.copy.item.epoch
  let dur := wireTime (n + (if f.total ≤ f.sent + n then 8 else 12)) rate
  let g := { f with piece := n, began := s.now, endAt := s.now + dur }
  let o := s.out v
  let o := if b.shapes v c ∧ !s.merges f.copy.item.epoch v then
      let slope := (b.regs.read (selKey (A.qCIdleslope c) v)).toNat
      { o with credit := SMap.upd 0 o.credit c (fun x => x + ((slope : Int) - (rate * 1000 : Nat)) * (dur : Nat)),
               creditAt := SMap.put 0 o.creditAt c g.endAt }
    else o
  setOut v { o with tx := some g, suspended := none, busyUntil := g.endAt + wireTime 12 rate } s

/-- Starts a copy that has been taken from its queue (R143, R366, R377): it is dropped by the egress VLAN filter or for want
of a MACsec key, or its frame begins. A preemptable frame longer than its window sends a first fragment and waits (R154).
`late` marks a late copy of a sorted-merge egress (R160). The stamp of a frame is that of its first symbol after the SFD (R78). -/
def startTx (v : Nat) (c : Copy) (late : Bool) (s : State) : State :=
  let b := s.bankOf c.item.epoch
  let filtered := tst (b.regs.read (A.ethPortVlan v)) 19 && c.outIdx.isNone && !c.built && !b.vlanMember c.item.vid v
  if filtered then ethCount v 16 1 (dropReserved 0x1C true c s)
  else
    let sof := s.ns + wireTime 8 (s.macRate v)
    let plain := (s.oneStep c.item.uid v sof).getD (s.egressBytes c) ++ (if s.merges c.item.epoch v then mergeTrailer c late else [])
    match secTransmit b v plain s with
    | (none, s) => dropReserved 0x1E true c s
    | (some bytes, s) =>
      let f : TxFrame := ⟨{ c with late := late }, bytes, sof, 0, 0, 0, 0⟩
      let n := if s.preemptable b v c.tc then (s.pieceOf b v c.tc f.total).getD f.total else f.total
      let o := s.out v
      let s := sendPiece v f n (setOut v { o with holdCounted := o.holdCounted.filter (fun x => x.1 ≠ c.tc) } s)
      if 40 ≤ v ∧ v < 48 then setEth v { s.ethSt v with contending := some f.copy } s else s

/-- Sends from a sorted-merge egress (R159–R161). A copy that the egress drops has not been sent: it makes no later one late (R29). -/
def sendMerge (v : Nat) (s : State) : State :=
  match s.pickMerge v with
  | none => s
  | some (c, late, early) =>
    let o := s.out v
    let s := startTx v c late (setOut v { o with merge := o.merge.drop 1 } s)
    if (s.out v).tx.isNone then s
    else
      let k := c.item.key
      let top := match o.maxSent with
        | none => k
        | some m => if keyBefore m k then k else m
      let s := setOut v { s.out v with maxSent := some top } s
      let s := if late then raise 92 (bump (selKey A.qLate v) (fate c v 0 true s)) else s
      if early then raise 93 (bump (selKey A.qEarly v) s) else s

/-- Takes the head of a class queue. -/
def takeHead (v c : Nat) (s : State) : Option (Copy × State) :=
  match s.queue v c with
  | [] => none
  | k :: l => some (k, setQueue v c l s)

/-- A preempted frame goes on when its gate is open and nothing holds it (R154, R155). -/
def resume (v : Nat) (f : TxFrame) (s : State) : State :=
  let b := s.bankOf f.copy.item.epoch
  let c := f.copy.tc
  if b.gateOpen v c s.ns && !b.macHeld v s.ns then
    match s.pieceOf b v c (f.total - f.sent) with
    | none => s
    | some n => sendPiece v f n s
  else s

/-- Sends from the class queues (R143); a preempted frame goes on when no express one is eligible. -/
def sendClass (v : Nat) (s : State) : State :=
  let s := countHolds v ((List.range 8).foldl (fun s c => touchCredit v c s) s)
  match s.pickClass v with
  | some c =>
    match takeHead v c s with
    | none => s
    | some (k, s) => startTx v k false s
  | none =>
    match (s.out v).suspended with
    | none => s
    | some f => resume v f s

/-- The bytes of the piece on the medium that have left (R153). -/
def State.goneBytes (s : State) (v : Nat) (f : TxFrame) : Nat := (s.now - f.began) * s.macRate v / 8000 - 8

/-- Cuts the preemptable frame in transmission at a fragment boundary (R153): its piece has at least the size of a fragment with its mCRC,
and at least 64 bytes of the frame remain. The medium is free after the mCRC and the gap; the credit of what was not sent returns. -/
def cutPiece (v : Nat) (s : State) : Option State :=
  let o := s.out v
  match o.tx with
  | none => none
  | some f =>
    let b := s.bankOf f.copy.item.epoch
    let c := f.copy.tc
    let rate := s.macRate v
    let n := s.goneBytes v f
    if s.preemptable b v c && o.suspended.isNone && decide (b.fragment v ≤ n + 4 ∧ f.sent + n + 64 ≤ f.total ∧ n < f.piece) then
      let o := if b.shapes v c then
          let slope := (b.regs.read (selKey (A.qCIdleslope c) v)).toNat
          { o with credit := SMap.upd 0 o.credit c (fun x => x + ((rate * 1000 : Nat) - (slope : Int)) * (f.endAt - s.now : Nat)),
                   creditAt := SMap.put 0 o.creditAt c s.now }
        else o
      some (setOut v { o with tx := none, suspended := some { f with sent := f.sent + n, piece := 0 },
                              busyUntil := s.now + wireTime 16 rate } s)
    else none

/-- A preemptable frame in transmission yields to an express frame at a fragment boundary (R153); the express frame starts when the medium
is free. -/
def preemptNow (v : Nat) (s : State) : State :=
  match s.pickClass v with
  | none => s
  | some c => if s.preemptable (s.queueBank v c) v c then s else (cutPiece v s).getD s

/-- Whether a vertex may start a frame from its class queues now; a crossing in Gray-coded mode holds it (R411). -/
def State.mayStart (s : State) (v : Nat) : Bool :=
  let e := s.ethSt v
  s.macOn v && e.linkUp && decide ((s.out v).busyUntil ≤ s.now) && !(SMap.get Crossing.reset s.cross v).gray

/-- QUIESCE of a vertex (R625). -/
def State.quiescing (s : State) (v : Nat) : Bool := tst (s.reg (vertexPage v + 8)) 1

/-- A quiesced vertex sends only frames of its own: the first copy of vertex 96 of the highest class that holds one, or of its merge store
(R625). -/
def sendOwnOnly (v : Nat) (s : State) : State :=
  let own (c : Copy) : Bool := c.item.vertex = 96
  match (List.range 8).reverse.find? (fun c => (s.queue v c).any own) with
  | none =>
    let o := s.out v
    match o.merge.find? own with
    | none => s
    | some k => startTx v k false (setOut v { o with merge := o.merge.eraseIdx (o.merge.findIdx own) } s)
  | some c =>
    match (s.queue v c).find? own with
    | none => s
    | some k => startTx v k false (setQueue v c ((s.queue v c).eraseIdx ((s.queue v c).findIdx own)) s)

/-- Whether a frame waits at a vertex outside its merge store. -/
def State.classWaits (s : State) (v : Nat) : Bool :=
  (List.range 8).any (fun c => decide (s.queue v c ≠ [])) || (s.out v).suspended.isSome

/-- A transmission opportunity of an Ethernet vertex. While an older epoch drains, what it left goes first (R26): its class queues at a
vertex that sorts now, its merge store at one that no longer does. -/
def opportunity (v : Nat) (s : State) : State :=
  let s := anBoundary v s
  if s.quiescing v then sendOwnOnly v s
  else if (s.out v).merge ≠ [] ∧ !(s.merges s.epoch.live v && s.classWaits v) then sendMerge v s
  else sendClass v s

/-- Puts a copy into the class queue of its vertex, or into the merge store in the order of R21 (R143, R159). -/
def enqueue (c : Copy) (s : State) : State :=
  if s.merges c.item.epoch c.egress then
    let o := s.out c.egress
    let before (a b : Copy) : Bool := keyBefore a.item.key b.item.key
    setOut c.egress { o with merge := insertBy before c o.merge } s
  else
    let s := touchCredit c.egress c.tc s
    setQueue c.egress c.tc (s.queue c.egress c.tc ++ [c]) s

/-- Whether a peer channel carries traffic of an epoch (R5): accord is enabled in it, the channel is not that of the own rank, and the peer
is UP. -/
def State.channelOpen (s : State) (e : W32) (r : Nat) : Bool :=
  let a := s.at_ e A.brgAccCtrl
  tst a 0 && decide (fld a 1 3 ≠ r) && decide ((SMap.get PeerSt.reset s.accord.peers r).state = 1)

/-- Hands a copy of an internal vertex or the service port to its subsystem (R144): the service port sends its bytes; the
management processor, the lattice and the cipher engine consume theirs; a peer channel sends it, while its peer is UP, on the
vertex last heard and to the peer's address. -/
def handOver (v : Nat) (s : State) : State :=
  match (List.range 8).reverse.find? (fun c => s.queue v c ≠ []) with
  | none => s
  | some c =>
    match takeHead v c s with
    | none => s
    | some (k, t) =>
      if v = 84 then stampSent 84 k s.ns (freeCopy k (emit 84 k.data false s.ns t))
      else if 101 ≤ v ∧ v ≤ 108 then
        if !s.channelOpen k.item.epoch (v - 101) then s
        else
          let p := SMap.get PeerSt.reset s.accord.peers (v - 101)
          let k' := { k with egress := p.vertex, built := true, data := p.mac ++ s.station p.vertex ++ k.data.drop 12 }
          enqueue k' (chargeQ p.vertex c k.item.vertex k.item.facet k.reserved (freeQ v c k.item.vertex k.item.facet k.reserved t))
      else freeCopy k t

/-- A frame whose transmission had started when its MAC was disabled or its vertex reset completes (R126, R623): its remaining fragments
go. -/
def completeOnly (v : Nat) (s : State) : State :=
  match (s.out v).suspended with
  | none => s
  | some f => if (s.ethSt v).linkUp ∧ (s.out v).busyUntil ≤ s.now then resume v f s else s

/-- EGRESS_TRANSMIT (R143): on a transmission opportunity the vertex starts the head copy of its highest eligible class. -/
def execEgressTransmit (v : Vertex) (s : State) : Host.Outcome State Fault Refusal :=
  ran s (only s.coreOn (fun s =>
    if v.val < 48 then
      let s := finishTx v s
      let e := s.ethSt v
      if (s.out v).tx.isSome then only (s.macOn v && e.linkUp) (preemptNow v) s
      else if !s.macOn v then completeOnly v s
      else
        only (s.mayStart v && (v.val < 40 || (!e.plcaActive && e.contending.isNone))) (opportunity v) s
    else only (v.val = 84 || v.val = 96 || v.val = 97 || v.val = 98 || (decide (101 ≤ v.val) && decide (v.val ≤ 108)))
      (handOver v) s) s)

/-! ## The transfer of a copy (R111, R116, R120) -/

/-- Whether a copy that crosses may be sent cut-through (R157): its class queue is empty and eligible when it reaches the output side. -/
def State.cutNow (s : State) (c : Copy) : Bool :=
  let b := s.bankOf c.item.epoch
  let v := c.egress
  c.cut && decide (s.queue v c.tc = []) && b.gateOpen v c.tc s.ns && !s.paused v c.tc && s.gateFits b v c.tc (s.txLen c)
    && (!b.shapes v c.tc || decide (SMap.get 0 (s.out v).credit c.tc ≥ 0))

/-- A copy that has crossed arrives at the output side. One that may go cut-through returns the surplus of its reservation (R117); one that
may not is stored: a frame that ended badly is no copy then (R158), and one longer than MAXLEN is dropped (R124). -/
def arrive (c : Copy) (s : State) : State :=
  let n := cellsOf c.len
  let s' := if c.cut ∧ n < c.reserved then freeQ c.egress c.tc c.item.vertex c.item.facet (c.reserved - n) s else s
  let k := if c.cut then { c with reserved := min n c.reserved } else c
  if s.cutNow c then enqueue k s'
  else
    let k := { k with cut := false, stomp := .no }
    if c.stomp = .orDrop then freeCopy k s'
    else if c.cut ∧ c.len > fld (s.at_ c.item.epoch (selKey (A.qCMaxlen c.tc) c.egress)) 0 14 then dropReserved 7 true k s'
    else enqueue k s'

/-- A plane has carried a copy: PLN_Pp_XFER counts its transfers, and PLN_Pp_LOAD has sectors to show (R168). -/
def carried (p : Nat) (c : Copy) (s : State) : State :=
  addPair (A.plnPXferLo p) (A.plnPXferHi p) (transfersOf c.len) { s with lastXfer := SMap.put none s.lastXfer p (some s.now) }

/-- PLANE_TRANSFER (R111, R116, R120): the next copy of a plane crosses; a transfer with a bad cell CRC is repeated from
the source cell, which is held meanwhile (R55). -/
def execPlaneTransfer (p : Fin 5) (ph : TransferFinding) (s : State) : Host.Outcome State Fault Refusal :=
  ran s (only (s.coreOn && s.plane.inService.contains p) (fun s =>
    match nextCopy (s.planeIn p) with
    | none => s
    | some (c, rest) =>
      let cross (s : State) : State :=
        let s := carried p c (setPlaneIn p rest s)
        release c.src (arrive c s)
      match ph with
      | .good => cross s
      | .corrected cell => cross (cellCorrected cell (if c.src = 0 then none else some c.src) s)
      | .uncorrectable cell => cellLost cell c s
      | .crcError =>
        let i := (s.planeIn p).findIdx (fun c => !c.held)
        let s := setPlaneIn p ((s.planeIn p).set i { c with errs := c.errs + 1 }) s
        let s := bump (A.plnPRepeat p) (carried p c s)
        raise 83 (fault plnPage 0x110 p (svcDelay c.item.facet 1 s))) s)

/-- PREEMPT_VERIFY (R156): the verify protocol ends; a failure raises event 95. -/
def execPreemptVerify (v : EthV) (ok : Bool) (s : State) : Host.Outcome State Fault Refusal :=
  let m := s.cfg (selKey A.qMode v)
  ran s (only (s.on && decide (v.val < 24) && tst m 3 && !tst m 4 && (s.ethSt v).linkUp) (fun s =>
    let s := setOut v { s.out v with preempt := if ok then .succeeded else .failed } s
    if ok then s else raise 95 s) s)

end Sys2Proof.Machine
end

