-- ==== Sys2Proof/Machine/Service.lean ====
section
/-! DEFINITION. The service port: the arrival of a line and the answers the monitor gives (R606). -/

namespace Sys2Proof.Machine

/-- The monitor answers with lines. -/
def say (l : List String) (s : State) : State := { s with svc := { s.svc with output := s.svc.output ++ l } }

/-- Bytes that wait in the input buffer. -/
def State.lineBytes (s : State) : Nat := s.svc.lines.foldl (fun n i => n + i.data.length) 0

/-- A line arrives (R20, R78, R606): it is stamped at vertex 84 with the start bit of its first character, and waits for the monitor in
input cells (R115); a line in error or beyond 320 characters is answered ER LINE, one that would overflow the buffer is discarded. Both
count and raise event 315. -/
def serviceLine (text : List Byte) (framing : Bool) (sof : Nat) (s : State) : State :=
  let lost (s : State) : State := raise 315 (bump A.svcLineErrors s)
  if framing ∨ text.length > 320 then lost (say ["ER LINE"] s)
  else if s.lineBytes + text.length > 2048 then lost s
  else
    let (i, s) := stampItem 84 sof text text.length s
    match s.inputRefused i with
    | some reason => dropItem reason i s
    | none =>
      let s := openInput i.uid 84 i.facet (cellsOf i.len) 1 s
      { s with svc := { s.svc with lines := s.svc.lines ++ [i], lastLine := s.now, rateAt := none } }

/-- MONITOR_LINE (R606): a line of text arrives whole on the service port. In SLEEP and OFF the port does not work. -/
def execMonitorLine (text : List Byte) (a : LineArrival) (s : State) : Host.Outcome State Fault Refusal :=
  ran s (only s.on (serviceLine text a.framing a.sof) s)

end Sys2Proof.Machine
end

