-- ==== Sys2Proof/Machine/Store.lean ====
section
/-! DEFINITION. The stores of a bank (chapter 04): results, the prefix CAM and the hash store with their keys, searches and placement, and
the removal of dynamic entries. -/

namespace Sys2Proof.Machine

/-! ## Results (R193) -/

/-- A field of a result: `n` bits from bit `lo`. -/
def resFld (r : BitVec 64) (lo n : Nat) : Nat := r.toNat / 2 ^ lo % 2 ^ n

/-- A result with a field replaced. -/
def resSet (r : BitVec 64) (lo n v : Nat) : BitVec 64 :=
  BitVec.ofNat 64 (r.toNat - resFld r lo n * 2 ^ lo + (v % 2 ^ n) * 2 ^ lo)

/-- ACTION of a result. -/
def resAction (r : BitVec 64) : Nat := resFld r 61 3
/-- GROUP. -/
def resGroup (r : BitVec 64) : Bool := r.getLsbD 60
/-- DEST: a vertex, or a group. -/
def resDest (r : BitVec 64) : Nat := if resGroup r then resFld r 47 13 else resFld r 47 7
/-- JOB. -/
def resJob (r : BitVec 64) : Nat := resFld r 29 12
/-- FILTER. -/
def resFilter (r : BitVec 64) : Nat := resFld r 19 10
/-- OWNER. -/
def resOwner (r : BitVec 64) : Nat := resFld r 12 4
/-- STATIC. -/
def resStatic (r : BitVec 64) : Bool := r.getLsbD 11
/-- HIT. -/
def resHit (r : BitVec 64) : Bool := r.getLsbD 10

/-- The result that an insertion stores: OWNER and STATIC set, HIT and reserved bits 0. -/
def resStored (r : BitVec 64) (owner : Nat) : BitVec 64 :=
  BitVec.ofNat 64 ((resFld r 42 22) * 2 ^ 42 + resFld r 19 22 * 2 ^ 19 + owner % 16 * 2 ^ 12 + 2 ^ 11)

/-- The result that UPDATE stores: OWNER, STATIC and HIT of the old one. -/
def resUpdated (r old : BitVec 64) : BitVec 64 :=
  BitVec.ofNat 64 ((resFld r 42 22) * 2 ^ 42 + resFld r 19 22 * 2 ^ 19 + resFld old 10 6 * 2 ^ 10)

/-- TBL_DEF_v of a bank. -/
def Bank.defResult (b : Bank) (v : Nat) : BitVec 64 := BitVec.ofNat 64 (pair (b.regs.read (A.tblDefLo v)) (b.regs.read (A.tblDefHi v)))

/-! ## The prefix CAM (R181–R184) -/

/-- The CAM entry at an index. -/
def Bank.camAt (b : Bank) (i : Nat) : Option CamEntry := SMap.get none b.cam i

/-- The context fields of a CAM key with the care bit of each: bit offset, width, care bit. -/
def camFields : List (Nat × Nat × Nat) := [(160, 16, 4), (154, 6, 3), (151, 3, 2), (144, 7, 1), (132, 12, 0)]

/-- Whether two keys agree in the first `n` address bits. -/
def samePrefix (a b : BitVec 176) (n : Nat) : Bool :=
  decide (a.toNat % 2 ^ 128 / 2 ^ (128 - n) = b.toNat % 2 ^ 128 / 2 ^ (128 - n))

/-- A field of a CAM key. -/
def camFld (k : BitVec 176) (lo n : Nat) : Nat := k.toNat / 2 ^ lo % 2 ^ n

/-- Whether an entry matches an item's key (R181): KIND, every cared context field, the address prefix. -/
def CamEntry.matches (e : CamEntry) (k : BitVec 176) : Bool :=
  decide (camFld e.key 128 4 = camFld k 128 4)
    && camFields.all (fun f => e.care / 2 ^ f.2.2 % 2 = 0 || decide (camFld e.key f.1 f.2.1 = camFld k f.1 f.2.1))
    && samePrefix e.key k e.prefixLen

/-- The entry that wins (R182): the longest prefix, then the lowest index. -/
def Bank.camLookup (b : Bank) (k : BitVec 176) : Option (Nat × CamEntry) :=
  b.cam.foldl (fun best p =>
    match p.2 with
    | none => best
    | some e =>
      if !e.matches k then best
      else match best with
        | none => some (p.1, e)
        | some q => if q.2.prefixLen < e.prefixLen then some (p.1, e) else best) none

/-- Whether a CAM key is well formed (R181): a kind in use, a legal prefix, unused bits zero. -/
def camKeyOk (k : BitVec 176) (prefixLen : Nat) : Bool :=
  let kind := camFld k 128 4
  let low (n : Nat) : Bool := decide (k.toNat % 2 ^ n = 0)
  let fmt := camFld k 126 2
  decide (1 ≤ kind ∧ kind ≤ 5 ∧ prefixLen ≤ 128)
    && (match kind with
        | 1 => low 96
        | 3 => low 80 && decide (camFld k 154 6 = 0)
        | 4 => decide (fmt ≠ 3) && (if fmt = 1 then low 97 else low 115)
        | 5 => low 122
        | _ => true)
    && (kind ≤ 3 || decide (camFld k 160 16 = 0 ∧ camFld k 154 6 = 0 ∧ camFld k 151 3 = 0 ∧ camFld k 132 12 = 0))

/-- The index of the entry with exactly a key, care bits and prefix length (R215). -/
def Bank.camFind (b : Bank) (k : BitVec 176) (prefixLen care : Nat) : Option (Nat × CamEntry) :=
  b.cam.findSome? (fun p =>
    match p.2 with
    | none => none
    | some e => if e.key = k ∧ e.prefixLen = prefixLen ∧ e.care = care then some (p.1, e) else none)

/-- Sets the CAM entry at an index. -/
def Bank.setCam (b : Bank) (i : Nat) (e : Option CamEntry) : Bank := { b with cam := SMap.put none b.cam i e }

/-- Whether two CAM entries overlap (R184). -/
def CamEntry.overlaps (a b : CamEntry) : Bool :=
  decide (camFld a.key 128 4 = camFld b.key 128 4 ∧ a.prefixLen = b.prefixLen) && samePrefix a.key b.key a.prefixLen
    && camFields.all (fun f => a.care / 2 ^ f.2.2 % 2 = 0 || b.care / 2 ^ f.2.2 % 2 = 0
        || decide (camFld a.key f.1 f.2.1 = camFld b.key f.1 f.2.1))

/-! ## The hash store (R185–R188) -/

/-- Whether a hash key is well formed: a kind in use, unused bits zero. -/
def hashKeyOk (k : BitVec 320) : Bool :=
  match hashKind k with
  | 1 => decide (k.toNat < 2 ^ 64)
  | 2 => decide (k.toNat < 2 ^ 115 ∧ k.toNat / 2 ^ 4 % 2 ^ 7 < 128)
  | 3 => decide (k.toNat < 2 ^ 307)
  | 4 => decide (k.toNat < 2 ^ 71)
  | _ => false

/-- The hash seed of a bank (R179). -/
def Bank.seed (b : Bank) : Nat := (b.regs.read A.tblHashSeed).toNat

/-- The bucket of a key under a seed (R186): the CRC-32C, with its final complement, started at the seed. -/
def bucketAt (seed : Nat) (k : BitVec 320) : Nat :=
  crcFinal 32 true 0xFFFFFFFF (crcRun 32 0x1EDC6F41 true seed (leBytes (if hashWide k then 40 else 20) k.toNat))
    % 65536

/-- The entry stored at a handle. -/
def Bank.hashAt (b : Bank) (h : Nat) : Option HashEntry := SMap.get none b.hash h

/-- Sets the entry at a handle. -/
def Bank.setHash (b : Bank) (h : Nat) (e : Option HashEntry) : Bank := { b with hash := SMap.put none b.hash h e }

/-- The entry that occupies a way: its own, or the double-width one of its pair. -/
def Bank.wayOf (b : Bank) (h : Nat) : Option HashEntry :=
  match b.hashAt h with
  | some e => some e
  | none =>
    if h % 2 = 1 then
      match b.hashAt (h - 1) with
      | some e => if hashWide e.key then some e else none
      | none => none
    else none

/-- The entry of a key with its handle. -/
def Bank.hashFind (b : Bank) (k : BitVec 320) : Option (Nat × HashEntry) :=
  b.hash.findSome? (fun p =>
    match p.2 with
    | none => none
    | some e => if e.key = k then some (p.1, e) else none)

/-- Whether an entry is dynamic. -/
def HashEntry.dyn (e : HashEntry) : Bool := !resStatic e.res

/-- Whether a way holds a dynamic entry. -/
def Bank.dynAt (b : Bank) (h : Nat) : Bool :=
  match b.wayOf h with
  | none => false
  | some e => e.dyn

/-- Places a dynamic entry in way 2 or way 3 (R187); none when both are occupied. -/
def Bank.placeDyn (b : Bank) (e : HashEntry) : Option Bank :=
  let h := bucketAt b.seed e.key * 4
  if (b.wayOf (h + 2)).isNone then some (b.setHash (h + 2) (some e))
  else if (b.wayOf (h + 3)).isNone then some (b.setHash (h + 3) (some e))
  else none

/-- Places a static entry (R187): the lowest free way, or the pair for a double-width entry; else in place of a dynamic
one. None when no way is left. -/
def Bank.placeStatic (b : Bank) (e : HashEntry) : Option (Nat × Bank) :=
  let h := bucketAt b.seed e.key * 4
  let free (w : Nat) : Bool := (b.wayOf (h + w)).isNone
  let yields (w : Nat) : Bool := free w || b.dynAt (h + w)
  if hashWide e.key then
    if free 0 && free 1 then some (h, b.setHash h (some e))
    else if yields 2 && yields 3 then some (h + 2, ((b.setHash (h + 3) none).setHash (h + 2) (some e)))
    else none
  else
    match [0, 1, 2, 3].find? free with
    | some w => some (h + w, b.setHash (h + w) (some e))
    | none =>
      match [2, 3].find? (fun w => b.dynAt (h + w)) with
      | some w => some (h + w, b.setHash (h + w) (some e))
      | none => none

/-- Ways in use of a bank. -/
def Bank.hashUsed (b : Bank) : Nat :=
  b.hash.foldl (fun n p => match p.2 with
    | none => n
    | some e => n + 1 + bit (hashWide e.key)) 0

/-- Dynamic entries of a bank that satisfy a condition. -/
def Bank.dynCount (b : Bank) (cond : HashEntry → Bool) : Nat :=
  b.hash.foldl (fun n p => match p.2 with
    | none => n
    | some e => n + bit (e.dyn && cond e)) 0

/-- Dynamic entries charged to a facet: those whose DEST vertex is bound to it (R199). -/
def State.learnUse (s : State) (f : Nat) : Nat := s.live.dynCount (fun e => decide (s.bound (resDest e.res) = f))

/-- The BRIDGE key of a FID and a MAC address. -/
def bridgeKey (fid : Nat) (mac : List Byte) : BitVec 320 := BitVec.ofNat 320 (1 + fid % 4096 * 16 + beAt mac 0 6 * 2 ^ 16)

/-- Removes the dynamic entry of a key from a bank. -/
def Bank.dropDyn (b : Bank) (k : BitVec 320) : Bank :=
  match b.hashFind k with
  | some (h, e) => if e.dyn then b.setHash h none else b
  | none => b

/-- Changes the result of the dynamic entry of a key of a bank. -/
def Bank.setDyn (b : Bank) (k : BitVec 320) (f : HashEntry → HashEntry) : Bank :=
  match b.hashFind k with
  | some (h, e) => if e.dyn then b.setHash h (some (f e)) else b
  | none => b

/-- Changes the live and the staging bank together (R198). -/
def both (f : Bank → Bank) (s : State) : State := { s with live := f s.live, staging := f s.staging }

/-- Removes the dynamic entry of a key from a bank where it has a DEST. -/
def Bank.dropDest (b : Bank) (v : Nat) (k : BitVec 320) : Bank :=
  { b with hash := b.hash.filter (fun p => !p.2.any (fun e => decide (e.key = k) && e.dyn && decide (resDest e.res = v))) }

/-- Keys of the dynamic entries of a bank with a DEST, in the order of their handles. -/
def Bank.destKeys (b : Bank) (v : Nat) : List (BitVec 320) :=
  b.hash.filterMap (fun p => match p.2 with
    | none => none
    | some e => if e.dyn && decide (resDest e.res = v) then some e.key else none)

/-- The entries that a flush of a vertex removes, from the live and the staging bank (R205, R215). -/
def State.flushKeys (s : State) (v : Nat) : List (BitVec 320) :=
  let l := s.live.destKeys v
  l ++ (s.staging.destKeys v).filter (fun k => !l.contains k)

/-- Number of entries that a flush removes. -/
def State.flushCount (s : State) (v : Nat) : Nat := (s.flushKeys v).length

/-- Flushes the first `n` of the entries of a vertex (R209). -/
def flushFirst (v n : Nat) (s : State) : State :=
  ((s.flushKeys v).take n).foldl (fun s k => both (fun b => b.dropDest v k) s) s

/-- Flushes every dynamic entry with a DEST from the live and staging banks (R205, R215). -/
def flushVertex (v : Nat) (s : State) : State := flushFirst v (s.flushCount v) s

end Sys2Proof.Machine
end

