-- ==== Sys2Proof/Machine/Locks.lean ====
section
/-! DEFINITION. Locks and command ports: the leases of page locks and of the table and rule command ports (R206, R325, R439,
R440), and the running command of a port (R208, R209, R216, R328). Locks 0–511 are those of the pages, 512–515 those of the
table ports, 516 and 517 those of the rule ports, 518–525 the near sides of the far locks of the windows (R457). Port numbers 0–3 are the table ports, 4 and 5 the rule ports. -/

namespace Sys2Proof.Machine

/-- The lock of a command port. -/
def portLock (p : Nat) : Nat := 512 + p

/-- Address of the LOCK register of a lock. -/
def lockAddr (k : Nat) : Nat :=
  if k < 512 then 0x1000 * k + 0x3C else if k < 516 then A.tblCmdLock (k - 512)
  else if k < 518 then A.brgRcmdLock (k - 516) else A.brgWinLock (k - 518)

/-- Event of the expiry and of the forced end of a lock (R206, R325, R440, R458). -/
def lockEvent (k : Nat) : Nat := if k < 512 then 2 else if k < 516 then 124 else if k < 518 then 249 else 255

/-- The lease of a lock. -/
def State.lockOf (s : State) (k : Nat) : Option Lease := SMap.get none s.locks k

/-- Whether a facet holds a lock. -/
def State.holds (s : State) (k f : Nat) : Bool :=
  match s.lockOf k with
  | none => false
  | some l => decide (l.holder = f)

/-- Takes a lock, or renews it, for 100 ms (R440). -/
def grantLock (k f : Nat) (s : State) : State :=
  { s with locks := SMap.put none s.locks k (some ⟨f, s.now + 100000000⟩) }

/-- An access of the holder renews the lease. -/
def renewLock (k f : Nat) (s : State) : State := if s.holds k f then grantLock k f s else s

/-- STATUS of a command port: COUNT, RESULT and BUSY (R214, R324). -/
def portStatus (p count result : Nat) (busy : Bool) (s : State) : State :=
  setRegN (if p < 4 then A.tblCmdStatus p else A.brgRcmdStatus (p - 4))
    (min count 65535 * 2 ^ 16 + result * 2 ^ 8 + bit busy) s

/-- The running command of a port. -/
def State.cmd (s : State) (p : Nat) : Option PortCmd := SMap.get none s.cmds p

/-- The end of a lease aborts the running command of its port and returns its tag (R209). What the command has changed stays changed; a
flush stops at an entry boundary: how many entries it has flushed by then is a free value. -/
def abortCmd (p : Nat) (s : State) : State :=
  match s.cmd p with
  | none => s
  | some c =>
    let s := returnTag c.tag { s with cmds := SMap.put none s.cmds p none }
    match c.flush with
    | none => portStatus p c.count 9 false s
    | some v =>
      let n := (Config.freeWord s.fresh).toNat % (s.flushCount v + 1)
      portStatus p n 9 false (flushFirst v n { s with fresh := s.fresh + 1 })

/-- Ends a lock with a cause: 0 release, 1 expiry, 2 facet reset, 3 FORCE (R440); a far lock that ends otherwise than by UNLOCK
raises event 255 (R458, R472). -/
def endLock (k cause : Nat) (s : State) : State :=
  match s.lockOf k with
  | none => s
  | some l =>
    let s := adminRec 1 l.holder cause (w32 (lockAddr k)) { s with locks := SMap.put none s.locks k none }
    let s := if 512 ≤ k then abortCmd (k - 512) s else s
    if 518 ≤ k then (if cause = 0 then s else raiseTo (lockEvent k) [fld (s.cfg (A.brgWinCtrl (k - 518))) 8 4] s)
    else if cause = 1 ∨ cause = 3 then raise (lockEvent k) s else s

/-- A write of a LOCK register by a facet with write rights (R206, R439): FORCE of F0 ends the lock; HELD = 1 takes or renews
it, HELD = 0 releases it. Another facet's lock answers with `other`, and so does HELD = 0 on a port that nobody holds (R207). -/
def lockWritten (k f : Nat) (v : W32) (other : Rsp) (s : State) : Rsp × State :=
  if f = 0 ∧ tst v 8 then (.ok, endLock k 3 s)
  else
    match s.lockOf k with
    | none => if tst v 4 then (.ok, grantLock k f s) else if 512 ≤ k ∧ k < 518 then (other, s) else (.ok, s)
    | some l =>
      if l.holder ≠ f then (other, s)
      else if tst v 4 then (.ok, grantLock k f s)
      else (.ok, endLock k 0 s)

/-- LOCK as it reads: HOLDER and HELD. -/
def State.lockReg (s : State) (k : Nat) : W32 :=
  match s.lockOf k with
  | none => 0
  | some l => w32 (l.holder % 16 + 16)

/-- A lease that has run out ends (R440). -/
def expireLock (k : Nat) (s : State) : State :=
  match s.lockOf k with
  | none => s
  | some l => if l.deadline ≤ s.now then endLock k 1 s else s

/-- Starts a command on a port with the outcome to show when it completes; it holds one tag of its facet. -/
def startCmd (p : Nat) (c : PortCmd) (s : State) : State :=
  let c := { c with tag := s.nextTag }
  portStatus p 0 0 true (takeTag c.facet { s with cmds := SMap.put none s.cmds p (some c) })

/-- The command ends at once with a result and without a tag. -/
def endCmdNow (p facet result : Nat) (s : State) : State :=
  let s := portStatus p 0 result false s
  raiseTo (if p < 4 then 120 + p else 249) [facet] s

/-- Shows the outputs of a completed command in the port's registers. -/
def showCmd (p : Nat) (c : PortCmd) (s : State) : State :=
  if p < 4 then
    let s := match c.index with
      | none => s
      | some i => setRegN (A.tblCmdIndex p) i s
    let s := match c.mask with
      | none => s
      | some m => setRegN (A.tblCmdMask p) m s
    let s := match c.res with
      | none => s
      | some r => setRegN (A.tblCmdResHi p) (r.toNat / 2 ^ 32) (setRegN (A.tblCmdResLo p) r.toNat s)
    match c.key with
    | none => s
    | some k => (List.range 10).foldl (fun s i => setReg (A.tblCmdKey p i) (k.getD i 0) s) s
  else
    match c.key with
    | none => s
    | some k => (List.range 8).foldl (fun s i => setReg (A.brgRcmdRec (p - 4) i) (k.getD i 0) s) s

/-- The running command of a port completes: its outputs and status show, its tag returns, its event comes (R216, R328). A flush removes its
entries. -/
def completeCmd (p : Nat) (s : State) : State :=
  match s.cmd p with
  | none => s
  | some c =>
    let s := showCmd p c { s with cmds := SMap.put none s.cmds p none }
    let (n, s) := match c.flush with
      | none => (c.count, s)
      | some v => (s.flushCount v, flushVertex v s)
    let s := portStatus p n c.result false (returnTag c.tag s)
    raiseTo (if p < 4 then 120 + p else 249) [c.facet] s

end Sys2Proof.Machine
end

