-- ==== Sys2Proof/Machine/Tables.lean ====
section
/-! DEFINITION. The forwarding tables (chapter 04): the table commands, learning and ageing, rebuild, the shadow compare and repair. -/

namespace Sys2Proof.Machine

/-- The table page. -/
def tblPage : PageRef := ⟨.tbl, 0⟩

/-! ## Learning (R197–R205) -/

/-- A learn that is skipped is counted and raises event 113. -/
def learnSkipped (s : State) : State := raise 113 (bump A.tblLearnFail s)

/-- A learn of the station of an item (R197–R201). -/
def learn (r : LearnReq) (s : State) : State :=
  let i := r.item
  let k := bridgeKey r.fid (slice i.data 6 6)
  let f := s.bound i.vertex
  let full := decide (s.learnUse f ≥ fld (s.cfg (A.tblLearnCap f)) 0 18)
  match s.live.hashFind k with
  | none =>
    if full then learnSkipped s
    else
      let e : HashEntry := ⟨k, BitVec.ofNat 64 (i.vertex % 128 * 2 ^ 47 + 2 ^ 10), 255⟩
      match s.live.placeDyn e with
      | none => learnSkipped s
      | some live =>
        let staging := if (s.staging.hashFind k).isSome then s.staging else (s.staging.placeDyn e).getD s.staging
        { s with live := live, staging := staging }
  | some (_, e) =>
    if e.dyn then
      if resDest e.res = i.vertex then both (fun b => b.setDyn k (fun x => { x with res := resSet x.res 10 1 1 })) s
      else if full then learnSkipped s
      else
        let move (x : HashEntry) : HashEntry := { x with res := resSet (resSet x.res 47 13 i.vertex) 10 1 1 }
        raise 114 (bump A.tblMoves (both (fun b => b.setDyn k move) s))
    else if resDest e.res = i.vertex then s
    else raise 115 (bump A.tblStaticViol s)

/-- LEARN (R197): the oldest pending learn. -/
def execLearn (s : State) : Host.Outcome State Fault Refusal :=
  ran s (only s.coreOn (fun s =>
    match s.learnQ with
    | [] => s
    | r :: l => learn r { s with learnQ := l }) s)

/-- Marks a lookup hit (R193): HIT of the live entry, and of the staging bank's copy of a dynamic one (R198). -/
def markHit (k : BitVec 320) (s : State) : State :=
  match s.live.hashFind k with
  | none => s
  | some (h, e) =>
    if e.dyn then both (fun b => b.setDyn k (fun x => { x with res := resSet x.res 10 1 1 })) s
    else { s with live := s.live.setHash h (some { e with res := resSet e.res 10 1 1 }) }

/-- Marks a lookup hit of the CAM entry at an index of the live bank (R193). -/
def markCam (i : Nat) (s : State) : State :=
  match s.live.camAt i with
  | none => s
  | some e => { s with live := s.live.setCam i (some { e with res := resSet e.res 10 1 1 }) }

/-- Whether the ageing scan is due: a period of TBL_AGE_PERIOD seconds has run since the last (R203). -/
def State.ageDue (s : State) : Bool :=
  let p := fld (s.reg A.tblAgePeriod) 0 16
  decide (p ≠ 0 ∧ s.ageAt + p * 1000000000 ≤ s.now)

/-- AGEING_SCAN (R203): once in each period every dynamic entry without HIT goes, the others lose HIT. -/
def execAgeingScan (s : State) : Host.Outcome State Fault Refusal :=
  ran s (only (s.coreOn && s.ageDue) (fun s =>
    let s : State := { s with ageAt := s.now }
    let dyns := s.live.hash.filterMap (fun p => match p.2 with
      | some e => if e.dyn then some e else none
      | none => none)
    let s := dyns.foldl (fun s e =>
      if resHit e.res then both (fun b => b.setDyn e.key (fun x => { x with res := resSet x.res 10 1 0 })) s
      else both (fun b => b.dropDyn e.key) s) s
    raise 126 s) s)

/-! ## Rebuild (R179) -/

/-- A write of TBL_HASH_SEED that staging has taken starts a rebuild. -/
def seedWritten (s : State) : State := { s with rebuilding := true }

/-- Rebuilds a bank under its seed: static entries first, then dynamic ones into free ways 2 and 3; with the static entries
left over. -/
def rebuild (b : Bank) (side : List HashEntry) : Bank × List HashEntry :=
  let all := b.hash.filterMap (·.2) ++ side
  let b0 := { b with hash := [] }
  let (b1, rest) := (all.filter (fun e => !e.dyn)).foldl (fun a e =>
    match a.1.placeStatic e with
    | some (_, b') => (b', a.2)
    | none => (a.1, a.2 ++ [e])) (b0, [])
  ((all.filter (·.dyn)).foldl (fun b e => (b.placeDyn e).getD b) b1, rest)

/-- REBUILD_COMPLETE (R179): the rebuild ends; event 125. -/
def execRebuildComplete (s : State) : Host.Outcome State Fault Refusal :=
  ran s (only (s.coreOn && s.rebuilding) (fun s =>
    let (b, rest) := rebuild s.staging s.unplaced
    raise 125 { s with staging := b, unplaced := rest, rebuilding := false }) s)

/-! ## Table commands (R208–R216) -/

/-- The 320-bit key in a port's registers. -/
def State.portKey (s : State) (p : Nat) : Nat :=
  (List.range 10).foldl (fun a i => a + (s.reg (A.tblCmdKey p i)).toNat * 2 ^ (32 * i)) 0

/-- The hash key in a port's registers: KEY0–KEY4, or KEY0–KEY9 for FLOW6. -/
def State.portHash (s : State) (p : Nat) : BitVec 320 :=
  let k := s.portKey p
  BitVec.ofNat 320 (if k % 16 = 3 then k else k % 2 ^ 160)

/-- The CAM key in a port's registers. -/
def State.portCam (s : State) (p : Nat) : BitVec 176 := BitVec.ofNat 176 (s.portKey p)

/-- The result in a port's registers. -/
def State.portRes (s : State) (p : Nat) : BitVec 64 := BitVec.ofNat 64 (pair (s.reg (A.tblCmdResLo p)) (s.reg (A.tblCmdResHi p)))

/-- The words of a key. -/
def keyWords (n : Nat) : List W32 := (List.range 10).map (fun i => w32 (n / 2 ^ (32 * i)))

/-- MASK of a CAM entry. -/
def CamEntry.mask (e : CamEntry) : Nat := e.prefixLen + e.care * 2 ^ 8

/-- Whether a tenant may use a CAM key with its care bits (R212). -/
def State.camMine (s : State) (f : Nat) (k : BitVec 176) (care : Nat) : Bool :=
  decide (f = 0) || (decide (care / 2 % 2 = 1) && decide (s.bound (camFld k 144 7) = f))

/-- Whether a tenant may use a hash key (R212). -/
def State.hashMine (s : State) (f : Nat) (k : BitVec 320) : Bool :=
  decide (f = 0) || (decide (hashKind k ≠ 1) && decide (s.bound (k.toNat / 16 % 128) = f))

/-- Whether a facet sees an entry of an owner (R213). -/
def sees (f owner : Nat) : Bool := decide (f = 0 ∨ owner = f)

/-- A result without outputs. -/
def cmdEnd (f code result : Nat) : PortCmd := ⟨f, 0, code, result, none, none, none, none, 0, none⟩

/-- Whether a commit request keeps the staging copy from changes (R38, R178). -/
def State.armed (s : State) : Bool := decide (s.epoch.st ≠ .idle)

/-- Why a changing command on the staging copy may not run: its bank (R211), a pending commit (R178), a rebuild (R179). -/
def State.changeRefused (s : State) (hash live : Bool) : Option Nat :=
  if live then some 0x0A else if s.armed then some 5 else if hash ∧ s.rebuilding then some 0x0B else none

/-- The bank that a command names. -/
def State.cmdBank (s : State) (live : Bool) : Bank := if live then s.live else s.staging

/-- Sets the staging bank. -/
def setStaging (b : Bank) (s : State) : State := { s with staging := b }

/-- The output of a CAM entry found. -/
def camFound (f code i : Nat) (e : CamEntry) : PortCmd :=
  { cmdEnd f code 0 with index := some i, mask := some e.mask, res := some e.res }

/-- The output of a hash entry found. -/
def hashFound (f code h : Nat) (e : HashEntry) : PortCmd :=
  { cmdEnd f code 0 with index := some h, mask := some 0, res := some e.res }

/-- SEARCH. -/
def tblSearch (f p : Nat) (hash live : Bool) (s : State) : PortCmd :=
  let b := s.cmdBank live
  let m := s.reg (A.tblCmdMask p)
  if hash ∧ !live ∧ s.rebuilding then cmdEnd f 1 0x0B
  else if hash then
    if !hashKeyOk (s.portHash p) then cmdEnd f 1 7
    else match b.hashFind (s.portHash p) with
      | some (h, e) => if sees f (resOwner e.res) then hashFound f 1 h e else cmdEnd f 1 1
      | none => cmdEnd f 1 1
  else if !camKeyOk (s.portCam p) (fld m 0 8) then cmdEnd f 1 7
  else
    match b.cam.findSome? (fun q =>
        match q.2 with
        | some e =>
          if e.key = s.portCam p ∧ e.prefixLen = fld m 0 8 ∧ e.care = fld m 8 5 ∧ sees f (resOwner e.res) then some (q.1, e) else none
        | none => none) with
    | some (i, e) => camFound f 1 i e
    | none => cmdEnd f 1 1

/-- INSERT (R187, R188, R211, R212, R215). -/
def tblInsert (f p : Nat) (hash live : Bool) (s : State) : PortCmd × State :=
  let m := s.reg (A.tblCmdMask p)
  let r := resStored (s.portRes p) f
  match s.changeRefused hash live with
  | some x => (cmdEnd f 2 x, s)
  | none =>
    if resAction (s.portRes p) > 4 then (cmdEnd f 2 7, s)
    else if hash then
      let k := s.portHash p
      if !hashKeyOk k then (cmdEnd f 2 7, s)
      else if !s.hashMine f k then (cmdEnd f 2 4, s)
      else if (s.staging.hashFind k).isSome then (cmdEnd f 2 2, s)
      else
        match s.staging.placeStatic ⟨k, r, p⟩ with
        | some (h, b) => ({ cmdEnd f 2 0 with index := some h }, setStaging b s)
        | none => (cmdEnd f 2 3, raise 112 { s with reqRehash := true })
    else
      let k := s.portCam p
      let i := fld (s.reg (A.tblCmdIndex p)) 0 18
      if 32768 ≤ i ∨ !camKeyOk k (fld m 0 8) then (cmdEnd f 2 7, s)
      else if !s.camMine f k (fld m 8 5) then (cmdEnd f 2 4, s)
      else if (s.staging.camAt i).isSome then (cmdEnd f 2 2, s)
      else (cmdEnd f 2 0, setStaging (s.staging.setCam i (some ⟨k, fld m 0 8, fld m 8 5, r, p⟩)) s)

/-- UPDATE: replaces RES of the entry found by key. -/
def tblUpdate (f p : Nat) (hash live : Bool) (s : State) : PortCmd × State :=
  let m := s.reg (A.tblCmdMask p)
  match s.changeRefused hash live with
  | some x => (cmdEnd f 3 x, s)
  | none =>
    if resAction (s.portRes p) > 4 then (cmdEnd f 3 7, s)
    else if hash then
      let k := s.portHash p
      if !hashKeyOk k then (cmdEnd f 3 7, s)
      else if !s.hashMine f k then (cmdEnd f 3 4, s)
      else match s.staging.hashFind k with
        | none => (cmdEnd f 3 1, s)
        | some (h, e) =>
          if !sees f (resOwner e.res) then (cmdEnd f 3 4, s)
          else (cmdEnd f 3 0, setStaging (s.staging.setHash h (some { e with res := resUpdated (s.portRes p) e.res, port := p })) s)
    else
      let k := s.portCam p
      if !camKeyOk k (fld m 0 8) then (cmdEnd f 3 7, s)
      else if !s.camMine f k (fld m 8 5) then (cmdEnd f 3 4, s)
      else match s.staging.camFind k (fld m 0 8) (fld m 8 5) with
        | none => (cmdEnd f 3 1, s)
        | some (i, e) =>
          if !sees f (resOwner e.res) then (cmdEnd f 3 4, s)
          else (cmdEnd f 3 0, setStaging (s.staging.setCam i (some { e with res := resUpdated (s.portRes p) e.res, port := p })) s)

/-- DELETE: by key in the hash store, at INDEX in the CAM; F0 may delete a dynamic entry of the live bank (R211). -/
def tblDelete (f p : Nat) (hash live : Bool) (s : State) : PortCmd × State :=
  let k := s.portHash p
  let liveDyn : Bool := match s.live.hashFind k with
    | some (_, e) => e.dyn
    | none => false
  if hash ∧ live ∧ f = 0 ∧ hashKeyOk k ∧ (liveDyn ∨ (s.live.hashFind k).isNone) then
    if liveDyn then (cmdEnd f 4 0, both (fun b => b.dropDyn k) s) else (cmdEnd f 4 1, s)
  else
    match s.changeRefused hash live with
    | some x => (cmdEnd f 4 x, s)
    | none =>
      if hash then
        if !hashKeyOk k then (cmdEnd f 4 7, s)
        else if !s.hashMine f k then (cmdEnd f 4 4, s)
        else match s.staging.hashFind k with
          | none => (cmdEnd f 4 1, s)
          | some (h, e) =>
            if !sees f (resOwner e.res) then (cmdEnd f 4 4, s)
            else (cmdEnd f 4 0, setStaging (s.staging.setHash h none) s)
      else
        let i := fld (s.reg (A.tblCmdIndex p)) 0 18
        if 32768 ≤ i then (cmdEnd f 4 7, s)
        else match s.staging.camAt i with
          | none => (cmdEnd f 4 1, s)
          | some e =>
            if !(sees f (resOwner e.res) && s.camMine f e.key e.care) then (cmdEnd f 4 4, s)
            else (cmdEnd f 4 0, setStaging (s.staging.setCam i none) s)

/-- NEXT: the first entry whose handle is at least INDEX. -/
def tblNext (f p : Nat) (hash live : Bool) (s : State) : PortCmd :=
  let b := s.cmdBank live
  let i := fld (s.reg (A.tblCmdIndex p)) 0 18
  let kind := fld (s.reg (A.tblCmdAux p)) 0 4
  if hash ∧ !live ∧ s.rebuilding then cmdEnd f 5 0x0B
  else if hash then
    match b.hash.findSome? (fun q =>
        match q.2 with
        | some e => if i ≤ q.1 ∧ (kind = 0 ∨ hashKind e.key = kind) ∧ sees f (resOwner e.res) then some (q.1, e) else none
        | none => none) with
    | some (h, e) => { hashFound f 5 h e with key := some (keyWords e.key.toNat) }
    | none => cmdEnd f 5 0x0C
  else
    match b.cam.findSome? (fun q =>
        match q.2 with
        | some e => if i ≤ q.1 ∧ sees f (resOwner e.res) then some (q.1, e) else none
        | none => none) with
    | some (j, e) => { camFound f 5 j e with key := some (keyWords e.key.toNat) }
    | none => cmdEnd f 5 0x0C

/-- READ: the entry at INDEX. -/
def tblRead (f p : Nat) (hash live : Bool) (s : State) : PortCmd :=
  let b := s.cmdBank live
  let i := fld (s.reg (A.tblCmdIndex p)) 0 18
  if hash ∧ !live ∧ s.rebuilding then cmdEnd f 6 0x0B
  else if hash then
    match b.hashAt i with
    | some e => if sees f (resOwner e.res) then { hashFound f 6 i e with key := some (keyWords e.key.toNat) } else cmdEnd f 6 1
    | none => cmdEnd f 6 1
  else if 32768 ≤ i then cmdEnd f 6 7
  else
    match b.camAt i with
    | some e => if sees f (resOwner e.res) then { camFound f 6 i e with key := some (keyWords e.key.toNat) } else cmdEnd f 6 1
    | none => cmdEnd f 6 1

/-- FLUSH_VERTEX (R211, R215): the entries go when the command completes. -/
def tblFlush (f p : Nat) (s : State) : PortCmd × State :=
  let v := fld (s.reg (A.tblCmdAux p)) 0 7
  if f ≠ 0 ∧ s.bound v ≠ f then (cmdEnd f 7 4, s)
  else ({ cmdEnd f 7 0 with flush := some v }, s)

/-- CLEAR_REQ: F0 only. -/
def tblClearReq (f : Nat) (s : State) : PortCmd × State :=
  if f ≠ 0 then (cmdEnd f 8 4, s) else (cmdEnd f 8 0, { s with reqRehash := false })

/-- The effect of a table command code with its outcome; other codes end with BAD_KEY. -/
def tblRun (f p code : Nat) (hash live : Bool) (s : State) : PortCmd × State :=
  match code with
  | 1 => (tblSearch f p hash live s, s)
  | 2 => tblInsert f p hash live s
  | 3 => tblUpdate f p hash live s
  | 4 => tblDelete f p hash live s
  | 5 => (tblNext f p hash live s, s)
  | 6 => (tblRead f p hash live s, s)
  | 7 => tblFlush f p s
  | 8 => tblClearReq f s
  | _ => (cmdEnd f code 7, s)

/-- A write of TBL_CMDp_OP by the holder of the port (R208): BUSY while a command runs, QUOTA without a tag, else the command
starts. -/
def tblOpWritten (f p : Nat) (v : W32) (s : State) : Rsp × State :=
  if (s.cmd p).isSome then (.busy, s)
  else if !s.tagOk f then (.ok, endCmdNow p f 8 (tagWait f s))
  else
    let (c, s) := tblRun f p (fld v 0 4) (tst v 5) (tst v 4) s
    (.ok, startCmd p { c with code := fld v 0 6 } s)

/-- TABLE_COMMAND_COMPLETE (R216). -/
def execTableCommandComplete (p : Fin 4) (s : State) : Host.Outcome State Fault Refusal :=
  ran s (only s.coreOn (completeCmd p) s)

/-- CMD_PORT_LEASE_EXPIRY (R206, R209). -/
def execCmdPortLeaseExpiry (p : Fin 4) (s : State) : Host.Outcome State Fault Refusal :=
  ran s (only s.on (expireLock (portLock p)) s)

/-! ## The shadow and repair (R217–R220, R316, R365) -/

/-- The bridge page. -/
def brgPage : PageRef := ⟨.brg, 0⟩

/-- The registers of a VLAN entry (R365). -/
def vlanRegs (vid : Nat) : List Nat :=
  [selKey A.ethVtFlags vid, selKey A.ethVtMemberLo vid, selKey A.ethVtMemberHi vid, selKey A.ethVtUntagLo vid, selKey A.ethVtUntagHi vid]

/-- Whether a bank holds an entry that the shadow keeps: a CAM entry, a static hash entry, a VALID VLAN entry, a rule. -/
def Bank.shadowed (b : Bank) (k : StoreKind) (i : Nat) : Bool :=
  match k with
  | .cam => (b.camAt i).isSome
  | .hash => match b.hashAt i with
    | some e => !e.dyn
    | none => false
  | .vlan => b.vlanValid i
  | .chord => (SMap.get none b.chords i).isSome
  | .tangent => (SMap.get none b.tangents i).isSome

/-- A bank with an entry rewritten from its shadow word (R217). -/
def Bank.restored (b image : Bank) (k : StoreKind) (i : Nat) : Bank :=
  match k with
  | .cam => b.setCam i (image.camAt i)
  | .hash => b.setHash i (image.hashAt i)
  | .vlan => { b with regs := (vlanRegs i).foldl (fun r a => r.write a (image.regs.read a)) b.regs }
  | .chord => { b with chords := SMap.put none b.chords i (SMap.get none image.chords i) }
  | .tangent => { b with tangents := SMap.put none b.tangents i (SMap.get none image.tangents i) }

/-- A bank without an entry (R219). -/
def Bank.cleared (b : Bank) (k : StoreKind) (i : Nat) : Bank :=
  match k with
  | .cam => b.setCam i none
  | .hash => b.setHash i none
  | .vlan =>
    let a := selKey A.ethVtFlags i
    { b with regs := b.regs.write a (setBit (b.regs.read a) 0 false) }
  | .chord => { b with chords := SMap.put none b.chords i none }
  | .tangent => { b with tangents := SMap.put none b.tangents i none }

/-- Whether two banks hold the same entry, but for HIT and the port that wrote it. -/
def Bank.sameEntry (a b : Bank) (k : StoreKind) (i : Nat) : Bool :=
  match k with
  | .cam => match a.camAt i, b.camAt i with
    | some x, some y => decide (x.key = y.key ∧ x.prefixLen = y.prefixLen ∧ x.care = y.care ∧ resSet x.res 10 1 0 = resSet y.res 10 1 0)
    | _, _ => false
  | .hash => match a.hashAt i, b.hashAt i with
    | some x, some y => decide (x.key = y.key ∧ resSet x.res 10 1 0 = resSet y.res 10 1 0)
    | _, _ => false
  | .vlan => (vlanRegs i).all (fun r => a.regs.read r = b.regs.read r)
  | .chord => decide ((SMap.get none a.chords i).map (·.words) = (SMap.get none b.chords i).map (·.words))
  | .tangent => decide ((SMap.get none a.tangents i).map (·.words) = (SMap.get none b.tangents i).map (·.words))

/-- A repair is counted and reported by its store (R217, R316). -/
def tellRepair (k : StoreKind) (i : Nat) (s : State) : State :=
  match k with
  | .chord | .tangent => raise 247 (fault brgPage 0x109 i (bump A.brgRepairs s))
  | _ => raise 116 (fault tblPage 0x109 i (bump A.tblRepairs s))

/-- A lost shadow word is counted and reported by its store (R219, R316). -/
def tellLost (k : StoreKind) (i : Nat) (s : State) : State :=
  match k with
  | .chord | .tangent => raise 248 (fault brgPage 0x10A i (bump A.brgShadowLost s))
  | _ => raise 117 (fault tblPage 0x10A i (bump A.tblShadowLost s))

/-- An entry of the live or of the draining bank is rewritten from its shadow word (R217, R218). -/
def repaired (draining : Bool) (k : StoreKind) (i : Nat) (s : State) : State :=
  tellRepair k i (if draining then { s with drain := s.drain.restored s.drainShadow k i }
    else { s with live := s.live.restored s.shadow k i })

/-- An entry of the live or of the draining bank is invalidated, its shadow word being lost (R219). The staging bank loses the copy that
copy-forward made of a live one: only a staged reinsertion and a commit restore it. -/
def invalidated (draining : Bool) (k : StoreKind) (i : Nat) (s : State) : State :=
  tellLost k i (if draining then { s with drain := s.drain.cleared k i, drainShadow := s.drainShadow.cleared k i }
    else { s with live := s.live.cleared k i, shadow := s.shadow.cleared k i,
                  staging := if s.staging.sameEntry s.live k i then s.staging.cleared k i else s.staging })

/-- A compare pass runs from its first entry to its last: the last handle of the hash store, the last tangent (R217, R316). -/
def comparing (k : StoreKind) (idx : Nat) (s : State) : State :=
  match k with
  | .chord => { s with brgCompare := true }
  | .tangent => { s with brgCompare := idx ≠ 4095 }
  | .hash => if idx = 262143 then bump A.tblComparePasses { s with tblCompare := false } else { s with tblCompare := true }
  | _ => { s with tblCompare := true }

/-- SHADOW_COMPARE (R217, R219, R316): the compare reads an entry of the live bank and its shadow word. -/
def execShadowCompare (k : StoreKind) (idx : Nat) (found : CompareFinding) (s : State) : Host.Outcome State Fault Refusal :=
  ran s (only s.coreOn (fun s =>
    let s := comparing k idx s
    if !s.live.shadowed k idx || !s.shadow.shadowed k idx then s
    else match found with
      | .same => s
      | .differs => repaired false k idx s
      | .shadowLost => invalidated false k idx s) s)

/-- A dynamic entry that cannot be read is removed from the bank that was read (R220); from the live and the staging bank together. -/
def dynLost (draining : Bool) (h : Nat) (k : BitVec 320) (s : State) : State :=
  raise 118 (fault tblPage 0x102 h (bump A.tblDynDrop
    (if draining then { s with drain := s.drain.dropDyn k } else both (fun b => b.dropDyn k) s)))

/-- ENTRY_REPAIR (R218–R220, R316): a lookup of an item of facet `f` read an entry of its epoch's bank with an uncorrectable error. A static
or CAM entry or a rule is repaired while the item waits, or invalidated when its shadow word is lost; a dynamic one is removed. -/
def execEntryRepair (k : StoreKind) (idx : Nat) (f : Facet) (found : EntryFinding) (s : State) :
    Host.Outcome State Fault Refusal :=
  ran s (only (s.coreOn && (!found.draining || s.epoch.draining.isSome)) (fun s =>
    let b := if found.draining then s.drain else s.live
    let image := if found.draining then s.drainShadow else s.shadow
    if b.shadowed k idx && image.shadowed k idx then
      let s := svcDelay f 1 s
      if found.shadowLost then invalidated found.draining k idx s else repaired found.draining k idx s
    else match k, b.hashAt idx with
      | .hash, some e => if e.dyn then dynLost found.draining idx e.key s else s
      | _, _ => s) s)

/-- TBL_STATUS (R221): an ageing scan is one command, so that AGEING never shows. -/
def State.tblStatus (s : State) : W32 := w32 (bit s.epoch.copyTbl + 2 * bit s.rebuilding + 8 * bit s.tblCompare)

/-- SF_UNBLOCK's effect (R196): BLOCKED of the selected stream filter clears. -/
def sfUnblock (v : W32) (s : State) : State :=
  if tst v 0 then { s with blocked := dropFrom s.blocked (fld (s.reg A.tblSfIndex) 0 10) } else s

end Sys2Proof.Machine
end

