-- ==== Sys2Proof/Machine/Ingress.lean ====
section
/-! DEFINITION. Ingress: the arrival of a frame (R358–R371), the control path's claims (R419, R426, R461, R539), the keys of
an item, its classification (R189–R196), replication (R138–R141) and the order lanes (R229). -/

namespace Sys2Proof.Machine

/-! ## Headers and keys -/

/-- The STREAM key of an Ethernet item (R185). -/
def streamKey (i : Item) : BitVec 320 :=
  BitVec.ofNat 320 (4 + i.vertex % 128 * 2 ^ 4 + i.vid % 4096 * 2 ^ 11 + beAt i.data 0 6 * 2 ^ 23)

/-- The CAM key of an item (R181). -/
def camKeyOf (stag : Bool) (i : Item) : BitVec 176 :=
  let d := i.data
  if 48 ≤ i.vertex ∧ i.vertex < 72 then
    let fmt := byteAt d 0 / 64
    let id := beAt d 0 4 % 2 ^ 29
    BitVec.ofNat 176 (i.vertex * 2 ^ 144 + 4 * 2 ^ 128 + fmt * 2 ^ 126 + (if fmt = 1 then id * 2 ^ 97 else id % 2 ^ 11 * 2 ^ 115))
  else if 72 ≤ i.vertex ∧ i.vertex < 84 then
    BitVec.ofNat 176 (i.vertex * 2 ^ 144 + 5 * 2 ^ 128 + beAt d 0 4 % 64 * 2 ^ 122)
  else
    let et := etherType stag d
    let o := typeOff stag d + 2
    let outer := if typeOff stag d = 12 then 0 else beAt d 14 2
    let ctx := et * 2 ^ 160 + outer / 2 ^ 13 * 2 ^ 151 + i.vertex % 128 * 2 ^ 144 + outer % 4096 * 2 ^ 132
    if et = 0x0800 ∧ byteAt d o / 16 = 4 then
      BitVec.ofNat 176 (ctx + byteAt d (o + 1) / 4 * 2 ^ 154 + 1 * 2 ^ 128 + beAt d (o + 16) 4 * 2 ^ 96)
    else if et = 0x86DD ∧ byteAt d o / 16 = 6 then
      BitVec.ofNat 176 (ctx + beAt d o 2 / 64 % 64 * 2 ^ 154 + 2 * 2 ^ 128 + beAt d (o + 24) 16)
    else BitVec.ofNat 176 (ctx + 3 * 2 ^ 128 + beAt d 0 6 * 2 ^ 80)

/-! ## Classification (R190–R194) -/

/-- What a classification finds: the result, the hash key that hit, the CAM index that hit, whether the BRIDGE lookup hit a dynamic entry. -/
structure Found where
  res : BitVec 64
  hit : Option (BitVec 320)
  cam : Option Nat
  dyn : Bool
  deriving DecidableEq, Repr

/-- Classification of an item in a bank (R190): the first lookup that hits. -/
def Bank.classify (b : Bank) (i : Item) : Found :=
  let eth := decide (i.vertex < 48)
  let stag := tst (b.regs.read (A.ethPortVlan i.vertex)) 20
  let ip := if eth then flowIp i.vertex (etherType stag i.data) (typeOff stag i.data + 2) i.data else none
  let flow : Option (BitVec 320 × HashEntry) := match ip with
    | none => none
    | some k => (b.hashFind k).map (fun e => (k, e.2))
  match flow with
  | some (k, e) => ⟨e.res, some k, none, e.dyn⟩
  | none =>
    match b.camLookup (camKeyOf stag i) with
    | some (n, e) => ⟨e.res, none, some n, false⟩
    | none =>
      let k := bridgeKey (b.fid i.vid) (slice i.data 0 6)
      match if eth then b.hashFind k else none with
      | some (_, e) => ⟨e.res, some k, none, e.dyn⟩
      | none => ⟨b.defResult i.vertex, none, none, false⟩

/-- The class of an item (R193, R368). -/
def Bank.classOf (b : Bank) (i : Item) (r : BitVec 64) : Nat :=
  if r.getLsbD 46 then resFld r 43 3
  else if i.vertex < 48 then fld (b.regs.read (A.ethPrioMap i.vertex)) (3 * (i.pcp % 8)) 3
  else 0

/-! ## Stream filters (R191, R195, R196) -/

/-- The flow meter of a filter on an item of a length (IEEE 802.1Q, MEF bandwidth profile): the tokens that stay, and whether the
item passes. Tokens are counted in 10^-6 bit; `yellow` is the colour the item brings. -/
def meter (b : Bank) (f : Nat) (m : List Nat) (stamp len : Nat) (yellow : Bool) : List Nat × Bool :=
  let r (a : Nat) : Nat := (b.regs.read (selKey a f)).toNat
  let cb := r A.tblSfCbs * 8000000
  let eb := r A.tblSfEbs * 8000000
  let dt := stamp - m.getD 2 stamp
  let tc := min cb (m.getD 0 cb + r A.tblSfCir * dt)
  let te := min eb (m.getD 1 eb + r A.tblSfEir * dt)
  let n := len * 8000000
  let ctrl := b.regs.read (selKey A.tblSfCtrl f)
  if !(tst ctrl 1 && yellow) ∧ n ≤ tc then ([tc - n, te, stamp], true)
  else if n ≤ te then ([tc, te - n, stamp], !tst ctrl 2)
  else ([tc, te, stamp], false)

/-- The stream filter of an item: why it drops the item, or none (R195, R196). -/
def streamFilter (i : Item) (s : State) : Option Nat × State :=
  let b := s.bankOf i.epoch
  if 48 ≤ i.vertex then (none, s)
  else
    match b.hashFind (streamKey i) with
    | none => (none, s)
    | some (_, e) =>
      let s := if i.epoch = s.epoch.live then markHit (streamKey i) s else s
      let f := resFilter e.res
      let ctrl := b.regs.read (selKey A.tblSfCtrl f)
      if !tst ctrl 0 then (none, s)
      else if tst ctrl 3 ∧ s.blocked.contains f then (some 0x22, bump (selKey A.tblSfSduDrop f) s)
      else if i.len > fld ctrl 16 16 then
        let s := if tst ctrl 3 then { s with blocked := addTo s.blocked f } else s
        (some 0x20, bump (selKey A.tblSfSduDrop f) s)
      else
        let yellow := i.tagged && decide (beAt i.data 14 2 / 4096 % 2 = 1)
        let (m, ok) := meter b f (SMap.get [] s.meters f) i.stamp i.len yellow
        let s := { s with meters := SMap.put [] s.meters f m }
        if ok then (none, s) else (some 0x21, bump (selKey A.tblSfRedDrop f) s)

/-! ## Order lanes and replication (R138–R141, R229) -/

/-- Key of the order lane of an item (R229). -/
def laneKey (i : Item) : Nat := i.vertex * 64 + crc16 i.flow % 64

/-- Places an entry in its lane by sequence number, then by index. -/
def enterLane (e : LaneEntry) (s : State) : State :=
  let before (a b : LaneEntry) : Bool :=
    serialBefore a.item.seq b.item.seq || (decide (a.item.seq = b.item.seq) && decide (a.idx < b.idx))
  { s with lanes := SMap.upd [] s.lanes (laneKey e.item) (insertBy before e) }

/-- The destination vertices of a result or output (R138, R139); none for a group that is not VALID. -/
def Bank.dests (b : Bank) (group : Bool) (dest ingress : Nat) : Option (List Nat) :=
  if !group then some [dest]
  else
    let fl := b.regs.read (selKey A.bufMcFlags dest)
    if !tst fl 0 then none
    else
      let m := (List.range 4).foldl (fun a k => a + (b.regs.read (selKey (A.bufMcMask k) dest)).toNat * 2 ^ (32 * k)) 0
      some ((bitsOf 128 m).filter (fun v => tst fl 1 || decide (v ≠ ingress)))

/-- Whether a copy may go cut-through as far as its vertices tell (R157); its queue is asked when it reaches the output side. -/
def State.mayCut (s : State) (i : Item) (egress : Nat) : Bool :=
  let m := s.at_ i.epoch (selKey A.qMode egress)
  decide (egress < 48) && tst m 0 && !tst m 1 && decide (i.vertex < 48)
    && decide (s.macRate egress ≤ s.macRate i.vertex) && decide (0 < s.macRate egress)

/-- The copies of an item for its destinations; `stomp` says how its frame ended (R158). -/
def State.copies (s : State) (i : Item) (src : Nat) (vs : List Nat) (stomp : Stomp) : List Copy :=
  vs.map (fun v => { copyOf i src v i.tc 0 with cut := s.mayCut i v, stomp := stomp })

/-- Charges the cells of an item for a number of holders; none are charged when nobody holds them. -/
def hold (i : Item) (n : Nat) (s : State) : State :=
  if n = 0 then s else openInput i.uid i.vertex i.facet (cellsOf i.len) n s

/-- Sends an item to its destinations through its order lane; of a frame that is dropped at its end, only what may be on its way already. -/
def forward (i : Item) (vs : List Nat) (stomp : Stomp) (s : State) : State :=
  let src := s.nextId
  let cs := (s.copies i src vs stomp).filter (fun c => c.cut || decide (stomp ≠ .orDrop))
  if cs = [] then s else enterLane ⟨i, 0, 0, cs⟩ (hold i cs.length s)

/-- Gives an item to the lattice: it waits in the admission queue of its facet (R226). -/
def submit (i : Item) (s : State) : State :=
  let src := s.nextId
  let j : JobReq := ⟨i, src, resJob i.res, none, none, 0, s.now, laneKey i, 0⟩
  let s := enterLane ⟨i, 0, 1, []⟩ (hold i 1 s)
  { s with admission := SMap.upd [] s.admission i.facet (fun l => l ++ [j]) }

/-- Pending learns of an item (R197, R200). -/
def offerLearn (i : Item) (s : State) : State :=
  let b := s.bankOf i.epoch
  let en := pair (b.regs.read A.tblLearnEnLo) (b.regs.read A.tblLearnEnHi) / 2 ^ i.vertex % 2 = 1
  if i.vertex < 48 ∧ en ∧ byteAt i.data 6 % 2 = 0 then
    if s.learnQ.length < 256 then { s with learnQ := s.learnQ ++ [⟨i, b.fid i.vid⟩] } else learnSkipped s
  else s

/-- Classifies an item that has been admitted, writes its ITEM record and sends it on (R190, R393, R394). `ext` is its EXT
record, `badDynamic` that the BRIDGE lookup met a damaged dynamic entry (R220), `stomp` how its frame ended (R158). -/
def classifyItem (i : Item) (badDynamic : Bool) (stomp : Stomp) (s : State) : State :=
  let b := s.bankOf i.epoch
  let s := offerLearn i s
  let f := b.classify i
  let lost := badDynamic && f.dyn
  let live := decide (i.epoch = s.epoch.live)
  let s := match f.hit, f.cam with
    | some k, _ => if lost then dynLost (!live) ((b.hashFind k).map (·.1) |>.getD 0) k s else if live then markHit k s else s
    | none, some n => if live then markCam n s else s
    | none, none => s
  let r := if lost then b.defResult i.vertex else f.res
  let i := { i with res := r, tc := b.classOf i r }
  let ext (rec_ : JRec) : Option JRec :=
    if 48 ≤ i.vertex ∧ i.vertex < 84 ∧ byteAt i.data 12 / 128 = 1 then some (extOf rec_ (w32 (beAt i.data 20 4)) (w32 (beAt i.data 16 4)) 0)
    else none
  let remote := decide (48 ≤ i.vertex ∧ i.vertex < 84 ∧ byteAt i.data 12 / 128 = 1)
  let journal (reason : Nat) (s : State) : State :=
    let rec_ := itemRec i reason (itemW6 i)
    let rec_ := { rec_ with w4 := setBit rec_.w4 28 remote }
    stage ⟨rec_, ext rec_⟩ s
  let (drop, s) := streamFilter i s
  match drop with
  | some reason => journal reason s
  | none =>
    match resAction r with
    | 0 =>
      match b.dests (resGroup r) (resDest r) i.vertex with
      | none => countDrop 0xE i.facet i.vertex i.tc i.vertex (journal 0xE s)
      | some vs => forward i vs stomp (journal 0 s)
    | 2 => submit i (journal 0 s)
    | 3 => forward i [100] .no (journal 0 s)
    | 4 => forward i [96] .no (journal 0 s)
    | _ => journal 0 s

/-- Whether the core or the ingress takes an arriving item; if not, where the loss is counted (R533, R558). -/
def State.arrivalLost (s : State) (fifoRoom : Bool) : Option Nat :=
  if s.wake.closed then some A.wakEntryDrops
  else if s.power.shed && !fifoRoom then some A.pwrFreezeDrops
  else none

/-! ## Flow control (R370, R372) -/

/-- A pause or PFC frame that RX_MODE accepts (R370): quanta of 512 bit times; a class without quanta keeps its state. -/
def pauseReceived (v : Nat) (pfc : Bool) (quanta : List (Option Nat)) (s : State) : State :=
  let mode := fld (s.cfg (A.ethFcCtrl v)) 0 2
  let of_ (c : Nat) : Option Nat := if pfc then quanta.getD c none else quanta.getD 0 none
  if (mode = 1 ∧ !pfc) ∨ (mode = 2 ∧ pfc) then
    (List.range 8).foldl (fun s c =>
      match of_ c with
      | none => s
      | some q =>
        let e := s.ethSt v
        let until_ := if q = 0 then 0 else s.now + ceilDiv (q * 512000) (max 1 (s.macRate v))
        let since := if q = 0 then 0
          else if SMap.get 0 e.pauseUntil c ≥ s.now ∧ SMap.get 0 e.pauseUntil c ≠ 0 then SMap.get 0 e.pausedSince c
          else s.now
        setEth v { e with pauseUntil := SMap.put 0 e.pauseUntil c until_, pausedSince := SMap.put 0 e.pausedSince c since } s) s
  else s

/-- Q_IN_USE reaching XOFF asks for a pause frame (R372). -/
def xoffReached (v : Nat) (s : State) : State :=
  let e := s.ethSt v
  if v < 40 ∧ fld (s.cfg (A.ethFcCtrl v)) 2 2 ≠ 0 ∧ !e.xoff ∧ e.pausePend.isNone
      ∧ (s.reg (inUseKey v)).toNat ≥ fld (s.cfg (A.ethFcXoff v)) 0 18 then
    setEth v { e with pausePend := some true } s
  else s

/-! ## The claims of the control path -/

/-- What the control path takes of the frames of a vertex. -/
inductive Claim where
  | none | oct | octUdp | accord | perimeter | ptp | arp
  deriving DecidableEq, Repr

/-- Offset of the EtherType of a frame that carries at most one VLAN tag (R426). -/
def ctlOff (d : List Byte) : Nat := if beAt d 12 2 = 0x8100 then 16 else 12

/-- Whether a UDP checksum is zero or right (R426). `o` is the offset of the IP header. -/
def udpOk (o : Nat) (d : List Byte) : Bool :=
  let p := o + byteAt d o % 16 * 4
  let n := beAt d (p + 4) 2
  decide (beAt d (p + 6) 2 = 0)
    || decide (ipSum (slice d (o + 12) 8 ++ beBytes 2 17 ++ beBytes 2 n ++ slice d p n) = 0xFFFF)

/-- Whether a time-domain instance of an epoch with a profile and transport listens on a vertex (R82, R83, R107): IEEE 802.1AS on Layer 2
only; IEEE 1588 on vertices 0–7, over UDP when its UDP bit is 1. -/
def Bank.ptpPort (b : Bank) (v : Nat) (p1588 udp : Bool) : Bool :=
  (List.range 4).any (fun d =>
    let c := b.regs.read (A.locDomCtrl d)
    tst c 0 && (tst c 1 == p1588) && (!p1588 || (decide (v < 8) && (tst c 3 == udp)))
      && decide (pair (b.regs.read (A.locDomPortsLo d)) (b.regs.read (A.locDomPortsHi d)) / 2 ^ v % 2 = 1))

/-- The claim of the control path on a frame (R190, R361, R419, R426, R461, R539). -/
def State.claim (s : State) (v : Nat) (e : W32) (d : List Byte) : Claim :=
  let b := s.bankOf e
  let o := ctlOff d
  let et := beAt d o 2
  let st := macOf (b.regs.read (A.ethStationLo v)) (b.regs.read (A.ethStationHi v))
  let own := decide (d.take 6 = st)
  let bcast := decide (d.take 6 = List.replicate 6 0xFF)
  let oct := tst (b.regs.read (A.sysBind v)) 4
  let udp := b.regs.read A.sysOctUdp
  let ip := o + 2
  let isUdp := decide (et = 0x0800 ∧ byteAt d ip / 16 = 4 ∧ byteAt d (ip + 9) = 17 ∧ beAt d (ip + 6) 2 % 16384 = 0)
  let port := beAt d (ip + byteAt d ip % 16 * 4 + 2) 2
  let acc := b.regs.read A.brgAccCtrl
  if et = 0x88B5 then
    let kind := byteAt d (o + 2)
    if kind = 0x50 ∧ own then .perimeter
    else if kind = 0x41 then
      if (own || bcast) && decide (v < 8) && tst acc 0 && tst (b.regs.read A.brgAccVertices) v then .accord else .none
    else if own && oct then .oct else .none
  else if et = 0x88F7 ∧ b.ptpPort v false false ∧ d.take 6 = [0x01, 0x80, 0xC2, 0, 0, 0x0E] then .ptp
  else if et = 0x88F7 ∧ b.ptpPort v true false ∧ (d.take 6 = [0x01, 0x80, 0xC2, 0, 0, 0x0E] ∨ d.take 6 = [0x01, 0x1B, 0x19, 0, 0, 0]) then .ptp
  else if isUdp ∧ b.ptpPort v true true ∧ (port = 319 ∨ port = 320) then .ptp
  else if isUdp ∧ oct ∧ tst udp 16 ∧ beAt d (ip + 16) 4 = (b.regs.read A.sysOctIpv4).toNat ∧ port = fld udp 0 16 ∧ udpOk ip d then
    .octUdp
  else if et = 0x0806 ∧ oct ∧ tst udp 16 ∧ beAt d (o + 8) 2 = 1 ∧ beAt d (o + 26) 4 = (b.regs.read A.sysOctIpv4).toNat then .arp
  else .none

/-- Takes a claimed frame from the path: OCT frames to the control fabric, the others to the management processor with an ITEM
record of ACTION TO_MP (R461), in its input cells until it has taken effect (R115). A time-domain message is consumed there; its effect is
a command of its own. -/
def takeClaim (k : Claim) (i : Item) (s : State) : State :=
  let d := i.data
  let o := ctlOff d
  let tci : Option W16 := if o = 16 then some (BitVec.ofNat 16 (beAt d 14 2)) else none
  let ip := o + 2
  let p := ip + byteAt d ip % 16 * 4
  let i' := { i with res := BitVec.ofNat 64 (4 * 2 ^ 61 + 96 * 2 ^ 47) }
  let rec_ := stage ⟨itemRec i' 0 (itemW6 i'), none⟩
  let s := if k = .ptp then s else openInput i.uid i.vertex i.facet (cellsOf i.len) 1 s
  match k with
  | .oct => { s with octIn := s.octIn ++ [({ i with data := d.drop (o + 2) }, ⟨i.vertex, slice d 6 6, tci, none⟩)] }
  | .octUdp =>
    { s with octIn := s.octIn ++ [({ i with data := slice d (p + 8) (beAt d (p + 4) 2 - 8) },
        ⟨i.vertex, slice d 6 6, tci, some (w32 (beAt d (ip + 12) 4), BitVec.ofNat 16 (beAt d p 2))⟩)] }
  | .ptp => rec_ s
  | _ => { rec_ s with ctlIn := s.ctlIn ++ [i] }

/-! ## The receive path of a MAC (R358) -/

/-- Whether a frame passes the address filter of an epoch (R361, R362). -/
def Bank.addrOk (b : Bank) (v : Nat) (d : List Byte) : Bool :=
  let dst := d.take 6
  let f := b.regs.read (A.ethRxFilter v)
  let st := macOf (b.regs.read (A.ethStationLo v)) (b.regs.read (A.ethStationHi v))
  if dst = st then true
  else if dst = List.replicate 6 0xFF then tst f 3
  else if byteAt d 0 % 2 = 0 then
    !tst f 0 || (List.range 4).any (fun k => tst (b.regs.read (A.ethUcHi v k)) 31
      && decide (dst = macOf (b.regs.read (A.ethUcLo v k)) (b.regs.read (A.ethUcHi v k))))
  else
    let i := crcFinal 32 false 0xFFFFFFFF (crcRun 32 0x04C11DB7 true 0xFFFFFFFF dst) / 2 ^ 23
    fld f 1 2 = 0 || (fld f 1 2 = 1 && tst (b.regs.read (A.ethGhash v (i / 32))) (i % 32))

/-- VID, PCP and whether a frame is tagged (R363). -/
def Bank.tagOf (b : Bank) (v : Nat) (d : List Byte) : Nat × Nat × Bool :=
  let pv := b.regs.read (A.ethPortVlan v)
  let t := beAt d 12 2
  if t = 0x8100 ∨ (tst pv 20 ∧ t = 0x88A8) then
    let tci := beAt d 14 2
    (if tci % 4096 = 0 then fld pv 0 12 else tci % 4096, tci / 2 ^ 13, true)
  else (fld pv 0 12, fld pv 12 3, false)

/-- Whether VLAN acceptance and the ingress filter pass a frame (R364). -/
def Bank.vlanOk (b : Bank) (v : Nat) (d : List Byte) : Bool :=
  let pv := b.regs.read (A.ethPortVlan v)
  let (vid, _, tagged) := b.tagOf v d
  let real := tagged && decide (beAt d 14 2 % 4096 ≠ 0)
  !(fld pv 16 2 = 1 && !real) && !(fld pv 16 2 = 2 && real) && (!tst pv 18 || b.vlanMember vid v)

/-- Counts a frame that step 1 passes (R384). -/
def countRx (v : Nat) (d : List Byte) (s : State) : State :=
  let s := ethCount v 1 1 (ethCount v 0 (d.length + 4) s)
  if d.take 6 = List.replicate 6 0xFF then ethCount v 3 1 s
  else if byteAt d 0 % 2 = 1 then ethCount v 2 1 s
  else s

/-- An item with its bytes, length and tags as the MAC passes them on. -/
def dressed (b : Bank) (i : Item) (d : List Byte) (verified : Bool) : Item :=
  let (vid, pcp, tagged) := b.tagOf i.vertex d
  { i with data := d, len := d.length + 4, vid := vid, pcp := pcp, tagged := tagged, verified := verified,
           flow := flowEth i.vertex vid (tst (b.regs.read (A.ethPortVlan i.vertex)) 20) d }

/-- A frame whose end is bad, and which every step that looks at its beginning passes, may have copies in cut-through transmission already
(R158): each leaves with a corrupted FCS. -/
def stompCopies (i : Item) (s : State) : State :=
  let b := s.bankOf i.epoch
  let v := i.vertex
  let r := (b.classify i).res
  let i := { i with res := r, tc := b.classOf i r }
  if s.claim v i.epoch i.data ≠ .none ∨ !b.addrOk v i.data ∨ !b.vlanOk v i.data ∨ resAction r ≠ 0 ∨ (streamFilter i s).1.isSome then s
  else
    match b.dests (resGroup r) (resDest r) v with
    | none => s
    | some vs => forward i vs .orDrop s

/-- The MAC's steps on a stamped frame that the input side admits. -/
def receiveSteps (i : Item) (ph : PhyFinding) (s : State) : State :=
  let v := i.vertex
  let e := i.epoch
  let b := s.bankOf e
  let d := i.data
  let n := d.length + 4
  let dropAs (reason k : Nat) (s : State) : State := dropItem reason i (ethCount v k 1 s)
  if n < 64 then dropAs 0x19 5 s
  else if n > b.maxFrame v then dropAs 0x1A 6 s
  else if ph.badFcs then stompCopies (dressed b i (s.secClear b v d) false) (dropAs 0x18 4 s)
  else
    let s := countRx v d s
    if s.claim v e d = .none ∧ !b.addrOk v d then dropAs 0x1B 7 s
    else
      let clear := dressed b i (s.secClear b v d) false
      match secReceive v e d s with
      | (.drop reason atEnd, s) =>
        let s := dropItem reason i s
        if atEnd then stompCopies clear s else s
      | (.pass d' verified failed, s) =>
        let i := dressed b i d' verified
        if !b.vlanOk v d' then dropItem 0x1C i (ethCount v 8 1 s)
        else
          let k := s.claim v e d'
          xoffReached v (if k ≠ .none then takeClaim k i s else classifyItem i ph.badDynamic (if failed then .ifCut else .no) s)

/-- A frame arrives whole at an Ethernet vertex. -/
def ethReceive (v : Nat) (d : List Byte) (sof : Nat) (ph : PhyFinding) (s : State) : State :=
  let ok := decide (64 ≤ d.length + 4) && decide (d.length + 4 ≤ s.live.maxFrame v) && !ph.badFcs
  if ph.collided ∧ d.length + 4 < 64 ∧ 40 ≤ v then ethCount v 21 1 s
  else if ok ∧ beAt d 12 2 = 0x8808 then
    let op := beAt d 14 2
    let vec := beAt d 16 2
    let quanta : List (Option Nat) :=
      if op = 0x0101 then (List.range 8).map (fun c => if vec / 2 ^ c % 2 = 1 then some (beAt d (18 + 2 * c) 2) else none)
      else [some (beAt d 16 2)]
    let s := ethCount v 9 1 (countRx v d s)
    if op = 1 ∨ op = 0x0101 then pauseReceived v (op = 0x0101) quanta s else s
  else
    let (i, s) := stampItem v sof d (d.length + 4) s
    match s.arrivalLost ph.fifoRoom with
    | some a => bump a s
    | none =>
      match s.inputRefused i with
      | some reason => dropItem reason i s
      | none => receiveSteps i ph s

/-- A message in its stored form arrives at a CAN or LIN vertex (R268, R269): stamped, given its ORIGIN, admitted, classified. -/
def busReceive (v sof : Nat) (d : List Byte) (fifoRoom badDynamic : Bool) (s : State) : State :=
  let (i, s) := stampItem v sof d d.length s
  match s.arrivalLost fifoRoom with
  | some a => bump a s
  | none =>
    let dev := pair (s.reg A.locDevEpochLo) (s.reg A.locDevEpochHi)
    let origin := ((secOf i.stamp + dev) * 1000000000 + nsOf i.stamp) % 2 ^ 64
    let d := d.take 12 ++ beBytes 4 (beAt d 12 4 % 2 ^ 31) ++ beBytes 8 origin ++ d.drop 24
    let i := { i with data := d, flow := flowBus v d }
    match s.inputRefused i with
    | some reason => dropItem reason i s
    | none => classifyItem i badDynamic .no s

/-- FRAME_RECEIVE (R358): a frame, message or line arrives whole at an external vertex. `bytes` are those from the destination
address to the one before the FCS, or the stored form of a CAN or LIN message, or the text of a line. -/
def execFrameReceive (v : ExtV) (bytes : List Byte) (sof : Nat) (ph : PhyFinding) (s : State) :
    Host.Outcome State Fault Refusal :=
  ran s (only s.on (fun s =>
    if v.val < 48 then only (s.macOn v && (s.ethSt v).linkUp) (ethReceive v bytes sof ph) s
    else if v.val < 84 then only (s.vertexOn v) (busReceive v sof bytes ph.fifoRoom ph.badDynamic) s
    else serviceLine bytes ph.badFcs sof s) s)

/-- ORDER_LANE_RELEASE (R229): the entries at the head of a lane whose jobs have ended are placed on the planes. -/
def execOrderLaneRelease (v : Vertex) (lane : Fin 64) (s : State) : Host.Outcome State Fault Refusal :=
  ran s (only s.coreOn (fun s =>
    let k := v.val * 64 + lane.val
    let l := SMap.get [] s.lanes k
    let go := l.takeWhile (fun e => e.pend = 0)
    let s : State := { s with lanes := SMap.put [] s.lanes k (l.drop go.length) }
    (go.map (·.ready)).flatten.foldl (fun s c => admitCopy c s) s) s)

end Sys2Proof.Machine
end

