-- ==== Sys2Proof/Machine/Lattice.lean ====
section
/-! DEFINITION. The engine lattice but its code (R223–R232, R240–R260): dispatch entries, admission, what ends a job, cells and
their checks, replay, the program store. -/

namespace Sys2Proof.Machine

/-- The dispatcher page. -/
def latPage : PageRef := ⟨.latDisp, 0⟩
/-- The program page. -/
def progPage : PageRef := ⟨.latProg, 0⟩
/-- The page of a cell. -/
def cellPage (c : Nat) : PageRef := ⟨.latCell, c / 2⟩

/-! ## Dispatch entries (R262, R263) -/

/-- A dispatch entry. -/
structure DispEntry where
  valid : Bool
  outMax : Nat
  allow : Nat
  start : Nat
  len : Nat
  const : Nat
  constLen : Nat
  budget : Nat
  outBytes : Nat
  deriving DecidableEq, Repr

/-- A dispatch entry of a bank. -/
def Bank.de (b : Bank) (n : Nat) : DispEntry :=
  let r (a : Nat) : W32 := b.regs.read (selKey a n)
  ⟨tst (r A.latDeCtrl) 0, fld (r A.latDeCtrl) 1 4, fld (r A.latDeCtrl) 16 16, fld (r A.latDeStart) 0 19, fld (r A.latDeLen) 0 20,
    fld (r A.latDeConst) 0 19, fld (r A.latDeConstLen) 0 17, fld (r A.latDeBudget) 0 16, fld (r A.latDeOutbytes) 0 14⟩

/-- The dispatch entry of a job, in its item's epoch (R231). -/
def State.deOf (s : State) (j : JobReq) : DispEntry := (s.bankOf j.item.epoch).de j.de

/-- Key of a register of a dispatch entry. -/
def deKey (a n : Nat) : Nat := selKey a n

/-- Cells reserved for the outputs of an entry (R226). -/
def DispEntry.reserve (e : DispEntry) : Nat := e.outMax * ceilDiv e.outBytes 256

/-! ## Segments (R257, R264) -/

/-- A program segment. -/
def State.seg (s : State) (i : Nat) : Segment := SMap.get Segment.reset s.segs i

/-- Sets a program segment. -/
def setSeg (i : Nat) (g : Segment) (s : State) : State := { s with segs := SMap.put Segment.reset s.segs i g }

/-- The segment, not FREE, that holds a word of the store. -/
def State.segAt (s : State) (w : Nat) : Option Nat :=
  (List.range 64).find? (fun i => let g := s.seg i; decide (g.st ≠ 0 ∧ g.start ≤ w ∧ w < g.start + g.len))

/-- Whether a word of the store lies in a SEALED segment. -/
def State.sealed (s : State) (w : Nat) : Bool :=
  match s.segAt w with
  | none => false
  | some i => decide ((s.seg i).st = 2)

/-- Whether the program and the constants of an entry lie in SEALED segments: until they do, its jobs wait (R260; the text before R257). -/
def State.loaded (s : State) (e : DispEntry) : Bool := s.sealed e.start && (e.constLen = 0 || s.sealed e.const)

/-- Whether an entry's program or constants lie in a segment. -/
def State.needsSeg (s : State) (e : DispEntry) (i : Nat) : Bool :=
  decide (s.segAt e.start = some i) || (e.constLen ≠ 0 && decide (s.segAt e.const = some i))

/-- Whether a bank's VALID dispatch entry names a segment: its program or its constants meet the segment's range (R257). -/
def Bank.namesSeg (b : Bank) (g : Segment) : Bool :=
  (List.range 4096).any (fun n =>
    let e := b.de n
    let meets (a l : Nat) : Bool := decide (0 < l ∧ a < g.start + g.len ∧ g.start < a + l)
    e.valid && (meets e.start e.len || meets e.const (ceilDiv e.constLen 4)))

/-- REFERENCED (R264): a staged, live or draining dispatch entry names the segment. -/
def State.segNamed (s : State) (g : Segment) : Bool :=
  s.staging.namesSeg g || s.live.namesSeg g || (s.epoch.draining.isSome && s.drain.namesSeg g)

/-- Writes the result of the last command on a segment. -/
def segResult (i r : Nat) (s : State) : State := setSeg i { s.seg i with result := r } s

/-- OPEN, SEAL and FREE (R257): codes 1, 2 and 3 of LAT_SEG_CTRL on the segment that LAT_SEG_INDEX names. -/
def segCtrlWritten (v : W32) (s : State) : State :=
  let i := fld (s.reg A.latSegIndex) 0 6
  let g := s.seg i
  let code := fld v 0 3
  let start := fld (s.reg (selKey A.latSegStart i)) 0 19
  let len := fld (s.reg (selKey A.latSegLen i)) 0 20
  let meets (x : Segment) : Bool := decide (x.st ≠ 0 ∧ x.start < start + len ∧ start < x.start + x.len)
  if g.busy then segResult i 4 s
  else if code = 1 then
    if g.st ≠ 0 then segResult i 4 s
    else if len = 0 ∨ start + len > 524288 then segResult i 6 s
    else if (List.range 64).any (fun k => meets (s.seg k)) then segResult i 1 s
    else setSeg i { g with st := 1, start := start, len := len, result := 0 } s
  else if code = 2 then if g.st ≠ 1 then segResult i 4 s else setSeg i { g with busy := true } s
  else if code = 3 then
    if g.st = 0 then segResult i 4 s
    else if i = 63 ∨ s.segNamed g then segResult i 2 s
    else setSeg i { g with st := 0, result := 0 } s
  else s

/-- The check of a segment's words (R258). -/
def State.segCheck (s : State) (g : Segment) : Nat :=
  crc32c (((List.range g.len).map (fun k => beBytes 4 (SMap.get 0 s.ps (g.start + k)).toNat)).flatten)

/-- SEAL_COMPLETE (R257, R258). -/
def execSealComplete (i : Fin 64) (s : State) : Host.Outcome State Fault Refusal :=
  let g := s.seg i
  ran s (only (s.coreOn && g.busy) (fun s =>
    if s.segCheck g = (s.reg (selKey A.latSegCrc i)).toNat then raise 141 (setSeg i { g with st := 2, busy := false, result := 0 } s)
    else raise 142 (setSeg i { g with busy := false, result := 3 } s)) s)

/-- No code cache keeps the line of a word that is written (DEDUCED: log entry 67). -/
def dropLine (w : Nat) (s : State) : State :=
  { s with codeLines := s.codeLines.map (fun p => (p.1, p.2.filter (fun l => l ≠ w / 16))) }

/-- A write of LAT_PS_DATA (R257, R264). -/
def psDataWritten (v : W32) (s : State) : Rsp × State :=
  let a := fld (s.reg A.latPsAddr) 0 19
  match s.segAt a with
  | none => (.range, s)
  | some i =>
    if (s.seg i).st ≠ 1 then (.range, s)
    else (.ok, setRegN A.latPsAddr ((a + 1) % 524288) (dropLine a { s with ps := SMap.put 0 s.ps a v, psBad := dropFrom s.psBad a }))

/-- LAT_SEG_STATUS of a segment. -/
def State.segStatus (s : State) (i : Nat) : W32 :=
  let g := s.seg i
  w32 (g.st + g.result * 2 ^ 8 + bit g.busy * 2 ^ 16 + bit (g.st ≠ 0 && s.segNamed g) * 2 ^ 17)

/-- LAT_PS_FREE. -/
def State.psFree (s : State) : Nat := 524288 - ((List.range 64).map (fun i => if (s.seg i).st = 0 then 0 else (s.seg i).len)).sum

/-! ## Contexts and jobs -/

/-- Key of a context of a cell. -/
def ctxKey (c x : Nat) : Nat := c * 16 + x

/-- The job in a context. -/
def State.jobAt (s : State) (c x : Nat) : Option Job := SMap.get none s.ctxs (ctxKey c x)

/-- Sets the job of a context. -/
def setJob (c x : Nat) (j : Option Job) (s : State) : State := { s with ctxs := SMap.put none s.ctxs (ctxKey c x) j }

/-- A lattice cell. -/
def State.cell (s : State) (c : Nat) : Cell := SMap.get (Cell.reset c) s.cells c

/-- Sets a lattice cell. -/
def setCell (c : Nat) (x : Cell) (s : State) : State := { s with cells := SMap.put (Cell.reset c) s.cells c x }

/-- Contexts of a cell without a job. -/
def State.freeCtxs (s : State) (c : Nat) : List Nat := (List.range 16).filter (fun x => (s.jobAt c x).isNone)

/-- Cells in a state. -/
def State.cellsIn (s : State) (st : CellState) : List Nat := (List.range 72).filter (fun c => (s.cell c).st = st)

/-- Whether jobs are dispatched to a cell: in service, not about to be checked, its page not quiesced. -/
def State.dispatches (s : State) (c : Nat) : Bool :=
  let p := (cellPage c).base
  decide ((s.cell c).st = .inService) && !(s.cell c).noDispatch && !tst (s.reg (p + 8)) 1 && !s.softReset.contains p

/-- The cell with the most free contexts, the lowest-numbered among equals (R227). -/
def State.bestCell (s : State) : Option Nat :=
  let l := (List.range 72).filter (fun c => s.dispatches c && decide (s.freeCtxs c ≠ []))
  let top := l.foldl (fun n c => max n (s.freeCtxs c).length) 0
  l.find? (fun c => (s.freeCtxs c).length = top)

/-- Jobs in contexts, with their keys. -/
def State.jobs (s : State) : List (Nat × Job) := s.ctxs.filterMap (fun p => p.2.map (fun j => (p.1, j)))

/-- Contexts that a facet holds (LAT_CTX_USE_n). -/
def State.ctxUse (s : State) (f : Nat) : Nat :=
  ((s.jobs.map (·.2) ++ s.replayQ).filter (fun j => j.req.item.facet = f)).length

/-- Free contexts in cells in service (LAT_CTX_FREE). -/
def State.ctxFree (s : State) : Nat := ((s.cellsIn .inService).map (fun c => (s.freeCtxs c).length)).sum

/-- A job as it starts (R232). -/
def Job.fresh (req : JobReq) (tag reserved attempts : Nat) : Job :=
  let full := req.item.len
  { req := req, tag := tag, reservedCells := reserved, pc := 0, regs := Vector.replicate 16 0, wptr := Vector.replicate 8 0,
    flags := ⟨false, false, false, false, false, false⟩, ohb := [], local_ := [], pos := min 256 full, stack := [], outs := [],
    cnts := [], executed := 0, looks := [], lookCount := 0, cold := true, attempts := attempts }

/-- Puts a job into the cell that R227 chooses; none when no context is free. -/
def place (j : Job) (s : State) : Option State :=
  match s.bestCell with
  | none => none
  | some c => match s.freeCtxs c with
    | [] => none
    | x :: _ => some (setJob c x (some j) s)

/-- Places the jobs that a cell fault stopped, in order, while contexts are free (R249). -/
def placeReplays : Nat → State → State
  | 0, s => s
  | n + 1, s =>
    match s.replayQ with
    | [] => s
    | j :: l =>
      match place j { s with replayQ := l } with
      | none => s
      | some t => placeReplays n t

/-- The pace request of the dispatcher (R225): fewer than 64 free contexts, or a job that has waited for 5 µs. -/
def latPace (s : State) : State :=
  let late := s.admission.any (fun p => p.2.any (fun j => decide (j.since + 5000 ≤ s.now)))
  let want := late || decide (s.ctxFree < 64)
  if want then
    if s.power.latReq then s else raise 140 { s with power := { s.power with latReq := true } }
  else if s.power.latReq then { s with power := { s.power with latReq := false, reqClear := some s.now } }
  else s

/-! ## The end of a job (R243, R244) -/

/-- A job's hold on its lane ends: its entry has one job less and takes the copies that came out. -/
def laneDone (j : JobReq) (cs : List Copy) (s : State) : State :=
  { s with lanes := SMap.upd [] s.lanes j.lane (fun l => l.map (fun e =>
      if e.item.uid = j.item.uid ∧ e.idx = j.seqIdx then { e with pend := e.pend - 1, ready := e.ready ++ cs } else e)) }

/-- Drops the answers that the look-aside engine keeps for a tag (R246). -/
def dropAnswers (tag : Nat) (s : State) : State :=
  { s with cip := { s.cip with answers := s.cip.answers.filter (fun a => a.tag ≠ tag) } }

/-- The context-quota episodes that have ended (R50). -/
def endCtxQuota (s : State) : State :=
  { s with ctxEp := s.ctxEp.filter (fun f => !decide (s.ctxUse f < fld (s.cfg (A.latCtxQuota f)) 0 11)) }

/-- Returns what a job holds: its tag, its reserved cells, its input cells; the context-quota episode of its facet ends (R50), and the
dispatcher's pace request with it (R225). -/
def returnJob (j : Job) (s : State) : State :=
  let f := j.req.item.facet
  let s := freeIn j.req.item.vertex f j.reservedCells (returnTag j.tag (dropAnswers j.tag s))
  latPace (endCtxQuota (release j.req.src s))

/-- The FATE record of an item that its job discards (R244, R393); `code` is that of ABORT. -/
def jobFate (j : JobReq) (reason code : Nat) (s : State) : State :=
  let i := j.item
  stage ⟨recOf i.key 1 i.facet reason i.tc false false i.epoch (w32 (0x7F + code % 256 * 2 ^ 8)) (sat32 (s.ns - i.stamp)), none⟩ s

/-- Discards a job that has been taken from its context (R244). -/
def discardJob (reason code : Nat) (j : Job) (s : State) : State :=
  laneDone j.req [] (returnJob j (jobFate j.req reason code s))

/-- One output of a job as it is released: its destination, class, stamp identifier and bytes. -/
structure JobResult where
  group : Bool
  dest : Nat
  tc : Nat
  txId : Option W16
  data : List Byte
  deriving DecidableEq, Repr

/-- Assembles output `k` of a job (R243): its OUTPUT record (R391), its cells, its copies. -/
def assemble (j : Job) (k : Nat) (o : JobResult) (s : State) : List Copy × State :=
  let i := j.req.item
  let b := s.bankOf i.epoch
  let n := o.data.length
  let vs := (b.dests o.group o.dest i.vertex).getD []
  let remote := vs.any (fun v => decide (48 ≤ v ∧ v < 84)) && decide (byteAt o.data 12 / 128 = 1)
  let w6 := w32 (n % 2 ^ 14 + bit o.group * 2 ^ 14 + o.dest % 2 ^ 13 * 2 ^ 15)
  let r := recOf i.key 2 i.facet 0 o.tc false remote i.epoch w6 (w32 (k % 256 + j.req.de % 4096 * 2 ^ 8))
  let ext := if remote then some (extOf r (w32 (beAt o.data 20 4)) (w32 (beAt o.data 16 4)) 0) else none
  let s := stage ⟨r, ext⟩ s
  let src := s.nextId
  let cs : List Copy := vs.map (fun v => ⟨i, src, v, o.tc, o.data, n, some k, o.txId, 0, false, .no, false, false, 0, false⟩)
  (cs, if cs = [] then s else openInput i.uid i.vertex i.facet (cellsOf n) cs.length s)

/-- Commits a job that has been taken from its context (R243): CNT additions, counters of its entry and cell, outputs in index
order to its lane. -/
def commitJob (c : Nat) (j : Job) (outs : List JobResult) (s : State) : State :=
  let de := j.req.de
  let s := j.cnts.foldl (fun s p => addSat (deKey (A.latDeCnt p.1) de) p.2.toNat s) s
  let s := bump (A.latCJobs c) (bump (deKey A.latDeDone de) s)
  let top := max (s.reg (deKey A.latDeInsnMax de)).toNat j.executed
  let s := setRegN (deKey A.latDeInsnMax de) top (returnJob j s)
  let step (a : List Copy × State) (p : Nat × JobResult) : List Copy × State :=
    let (cs, s) := assemble j p.1 p.2 a.2
    (a.1 ++ cs, s)
  let (cs, s) := (outs.mapIdx (fun k o => (k, o))).foldl step ([], s)
  laneDone j.req cs s

/-- A program fault ends a job (R239). -/
def faultJob (code index : Nat) (j : Job) (s : State) : State :=
  let de := j.req.de
  let s := setRegN (deKey A.latDeLastFault de) (code + index % 2 ^ 19 * 2 ^ 8) (bump (deKey A.latDeFaults de) s)
  raise 137 (discardJob 0x0C 0 j s)

/-! ## Admission (R226, R227) -/

/-- Whether a job may be admitted now (R226). -/
def State.admits (s : State) (j : JobReq) : Bool :=
  let f := j.item.facet
  let e := s.deOf j
  s.loaded e && s.tagOk f && decide (s.ctxUse f < fld (s.cfg (A.latCtxQuota f)) 0 11) && s.bestCell.isSome && s.capFits f e.reserve

/-- Admits a job: tag, reserved cells, context (R226, R232). -/
def admitJob (j : JobReq) (s : State) : State :=
  let f := j.item.facet
  let n := (s.deOf j).reserve
  let t := s.nextTag
  let s := chargeIn j.item.vertex f n (takeTag f s)
  (place (Job.fresh j t n 0) s).getD s

/-- A facet whose next job waits for a tag or for its context quota: events 6 and 139 once in an episode (R50). -/
def admitWait (f : Nat) (s : State) : State :=
  let s := tagWait f s
  if s.ctxUse f < fld (s.cfg (A.latCtxQuota f)) 0 11 ∨ s.ctxEp.contains f then s
  else raise 139 { s with ctxEp := addTo s.ctxEp f }

/-- Discards the waiting jobs that need a segment that is lost for good (R260). -/
def discardLost (i : Nat) (s : State) : State :=
  let needs (j : JobReq) : Bool := s.needsSeg (s.deOf j) i
  let gone := (s.admission.map (fun p => p.2.filter needs)).flatten
  let run := s.jobs.filter (fun p => needs p.2.req)
  let s : State := { s with admission := (s.admission.map (fun p => (p.1, p.2.filter (fun j => !needs j)))).filter (fun p => decide (p.2 ≠ [])) }
  let s := gone.foldl (fun s j => svcLoss j.item.facet 1 (laneDone j [] (release j.src (bump (deKey A.latDeFaults j.de) (jobFate j 0x0C 0 s))))) s
  run.foldl (fun s p => svcLoss p.2.req.item.facet 1
    (discardJob 0x0C 0 p.2 (bump (deKey A.latDeFaults p.2.req.de) { s with ctxs := SMap.put none s.ctxs p.1 none }))) s

/-- Segments whose jobs can wait for nothing (R260): LOST without a copy, or with the processor halted. -/
def State.hopeless (s : State) : List Nat :=
  (List.range 64).filter (fun i => decide ((s.seg i).st = 3) && ((s.seg i).gone || decide (s.mp = .halted)))

/-- JOB_ADMIT (R226, R227): jobs that a cell fault stopped go first; then the next facet in turn whose head job can be admitted. Every
facet whose head job waits at a quota has its event (R50). -/
def execJobAdmit (s : State) : Host.Outcome State Fault Refusal :=
  ran s (only s.coreOn (fun s =>
    let s := s.hopeless.foldl (fun s i => discardLost i s) s
    let s := latPace (placeReplays s.replayQ.length s)
    let turns := (List.range 16).map (fun k => (s.admitTurn + k) % 16)
    let head (f : Nat) : Option JobReq := (SMap.get [] s.admission f).head?
    let s := match turns.find? (fun f => match head f with
        | none => false
        | some j => s.admits j) with
      | some f =>
        match SMap.get [] s.admission f with
        | [] => s
        | j :: l => latPace (admitJob j { s with admission := SMap.put [] s.admission f l, admitTurn := (f + 1) % 16 })
      | none => s
    (s.admission.filter (fun p => decide (p.2 ≠ []))).foldl (fun s p => admitWait p.1 s) s) s)

/-! ## Cells (R249–R255) -/

/-- A spare enters service in the place of a cell that leaves it, or none remains (R251). -/
def replaceCell (gone : Nat) (s : State) : State :=
  match s.cellsIn .spare with
  | c :: _ => raise 129 (setCell c ⟨.inService, false, false, false, 0⟩ s)
  | [] => raise 130 (fault latPage 0x108 gone s)

/-- A job moves to another cell (R249): the same tag, input cells and reservation, from the beginning. `counts` says whether the
move counts as an attempt (R252). The fault record of a job under way on three cells shows DETAIL 0x102 and address 0 on the dispatcher page
(DESIGN CHOICE: log entry 68). -/
def replayJob (counts : Bool) (j : Job) (s : State) : State :=
  let n := j.attempts + bit counts
  let f := j.req.item.facet
  if n ≥ 3 then raise 132 (fault latPage 0x102 0 (bump A.latDataDep (svcLoss f 1 (discardJob 0x0D 0 j s))))
  else
    let s := raise 131 (svcDelay f 1 (bump A.latReplays s))
    { s with replayQ := s.replayQ ++ [Job.fresh j.req j.tag j.reservedCells n] }

/-- Every uncommitted job of a cell is replayed (R249). -/
def replayCell (counts : Bool) (c : Nat) (s : State) : State :=
  let mine := (List.range 16).filterMap (fun x => s.jobAt c x)
  let s := (List.range 16).foldl (fun s x => setJob c x none s) s
  let s := mine.foldl (fun s j => replayJob counts j s) s
  latPace (placeReplays s.replayQ.length s)

/-- A cell is retired (R251). -/
def retireCell (c : Nat) (s : State) : State :=
  raise 128 (fault (cellPage c) 0x107 c (setCell c ⟨.retired, false, false, false, 0⟩ s))

/-- DETAIL of a cell fault (R632). -/
def cellDetail : CellFaultKind → Nat
  | .selfCheck => 0x103
  | .memory => 0x102
  | .parity => 0x104
  | .handshake => 0x105

/-- A cell fault (R249–R251): the cell leaves service, for a check unless the fault is itself a failed check. -/
def cellFails (c : Nat) (k : CellFaultKind) (s : State) : State :=
  let x := s.cell c
  let s := fault (cellPage c) (cellDetail k) c (bump (A.latCFaults c) s)
  let was := decide (x.st = .inService)
  let s := if k = .selfCheck then retireCell c s else setCell c ⟨.checking, false, false, false, s.now⟩ s
  let s := if was && !(x.noDispatch && !x.inPlace) then replaceCell c s else s
  replayCell true c s

/-- CELL_FAULT (R249). -/
def execCellFault (c : CellNo) (kind : CellFaultKind) (s : State) : Host.Outcome State Fault Refusal :=
  ran s (only (s.coreOn && decide ((s.cell c).st = .inService ∨ ((s.cell c).st = .spare ∧ kind = .selfCheck)))
    (cellFails c kind) s)

/-- A write of LAT_FORCE_RETIRE by F0 (R255). -/
def latForceWritten (v : W32) (s : State) : State :=
  let c := fld v 0 7
  if !tst v 8 ∨ c ≥ 72 ∨ (s.cell c).st = .retired then s else cellFails c .selfCheck s

/-- PERIODIC_SELF_CHECK (R253, R254): the next cell in service in rotation is taken out of dispatch; a spare enters service first
when there is one. The checks follow one another so that each cell in service has its own once in LAT_CHECK_PERIOD. -/
def execPeriodicSelfCheck (s : State) : Host.Outcome State Fault Refusal :=
  let period := fld (s.reg A.latCheckPeriod) 0 16 * 1000000 / max 1 (s.cellsIn .inService).length
  let turns := (List.range 72).map (fun k => (s.checkTurn + k) % 72)
  ran s (only (s.coreOn && decide (s.checkAt + period ≤ s.now)) (fun s =>
    match turns.find? (fun c => decide ((s.cell c).st = .inService) && !(s.cell c).noDispatch) with
    | none => s
    | some c =>
      let spare := decide (s.cellsIn .spare ≠ [])
      let s : State := { s with checkTurn := (c + 1) % 72, checkAt := s.now }
      let s := if spare then replaceCell c s else s
      setCell c { s.cell c with noDispatch := true, periodic := true, inPlace := !spare, since := s.now } s) s)

/-- SELF_CHECK_DRAIN_TIMEOUT (R251, R253): the check begins 50 µs after dispatch stopped, or when the cell has no job left; jobs that
remain are replayed. A cell that is checked in place leaves service now: a spare that has come meanwhile takes its place. -/
def execSelfCheckDrainTimeout (c : CellNo) (s : State) : Host.Outcome State Fault Refusal :=
  let x := s.cell c
  let idle := decide ((s.freeCtxs c).length = 16)
  ran s (only (s.coreOn && decide (x.st = .inService) && x.noDispatch && x.periodic && (idle || decide (x.since + 50000 ≤ s.now))) (fun s =>
    let s := setCell c { x with st := .checking, since := s.now, inPlace := x.inPlace && decide (s.cellsIn .spare = []) } s
    replayCell false c (if x.inPlace then replaceCell c s else s)) s)

/-- SELF_CHECK_COMPLETE (R250, R251, R253, R254): a cell that passes becomes a spare, or stays in service where it was checked in
place; one that fails is retired: its place was taken, or was left empty, when its check began. -/
def execSelfCheckComplete (c : CellNo) (pass : Bool) (s : State) : Host.Outcome State Fault Refusal :=
  let x := s.cell c
  ran s (only (s.coreOn && decide (x.st = .checking)) (fun s =>
    if pass then
      let s := bump (A.latCChecks c) s
      let s := if x.periodic then s else raise 133 (bump A.latTransients s)
      if x.inPlace then setCell c ⟨.inService, false, false, false, 0⟩ s
      else
        let s := setCell c ⟨.spare, false, false, false, 0⟩ s
        if (s.cellsIn .inService).length < 64 then replaceCell c s else s
    else
      retireCell c (fault (cellPage c) 0x103 c (bump (A.latCFaults c) s))) s)

/-- LAT_STATUS (R263). -/
def State.latStatus (s : State) : W32 :=
  let spares := (s.cellsIn .spare).length
  w32 ((s.cellsIn .inService).length % 128 + spares % 16 * 2 ^ 8 + bit (decide (spares = 0)) * 2 ^ 16 + bit s.power.latReq * 2 ^ 17)

/-- LAT_Cc_STATUS (R265). -/
def State.cellStatus (s : State) (c : Nat) : W32 :=
  let code := match (s.cell c).st with
    | .inService => 0
    | .spare => 1
    | .checking => 2
    | .retired => 3
  w32 (code + (16 - (s.freeCtxs c).length) * 2 ^ 16)

/-- Lines in the code cache of a cell. -/
def State.lines (s : State) (c : Nat) : List Nat := SMap.get [] s.codeLines c

/-- The line of the store that holds the next instruction of a job. -/
def State.nextLine (s : State) (j : Job) : Nat := ((s.deOf j.req).start + j.pc) % 524288 / 16

/-- CODE_CACHE_FILL (R224, R248, R265): a context waits for a line of the code cache, and it is filled; a full cache of 256 lines gives up one
that nothing tells, a free value (log entry 67). A parity error has a line that is there fetched again. -/
def execCodeCacheFill (c : CellNo) (x : Ctx) (parity : Bool) (s : State) : Host.Outcome State Fault Refusal :=
  ran s (only s.coreOn (fun s =>
    match s.jobAt c x with
    | none => s
    | some j =>
      let l := s.nextLine j
      let has := (s.lines c).contains l
      if has && !parity then s
      else
        let s := bump (A.latCCacheMiss c) s
        let s := if has then s
          else
            let k := if (s.lines c).length < 256 then 256 else s.freeWord.toNat % 256
            { freshen s with codeLines := SMap.put [] s.codeLines c ((s.lines c).eraseIdx k ++ [l]) }
        if parity then raise 134 (fault (cellPage c) 0x101 c (bump (A.latCEccCorr c) s)) else s) s)

/-! ## The program store (R260) -/

/-- An uncorrectable word of the store (R260): its segment is LOST and is loaded again. -/
def psWordLost (w : Nat) (s : State) : State :=
  let s := fault progPage 0x102 w s
  match s.segAt w with
  | none => s
  | some i =>
    if (s.seg i).st ≠ 2 then s
    else
      let s := raise 135 (setSeg i { s.seg i with st := 3 } { s with psBad := addTo s.psBad w })
      if s.mp = .halted then discardLost i s else s

/-- SEGMENT_RELOAD_COMPLETE (R260): the processor has written the segment again from its copy; without a copy its jobs are
discarded. -/
def execSegmentReloadComplete (i : Fin 64) (ok : Bool) (s : State) : Host.Outcome State Fault Refusal :=
  let g := s.seg i
  let inside (w : Nat) : Bool := decide (g.start ≤ w ∧ w < g.start + g.len)
  let waits := (s.admission.map (·.2)).flatten.filter (fun j => s.needsSeg (s.deOf j) i)
  ran s (only (s.mpOn && decide (g.st = 3)) (fun s =>
    if ok then
      let s : State := { s with psBad := s.psBad.filter (fun w => !inside w) }
      let s := waits.foldl (fun s j => svcDelay j.item.facet 1 s) s
      raise 136 (bump A.latPsReloads (setSeg i { g with st := 2, gone := false } s))
    else discardLost i (setSeg i { g with gone := true } s)) s)

end Sys2Proof.Machine
end

