-- ==== Sys2Proof/Machine/LatCode.lean ====
section
/-! DEFINITION. Lattice code (R233–R247): the instruction word, its fields and faults, and the 52 instructions; the library programs
of the bridge (R321–R324). Each row issues the next instruction of a context when that is the row's. -/

namespace Sys2Proof.Machine

/-! ## Fields of an instruction word (R235) -/

/-- Opcode. -/
def opOf (w : W32) : Nat := fld w 26 6
/-- rd, or rs. -/
def fRd (w : W32) : Nat := fld w 22 4
/-- ra. -/
def fRa (w : W32) : Nat := fld w 18 4
/-- rb. -/
def fRb (w : W32) : Nat := fld w 14 4
/-- imm18, zero-extended. -/
def fImm (w : W32) : Nat := fld w 0 18
/-- imm18, sign-extended, as a word. -/
def fSimm (w : W32) : W32 := BitVec.ofInt 32 (sx 18 (fImm w))
/-- size of formats M and N. -/
def fSize (w : W32) : Nat := fld w 16 2
/-- simm16, sign-extended, as a word. -/
def fOff16 (w : W32) : W32 := BitVec.ofInt 32 (sx 16 (fld w 0 16))
/-- The branch offset. -/
def fBoff (w : W32) : Int := sx 19 (fld w 0 19)

/-- Bits [25:0] that a format's fields cover: rd, ra, rb, imm18, pos and len, size, simm16, wn, branch offset. -/
def mRd : Nat := 0xF * 2 ^ 22
/-- ra. -/
def mRa : Nat := 0xF * 2 ^ 18
/-- rb. -/
def mRb : Nat := 0xF * 2 ^ 14
/-- imm18. -/
def mImm : Nat := 0x3FFFF
/-- pos and len of format F. -/
def mField : Nat := 0x3FF * 2 ^ 8
/-- size. -/
def mSize : Nat := 3 * 2 ^ 16
/-- simm16. -/
def mOff : Nat := 0xFFFF
/-- wn of format N. -/
def mWn : Nat := 7 * 2 ^ 19
/-- Branch offset. -/
def mBoff : Nat := 0x7FFFF

/-- A register of a job. -/
def Job.reg (j : Job) (n : Nat) : W32 := j.regs[n % 16]!

/-- Writes a register of a job. -/
def Job.setReg (j : Job) (n : Nat) (v : W32) : Job := { j with regs := j.regs.set! (n % 16) v }

/-- The next instruction follows. -/
def Job.next (j : Job) : Job := { j with pc := j.pc + 1 }

/-! ## What a job reads and writes (R232, R233) -/

/-- The bytes of a job's item: its stored form, with the FCS of an Ethernet frame (R232). -/
def Job.bytes (j : Job) : List Byte :=
  let i := j.req.item
  if 48 ≤ i.vertex ∧ i.vertex < 84 then i.data else i.data ++ fcsOf i.data

/-- Window length. -/
def Job.winLen (j : Job) : Nat := min 256 j.req.item.len

/-- Bytes of local data. -/
def Job.localAt (j : Job) (a n : Nat) : List Byte := (List.range n).map (fun k => SMap.get 0 j.local_ (a + k))

/-- Writes local data. -/
def Job.setLocal (j : Job) (a : Nat) (l : List Byte) : Job :=
  { j with local_ := (l.mapIdx (fun k b => (k, b))).foldl (fun m p => SMap.put 0 m (a + p.1) p.2) j.local_ }

/-- Bytes of the output header buffer. -/
def Job.ohbAt (j : Job) (a n : Nat) : List Byte := (List.range n).map (fun k => SMap.get 0 j.ohb (a + k))

/-- Writes the output header buffer. -/
def Job.setOhb (j : Job) (a : Nat) (l : List Byte) : Job :=
  { j with ohb := (l.mapIdx (fun k b => (k, b))).foldl (fun m p => SMap.put 0 m (a + p.1) p.2) j.ohb }

/-- How an instruction ends: the job goes on, the context waits, or the job ends by DONE, DROP, ABORT or a fault. -/
inductive LatRes where
  | run (j : Job) (t : State)
  | wait
  | done
  | drop
  | abort (code : Nat)
  | fault (code : Nat)

/-- An instruction that writes one register. -/
def ret (s : State) (j : Job) (rd : Nat) (v : W32) : LatRes := .run (j.setReg rd v).next s

/-- A jump to an instruction index, a fault JUMP outside 0 to LEN − 1 (R239). -/
def jumpTo (s : State) (j : Job) (target : Int) : LatRes :=
  if 0 ≤ target ∧ target < ((s.deOf j.req).len : Int) then .run { j with pc := target.toNat } s else .fault 7

/-- The index that a branch names, from the instruction after it. -/
def branchTo (j : Job) (w : W32) : Int := (j.pc : Int) + 1 + fBoff w

/-- A condition of R236; codes 0xE and 0xF are illegal. -/
def condOf (f : LatFlags) (c : Nat) : Option Bool :=
  match c with
  | 0 => some true
  | 1 => some f.z
  | 2 => some !f.z
  | 3 => some f.c
  | 4 => some !f.c
  | 5 => some (f.n != f.v)
  | 6 => some (f.z || (f.n != f.v))
  | 7 => some (!f.z && !(f.n != f.v))
  | 8 => some f.n
  | 9 => some !f.n
  | 10 => some f.s
  | 11 => some !f.s
  | 12 => some f.x
  | 13 => some !f.x
  | _ => none

/-- The flags Z, N, C and V of a − b (R236). -/
def cmpFlags (f : LatFlags) (a b : W32) : LatFlags :=
  let r := a - b
  { f with z := r = 0, n := r.msb, c := decide (a.toNat < b.toNat), v := a.msb != b.msb && r.msb != a.msb }

/-- Bytes of an access of a size; none for the illegal one. -/
def sizeOf_ (z : Nat) : Option Nat := if z = 0 then some 1 else if z = 1 then some 2 else if z = 2 then some 4 else none

/-! ## Library programs (R321–R324) -/

/-- The words of a rule record, with the SEQ of a job in a tangent's last halfword (R313, R318). -/
def ruleWords (r : RuleRec) (tangent : Bool) (seq : Nat) : List W32 :=
  if tangent then (List.range 8).map (fun k => if k = 7 then setFld (r.words.getD 7 0) 0 16 seq else r.words.getD k 0) else (List.range 8).map (fun k => r.words.getD k 0)

/-- A rule of a bank; an invalidated or unwritten one is none. -/
def Bank.rule (b : Bank) (n : Nat) (tangent : Bool) : Option RuleRec :=
  if tangent then SMap.get none b.tangents n else SMap.get none b.chords n

/-- Whether a record is VALID. -/
def RuleRec.valid (r : RuleRec) : Bool := tst (r.words.getD 2 0) 31

/-- The library program that an entry runs (R321): it starts where BRG_LIB_k says, in segment 63 as it was sealed at the start. -/
def State.libOf (s : State) (e : DispEntry) : Option Nat :=
  let g := s.seg 63
  if !(decide (g.st = 2 ∧ g.start ≤ e.start ∧ e.start < g.start + g.len)) then none
  else (List.range 5).find? (fun k => let w := s.reg (A.brgLib k); decide (w ≠ 0 ∧ fld w 0 19 = e.start))

/-- The outcome of a library program: its outputs, or the reason for which it drops its item; with messages refused. -/
structure LibOut where
  outs : List JobResult
  drop : Option Nat
  refused : Nat
  deriving DecidableEq, Repr

/-- A stored message with its header fields replaced (R268): bytes 0–3, the flags of byte 4, DLEN and the data. -/
def storedMsg (w0 w1 af w3 : Nat) (origin : List Byte) (data : List Byte) : List Byte :=
  beBytes 4 w0 ++ beBytes 4 w1 ++ beBytes 4 af ++ beBytes 4 w3 ++ origin ++ List.replicate 8 0 ++ data

/-- Whether an identifier passes ID and MASK of a record. -/
def idMatches (w : List W32) (id : Nat) : Bool :=
  let m := fld (w.getD 1 0) 0 29
  decide (Nat.land (id % 2 ^ 29) m = Nat.land (fld (w.getD 0 0) 0 29) m)

/-- CHORD_COPY (R321). -/
def chordCopy (w : List W32) (d : List Byte) : LibOut :=
  let w4 := w.getD 4 0
  let n := fld w4 0 12
  let data := d.drop 32
  let data := if n = 0 then data else padTo n (data.take n)
  let w1 := setFld (setBit (setBit (w32 (beAt d 4 4)) 31 (tst w4 15)) 30 (tst w4 14)) 0 12 data.length
  let id := fld (w.getD 3 0) 0 29 + fld (w.getD 3 0) 30 2 * 2 ^ 30 + beAt d 0 4 / 2 ^ 29 % 2 * 2 ^ 29
  let m := storedMsg id w1.toNat (beAt d 8 4) (beAt d 12 4) (slice d 16 8) data
  let g := tst w4 29
  ⟨[⟨g, if g then fld w4 16 13 else fld w4 16 7, fld (w.getD 1 0) 29 3, none, m⟩], none, 0⟩

/-- Destination, class and tags that a WRAP or UNWRAP record gives. -/
def tanOut (w : List W32) (data : List Byte) : JobResult :=
  let w7 := w.getD 7 0
  let g := tst w7 29
  ⟨g, if g then fld w7 16 13 else fld w7 16 7, fld (w.getD 1 0) 29 3, none, data⟩

/-- STREAM_ID of a tangent record. -/
def tanStream (w : List W32) : Nat := (w.getD 3 0).toNat * 2 ^ 32 + (w.getD 4 0).toNat

/-- The Ethernet header of a wrapped frame: DEST_MAC, the source MAC of the constants, the tag of TCI when not zero. -/
def wrapHead (w : List W32) (mac : List Byte) (type : Nat) : List Byte :=
  let tci := fld (w.getD 6 0) 0 16
  beBytes 4 (w.getD 5 0).toNat ++ beBytes 2 (fld (w.getD 6 0) 16 16) ++ mac ++ (if tci = 0 then [] else beBytes 2 0x8100 ++ beBytes 2 tci)
    ++ beBytes 2 type

/-- WRAP_1722 (R322). -/
def wrap1722 (w : List W32) (mac : List Byte) (lin : Bool) (d : List Byte) : LibOut :=
  if byteAt d 0 / 64 = 2 then ⟨[], some 0x13, 0⟩
  else
    let data := d.drop 32
    let pad := (4 - data.length % 4) % 4
    let body := data ++ List.replicate pad 0
    let bus := fld (w.getD 2 0) 16 5
    let f (i : Nat) : Nat := beAt d 4 4 / 2 ^ i % 2
    let acf := if lin then beBytes 1 (pad * 64 + 32 + bus) ++ beBytes 1 (byteAt d 3 % 64) ++ slice d 16 8 ++ body
      else
        let flags := pad * 64 + 32 + beAt d 0 4 / 2 ^ 29 % 2 * 16 + bit (decide (byteAt d 0 / 64 = 1)) * 8 + f 30 * 4 + f 31 * 2 + f 29
        beBytes 1 flags ++ beBytes 1 bus ++ slice d 16 8 ++ beBytes 4 (beAt d 0 4 % 2 ^ 29) ++ body
    let n := acf.length + 2
    let seq := fld (w.getD 7 0) 0 8
    let av := beBytes 1 0x82 ++ beBytes 2 (0x8000 + n % 2 ^ 11) ++ beBytes 1 seq ++ beBytes 8 (tanStream w)
      ++ beBytes 2 ((if lin then 3 else 1) * 2 ^ 9 + n / 4 % 2 ^ 9) ++ acf
    ⟨[tanOut w (wrapHead w mac 0x22F0 ++ av)], none, 0⟩

/-- Offset of the bytes after the EtherType of a tunnel frame, with or without one VLAN tag (R311). -/
def tunnelOff (d : List Byte) : Nat := if beAt d 12 2 = 0x8100 then 18 else 14

/-- Bytes of the AVTP header of a subtype: NTSCF 12, TSCF 24. -/
def avtpHead (d : List Byte) : Nat := if byteAt d (tunnelOff d) = 0x82 then 12 else 24

/-- Bytes of the ACF messages that the AVTP header of a frame announces. -/
def acfTotal (d : List Byte) : Nat :=
  let o := tunnelOff d
  if byteAt d o = 0x82 then beAt d (o + 1) 2 % 2 ^ 11 else beAt d (o + 20) 2

/-- The ACF messages of a frame, each as its bytes (R323); none when their lengths disagree with the frame. -/
def acfSplit : Nat → List Byte → Option (List (List Byte))
  | 0, l => if l = [] then some [] else none
  | n + 1, l =>
    if l = [] then some []
    else
      let len := beAt l 0 2 % 2 ^ 9 * 4
      if len < 12 ∨ l.length < len then none
      else match acfSplit n (l.drop len) with
        | none => none
        | some r => some (l.take len :: r)

/-- One ACF message: bus, identifier, stored form (R323); none when the frame must be dropped. -/
def acfMsg (m : List Byte) : Option (Nat × Nat × List Byte) :=
  let typ := beAt m 0 2 / 2 ^ 9
  let fl := byteAt m 2
  let pad := fl / 64
  let mtv := decide (fl / 32 % 2 = 1)
  let origin := if mtv then slice m 4 8 else List.replicate 8 0
  let remote := bit mtv * 2 ^ 31
  if typ = 1 then
    if m.length < 16 + pad then none
    else
      let data := (m.drop 16).take (m.length - 16 - pad)
      if data.length > 64 then none
      else
        let id := beAt m 12 4 % 2 ^ 29
        let w0 := fl / 8 % 2 * 2 ^ 30 + fl / 16 % 2 * 2 ^ 29 + id
        let w1 := fl / 2 % 2 * 2 ^ 31 + fl / 4 % 2 * 2 ^ 30 + fl % 2 * 2 ^ 29 + data.length
        some (byteAt m 3 % 32, id, storedMsg w0 w1 0 remote origin data)
  else if typ = 3 then
    if m.length < 12 + pad then none
    else
      let data := (m.drop 12).take (m.length - 12 - pad)
      if data.length > 8 then none
      else
        let id := byteAt m 3 % 64
        some (fl % 32, id, storedMsg id data.length 0 remote origin data)
  else none

/-- UNWRAP_1722 (R323). -/
def unwrap1722 (w : List W32) (d : List Byte) : LibOut :=
  let o := tunnelOff d + avtpHead d
  let n := acfTotal d
  if d.length < o + n then ⟨[], some 0x12, 0⟩
  else match acfSplit 8 (slice d o n) with
    | none => ⟨[], some 0x12, 0⟩
    | some ms =>
      let ps := ms.map acfMsg
      if ps.any (·.isNone) then ⟨[], some 0x12, 0⟩
      else
        let ps := ps.filterMap id
        let good := ps.filter (fun p => decide (p.1 = fld (w.getD 2 0) 16 5) && idMatches w p.2.1)
        ⟨good.map (fun p => tanOut w p.2.2), none, ps.length - good.length⟩

/-- WRAP_OCT (R324). -/
def wrapOct (w : List W32) (mac : List Byte) (ingress : Nat) (d : List Byte) : LibOut :=
  ⟨[tanOut w (wrapHead w mac 0x88B6 ++ beBytes 1 1 ++ beBytes 1 (ingress % 128) ++ beBytes 2 (fld (w.getD 7 0) 0 16)
      ++ beBytes 4 (tanStream w % 2 ^ 32) ++ d)], none, 0⟩

/-- UNWRAP_OCT (R324). -/
def unwrapOct (w : List W32) (d : List Byte) : LibOut :=
  let b := d.drop (tunnelOff d)
  let dlen := beAt b 12 4 % 2 ^ 12
  if byteAt b 0 ≠ 1 ∨ byteAt b 8 / 64 = 3 ∨ b.length < 40 + dlen then ⟨[], some 0x12, 0⟩
  else if !idMatches w (beAt b 8 4 % 2 ^ 29) then ⟨[], none, 1⟩
  else
    let h := slice b 8 32
    let h := h.take 12 ++ beBytes 1 (128 + byteAt h 12 % 128) ++ h.drop 13
    ⟨[tanOut w (h ++ slice b 40 dlen)], none, 0⟩

/-- What a library program does with a job (R321). -/
def libRun (k : Nat) (w : List W32) (mac : List Byte) (i : Item) : LibOut :=
  match k with
  | 0 => chordCopy w i.data
  | 1 => wrap1722 w mac (decide (72 ≤ i.vertex)) i.data
  | 2 => unwrap1722 w i.data
  | 3 => wrapOct w mac i.vertex i.data
  | _ => unwrapOct w i.data

/-- The rule record that a bridge job runs under, in its epoch. -/
def State.ruleOf (s : State) (j : JobReq) : Option (List W32) :=
  match j.rule with
  | none => none
  | some (n, tan) => ((s.bankOf j.item.epoch).rule n tan).map (fun r => ruleWords r tan j.seqNo)

/-- A library program ends (R321): its outputs within OUT_MAX and OUT_BYTES, or the drop that R271 counts. Its instruction count and
the index of a fault are the image's, so free values (DESIGN CHOICE: log entry 1). -/
def libDone (c k : Nat) (j : Job) (s : State) : State :=
  let e := s.deOf j.req
  let mac := beBytes 4 (SMap.get 0 s.ps e.const).toNat ++ beBytes 2 (fld (SMap.get 0 s.ps (e.const + 1)) 16 16)
  match s.ruleOf j.req with
  | none => freshen (faultJob 0x0B s.freeWord.toNat j s)
  | some w =>
    let o := libRun k w mac j.req.item
    let s := (List.range o.refused).foldl (fun s _ => bump A.brgInnerRefused s) s
    match o.drop with
    | some r =>
      let s := bump (deKey A.latDeDropped j.req.de) (bump (if r = 0x13 then A.brgInnerRefused else A.brgMalformed) s)
      let s := if r = 0x13 then s else raise 245 s
      discardJob r 0 j s
    | none =>
      if o.outs.length > e.outMax ∨ o.outs.any (fun x => decide (x.data.length > e.outBytes)) then
        freshen (faultJob 0x0A s.freeWord.toNat j s)
      else
        let n := s.freeWord.toNat % 65536
        freshen (commitJob c { j with executed := n } o.outs (addPair (A.latCIssuedLo c) (A.latCIssuedHi c) n s))

/-! ## Issue (R239, R240) -/

/-- The instruction word that a context issues next. -/
def State.nextWord (s : State) (j : Job) : W32 := SMap.get 0 s.ps (((s.deOf j.req).start + j.pc) % 524288)

/-- What a result of an instruction leaves: the job goes on in its context, or leaves it. -/
def settleJob (c x : Nat) (j : Job) (r : LatRes) (s : State) : State :=
  let off := setJob c x none
  let de := j.req.de
  match r with
  | .run j' t => setJob c x (some j') t
  | .wait => s
  | .done =>
    let outs := j.outs.map (fun o => (⟨tst o.w0 29, if tst o.w0 29 then fld o.w0 16 13 else fld o.w0 16 7,
      if tst o.w0 15 then fld o.w0 12 3 else j.req.item.tc,
      if tst o.w0 11 then some (BitVec.ofNat 16 (fld o.w1 16 16)) else none,
      o.head ++ slice j.bytes o.start o.plen⟩ : JobResult))
    commitJob c j outs (off s)
  | .drop => discardJob 0x0A 0 j (bump (deKey A.latDeDropped de) (off s))
  | .abort code => raise 138 (discardJob 0x0B code j (bump (deKey A.latDeDropped de) (off s)))
  | .fault code => faultJob code j.pc j (off s)

/-- Whether a context holds a job that can issue (R224, R256, R260): its segments are loaded, its facet is not being reset, and the line of
its next instruction is in the code cache; a library program, and a fault that comes before the instruction is read, need no line. -/
def State.canIssue (s : State) (c x : Nat) : Bool :=
  match s.jobAt c x with
  | none => false
  | some j =>
    let e := s.deOf j.req
    s.loaded e && !s.facetReset.any (fun r => decide (r.facet = j.req.item.facet))
      && ((s.libOf e).isSome || decide (j.pc ≥ e.len ∨ j.executed + 1 > e.budget) || (s.lines c).contains (s.nextLine j))

/-- Whether a context may wait (R224, R245, R261): for look-aside requests, or for the stream at a new position. -/
def State.mayWait (s : State) (c x : Nat) : Bool :=
  match s.jobAt c x with
  | none => true
  | some j =>
    let op := opOf (s.nextWord j)
    let open_ := (j.looks.filter (fun l => !l.done)).length
    (decide (op = 0x22) && j.cold) || (decide (op = 0x30) && decide (open_ ≠ 0)) || (decide (op = 0x2F) && decide (open_ ≥ 4))

/-- The issue turn of a cell. -/
def State.turn (s : State) (c : Nat) : Nat := SMap.get 0 s.issueTurn c

/-- Whether a context issues next (R224): it can, and every context from the turn on before it cannot, or waits. -/
def State.hasTurn (s : State) (c x : Nat) : Bool :=
  s.canIssue c x && (List.range ((x + 16 - s.turn c) % 16)).all (fun k =>
    let y := (s.turn c + k) % 16
    !s.canIssue c y || s.mayWait c y)

/-- A context has issued: the turn passes to the next. -/
def tookTurn (c x : Nat) (s : State) : State :=
  { s with issueTurn := SMap.put 0 s.issueTurn c ((x + 1) % 16), lastIssue := some s.now }

/-- Issues the next instruction of a context when it is the one of opcode `op` (R237): the faults that come before its effect, and the
fields that its row does not use (R235, R239). -/
def latOp (op mask : Nat) (f : State → Job → W32 → LatRes) (c x : Nat) (s : State) : State :=
  match s.jobAt c x with
  | none => s
  | some j =>
    let e := s.deOf j.req
    if !s.hasTurn c x then s
    else
      match s.libOf e with
      | some k => if op = 0x27 then libDone c k j (setJob c x none (tookTurn c x s)) else s
      | none =>
        let w := s.nextWord j
        let j' := { j with executed := j.executed + 1 }
        if j.pc ≥ e.len then settleJob c x j (.fault 7) s
        else if j.executed + 1 > e.budget then settleJob c x j (.fault 9) s
        else if opOf w > 0x33 then settleJob c x j' (.fault 1) (tookTurn c x s)
        else if opOf w ≠ op then s
        else
          let s1 := addPair (A.latCIssuedLo c) (A.latCIssuedHi c) 1 (tookTurn c x s)
          match (if Nat.land (fld w 0 26) (0x3FFFFFF - mask) ≠ 0 then LatRes.fault 1 else f s1 j' w) with
          | .wait => s
          | r => settleJob c x j' r s1

/-- A row of the table: issued while the core works and the cell is in service. -/
def latRow (op mask : Nat) (f : State → Job → W32 → LatRes) (c x : Nat) (s : State) : Host.Outcome State Fault Refusal :=
  ran s (only (s.coreOn && decide ((s.cell c).st = .inService)) (latOp op mask f c x) s)

/-- An instruction of format R that writes rd from ra and rb. -/
def aluR (g : W32 → W32 → W32) (s : State) (j : Job) (w : W32) : LatRes := ret s j (fRd w) (g (j.reg (fRa w)) (j.reg (fRb w)))

/-- An instruction of format I that writes rd from ra and an immediate. -/
def aluI (g : W32 → W32) (s : State) (j : Job) (w : W32) : LatRes := ret s j (fRd w) (g (j.reg (fRa w)))

/-- A shift by a register's low five bits. -/
def sh (v : W32) : Nat := fld v 0 5

/-! ## Effects that more than one row or a long rule needs -/

/-- A window byte range (R239): its address, or none beyond the window. -/
def Job.winOk (j : Job) (a n : Nat) : Bool := decide (a + n ≤ j.winLen)

/-- A local access: within 2 KiB and aligned to its size (R233, R239). -/
def localOk (a n : Nat) : Bool := decide (a + n ≤ 2048 ∧ a % n = 0)

/-- LDW. -/
def latLdw (s : State) (j : Job) (w : W32) : LatRes :=
  match sizeOf_ (fSize w) with
  | none => .fault 1
  | some n =>
    let a := (j.wptr[fld w 19 3]!) + fld w 0 8
    if !j.winOk a n then .fault 2 else ret s j (fRd w) (w32 (beAt j.bytes a n))

/-- Address of a format M access. -/
def mAddr (j : Job) (w : W32) : Nat := (j.reg (fRa w) + fOff16 w).toNat

/-- STO. -/
def latSto (s : State) (j : Job) (w : W32) : LatRes :=
  match sizeOf_ (fSize w) with
  | none => .fault 1
  | some n =>
    let a := mAddr j w
    if a + n > 512 then .fault 3 else .run (j.setOhb a (beBytes n (j.reg (fRd w)).toNat)).next s

/-- LDO. -/
def latLdo (s : State) (j : Job) (w : W32) : LatRes :=
  match sizeOf_ (fSize w) with
  | none => .fault 1
  | some n =>
    let a := mAddr j w
    if a + n > 512 then .fault 3 else ret s j (fRd w) (w32 (beAt (j.ohbAt a n) 0 n))

/-- CPY. -/
def latCpy (s : State) (j : Job) (w : W32) : LatRes :=
  let d := (j.reg (fRd w)).toNat
  let a := (j.reg (fRa w)).toNat
  let n := (j.reg (fRb w)).toNat
  if n = 0 then .run j.next s
  else if !j.winOk a n then .fault 2
  else if d + n > 512 then .fault 3
  else .run (j.setOhb d (slice j.bytes a n)).next s

/-- LD. -/
def latLd (s : State) (j : Job) (w : W32) : LatRes :=
  match sizeOf_ (fSize w) with
  | none => .fault 1
  | some n =>
    let a := mAddr j w
    if !localOk a n then .fault 4 else ret s j (fRd w) (w32 (beAt (j.localAt a n) 0 n))

/-- ST. -/
def latSt (s : State) (j : Job) (w : W32) : LatRes :=
  match sizeOf_ (fSize w) with
  | none => .fault 1
  | some n =>
    let a := mAddr j w
    if !localOk a n then .fault 4 else .run (j.setLocal a (beBytes n (j.reg (fRd w)).toNat)).next s

/-- LDC. -/
def latLdc (s : State) (j : Job) (w : W32) : LatRes :=
  let e := s.deOf j.req
  let a := mAddr j w
  if fSize w ≠ 2 then .fault 1
  else if a % 4 ≠ 0 ∨ a + 4 > e.constLen then .fault 5
  else ret s j (fRd w) (SMap.get 0 s.ps ((e.const + a / 4) % 524288))

/-- SRD. -/
def latSrd (s : State) (j : Job) (w : W32) : LatRes :=
  match sizeOf_ (fSize w) with
  | none => .fault 1
  | some n =>
    if j.pos + n ≤ j.req.item.len then
      ret s { j with pos := j.pos + n, cold := false, flags := { j.flags with s := false } } (fRd w) (w32 (beAt j.bytes j.pos n))
    else ret s { j with cold := false, flags := { j.flags with s := true } } (fRd w) 0

/-- SSKIP and SSEEK: the new position, a fault STREAM beyond L. -/
def seekTo (s : State) (j : Job) (p : Nat) : LatRes := if p > j.req.item.len then .fault 6 else .run { j with pos := p }.next s

/-- Whether R3 assigns a vertex, and it is not the own-rank peer channel (R5). -/
def Bank.outVertex (b : Bank) (v : Nat) : Bool :=
  let acc := b.regs.read A.brgAccCtrl
  (decide (v ≤ 84) || (decide (96 ≤ v) && decide (v ≤ 108))) && !(tst acc 0 && decide (v = 101 + fld acc 1 3))

/-- EMIT (R241, R242). -/
def latEmit (s : State) (j : Job) (w : W32) : LatRes :=
  let a := (j.reg (fRa w)).toNat
  let e := s.deOf j.req
  let b := s.bankOf j.req.item.epoch
  if !(decide (a + 16 ≤ 2048 ∧ a % 4 = 0)) then .fault 4
  else
    let d := j.localAt a 16
    let w0 := w32 (beAt d 0 4)
    let w1 := w32 (beAt d 4 4)
    let start := beAt d 8 4
    let plen := beAt d 12 4
    let hlen := fld w1 0 10
    let g := tst w0 29
    let badDest := if g then (b.dests true (fld w0 16 13) j.req.item.vertex).isNone
      else !b.outVertex (fld w0 16 7)
    if j.outs.length ≥ e.outMax ∨ fld w0 30 2 ≠ 0 ∨ fld w0 0 11 ≠ 0 ∨ fld w1 10 6 ≠ 0 ∨ badDest = true ∨ hlen > 512
        ∨ start + plen > j.req.item.len ∨ hlen + plen > e.outBytes ∨ hlen + plen = 0 then .fault 0x0A
    else .run { j with outs := j.outs ++ [(⟨w0, w1, start, plen, j.ohbAt 0 hlen⟩ : JobOut)] }.next s

/-- META (R238); an illegal selector faults. -/
def metaOf (j : Job) (sel : Nat) : Option W32 :=
  let i := j.req.item
  match sel with
  | 0 => some (loW (secOf i.stamp))
  | 1 => some (hiW (secOf i.stamp))
  | 2 => some (w32 (nsOf i.stamp))
  | 3 => some (w32 (i.vertex % 128))
  | 4 => some i.seq
  | 5 => some i.epoch
  | 6 => some (w32 i.len)
  | 7 => some (w32 (i.tc % 8))
  | 8 => some (w32 (i.facet % 16))
  | 9 => some (w32 (j.req.de % 4096))
  | 10 => some (loW i.res.toNat)
  | 11 => some (hiW i.res.toNat)
  | 12 => some (w32 (bit i.verified + bit i.tagged * 2 + (if 72 ≤ i.vertex ∧ i.vertex < 84 then 2 else if 48 ≤ i.vertex ∧ i.vertex < 72 then 1 else 0) * 4))
  | 13 => some (match j.req.rule with
    | none => 0xFFFFFFFF
    | some (n, _) => w32 n)
  | _ => none

/-- RULE (R239, R247). -/
def latRule (s : State) (j : Job) (w : W32) : LatRes :=
  let n := (j.reg (fRa w)).toNat
  let tan := tst w 0
  let a := (j.reg (fRd w)).toNat
  let seq := match j.req.rule with
    | some (m, t) => if m = n ∧ t = tan then j.req.seqNo else 0
    | none => 0
  match (s.bankOf j.req.item.epoch).rule n tan with
  | none => .fault 0x0B
  | some r =>
    if !r.valid ∨ n ≥ (if tan then 4096 else 8192) then .fault 0x0B
    else if a + 32 > 2048 ∨ a % 4 ≠ 0 then .fault 4
    else .run (j.setLocal a ((ruleWords r tan seq).map (fun v => beBytes 4 v.toNat)).flatten).next s

/-! ## Look-aside requests (R245, R246, R503–R505) -/

/-- The bytes that a look-aside request takes from local data, or from the item. -/
def Job.lookIn (j : Job) (item : Bool) (a n : Nat) : List Byte := if item then slice j.bytes a n else j.localAt a n

/-- Runs a look-aside request: status with KEY_USED, and the output bytes (R503–R505). -/
def lookRun (j : Job) (d : List W32) (s : State) : Nat × List Byte × State :=
  let w (k : Nat) : W32 := d.getD k 0
  let op := fld (w 0) 0 4
  let item := tst (w 0) 15
  let src := fld (w 1) 0 16
  let len := fld (w 1) 16 16
  let dst := fld (w 2) 0 16
  let aadLen := fld (w 2) 16 16
  let aux := fld (w 3) 0 16
  let tl := (tagLenOf (fld (w 0) 16 4)).getD 16
  let inLen := len + aadLen + (if op = 2 ∨ op = 4 then tl else 0)
  let outLen := if op = 1 then len + tl + 8 else if op = 2 ∨ op = 5 ∨ op = 6 then len else if op = 3 then tl else if op = 8 then 8 else 0
  let auxLen := if op = 2 then 12 else if op = 5 ∨ op = 6 then 8 else if op = 8 then 16 else 0
  let limit := if item then j.req.item.len else 2048
  let bad := decide (op = 0 ∨ op = 7 ∨ op > 8 ∨ fld (w 0) 13 2 ≠ 0 ∨ fld (w 0) 27 5 ≠ 0 ∨ fld (w 3) 16 16 ≠ 0)
    || (item && decide (op ≠ 3 ∧ op ≠ 4 ∧ op ≠ 8)) || decide (dst % 4 ≠ 0)
  if bad then (0x0D, [], s)
  else if src + inLen > limit ∨ dst + 4 + outLen > 2048 ∨ aux + auxLen > 2048 then (6, [], s)
  else
    let aad := j.lookIn item src aadLen
    let data := j.lookIn item (src + aadLen) len
    if op = 8 then
      let p := (s.bankOf j.req.item.epoch).chk (fld (w 0) 20 3)
      if !p.en then (4, [], s)
      else
        let run := p.feed (if tst (w 0) 23 then p.init else beAt (j.localAt aux 8) 0 8) data
        let v := if tst (w 0) 24 then p.final run else run
        let u := fld (w 0) 20 3
        if tst (w 0) 25 ∧ tst (w 0) 24 ∧ v ≠ beAt (j.localAt (aux + 8) 8) 0 8 % 2 ^ 64 then
          (0x0B, beBytes 8 v, raiseTo 269 [p.facet] (bump (A.chkUMismatch u) s))
        else (0, beBytes 8 v, s)
    else
      let (o, s) := runKeyed op j.req.item.facet (fld (w 0) 4 9) (fld (w 0) 16 4) (if tst (w 0) 26 then 4096 else 512)
        (beAt (j.localAt aux 8) 0 8) (j.localAt aux 12) aad data (j.lookIn item (src + aadLen + len) tl) s
      (o.status + o.keyUsed * 256, if o.status ≠ 0 then [] else if op = 1 then o.out ++ beBytes 8 o.value else o.out, s)

/-- XREQ (R245, R246): a request that the engine has answered for the tag and index gets the first answer again. -/
def latXreq (s : State) (j : Job) (w : W32) : LatRes :=
  let a := (j.reg (fRa w)).toNat
  if !(decide (a + 16 ≤ 2048 ∧ a % 4 = 0)) then .fault 4
  else if (j.looks.filter (fun l => !l.done)).length ≥ 4 then .wait
  else
    let d := (List.range 4).map (fun k => w32 (beAt (j.localAt (a + 4 * k) 4) 0 4))
    let idx := j.lookCount
    let j' := { j with looks := j.looks ++ [(⟨idx, d, false, false⟩ : LookReq)], lookCount := idx + 1 }.next
    if s.cip.answers.any (fun x => x.tag = j.tag ∧ x.idx = idx) then .run j' s
    else
      let (st, out, s) := lookRun j d s
      .run j' { s with cip := { s.cip with answers := s.cip.answers ++ [⟨j.tag, idx, st, out⟩] } }

/-- XWAIT (R236, R245). -/
def latXwait (s : State) (j : Job) (_ : W32) : LatRes :=
  if j.looks.any (fun l => !l.done) then .wait
  else .run { j with flags := { j.flags with x := j.looks.any (·.error) } }.next s

/-- LOOKASIDE_COMPLETE (R504): the status word and the output are written to local data. -/
def execLookasideComplete (c : CellNo) (x : Ctx) (idx : Nat) (s : State) : Host.Outcome State Fault Refusal :=
  ran s (only s.coreOn (fun s =>
    match s.jobAt c x with
    | none => s
    | some j =>
      match j.looks.find? (fun l => l.idx = idx ∧ l.done = false), s.cip.answers.find? (fun a => a.tag = j.tag ∧ a.idx = idx) with
      | some l, some a =>
        let dst := fld (l.desc.getD 2 0) 0 16
        let out := beBytes 4 a.status ++ a.out
        let j := if dst + out.length ≤ 2048 then j.setLocal dst out else j
        let looks := j.looks.map (fun y => if y.idx = idx then { y with done := true, error := decide (a.status % 256 ≠ 0) } else y)
        setJob c x (some { j with looks := looks }) s
      | _, _ => s) s)

/-! ## The instructions -/

/-- ADD (R237). -/
def execLatAdd (c : CellNo) (x : Ctx) (s : State) : Host.Outcome State Fault Refusal :=
  latRow 0x00 (mRd + mRa + mRb) (aluR (fun a b => a + b)) c x s

/-- SUB (R237). -/
def execLatSub (c : CellNo) (x : Ctx) (s : State) : Host.Outcome State Fault Refusal :=
  latRow 0x01 (mRd + mRa + mRb) (aluR (fun a b => a - b)) c x s

/-- AND (R237). -/
def execLatAnd (c : CellNo) (x : Ctx) (s : State) : Host.Outcome State Fault Refusal :=
  latRow 0x02 (mRd + mRa + mRb) (aluR (fun a b => a &&& b)) c x s

/-- OR (R237). -/
def execLatOr (c : CellNo) (x : Ctx) (s : State) : Host.Outcome State Fault Refusal :=
  latRow 0x03 (mRd + mRa + mRb) (aluR (fun a b => a ||| b)) c x s

/-- XOR (R237). -/
def execLatXor (c : CellNo) (x : Ctx) (s : State) : Host.Outcome State Fault Refusal :=
  latRow 0x04 (mRd + mRa + mRb) (aluR (fun a b => a ^^^ b)) c x s

/-- SHL (R237). -/
def execLatShl (c : CellNo) (x : Ctx) (s : State) : Host.Outcome State Fault Refusal :=
  latRow 0x05 (mRd + mRa + mRb) (aluR (fun a b => a <<< sh b)) c x s

/-- SHR (R237). -/
def execLatShr (c : CellNo) (x : Ctx) (s : State) : Host.Outcome State Fault Refusal :=
  latRow 0x06 (mRd + mRa + mRb) (aluR (fun a b => a >>> sh b)) c x s

/-- SAR (R237). -/
def execLatSar (c : CellNo) (x : Ctx) (s : State) : Host.Outcome State Fault Refusal :=
  latRow 0x07 (mRd + mRa + mRb) (aluR (fun a b => a.sshiftRight (sh b))) c x s

/-- MUL (R237). -/
def execLatMul (c : CellNo) (x : Ctx) (s : State) : Host.Outcome State Fault Refusal :=
  latRow 0x08 (mRd + mRa + mRb) (aluR (fun a b => a * b)) c x s

/-- CMP (R237). -/
def execLatCmp (c : CellNo) (x : Ctx) (s : State) : Host.Outcome State Fault Refusal :=
  latRow 0x09 (mRa + mRb) (fun s j w => .run { j with flags := cmpFlags j.flags (j.reg (fRa w)) (j.reg (fRb w)) }.next s) c x s

/-- SEL (R237). -/
def execLatSel (c : CellNo) (x : Ctx) (s : State) : Host.Outcome State Fault Refusal :=
  latRow 0x0A (mRd + mRa + mRb + 0xF) (fun s j w =>
    match condOf j.flags (fld w 0 4) with
    | none => .fault 1
    | some t => ret s j (fRd w) (if t then j.reg (fRa w) else j.reg (fRb w))) c x s

/-- BSWAP (R237). -/
def execLatBswap (c : CellNo) (x : Ctx) (s : State) : Host.Outcome State Fault Refusal :=
  latRow 0x0B (mRd + mRa) (aluI (fun a => w32 (beAt (leBytes 4 a.toNat) 0 4))) c x s

/-- ADDI (R237). -/
def execLatAddi (c : CellNo) (x : Ctx) (s : State) : Host.Outcome State Fault Refusal :=
  latRow 0x0C (mRd + mRa + mImm) (fun s j w => aluI (fun a => a + fSimm w) s j w) c x s

/-- ANDI (R237). -/
def execLatAndi (c : CellNo) (x : Ctx) (s : State) : Host.Outcome State Fault Refusal :=
  latRow 0x0D (mRd + mRa + mImm) (fun s j w => aluI (fun a => a &&& w32 (fImm w)) s j w) c x s

/-- ORI (R237). -/
def execLatOri (c : CellNo) (x : Ctx) (s : State) : Host.Outcome State Fault Refusal :=
  latRow 0x0E (mRd + mRa + mImm) (fun s j w => aluI (fun a => a ||| w32 (fImm w)) s j w) c x s

/-- XORI (R237). -/
def execLatXori (c : CellNo) (x : Ctx) (s : State) : Host.Outcome State Fault Refusal :=
  latRow 0x0F (mRd + mRa + mImm) (fun s j w => aluI (fun a => a ^^^ w32 (fImm w)) s j w) c x s

/-- SHLI (R237). -/
def execLatShli (c : CellNo) (x : Ctx) (s : State) : Host.Outcome State Fault Refusal :=
  latRow 0x10 (mRd + mRa + 0x1F) (fun s j w => aluI (fun a => a <<< fld w 0 5) s j w) c x s

/-- SHRI (R237). -/
def execLatShri (c : CellNo) (x : Ctx) (s : State) : Host.Outcome State Fault Refusal :=
  latRow 0x11 (mRd + mRa + 0x1F) (fun s j w => aluI (fun a => a >>> fld w 0 5) s j w) c x s

/-- SARI (R237). -/
def execLatSari (c : CellNo) (x : Ctx) (s : State) : Host.Outcome State Fault Refusal :=
  latRow 0x12 (mRd + mRa + 0x1F) (fun s j w => aluI (fun a => a.sshiftRight (fld w 0 5)) s j w) c x s

/-- CMPI (R237). -/
def execLatCmpi (c : CellNo) (x : Ctx) (s : State) : Host.Outcome State Fault Refusal :=
  latRow 0x13 (mRa + mImm) (fun s j w => .run { j with flags := cmpFlags j.flags (j.reg (fRa w)) (fSimm w) }.next s) c x s

/-- MOVI (R237). -/
def execLatMovi (c : CellNo) (x : Ctx) (s : State) : Host.Outcome State Fault Refusal :=
  latRow 0x14 (mRd + mImm) (fun s j w => ret s j (fRd w) (fSimm w)) c x s

/-- LUI (R237). -/
def execLatLui (c : CellNo) (x : Ctx) (s : State) : Host.Outcome State Fault Refusal :=
  latRow 0x15 (mRd + mImm) (fun s j w => ret s j (fRd w) (w32 (fImm w * 2 ^ 14))) c x s

/-- EXT (R237). -/
def execLatExt (c : CellNo) (x : Ctx) (s : State) : Host.Outcome State Fault Refusal :=
  latRow 0x16 (mRd + mRa + mField) (fun s j w =>
    let pos := fld w 13 5
    let len := fld w 8 5 + 1
    if pos + len > 32 then .fault 1 else ret s j (fRd w) (w32 (fld (j.reg (fRa w)) pos len))) c x s

/-- INS (R237). -/
def execLatIns (c : CellNo) (x : Ctx) (s : State) : Host.Outcome State Fault Refusal :=
  latRow 0x17 (mRd + mRa + mField) (fun s j w =>
    let pos := fld w 13 5
    let len := fld w 8 5 + 1
    if pos + len > 32 then .fault 1 else ret s j (fRd w) (setFld (j.reg (fRd w)) pos len (j.reg (fRa w)).toNat)) c x s

/-- CLZ (R237). -/
def execLatClz (c : CellNo) (x : Ctx) (s : State) : Host.Outcome State Fault Refusal :=
  latRow 0x18 (mRd + mRa) (aluI (fun a => w32 (((List.range 32).find? (fun i => tst a (31 - i))).getD 32))) c x s

/-- WSET (R237). -/
def execLatWset (c : CellNo) (x : Ctx) (s : State) : Host.Outcome State Fault Refusal :=
  latRow 0x19 (7 * 2 ^ 22 + mRa + mImm) (fun s j w =>
    let v := (j.reg (fRa w) + fSimm w).toNat
    if v > 255 then .fault 2 else .run { j with wptr := j.wptr.set! (fld w 22 3) v }.next s) c x s

/-- WGET (R237). -/
def execLatWget (c : CellNo) (x : Ctx) (s : State) : Host.Outcome State Fault Refusal :=
  latRow 0x1A (mRd + mWn) (fun s j w => ret s j (fRd w) (w32 (j.wptr[fld w 19 3]!))) c x s

/-- LDW (R237). -/
def execLatLdw (c : CellNo) (x : Ctx) (s : State) : Host.Outcome State Fault Refusal :=
  latRow 0x1B (mRd + mWn + mSize + 0xFF) (latLdw) c x s

/-- STO (R237). -/
def execLatSto (c : CellNo) (x : Ctx) (s : State) : Host.Outcome State Fault Refusal :=
  latRow 0x1C (mRd + mRa + mSize + mOff) (latSto) c x s

/-- LDO (R237). -/
def execLatLdo (c : CellNo) (x : Ctx) (s : State) : Host.Outcome State Fault Refusal :=
  latRow 0x1D (mRd + mRa + mSize + mOff) (latLdo) c x s

/-- CPY (R237). -/
def execLatCpy (c : CellNo) (x : Ctx) (s : State) : Host.Outcome State Fault Refusal :=
  latRow 0x1E (mRd + mRa + mRb) (latCpy) c x s

/-- LD (R237). -/
def execLatLd (c : CellNo) (x : Ctx) (s : State) : Host.Outcome State Fault Refusal :=
  latRow 0x1F (mRd + mRa + mSize + mOff) (latLd) c x s

/-- ST (R237). -/
def execLatSt (c : CellNo) (x : Ctx) (s : State) : Host.Outcome State Fault Refusal :=
  latRow 0x20 (mRd + mRa + mSize + mOff) (latSt) c x s

/-- LDC (R237). -/
def execLatLdc (c : CellNo) (x : Ctx) (s : State) : Host.Outcome State Fault Refusal :=
  latRow 0x21 (mRd + mRa + mSize + mOff) (latLdc) c x s

/-- SRD (R237). -/
def execLatSrd (c : CellNo) (x : Ctx) (s : State) : Host.Outcome State Fault Refusal :=
  latRow 0x22 (mRd + mSize) (latSrd) c x s

/-- SSKIP (R237). -/
def execLatSskip (c : CellNo) (x : Ctx) (s : State) : Host.Outcome State Fault Refusal :=
  latRow 0x23 (mRa) (fun s j w => seekTo s j (j.pos + (j.reg (fRa w)).toNat)) c x s

/-- SSEEK (R237). -/
def execLatSseek (c : CellNo) (x : Ctx) (s : State) : Host.Outcome State Fault Refusal :=
  latRow 0x24 (mRa) (fun s j w => seekTo s { j with cold := true } (j.reg (fRa w)).toNat) c x s

/-- SPOS (R237). -/
def execLatSpos (c : CellNo) (x : Ctx) (s : State) : Host.Outcome State Fault Refusal :=
  latRow 0x25 (mRd) (fun s j w => ret s j (fRd w) (w32 j.pos)) c x s

/-- EMIT (R237). -/
def execLatEmit (c : CellNo) (x : Ctx) (s : State) : Host.Outcome State Fault Refusal :=
  latRow 0x26 (mRa) (latEmit) c x s

/-- DONE (R237). -/
def execLatDone (c : CellNo) (x : Ctx) (s : State) : Host.Outcome State Fault Refusal :=
  latRow 0x27 (0) (fun _ _ _ => .done) c x s

/-- DROP (R237). -/
def execLatDrop (c : CellNo) (x : Ctx) (s : State) : Host.Outcome State Fault Refusal :=
  latRow 0x28 (0) (fun _ _ _ => .drop) c x s

/-- ABORT (R237). -/
def execLatAbort (c : CellNo) (x : Ctx) (s : State) : Host.Outcome State Fault Refusal :=
  latRow 0x29 (0xFF) (fun _ _ w => .abort (fld w 0 8)) c x s

/-- B (R237). -/
def execLatB (c : CellNo) (x : Ctx) (s : State) : Host.Outcome State Fault Refusal :=
  latRow 0x2A (mRd + mBoff) (fun s j w =>
    match condOf j.flags (fRd w) with
    | none => .fault 1
    | some t => if t then jumpTo s j (branchTo j w) else .run j.next s) c x s

/-- CALL (R237). -/
def execLatCall (c : CellNo) (x : Ctx) (s : State) : Host.Outcome State Fault Refusal :=
  latRow 0x2B (mBoff) (fun s j w =>
    if j.stack.length ≥ 8 then .fault 8 else jumpTo s { j with stack := (j.pc + 1) :: j.stack } (branchTo j w)) c x s

/-- RET (R237). -/
def execLatRet (c : CellNo) (x : Ctx) (s : State) : Host.Outcome State Fault Refusal :=
  latRow 0x2C (0) (fun s j _ =>
    match j.stack with
    | [] => .fault 8
    | p :: l => jumpTo s { j with stack := l } p) c x s

/-- JR (R237). -/
def execLatJr (c : CellNo) (x : Ctx) (s : State) : Host.Outcome State Fault Refusal :=
  latRow 0x2D (mRa) (fun s j w => jumpTo s j (j.reg (fRa w)).toNat) c x s

/-- DBNZ (R237). -/
def execLatDbnz (c : CellNo) (x : Ctx) (s : State) : Host.Outcome State Fault Refusal :=
  latRow 0x2E (mRd + mBoff) (fun s j w =>
    let v := j.reg (fRd w) - 1
    let j := j.setReg (fRd w) v
    if v ≠ 0 then jumpTo s j (branchTo j w) else .run j.next s) c x s

/-- XREQ (R237). -/
def execLatXreq (c : CellNo) (x : Ctx) (s : State) : Host.Outcome State Fault Refusal :=
  latRow 0x2F (mRa) (latXreq) c x s

/-- XWAIT (R237). -/
def execLatXwait (c : CellNo) (x : Ctx) (s : State) : Host.Outcome State Fault Refusal :=
  latRow 0x30 (0) (latXwait) c x s

/-- META (R237). -/
def execLatMeta (c : CellNo) (x : Ctx) (s : State) : Host.Outcome State Fault Refusal :=
  latRow 0x31 (mRd + mImm) (fun s j w =>
    match metaOf j (fImm w) with
    | none => .fault 1
    | some v => ret s j (fRd w) v) c x s

/-- RULE (R237). -/
def execLatRule (c : CellNo) (x : Ctx) (s : State) : Host.Outcome State Fault Refusal :=
  latRow 0x32 (mRd + mRa + 1) (latRule) c x s

/-- CNT (R237). -/
def execLatCnt (c : CellNo) (x : Ctx) (s : State) : Host.Outcome State Fault Refusal :=
  latRow 0x33 (mRa + 0xF) (fun s j w => .run { j with cnts := j.cnts ++ [(fld w 0 4, j.reg (fRa w))] }.next s) c x s

end Sys2Proof.Machine
end

