-- ==== Sys2Proof/Machine/Bridge.lean ====
section
/-! DEFINITION. The message bridge (R309–R328): how items match rules and submit jobs, and the rule command ports. A copy for the bridge
waits in the class queues of vertex 100; its direction is that of its item's ingress vertex. In these queues `errs` = 1 marks a copy whose
chord job has been submitted. -/

namespace Sys2Proof.Machine

/-- The head copy of a direction: the highest class first (R310). -/
def State.bridgeHead (s : State) (d : Nat) : Option (Nat × Copy) :=
  (List.range 8).reverse.findSome? (fun c => ((s.queue 100 c).find? (fun k => bridgeDir k.item.vertex = d)).map (fun k => (c, k)))

/-- Takes the head copy of a direction from its queue. -/
def takeBridge (d c : Nat) (s : State) : State :=
  let l := s.queue 100 c
  setQueue 100 c (l.eraseIdx (l.findIdx (fun k => decide (bridgeDir k.item.vertex = d)))) s

/-- The copy stays at the head of its queue with its chord job submitted. -/
def markBridge (d c : Nat) (s : State) : State :=
  let l := s.queue 100 c
  let i := l.findIdx (fun k => decide (bridgeDir k.item.vertex = d))
  match l.drop i with
  | [] => s
  | k :: _ => setQueue 100 c (l.set i { k with errs := 1 }) s

/-- Jobs of a direction that a facet may hold (R314). -/
def State.bridgeShare (s : State) (f : Nat) : Nat :=
  min (max 1 (fld (s.cfg (A.sysTagQuota f)) 0 13 / 2)) (max 1 (fld (s.cfg (A.latCtxQuota f)) 0 11 / 2))

/-- Jobs of a direction and facet that have been submitted and have not ended. -/
def State.bridgeHeld (s : State) (d f : Nat) : Nat :=
  let mine (j : JobReq) : Bool := j.bridge = some d && decide (j.item.facet = f)
  ((s.admission.map (·.2)).flatten.filter mine).length + ((s.jobs.map (·.2)).filter (fun j => mine j.req)).length
    + (s.replayQ.filter (fun j => mine j.req)).length

/-- Whether a direction may submit another job of a facet (R314). -/
def State.bridgeRoom (s : State) (d f : Nat) : Bool := decide (s.bridgeHeld d f < s.bridgeShare f)

/-- Submits a bridge job under a rule (R313–R315). The job holds input cells of its own; its outputs leave through the lane of the original
item, those of the chord (index 1) before those of the tangent (index 2). -/
def bridgeSubmit (d : Nat) (i : Item) (n : Nat) (tangent : Bool) (r : RuleRec) (seq : Nat) (s : State) : State :=
  let src := s.nextId
  let idx := if tangent then 2 else 1
  let s := enterLane ⟨i, idx, 1, []⟩ (hold i 1 s)
  let j : JobReq := ⟨i, src, fld (r.words.getD 2 0) 0 12, some (n, tangent), some d, seq, s.now, laneKey i, idx⟩
  { s with admission := SMap.upd [] s.admission i.facet (fun l => l ++ [j]) }

/-- Whether a rule's ingress condition holds (R317). -/
def RuleRec.inOk (r : RuleRec) (v : Nat) : Bool := let w := r.words.getD 2 0; tst w 30 || decide (fld w 23 7 = v)

/-- Whether a rule matches a BUS item (R310, R317): VALID, its ingress, FORMAT, and the masked identifier. -/
def RuleRec.busMatch (r : RuleRec) (i : Item) : Bool :=
  r.valid && r.inOk i.vertex && decide (fld (r.words.getD 0 0) 30 2 = byteAt i.data 0 / 64) && idMatches r.words (beAt i.data 0 4 % 2 ^ 29)

/-- The lowest-numbered rule of a store with a property. -/
def firstRule (m : SMap (Option RuleRec)) (p : RuleRec → Bool) : Option (Nat × RuleRec) :=
  m.findSome? (fun q => match q.2 with
    | none => none
    | some r => if p r then some (q.1, r) else none)

/-- DIR and FMT of a tangent record (R318). -/
def RuleRec.unwraps (r : RuleRec) : Bool := tst (r.words.getD 2 0) 22
/-- FMT: Octiq. -/
def RuleRec.octiq (r : RuleRec) : Bool := tst (r.words.getD 2 0) 21

/-- Counts a job submitted for a tangent (BRG_T_FRAMES, saturating). -/
def tanFrames (n : Nat) (s : State) : State :=
  { s with bridge := { s.bridge with tFrames := SMap.upd 0 s.bridge.tFrames n (fun x => min (x + 1) 0xFFFFFFFF) } }

/-- Submits a WRAP tangent's job with its next sequence number (R313). -/
def wrapSubmit (i : Item) (n : Nat) (r : RuleRec) (s : State) : State :=
  let q := SMap.get 0 s.bridge.wrapSeq n
  let s : State := { s with bridge := { s.bridge with wrapSeq := SMap.put 0 s.bridge.wrapSeq n ((q + 1) % 65536) } }
  bridgeSubmit 0 i n true r q (tanFrames n s)

/-- The copy has done its work at the bridge: its queue cells are free. -/
def bridgeDone (d c : Nat) (k : Copy) (s : State) : State := freeCopy k (takeBridge d c s)

/-- Drops a copy at the bridge. -/
def bridgeDrop (d c reason : Nat) (k : Copy) (s : State) : State := dropReserved reason true k (takeBridge d c s)

/-- BRIDGE_BUS_MATCH (R310, R314): chord first, then tangent; each waits for its share at the head of the queue. -/
def execBridgeBusMatch (s : State) : Host.Outcome State Fault Refusal :=
  ran s (only s.coreOn (fun s =>
    match s.bridgeHead 0 with
    | none => s
    | some (c, k) =>
      let b := s.bankOf k.item.epoch
      let i := k.item
      let chord := firstRule b.chords (fun r => r.busMatch i)
      let tan := firstRule b.tangents (fun r => r.busMatch i && !r.unwraps)
      let tangent (s : State) : State := match tan with
        | none => bridgeDone 0 c k s
        | some (n, r) => if s.bridgeRoom 0 i.facet then bridgeDone 0 c k (wrapSubmit i n r s) else s
      match chord with
      | none => if tan.isNone then raise 244 (bump A.brgNoRule (bridgeDrop 0 c 0x10 k s)) else tangent s
      | some (n, r) =>
        if k.errs = 1 then tangent s
        else if !s.bridgeRoom 0 i.facet then s
        else tangent (markBridge 0 c (bridgeSubmit 0 i n false r 0 s))) s)

/-- A NET item read as a tunnel frame (R311): whether it is Octiq, its stream or key, its sequence number. -/
structure Tunnel where
  octiq : Bool
  stream : Nat
  seq : Nat
  deriving DecidableEq, Repr

/-- Parses a NET item (R311); none when it is malformed. -/
def tunnelOf (i : Item) : Option Tunnel :=
  let d := i.data
  let o := tunnelOff d
  let et := beAt d (o - 2) 2
  let sub := byteAt d o
  if i.len > 2304 then none
  else if et = 0x22F0 ∧ sub = 0x82 then if d.length < o + 12 then none else some ⟨false, beAt d (o + 4) 8, byteAt d (o + 3)⟩
  else if et = 0x22F0 ∧ sub = 0x05 then if d.length < o + 24 then none else some ⟨false, beAt d (o + 4) 8, byteAt d (o + 2)⟩
  else if et = 0x88B6 then if d.length < o + 40 then none else some ⟨true, beAt d (o + 4) 4, beAt d (o + 2) 2⟩
  else none

/-- Whether an UNWRAP tangent matches a tunnel frame (R311). -/
def RuleRec.netMatch (r : RuleRec) (v : Nat) (t : Tunnel) : Bool :=
  r.valid && r.unwraps && (r.octiq == t.octiq) && r.inOk v
    && decide ((if t.octiq then tanStream r.words % 2 ^ 32 else tanStream r.words) = t.stream)

/-- The sequence check of a matched item (R312). -/
def seqCheck (n : Nat) (t : Tunnel) (s : State) : State :=
  let m := if t.octiq then 65536 else 256
  let gap := match SMap.get none s.bridge.rxSeq n with
    | none => false
    | some q => decide (t.seq ≠ (q + 1) % m)
  let s : State := { s with bridge := { s.bridge with rxSeq := SMap.put none s.bridge.rxSeq n (some t.seq) } }
  if gap then
    let s : State := { s with bridge := { s.bridge with tGap := SMap.upd 0 s.bridge.tGap n (fun x => min (x + 1) 0xFFFFFFFF) } }
    raise 245 (bump A.brgSeqGap s)
  else s

/-- BRIDGE_NET_MATCH (R311, R312, R314). -/
def execBridgeNetMatch (s : State) : Host.Outcome State Fault Refusal :=
  ran s (only s.coreOn (fun s =>
    match s.bridgeHead 1 with
    | none => s
    | some (c, k) =>
      let i := k.item
      match tunnelOf i with
      | none => raise 245 (bump A.brgMalformed (bridgeDrop 1 c 0x12 k s))
      | some t =>
        match firstRule (s.bankOf i.epoch).tangents (fun r => r.netMatch i.vertex t) with
        | none => raise 244 (bump A.brgNoRule (bridgeDrop 1 c 0x10 k s))
        | some (n, r) =>
          if !s.bridgeRoom 1 i.facet then s
          else bridgeDone 1 c k (bridgeSubmit 1 i n true r 0 (tanFrames n (seqCheck n t s)))) s)

/-! ## Rule commands (R325–R328) -/

/-- The record in the registers of a rule port. -/
def State.portRule (s : State) (p : Nat) : List W32 := (List.range 8).map (fun k => s.reg (A.brgRcmdRec p k))

/-- Whether a record sets no reserved bit (R317, R318). -/
def ruleOk (tangent : Bool) (w : List W32) : Bool :=
  let z (k lo n : Nat) : Bool := decide (fld (w.getD k 0) lo n = 0)
  z 0 29 1 && (if tangent then z 7 30 2 else z 2 16 7 && z 3 29 1 && z 4 30 2 && z 4 12 2)

/-- The rule store of a bank. -/
def Bank.rules (b : Bank) (tangent : Bool) : SMap (Option RuleRec) := if tangent then b.tangents else b.chords

/-- Sets a rule of a bank. -/
def Bank.setRule (b : Bank) (tangent : Bool) (n : Nat) (r : Option RuleRec) : Bank :=
  if tangent then { b with tangents := SMap.put none b.tangents n r } else { b with chords := SMap.put none b.chords n r }

/-- OWNER of a rule. -/
def RuleRec.owner (r : RuleRec) : Nat := fld (r.words.getD 2 0) 12 4

/-- A record as WRITE stores it (R317, R318, R326): OWNER is the writer, SEQ of a tangent is zero. -/
def ruleStored (f p : Nat) (tangent : Bool) (w : List W32) : RuleRec :=
  let w := w.set 2 (setFld (w.getD 2 0) 12 4 f)
  ⟨if tangent then w.set 7 (setFld (w.getD 7 0) 0 16 0) else w, p⟩

/-- The effect of a rule command with its outcome (R325–R327). -/
def ruleRun (f p code : Nat) (tangent live : Bool) (s : State) : PortCmd × State :=
  let n := fld (s.reg (A.brgRcmdIndex p)) 0 13
  let res (r : Nat) : PortCmd := cmdEnd f code r
  let mine (r : Option RuleRec) : Bool := match r with
    | none => true
    | some r => decide (f = 0 ∨ r.owner = f)
  if code = 0 ∨ code > 3 ∨ n ≥ (if tangent then 4096 else 8192) then (res 7, s)
  else if code = 1 then
    match SMap.get none ((s.cmdBank live).rules tangent) n with
    | none => ({ res 0 with key := some (List.replicate 8 0) }, s)
    | some r => (if f = 0 ∨ r.owner = f then { res 0 with key := some r.words } else res 1, s)
  else if live then (res 0x0A, s)
  else if s.armed then (res 5, s)
  else
    let old := SMap.get none (s.staging.rules tangent) n
    if code = 3 then
      if mine old then (res 0, setStaging (s.staging.setRule tangent n none) s) else (res 4, s)
    else
      let w := s.portRule p
      let w2 := w.getD 2 0
      if !ruleOk tangent w then (res 7, s)
      else if !mine old ∨ (f ≠ 0 ∧ (tst w2 30 ∨ s.bound (fld w2 23 7) ≠ f)) then (res 4, s)
      else
        let r := ruleStored f p tangent w
        let r := if r.words.all (fun x => decide (x = 0)) then none else some r
        (res 0, setStaging (s.staging.setRule tangent n r) s)

/-- A write of BRG_RCMDp_OP by the holder of the port (R208, R325). -/
def ruleOpWritten (f p : Nat) (v : W32) (s : State) : Rsp × State :=
  if (s.cmd (4 + p)).isSome then (.busy, s)
  else if !s.tagOk f then (.ok, endCmdNow (4 + p) f 8 (tagWait f s))
  else
    let (c, s) := ruleRun f p (fld v 0 4) (tst v 5) (tst v 4) s
    (.ok, startCmd (4 + p) { c with code := fld v 0 6 } s)

/-- RULE_COMMAND_COMPLETE (R328). -/
def execRuleCommandComplete (p : Fin 2) (s : State) : Host.Outcome State Fault Refusal :=
  ran s (only s.coreOn (completeCmd (4 + p.val)) s)

/-- RULE_PORT_LEASE_EXPIRY (R325). -/
def execRulePortLeaseExpiry (p : Fin 2) (s : State) : Host.Outcome State Fault Refusal :=
  ran s (only s.on (expireLock (portLock (4 + p.val))) s)

/-- What a commit does to the bridge (R312, R313): the sequence state of a changed tangent starts anew. -/
def bridgeCommit (old : Bank) (s : State) : State :=
  let changed (n : Nat) : Bool := decide ((SMap.get none old.tangents n).map (·.words) ≠ (SMap.get none s.live.tangents n).map (·.words))
  { s with bridge := { s.bridge with wrapSeq := s.bridge.wrapSeq.filter (fun p => !changed p.1),
                                     rxSeq := s.bridge.rxSeq.filter (fun p => !changed p.1) } }

/-- BRG_STATUS (R333). -/
def State.brgStatus (s : State) : W32 := w32 (bit s.epoch.copyRules + 2 * bit s.brgCompare)

end Sys2Proof.Machine
end

