-- ==== Sys2Proof/Machine/Perimeter.lean ====
section
/-! DEFINITION. The perimeter messages and notices that the management processor sends (R538). -/

namespace Sys2Proof.Machine

/-- The class of the device's own control frames (R432). -/
def State.octTc (s : State) : Nat := fld (s.cfg A.sysOctTc) 0 3

/-- The vertex of a member. -/
def State.pmVertex (s : State) (m : Nat) : Nat := fld (s.cfg (A.wakPmCtrl m)) 1 7

/-- The address of a member. -/
def State.pmMac (s : State) (m : Nat) : List Byte := macOf (s.cfg (A.wakPmMacLo m)) (s.cfg (A.wakPmMacHi m))

/-- The enabled members. -/
def State.pmEnabled (s : State) : List Nat := (List.range 32).filter (fun m => tst (s.cfg (A.wakPmCtrl m)) 0)

/-- A perimeter message to a member (R538): TYPE 1 TOKEN, 3 SLEEP_NOTICE, 4 WAKE_NOTICE. -/
def State.pmBytes (s : State) (typ m : Nat) : List Byte :=
  ethFrame (s.pmMac m) (s.station (s.pmVertex m)) none 0x88B5
    (beBytes 1 0x50 ++ beBytes 1 1 ++ beBytes 1 typ ++ beBytes 1 (m % 32) ++ beBytes 4 (s.reg A.wakRound).toNat
      ++ beBytes 4 (maskOf 32 s.wake.consent) ++ beBytes 4 (maskOf 32 s.wake.keep) ++ beBytes 8 s.peerId ++ beBytes 8 0)

/-- Sends a perimeter message as an item of vertex 96 (R538). -/
def pmSend (typ m : Nat) (s : State) : State := sendMessage 96 (s.pmVertex m) s.octTc (s.pmBytes typ m) s

/-- Sends a notice to every member of a list. -/
def pmNotices (typ : Nat) (ms : List Nat) (s : State) : State := ms.foldl (fun s m => pmSend typ m s) s

/-- The WAKE_NOTICEs that wait for a vertex to be UP (R547). -/
def noticesDue (v : Nat) (s : State) : State :=
  let ms := s.wake.noticeDue.filter (fun m => s.pmVertex m = v)
  if ms = [] then s
  else pmNotices 4 ms { s with wake := { s.wake with noticeDue := s.wake.noticeDue.filter (fun m => s.pmVertex m ≠ v) } }

end Sys2Proof.Machine
end

