-- ==== Sys2Proof/Machine/Ethernet.lean ====
section
/-! DEFINITION. Links of the Ethernet vertices (R336–R357): backbone lanes, single-pair PHYs, 10BASE-T1S segments; flow control on the
sending side (R370–R372); the status registers of an Ethernet page. -/

namespace Sys2Proof.Machine

/-! ## Links (R344, R349, R357) -/

/-- Whether a lane of a bonded port reports what its place demands (R344). -/
def State.laneAgrees (s : State) (l : Nat) : Bool :=
  let p := s.live.portOf l
  let x := s.lane l
  decide (s.live.portWidth l = 1)
    || (decide (x.lanePos = l - p ∧ x.width = s.live.widthCode l) && decide (x.peerId = (s.lane p).peerId))

/-- Whether the port of lane `v` may be UP (R344): every lane UP and agreeing, the skew of a bonded port within five codewords (R343). -/
def State.portReady (s : State) (v : Nat) : Bool :=
  (s.live.lanesOf v).all (fun l => decide ((s.lane l).st = .up) && s.laneAgrees l
    && decide (s.live.portWidth l = 1 ∨ (s.lane l).skew * 112 ≤ 27200))

/-- A frame that leaves a vertex unfinished (R357): it is lost and counted, its cells are free, and its FATE record carries a reason that the
spec does not name (a free value: log entry 45). -/
def abortTx (v : Nat) (s : State) : State :=
  let o := s.out v
  let lose (f : Option TxFrame) (s : State) : State := match f with
    | none => s
    | some f => ethCount v 15 1 (freeCopy f.copy (unnamedFate f.copy s))
  setOut v { s.out v with tx := none, suspended := none, busyUntil := s.now } (lose o.suspended (lose o.tx s))

/-- A vertex's link leaves UP (R205, R357): the frame in transmission is lost, pause ends, dynamic entries are flushed; a frame
between two attempts (R356) goes back to its queue. `medium` says
that the medium was lost, which writes a fault record (R61). -/
def linkLost (v : Nat) (medium : Bool) (s : State) : State :=
  let e := s.ethSt v
  if !e.linkUp then s
  else
    let waits := if (s.out v).tx.isNone then e.contending else none
    let s := abortTx v s
    let s := match waits with
      | some c => setQueue v c.tc (c :: s.queue v c.tc) s
      | none => s
    let s := setOut v { s.out v with preempt := .disabled } s
    let s := setEth v { s.ethSt v with linkUp := false, rate := 0, phy := if v < 8 then e.phy else .down, phyRate := 0, fails := 0,
                                       downshift := 0, plcaActive := false, attempts := 0, backoffUntil := 0, contending := none,
                                       pauseUntil := [], pausedSince := [], releaseUntil := [] } s
    let s := raiseEth v 1 (ethCount v 30 1 s)
    let s := if medium then fault (ethPage v) 0x10F v s else s
    if pair (s.cfg A.tblFlushDownLo) (s.cfg A.tblFlushDownHi) / 2 ^ v % 2 = 1 then flushVertex v s else s

/-- Whether the verify protocol runs at a vertex under a bank (R153). -/
def Bank.verifies (b : Bank) (v : Nat) : Bool :=
  let m := b.regs.read (selKey A.qMode v)
  decide (v < 24) && tst m 3 && !tst m 4

/-- A vertex's link reaches UP. -/
def linkGained (v rate : Nat) (s : State) : State :=
  let s := setOut v { s.out v with preempt := if s.live.verifies v then .verifying else .disabled } s
  noticesDue v (raiseEth v 0 (setEth v { s.ethSt v with linkUp := true, rate := rate } s))

/-! ## Rates of a PHY (R349, R383) -/

/-- Mbit/s of a RATES bit. -/
def rateOf (b : Nat) : Nat :=
  if b = 3 then 100 else if b = 4 then 1000 else if b = 5 then 2500 else if b = 6 then 5000 else if b = 7 then 10000 else 25000

/-- RATES bits of a vertex's PHY that are enabled, highest first. -/
def State.phyRates (s : State) (v : Nat) : List Nat := [8, 7, 6, 5, 4, 3].filter (fun b => tst (s.cfg (A.ethPhyCtrl v)) b)

/-- The bits that a PHY tries now: those that downshift has left (R349). -/
def State.phyTries (s : State) (v : Nat) : List Nat := (s.phyRates v).drop (s.ethSt v).downshift

/-- Whether the PHY of a vertex is enabled. -/
def State.phyOn (s : State) (v : Nat) : Bool :=
  s.physOn v && tst (s.cfg (A.ethPhyCtrl v)) 0 && decide ((s.ethSt v).phy ≠ .sleep)

/-- LINK_UP (R344, R349): a port whose lanes agree, or a PHY, reaches UP. `rate` is the rate in Mbit/s that the PHY and its partner found,
`master` the role that auto-negotiation gave. -/
def execLinkUp (v : EthV) (rate : Nat) (master : Bool) (sqi : Fin 8) (polInv : Bool) (s : State) : Host.Outcome State Fault Refusal :=
  let e := s.ethSt v
  let c := s.cfg (A.ethPhyCtrl v)
  let set (bitNo : Nat) (s : State) : State :=
    setEth v { s.ethSt v with phy := .up, phyRate := bitNo, master := if tst c 1 then master else tst c 2, sqi := sqi.val,
                              polInv := polInv, fails := 0 } s
  ran s (only (s.on && !e.linkUp) (fun s =>
    if v.val < 8 then
      only (s.physOn v && !s.live.member v && s.portReady v) (linkGained v (100000 * s.live.portWidth v)) s
    else if v.val < 40 then
      match (s.phyTries v).find? (fun b => rateOf b = rate) with
      | none => s
      | some b => only (s.phyOn v && (tst c 1 || (s.phyTries v).head? = some b)) (fun s => linkGained v rate (set b s)) s
    else only (s.phyOn v) (fun s => linkGained v 10 (set 0 s)) s) s)

/-- LINK_DOWN (R357). A lane that loses its signal trains again. -/
def execLinkDown (v : EthV) (s : State) : Host.Outcome State Fault Refusal :=
  ran s (only (s.on && (s.ethSt v).linkUp) (fun s =>
    let s := linkLost v true s
    if v.val < 8 then setLane v { s.lane v with st := .down, good := 0, bad := 0, lastCwc := none } s else s) s)

/-- PHY_LINK_ATTEMPT_FAIL (R349). -/
def execPhyLinkAttemptFail (v : EthV) (s : State) : Host.Outcome State Fault Refusal :=
  let d := fld (s.cfg (A.ethPhyCtrl v)) 9 3
  ran s (only (s.on && decide (8 ≤ v.val ∧ v.val < 40) && s.phyOn v && !(s.ethSt v).linkUp) (fun s =>
    let e := s.ethSt v
    let n := e.fails + 1
    if d ≠ 0 ∧ n ≥ d then
      if e.downshift + 1 < (s.phyRates v).length then
        raiseEth v 2 (setEth v { e with fails := 0, downshift := e.downshift + 1, phy := .training } s)
      else setEth v { e with fails := 0, phy := .training } s
    else setEth v { e with fails := n, phy := .training } s) s)

/-! ## Lanes (R339–R347) -/

/-- LANE_TRAINING (R340): a signal starts the training of an enabled lane; a training that is done changes over to codewords. -/
def execLaneTraining (l : LaneNo) (done : Bool) (s : State) : Host.Outcome State Fault Refusal :=
  let x := s.lane l
  ran s (only (s.on && s.laneOn l) (fun s =>
    if done then
      only (decide (x.st = .training)) (setLane l { x with st := .locking, good := 0, bad := 0, cwcMiss := 0, lastCwc := none }) s
    else only (decide (x.st = .down ∨ x.st = .disabled) && !x.silent) (setLane l { x with st := .training, since := s.now }) s) s)

/-- LANE_TRAINING_TIMEOUT (R340): 100 ms of training have not completed it. -/
def execLaneTrainingTimeout (l : LaneNo) (s : State) : Host.Outcome State Fault Refusal :=
  let x := s.lane l
  ran s (only (s.on && decide (x.st = .training ∧ x.since + 100000000 ≤ s.now)) (fun s =>
    raiseEth l 2 (setLane l { x with st := .down, silent := true, since := s.now, attempts := min (x.attempts + 1) 255 } s)) s)

/-- LANE_SILENCE_END (R340): after 10 ms of silence the lane trains again. -/
def execLaneSilenceEnd (l : LaneNo) (s : State) : Host.Outcome State Fault Refusal :=
  let x := s.lane l
  ran s (only (s.on && s.laneOn l && x.silent && decide (x.since + 10000000 ≤ s.now))
    (setLane l { x with st := .training, silent := false, since := s.now }) s)

/-- A lane loses codeword lock (R339, R345): its port goes down at once. -/
def lockLost (l : Nat) (s : State) : State :=
  let x := s.lane l
  linkLost (s.live.portOf l) true (setLane l { x with st := .locking, good := 0, bad := 0, cwcMiss := 0, lastCwc := none } s)

/-- What a lane takes from a control block (R338, R344). -/
def LaneSt.heard (x : LaneSt) (b : Lcb) (skew : Nat) : LaneSt :=
  { x with remoteFault := b.remoteFault, localFault := b.localFault, peerId := b.peerId, lanePos := b.lane, width := b.width, skew := skew,
           lastCwc := some b.cwc }

/-- A codeword that decodes (R339): lock is gained after four whose CWC rises by one, lost after four that do not follow. A bonded port whose
lanes no longer agree, or whose skew leaves R343, goes down (R344). -/
def goodCodeword (l : Nat) (w : Codeword) (s : State) : State :=
  let x := s.lane l
  let b := Lcb.ofBytes w.lcb
  let follows := match x.lastCwc with
    | none => false
    | some c => decide (b.cwc = c + 1)
  let y := { x.heard b w.skew.toNat with bad := 0, corrWin := x.corrWin + w.corrected.val }
  let y := if x.st = .up then { y with cwcMiss := if follows then 0 else x.cwcMiss + 1 }
    else { y with good := if follows then x.good + 1 else 1 }
  let s := setLane l y s
  let wrong := !s.laneAgrees l
  let s := if wrong ∧ !x.miswired then raiseEth l 5 s else s
  let s := setLane l { s.lane l with miswired := wrong } s
  if x.st = .up then
    if y.cwcMiss ≥ 4 then lockLost l s
    else if !s.portReady (s.live.portOf l) then linkLost (s.live.portOf l) true s
    else s
  else if y.good ≥ 4 then setLane l { s.lane l with st := .up, good := 0, cwcMiss := 0 } s
  else s

/-- An uncorrectable codeword (R339, R346): eight in a row lose the lock. -/
def badCodeword (l : Nat) (s : State) : State :=
  let x := s.lane l
  let s := raiseEth l 4 (fecCount l 2 1 s)
  let s := setLane l { s.lane l with good := 0, bad := x.bad + 1 } s
  if x.st = .up ∧ x.bad + 1 ≥ 8 then lockLost l s else s

/-- CODEWORD_RECEIVE (R339, R346, R385). -/
def execCodewordReceive (l : LaneNo) (w : Codeword) (s : State) : Host.Outcome State Fault Refusal :=
  let x := s.lane l
  ran s (only (s.on && s.laneOn l && decide (x.st = .locking ∨ x.st = .up)) (fun s =>
    let s := fecCount l 0 1 s
    if w.uncorrectable then badCodeword l s
    else
      let s := fecCount l (4 + w.corrected.val) 1 (fecCount l 3 w.corrected.val s)
      goodCodeword l w (if w.corrected.val > 0 then fecCount l 1 1 s else s)) s)

/-- DEGRADE_WINDOW (R347). -/
def execDegradeWindow (l : LaneNo) (s : State) : Host.Outcome State Fault Refusal :=
  let x := s.lane l
  let t := (s.reg (A.ethLaneDegThresh l)).toNat
  ran s (only (s.on && s.laneOn l && decide (x.winStart + 10000000 ≤ s.now)) (fun s =>
    let d := if x.corrWin > t then true else if x.corrWin * 2 < t then false else x.degraded
    let s := setLane l { x with degraded := d, corrWin := 0, winStart := s.now } s
    if d ≠ x.degraded then raiseEth l 3 s else s) s)

/-! ## 10BASE-T1S segments (R351–R356) -/

/-- Whether PLCA is enabled on an S vertex. -/
def State.plcaOn (s : State) (v : Nat) : Bool := decide (40 ≤ v) && s.phyOn v && tst (s.cfg (A.ethPlcaCtrl v)) 0

/-- PLCA_BEACON (R351, R352): the coordinator sends it, a follower sees it and returns to PLCA. -/
def execPlcaBeacon (v : EthV) (s : State) : Host.Outcome State Fault Refusal :=
  ran s (only (s.on && s.plcaOn v) (fun s =>
    let e := s.ethSt v
    let s := setEth v { e with lastBeacon := s.now, plcaActive := true, fallback := false } s
    if e.fallback then raiseEth v 7 s else s) s)

/-- PLCA_BEACON_TIMEOUT (R352): a follower sees no beacon for 4,000 bit times, 400 µs. -/
def execPlcaBeaconTimeout (v : EthV) (s : State) : Host.Outcome State Fault Refusal :=
  let e := s.ethSt v
  ran s (only (s.on && s.plcaOn v && decide (fld (s.cfg (A.ethPlcaCtrl v)) 1 3 ≠ 0) && !e.fallback && decide (e.lastBeacon + 400000 ≤ s.now))
    (fun s => raiseEth v 7 (setEth v { e with fallback := true, plcaActive := false } s)) s)

/-- The next attempt of the frame that collided (R353, R354), or a new frame. -/
def attempt (v : Nat) (s : State) : State :=
  match (s.ethSt v).contending with
  | some c => if (s.out v).tx.isSome then s else startTx v c c.late s
  | none => opportunity v s

/-- PLCA_TRANSMIT_OPPORTUNITY (R351, R354). -/
def execPlcaTransmitOpportunity (v : EthV) (s : State) : Host.Outcome State Fault Refusal :=
  ran s (only (s.coreOn && decide (40 ≤ v.val)) (fun s =>
    let s := finishTx v s
    only ((s.ethSt v).plcaActive && s.mayStart v && (s.out v).tx.isNone) (attempt v) s) s)

/-- COLLISION (R353, R354, R356): the attempt in progress ends; after the sixteenth the frame is dropped. `slots` is the number that the
back-off draws, below 2^min(attempts, 10). -/
def execCollision (v : EthV) (late : Bool) (slots : Nat) (s : State) : Host.Outcome State Fault Refusal :=
  let e := s.ethSt v
  ran s (only (s.coreOn && decide (40 ≤ v.val)) (fun s =>
    match (s.out v).tx with
    | none => s
    | some f =>
      let n := e.attempts + 1
      let s := setOut v { s.out v with tx := none, busyUntil := s.now } s
      let s := ethCount v (if e.plcaActive then 22 else 18) 1 (if late then ethCount v 19 1 s else s)
      if n ≥ 16 then
        raiseEth v 11 (ethCount v 20 1 (dropReserved 0x1F true f.copy (setEth v { e with attempts := 0, contending := none } s)))
      else
        setEth v { e with attempts := n, contending := some f.copy, backoffUntil := s.now + slots % 2 ^ min n 10 * 51200 } s) s)

/-- BACKOFF_EXPIRY (R353). -/
def execBackoffExpiry (v : EthV) (s : State) : Host.Outcome State Fault Refusal :=
  let e := s.ethSt v
  ran s (only (s.coreOn && decide (40 ≤ v.val) && !e.plcaActive && e.contending.isSome && decide (e.backoffUntil ≤ s.now) && s.mayStart v
    && (s.out v).tx.isNone) (attempt v) s)

/-! ## Flow control (R370–R372) -/

/-- PAUSE_FRAME_RECEIVE (R359, R370): a pause frame is a MAC control frame of 64 bytes to the group address. -/
def execPauseFrameReceive (v : EthV) (pfc : Bool) (quanta : List (Option Nat)) (s : State) : Host.Outcome State Fault Refusal :=
  ran s (only (s.on && s.macOn v && (s.ethSt v).linkUp) (fun s =>
    pauseReceived v pfc quanta (ethCount v 9 1 (ethCount v 2 1 (ethCount v 1 1 (ethCount v 0 64 s))))) s)

/-- PAUSE_EXPIRY (R370). -/
def execPauseExpiry (v : EthV) (c : Fin 8) (s : State) : Host.Outcome State Fault Refusal :=
  let e := s.ethSt v
  let t := SMap.get 0 e.pauseUntil c
  ran s (only (decide (t ≠ 0 ∧ t ≤ s.now)) (fun s =>
    setEth v { e with pauseUntil := SMap.put 0 e.pauseUntil c 0, pausedSince := SMap.put 0 e.pausedSince c 0 } s) s)

/-- WDOG and RELEASE of a vertex in ns. -/
def State.wdogNs (s : State) (v : Nat) : Nat × Nat :=
  let t := s.cfg (A.ethFcTimers v)
  (fld t 16 8 * 100000, fld t 24 8 * 100000)

/-- PAUSE_WATCHDOG (R371): a class has been paused without a break for WDOG. -/
def execPauseWatchdog (v : EthV) (c : Fin 8) (s : State) : Host.Outcome State Fault Refusal :=
  let e := s.ethSt v
  let (wdog, release) := s.wdogNs v
  ran s (only (s.on && s.paused v c && decide (SMap.get 0 e.pausedSince c + wdog ≤ s.now)) (fun s =>
    raiseEth v 6 (ethCount v 17 1 (setEth v { e with releaseUntil := SMap.put 0 e.releaseUntil c (s.now + release) } s))) s)

/-- PAUSE_RELEASE_END (R371): pause is honoured again, and a pause that still runs counts from now. -/
def execPauseReleaseEnd (v : EthV) (c : Fin 8) (s : State) : Host.Outcome State Fault Refusal :=
  let e := s.ethSt v
  let t := SMap.get 0 e.releaseUntil c
  ran s (only (decide (t ≠ 0 ∧ t ≤ s.now)) (fun s =>
    let since := if SMap.get 0 e.pauseUntil c > s.now then SMap.put 0 e.pausedSince c s.now else e.pausedSince
    setEth v { e with releaseUntil := SMap.put 0 e.releaseUntil c 0, pausedSince := since } s) s)

/-- The pause or PFC frame of a vertex (R372): QUANTA, or 0. -/
def State.pauseFrame (s : State) (v : Nat) (on : Bool) : List Byte :=
  let q := if on then fld (s.cfg (A.ethFcTimers v)) 0 16 else 0
  let c := s.cfg (A.ethFcCtrl v)
  let m := fld c 8 8
  let head := ([0x01, 0x80, 0xC2, 0, 0, 0x01] : List Byte) ++ s.station v ++ beBytes 2 0x8808
  if fld c 2 2 = 2 then
    padTo 60 (head ++ beBytes 2 0x0101 ++ beBytes 2 m ++ ((List.range 8).map (fun p => beBytes 2 (if m / 2 ^ p % 2 = 1 then q else 0))).flatten)
  else padTo 60 (head ++ beBytes 2 1 ++ beBytes 2 q)

/-- The pause frame that a vertex owes: one with QUANTA, one with quanta 0 once Q_IN_USE is below XON (R372). -/
def State.pauseOwed (s : State) (v : Nat) : Option Bool :=
  let e := s.ethSt v
  let use := (s.reg (inUseKey v)).toNat
  if e.pausePend = some true then some true
  else if e.xoff ∧ use < fld (s.cfg (A.ethFcXon v)) 0 18 then some false
  else if !e.xoff ∧ use ≥ fld (s.cfg (A.ethFcXoff v)) 0 18 then some true
  else none

/-- PAUSE_FRAME_SEND (R372): at a frame boundary the frame goes ahead of every class; a preemptable frame in transmission yields to it at a
fragment boundary, and it goes once the medium is free. -/
def execPauseFrameSend (v : EthV) (s : State) : Host.Outcome State Fault Refusal :=
  ran s (only (s.coreOn && decide (v.val < 40 ∧ fld (s.cfg (A.ethFcCtrl v)) 2 2 ≠ 0) && s.macOn v && (s.ethSt v).linkUp) (fun s =>
    let s := finishTx v s
    match s.pauseOwed v with
    | none => s
    | some on =>
      let o := s.out v
      let rate := s.macRate v
      if o.tx.isSome then (cutPiece v s).getD s
      else if s.now < o.busyUntil then s
      else
        let d := s.pauseFrame v on
        let s := setOut v { o with busyUntil := s.now + wireTime (d.length + 24) rate } s
        let s := setEth v { s.ethSt v with pausePend := none, xoff := on, xoffAt := s.now } s
        emit v d false s.ns (ethCount v 14 1 (countTx v d s))) s)

/-- PAUSE_REFRESH (R372): half the quanta of the last pause frame has elapsed with Q_IN_USE at or above XON. -/
def execPauseRefresh (v : EthV) (s : State) : Host.Outcome State Fault Refusal :=
  let e := s.ethSt v
  let half := fld (s.cfg (A.ethFcTimers v)) 0 16 * 256000 / max 1 (s.macRate v)
  ran s (only (s.coreOn && e.xoff && e.linkUp && decide (e.xoffAt + half ≤ s.now)
      && decide ((s.reg (inUseKey v)).toNat ≥ fld (s.cfg (A.ethFcXon v)) 0 18))
    (setEth v { e with pausePend := some true }) s)

/-- A write of ETH_SEC_TX_AN (R378). -/
def secTxAnWritten (v : Nat) (an : W32) (s : State) : State :=
  setEth v { s.ethSt v with anPend := some (fld an 0 2) } (setReg (A.ethSecTxAn v) (an &&& 3) s)

/-! ## Commits -/

/-- A commit starts the verify protocol on a link that is up, or ends its use (R153). -/
def verifyCommit (old : Bank) (v : Nat) (s : State) : State :=
  if (s.ethSt v).linkUp ∧ old.verifies v ≠ s.live.verifies v then
    setOut v { s.out v with preempt := if s.live.verifies v then .verifying else .disabled } s
  else s

/-- A commit that sets or clears ETH_PLCA_CTRL.EN (R352): a follower counts its beacon wait from here, and a vertex whose PLCA is switched off
is in no PLCA state. -/
def plcaCommit (old : Bank) (v : Nat) (s : State) : State :=
  let key := A.ethPlcaCtrl v
  let was := tst (old.regs.read key) 0
  let is := tst (s.live.regs.read key) 0
  if was = is then s
  else setEth v { s.ethSt v with lastBeacon := if is then s.now else (s.ethSt v).lastBeacon, plcaActive := false, fallback := false } s

/-- What a commit does to the links: a lane or PHY that is disabled goes down, as does a port whose lanes change; ENABLE of the page leaves the
link alone (R623); the verify protocol follows Q_MODE. -/
def ethCommit (old : Bank) (s : State) : State :=
  (List.range 24).foldl (fun s v => verifyCommit old v s) <|
  ((List.range 48).drop 40).foldl (fun s v => plcaCommit old v s) <|
  (List.range 48).foldl (fun s v =>
    let gone := !s.physOn v || (if v < 8 then !s.laneOn v || decide (old.portOf v ≠ s.live.portOf v ∨ old.portWidth v ≠ s.live.portWidth v)
      else !tst (s.cfg (A.ethPhyCtrl v)) 0)
    if !gone then
      if v < 8 then (if (s.lane v).st = .disabled then setLane v { s.lane v with st := .down } s else s)
      else if (s.ethSt v).phy = .disabled then setEth v { s.ethSt v with phy := .down } s
      else s
    else
      let s := linkLost (s.live.portOf v) false (linkLost (old.portOf v) false (linkLost v false s))
      if v < 8 then (if s.laneOn v then s else setLane v { LaneSt.reset with attempts := (s.lane v).attempts } s)
      else setEth v { s.ethSt v with phy := .disabled, plcaActive := false, fallback := false } s) s

/-! ## Status registers (R382, R385) -/

/-- ETH_STATUS. -/
def State.ethStatus (s : State) (v : Nat) : W32 :=
  let e := s.ethSt v
  w32 (bit e.linkUp + bit (s.live.member v) * 2 + (if v < 8 then s.live.widthCode v else 0) * 4 + (if e.linkUp then e.rate else 0) % 2 ^ 20 * 2 ^ 12)

/-- ETH_PHY_STATUS. -/
def State.phyStatus (s : State) (v : Nat) : W32 :=
  let e := s.ethSt v
  let st := match e.phy with
    | .down => 0
    | .training => 1
    | .up => 2
    | .disabled => 3
    | .sleep => 4
  if v < 8 then 0 else w32 (st + e.phyRate * 2 ^ 3 + bit e.master * 2 ^ 7 + e.sqi * 2 ^ 8 + bit e.polInv * 2 ^ 11)

/-- ETH_PLCA_STATUS. -/
def State.plcaStatus (s : State) (v : Nat) : W32 := w32 (bit (s.ethSt v).plcaActive + 2 * bit (s.ethSt v).fallback)

/-- ETH_FC_STATUS. -/
def State.fcStatus (s : State) (v : Nat) : W32 :=
  let e := s.ethSt v
  let m (p : Nat → Bool) : Nat := maskOf 8 ((List.range 8).filter p)
  w32 (m (fun c => s.paused v c) + m (fun c => decide (SMap.get 0 e.releaseUntil c > s.now)) * 2 ^ 8 + bit e.xoff * 2 ^ 16)

/-- ETH_SEC_STATUS. -/
def State.secStatus (s : State) (v : Nat) : W32 := w32 ((s.ethSt v).anInUse % 4 + bit (s.ethSt v).txExhausted * 4)

/-- ETH_LANE_STATUS. -/
def State.laneStatus (s : State) (l : Nat) : W32 :=
  let x := s.lane l
  let st := match x.st with
    | .down => 0
    | .training => 1
    | .locking => 2
    | .up => 3
    | .disabled => 4
  w32 (st + bit x.degraded * 2 ^ 3 + bit x.miswired * 2 ^ 4 + bit x.remoteFault * 2 ^ 5 + x.attempts * 2 ^ 8)

end Sys2Proof.Machine
end

