-- ==== Sys2Proof/Machine/Can.lean ====
section
/-! DEFINITION. The CAN channels (R270–R299): reception and error confinement, rate detection, the FIFO and the mailboxes,
arbitration, the time master. -/

namespace Sys2Proof.Machine

/-- The page of a CAN channel. -/
def canPage (ch : Nat) : PageRef := ⟨.can, ch⟩

/-- The state of a CAN channel. -/
def State.canSt (s : State) (ch : Nat) : CanSt := SMap.get CanSt.reset s.can ch

/-- Sets the state of a CAN channel. -/
def setCan (ch : Nat) (c : CanSt) (s : State) : State := { s with can := SMap.put CanSt.reset s.can ch c }

/-- MODE in force (R275, R623): 0 OFF, 1 NORMAL, 2 LISTEN, 3 DETECT. -/
def State.canMode (s : State) (ch : Nat) : Nat := if s.vertexOn (48 + ch) then fld (s.canSt ch).ctrl 0 2 else 0

/-- Whether a channel takes part in traffic as in MODE NORMAL (R277, R278). -/
def State.canActive (s : State) (ch : Nat) : Bool :=
  let c := s.canSt ch
  decide (s.canMode ch = 1) || (decide (s.canMode ch = 3) && c.found && tst (s.cfg (A.canRateCtrl ch)) 8)

/-- Whether a channel may send now: active and not in bus-off (R283), not ignoring frames. -/
def State.canSends (s : State) (ch : Nat) : Bool :=
  s.canActive ch && decide ((s.canSt ch).err ≠ .busOff) && !(s.canSt ch).selective

/-! ## Error confinement (R282, R283) -/

/-- CAN_ERR (R330). -/
def State.canErrReg (s : State) (ch : Nat) : W32 :=
  let c := s.canSt ch
  let e := match c.err with
    | .active => 0
    | .passive => 1
    | .busOff => 2
  w32 (c.tec % 2 ^ 9 + c.rec_ % 2 ^ 8 * 2 ^ 16 + e * 2 ^ 24 + c.lastErr * 2 ^ 28)

/-- The error state that the counters give (ISO 11898-1). -/
def errState (tec rec_ : Nat) : CanErrState := if tec ≥ 256 then .busOff else if tec ≥ 128 ∨ rec_ ≥ 128 then .passive else .active

/-- Sets the error state of a channel: each change has its event and its record (R282); entering bus-off is a loss of the medium
(R283). The return to error-active has no cause of its own in R335 (DEDUCED: log entry 42). -/
def setErrState (ch : Nat) (e : CanErrState) (s : State) : State :=
  let c := s.canSt ch
  if c.err = e then s
  else
    let s := setCan ch { c with err := e, boffAt := s.now, recovering := false, recCount := 0 } s
    let s := adminRec 4 (s.bound (48 + ch)) 0 (s.canErrReg ch) s
    if e = .busOff then raiseCan ch 0 (fault (canPage ch) 0x10F (48 + ch) (bump (A.canBusoffCount ch) s))
    else if c.err = .busOff then raiseCan ch 1 s
    else if e = .passive then raiseCan ch 2 s
    else raiseTo (208 + ch) [s.bound (48 + ch)] s

/-- New error counters of a channel, and the state they give. Its counters do not change while it only listens (R278), nor in
bus-off. -/
def setCounters (ch tec rec_ : Nat) (s : State) : State :=
  let c := s.canSt ch
  if !s.canActive ch ∨ c.err = .busOff then s
  else setErrState ch (errState tec rec_) (setCan ch { c with tec := min tec 256, rec_ := min rec_ 255 } s)

/-- Code of an error kind in CAN_ERR (R330). -/
def canErrCode : CanErrKind → Nat
  | .stuff => 1
  | .form => 2
  | .acknowledge => 3
  | .bit1 => 4
  | .bit0 => 5
  | .crc => 6

/-- Records the kind of the last error. -/
def lastError (ch : Nat) (k : CanErrKind) (s : State) : State := setCan ch { s.canSt ch with lastErr := canErrCode k } s

/-- A transmitter's error raises TEC by 8, but not in the two cases that ISO 11898-1 excepts: an error-passive transmitter that finds no
acknowledge and sees no dominant bit in its passive flag, and a stuff error in arbitration (R282). -/
def transmitError (ch : Nat) (k : CanErrKind) (spared : Bool) (s : State) : State :=
  let c := s.canSt ch
  let s := lastError ch k s
  if spared ∧ (k = .stuff ∨ (k = .acknowledge ∧ c.err = .passive)) then s else setCounters ch (c.tec + 8) c.rec_ s

/-- An error frame on the bus: counted; in rate detection it sets the count of good frames back (R276). -/
def errorFrame (ch : Nat) (s : State) : State :=
  let s := bump (A.canRxErrors ch) s
  if s.canMode ch = 3 ∧ !(s.canSt ch).found then setCan ch { s.canSt ch with goodFrames := 0 } s else s

/-- CAN_BUS_ERROR (R276, R280, R282): an overload frame is no error. -/
def execCanBusError (ch : CanCh) (e : CanErr) (s : State) : Host.Outcome State Fault Refusal :=
  ran s (only (s.on && decide (s.canMode ch ≠ 0 ∧ (s.canSt ch).err ≠ .busOff) && !(s.canSt ch).selective) (fun s =>
    match e with
    | .overload => bump (A.canRxErrors ch) s
    | .receiver k heavy =>
      let s := lastError ch k (errorFrame ch s)
      setCounters ch (s.canSt ch).tec ((s.canSt ch).rec_ + if heavy then 8 else 1) s
    | .transmitter k spared => transmitError ch k spared (errorFrame ch s)) s)

/-- BOFF_DELAY_EXPIRY (R283). -/
def execBoffDelayExpiry (ch : CanCh) (s : State) : Host.Outcome State Fault Refusal :=
  let c := s.canSt ch
  let d := fld (s.cfg (A.canBoffDelay ch)) 0 16 * 1000000
  ran s (only (s.on && decide (c.err = .busOff) && !c.recovering && tst c.ctrl 7 && decide (c.boffAt + d ≤ s.now))
    (setCan ch { c with recovering := true }) s)

/-- A write of CAN_CMD.RECOVER (R283). -/
def canRecovered (ch : Nat) (s : State) : State :=
  let c := s.canSt ch
  if c.err = .busOff then setCan ch { c with recovering := true } s else s

/-- BUS_OFF_RECOVERY_COMPLETE (R283): 128 occurrences of 11 recessive bits have passed. -/
def execBusOffRecoveryComplete (ch : CanCh) (s : State) : Host.Outcome State Fault Refusal :=
  let c := s.canSt ch
  ran s (only (s.on && decide (c.err = .busOff) && c.recovering) (fun s => setErrState ch .active (setCan ch { c with tec := 0, rec_ := 0 } s)) s)

/-! ## Bit timing and rate detection (R273–R278) -/

/-- CAN clock cycles of a nominal bit of CAN_NBT (R273). -/
def nbtCycles (w : W32) : Nat := (fld w 0 5 + 1) * (3 + fld w 5 8 + fld w 13 7)

/-- CAN clock cycles of a data bit of CAN_DBT or CAN_XBT (R273). -/
def dbtCycles (w : W32) : Nat := (fld w 0 3 + 1) * (3 + fld w 3 6 + fld w 9 5)

/-- The timings of a rate-detection candidate. -/
def State.candidate (s : State) (ch k : Nat) : W32 × W32 := (s.cfg (A.canCandNbt ch k), s.cfg (A.canCandDbt ch k))

/-- Starts rate detection at candidate 0 (R276). -/
def startDetect (ch : Nat) (s : State) : State :=
  let t := s.candidate ch 0
  setCan ch { s.canSt ch with cand := 0, goodFrames := 0, found := false, dwellStart := s.now, nbt := t.1, dbt := t.2 }
    (setRegN (A.canRateStatus ch) 0 s)

/-- Takes the live settings of a channel into force (R275). In MODE DETECT the timings are those of the candidate, and detection starts anew
only when MODE, CAN_RATE_CTRL or a candidate has changed (R277). -/
def takeTiming (ch : Nat) (s : State) : State :=
  let c := s.canSt ch
  let ctrl := s.cfg (A.canCtrl ch)
  let detect := decide (fld ctrl 0 2 = 3)
  let again := c.detectPending || decide (fld c.ctrl 0 2 ≠ 3)
  let c := { c with ctrl := ctrl, xbt := s.cfg (A.canXbt ch), xpwm := s.cfg (A.canXpwm ch), timingPending := false,
                    effEpoch := s.epoch.live, pexWait := false, busBusy := false, detectPending := false }
  if detect then if again then startDetect ch (setCan ch c s) else setCan ch c s
  else setCan ch { c with nbt := s.cfg (A.canNbt ch), dbt := s.cfg (A.canDbt ch), found := false, goodFrames := 0 } s

/-- BIT_TIMING_CHANGE (R275): the first bus-idle instant after a commit that changed the channel's timing or mode. -/
def execBitTimingChange (ch : CanCh) (s : State) : Host.Outcome State Fault Refusal :=
  let c := s.canSt ch
  ran s (only (s.on && c.timingPending && c.sending.isNone) (takeTiming ch) s)

/-- RATE_DWELL_EXPIRY (R276). -/
def execRateDwellExpiry (ch : CanCh) (s : State) : Host.Outcome State Fault Refusal :=
  let c := s.canSt ch
  let r := s.cfg (A.canRateCtrl ch)
  ran s (only (s.on && decide (s.canMode ch = 3) && !c.found && decide (c.dwellStart + fld r 16 16 * 1000000 ≤ s.now)) (fun s =>
    let last := decide (c.cand ≥ fld r 4 3)
    let k := if last then 0 else c.cand + 1
    let t := s.candidate ch k
    let s := setCan ch { c with cand := k, goodFrames := 0, dwellStart := s.now, nbt := t.1, dbt := t.2 } s
    if last then
      let n := fld (s.reg (A.canRateStatus ch)) 16 16
      raiseCan ch 4 (setRegN (A.canRateStatus ch) (min (n + 1) 65535 * 2 ^ 16) s)
    else s) s)

/-- CAN_RATE_STATUS (R330). -/
def State.rateStatus (s : State) (ch : Nat) : W32 :=
  let c := s.canSt ch
  w32 (bit (decide (s.canMode ch = 3) && !c.found) + bit c.found * 2 + c.cand * 2 ^ 4 + fld (s.reg (A.canRateStatus ch)) 16 16 * 2 ^ 16)

/-- A frame received without error counts toward a find (R276, R277). -/
def detectFrame (ch : Nat) (s : State) : State :=
  let c := s.canSt ch
  if s.canMode ch ≠ 3 ∨ c.found then s
  else if c.goodFrames + 1 ≥ fld (s.cfg (A.canRateCtrl ch)) 0 4 then
    raiseCan ch 3 (setCan ch { c with found := true, goodFrames := c.goodFrames + 1 } s)
  else setCan ch { c with goodFrames := c.goodFrames + 1 } s

/-! ## Reception (R268, R280, R281) -/

/-- The stored form of a received message (R268); the device fills ORIGIN. -/
def canStored (m : CanMsg) : List Byte :=
  let xl := decide (m.format = 2)
  let data := if m.rtr then [] else m.data
  let w1 := bit m.fdf * 2 ^ 31 + bit m.brs * 2 ^ 30 + bit m.esi * 2 ^ 29
    + (if xl then bit m.sec * 2 ^ 28 + m.vcid.toNat * 2 ^ 20 + m.sdt.toNat * 2 ^ 12 else 0) + data.length % 2 ^ 12
  beBytes 4 (m.format.toNat * 2 ^ 30 + bit m.rtr * 2 ^ 29 + m.id.toNat) ++ beBytes 4 w1 ++ beBytes 4 (if xl then m.af.toNat else 0)
    ++ List.replicate 20 0 ++ data

/-- REC after a good reception (ISO 11898-1): one less, or from 119 to 127 when it was above 127, where the value is free. -/
def goodReceive (ch : Nat) (s : State) : State :=
  let c := s.canSt ch
  if c.rec_ > 127 then freshen (setCounters ch c.tec (119 + s.freeWord.toNat % 9) s) else setCounters ch c.tec (c.rec_ - 1) s

/-- A reference message of another node (R297): its identifier decides, in the format of REF_EXT. -/
def ttForeign (ch : Nat) (m : CanMsg) (s : State) : State :=
  let c := s.canSt ch
  let ext := tst (s.cfg (A.canTtCtrl ch)) 4
  if (c.ttActive ∨ c.ttArmed) ∧ m.format = (if ext then 1 else 0) ∧ m.id.toNat = fld (s.cfg (A.canTtRefId ch)) 0 29 then
    raiseCan ch 7 (setCan ch { c with ttConflict := true, ttActive := false, ttArmed := false, ttRefPending := false, ttRefStart := none, ttWindows := [] } s)
  else s

/-- A message that becomes valid on the bus of a channel. The bus was idle before its start of frame. -/
def canArrives (ch : Nat) (m : CanMsg) (sof : Nat) (s : State) : State :=
  let c := s.canSt ch
  let s := setCan ch { c with pexWait := false, busBusy := false } s
  let unknown := (decide (m.format ≠ 2) && m.fdf && !tst c.ctrl 4) || (decide (m.format = 2) && !tst c.ctrl 5)
  if unknown then
    if tst c.ctrl 6 ∧ !tst c.ctrl 4 then bump (A.canRxPex ch) (setCan ch { s.canSt ch with pexWait := true } s)
    else setCounters ch c.tec (c.rec_ + 1) (lastError ch .form (errorFrame ch s))
  else
    let s := ttForeign ch m (goodReceive ch (detectFrame ch (bump (A.canRxOk ch) s)))
    let room := !s.power.shed || s.freeBit
    busReceive (48 + ch) sof (canStored m) room false (if s.power.shed then freshen s else s)

/-- CAN_RECEIVE (R280). -/
def execCanReceive (ch : CanCh) (m : CanMsg) (sof : Nat) (s : State) : Host.Outcome State Fault Refusal :=
  let c := s.canSt ch
  ran s (only (s.on && decide (s.canMode ch ≠ 0 ∧ c.err ≠ .busOff) && !c.selective) (canArrives ch m sof) s)

/-! ## The FIFO and the mailboxes (R270, R284–R286) -/

/-- Sizes that an FD DLC encodes (R270). -/
def fdSizes : List Nat := [0, 1, 2, 3, 4, 5, 6, 7, 8, 12, 16, 20, 24, 32, 48, 64]

/-- Why a channel drops a copy before it queues it (R270). -/
def formatReason (ctrl : W32) (d : List Byte) : Option Nat :=
  let fmt := byteAt d 0 / 64
  let w1 := w32 (beAt d 4 4)
  let n := fld w1 0 12
  let fd := tst w1 31
  if fmt = 3 ∨ (fd = true ∧ tst ctrl 4 = false) ∨ (fmt = 2 ∧ tst ctrl 5 = false) then some 0x16
  else if fmt = 2 then if 1 ≤ n ∧ n ≤ 2048 then none else some 7
  else if n > (if fd then 64 else 8) then some 7
  else none

/-- Drops a copy at a channel for its form: FORMAT_UNSUPPORTED is counted in Q_TOO_LONG like TOO_LONG (R271). -/
def dropForm (reason : Nat) (c : Copy) (s : State) : State :=
  let s := dropReserved reason true c s
  if reason = 0x16 then bump (selKey A.qTooLong c.egress) s else s

/-- The bytes that a channel sends of a copy: an FD message is filled to the next size of its DLC (R270). -/
def canBytes (pad : Nat) (d : List Byte) : List Byte :=
  let w1 := w32 (beAt d 4 4)
  let data := d.drop 32
  if tst w1 31 ∧ byteAt d 0 / 64 ≠ 2 then
    let n := (fdSizes.find? (fun k => decide (data.length ≤ k))).getD data.length
    d.take 4 ++ beBytes 4 (setFld w1 0 12 n).toNat ++ (d.take 32).drop 8 ++ data ++ List.replicate (n - data.length) (BitVec.ofNat 8 pad)
  else d

/-- The mailbox of a copy: the lowest enabled one whose FORMAT and masked identifier agree (R285). -/
def State.mailboxOf (s : State) (ch : Nat) (d : List Byte) : Option Nat :=
  let id := beAt d 0 4 % 2 ^ 29
  (List.range 16).find? (fun m =>
    let f := s.cfg (A.canMbFilter ch m)
    let k := s.cfg (A.canMbCtrl ch m)
    let mask := fld k 0 29
    tst k 31 && decide (fld f 30 2 = byteAt d 0 / 64 ∧ Nat.land (fld f 0 29) mask = Nat.land id mask))

/-- The message pending in a mailbox. -/
def CanSt.mb (c : CanSt) (m : Nat) : Option CanPending := SMap.get none c.mbox m

/-- A message dropped because a newer one takes its mailbox (R286). -/
def mailboxReplaced (ch : Nat) (k : Copy) (s : State) : State :=
  raiseCan ch 6 (bump (A.canTxReplaced ch) (dropReserved 0x14 true k s))

/-- Puts a copy into a mailbox under POLICY REPLACE (R286): while the pending message is being sent, the copy waits behind it. -/
def replaceMailbox (ch m : Nat) (k : Copy) (s : State) : State :=
  let c := s.canSt ch
  if c.sending = some (.mailbox m) then
    let s := match SMap.get none c.mboxNext m with
      | none => s
      | some old => mailboxReplaced ch old s
    setCan ch { s.canSt ch with mboxNext := SMap.put none c.mboxNext m (some k) } s
  else
    let s := match c.mb m with
      | none => s
      | some old => mailboxReplaced ch old.copy s
    let s := match SMap.get none c.mboxNext m with
      | none => s
      | some old => mailboxReplaced ch old s
    setCan ch { s.canSt ch with mbox := SMap.put none c.mbox m (some ⟨k, 0, none, none⟩), mboxNext := SMap.put none c.mboxNext m none } s

/-- Where a channel places the head copy of a class: a mailbox, the FIFO, or nowhere for now (R284–R286). -/
def State.canPlace (s : State) (ch cls : Nat) (k : Copy) : Option (Option Nat) :=
  let c := s.canSt ch
  let m := if tst (s.cfg (A.canTxCtrl ch)) (16 + cls) then s.mailboxOf ch k.data else none
  match m with
  | some m => if (c.mb m).isSome ∧ tst (s.cfg (A.canMbCtrl ch m)) 30 then none else some (some m)
  | none => if c.fifo.length < 64 then some none else none

/-- CAN_TAKE_COPY (R270, R284): the head copy of the highest class that has a place for it. -/
def execCanTakeCopy (ch : CanCh) (s : State) : Host.Outcome State Fault Refusal :=
  let v := 48 + ch.val
  ran s (only (s.coreOn && s.canActive ch) (fun s =>
    let ready (cls : Nat) : Bool := match (s.queue v cls).head? with
      | none => false
      | some k => (formatReason (s.canSt ch).ctrl k.data).isSome || (s.canPlace ch cls k).isSome
    match (List.range 8).reverse.find? ready with
    | none => s
    | some cls =>
      match takeHead v cls s with
      | none => s
      | some (k, t) =>
        match formatReason (s.canSt ch).ctrl k.data with
        | some r => dropForm r k t
        | none =>
          match s.canPlace ch cls k with
          | some (some m) => replaceMailbox ch m k t
          | _ => setCan ch { t.canSt ch with fifo := (t.canSt ch).fifo ++ [⟨k, 0, none, none⟩] } t) s)

/-! ## The time master (R292–R299) -/

/-- The latest due instant not after now, and its cycle count (R292). -/
def State.ttDue (s : State) (ch : Nat) : Nat × Nat := s.ttDueAt ch s.ns

/-- Starts the time master: it sends from the next due instant on, and the windows hold from then on (R297). -/
def ttStart (ch : Nat) (s : State) : State :=
  let on := tst (s.cfg (A.canTtCtrl ch)) 0
  setCan ch { s.canSt ch with ttActive := false, ttArmed := on, ttConflict := false, ttRefPending := false, ttRefStart := none, ttWindows := [],
                              ttRefDue := (s.ttDue ch).1, ttK := 0 } s

/-- A write of CAN_CMD.TT_RESTART (R297). -/
def ttRestarted (ch : Nat) (s : State) : State := if (s.canSt ch).ttConflict then ttStart ch s else s

/-- TT_REFERENCE_DUE (R292, R299). -/
def execTtReferenceDue (ch : CanCh) (s : State) : Host.Outcome State Fault Refusal :=
  let c := s.canSt ch
  let (due, k) := s.ttDue ch
  ran s (only (s.on && (c.ttActive || c.ttArmed) && decide (s.canMode ch = 1 ∧ c.ttRefDue < due))
    (setCan ch { c with ttActive := true, ttArmed := false, ttRefPending := true, ttRefDue := due, ttK := k }) s)

/-- A trigger of a channel. -/
structure TtTrig where
  exclusive : Bool
  mailbox : Nat
  mark : Nat
  len : Nat
  deriving DecidableEq, Repr

/-- Trigger `i` when it is active in the basic cycle that runs (R294). -/
def State.ttTrig (s : State) (ch i : Nat) : Option TtTrig :=
  let w := s.cfg (A.canTtTrigCtrl ch i)
  let t := fld w 0 2
  if (t = 1 ∨ t = 2) ∧ (s.canSt ch).ttK % 2 ^ fld w 16 3 = fld w 8 6 then
    some ⟨t = 1, fld w 4 4, (s.cfg (A.canTtTrigMark ch i)).toNat, (s.cfg (A.canTtTrigLen ch i)).toNat⟩
  else none

/-- The mailboxes that an EXCLUSIVE trigger names (R294). -/
def State.ttNamed (s : State) (ch m : Nat) : Bool :=
  (List.range 64).any (fun i => let w := s.cfg (A.canTtTrigCtrl ch i); decide (fld w 0 2 = 1 ∧ fld w 4 4 = m))

/-- TT_WINDOW_START (R294): an active trigger opens its window. -/
def execTtWindowStart (ch : CanCh) (i : Fin 64) (s : State) : Host.Outcome State Fault Refusal :=
  let c := s.canSt ch
  ran s (only (s.on && c.ttActive) (fun s =>
    match c.ttRefStart, s.ttTrig ch i with
    | some t0, some g =>
      only (decide (t0 + g.mark ≤ s.ns ∧ s.ns < t0 + g.mark + g.len)) (setCan ch { c with ttWindows := addTo c.ttWindows i }) s
    | _, _ => s) s)

/-- What may start now (R294): everything; one mailbox; or the FIFO and the unnamed mailboxes. With the trigger that opens the window
and the instant at which it ends. -/
structure TtWindow where
  only_ : Option Nat
  instance_ : Nat
  endAt : Option Nat
  deriving DecidableEq, Repr

/-- The window that covers now (R293–R295); none when no window rule applies. -/
def State.ttWindow (s : State) (ch : Nat) : Option TtWindow :=
  let c := s.canSt ch
  if !c.ttActive then none
  else
    let next := c.ttRefDue + s.ttCycle ch
    match c.ttRefStart with
    | none => some ⟨none, 64, some next⟩
    | some t0 =>
      let trigs := (List.range 64).filterMap (fun i => (s.ttTrig ch i).map (fun g => (i, g)))
      let covers (p : Nat × TtTrig) : Bool := decide (t0 + p.2.mark ≤ s.ns ∧ s.ns < t0 + p.2.mark + p.2.len)
      let id (i : Nat) : Nat := c.ttRefDue * 128 + i
      match trigs.find? (fun p => covers p && p.2.exclusive) with
      | some (i, g) => some ⟨some (if c.ttWindows.contains i then g.mailbox else 16), id i, some (min next (t0 + g.mark + g.len))⟩
      | none =>
        match trigs.find? covers with
        | some (i, g) => some ⟨none, id i, some (min next (t0 + g.mark + g.len))⟩
        | none =>
          let later := trigs.filterMap (fun p => if s.ns < t0 + p.2.mark then some (t0 + p.2.mark) else none)
          some ⟨none, id 64 + later.length, some (later.foldl min next)⟩

/-! ## Arbitration and the end of an attempt (R287–R291, R295, R296) -/

/-- The arbitration field of a stored message as a number: the lower wins. -/
def arbField (d : List Byte) : Nat :=
  let w := beAt d 0 4
  let rtr := w / 2 ^ 29 % 2
  if byteAt d 0 / 64 = 1 then w % 2 ^ 29 / 2 ^ 18 * 2 ^ 21 + 3 * 2 ^ 19 + w % 2 ^ 18 * 2 + rtr
  else w % 2 ^ 11 * 2 ^ 21 + rtr * 2 ^ 20

/-- Longest time in ns of a frame through the end of intermission (R295): at the largest number of stuff bits and the rates in force. -/
def frameTime (c : CanSt) (d : List Byte) : Nat :=
  let ext := decide (byteAt d 0 / 64 = 1)
  let w1 := w32 (beAt d 4 4)
  let n := (fdSizes.find? (fun k => decide (fld w1 0 12 ≤ k))).getD (fld w1 0 12)
  let nom := nbtCycles c.nbt
  if byteAt d 0 / 64 = 2 then Config.xlFrameTime (fld w1 0 12) nom (dbtCycles c.xbt)
  else if tst w1 31 then
    let arb := if ext then 36 else 17
    let data := 5 + 8 * n
    let dat := if tst w1 30 then dbtCycles c.dbt else nom
    ceilDiv (((arb + (arb - 1) / 4 + 13) * nom + (data + data / 4 + (if n ≤ 16 then 27 else 32)) * dat) * 25) 4
  else
    let stuffed := (if ext then 54 else 34) + 8 * (if beAt d 0 4 / 2 ^ 29 % 2 = 1 then 0 else fld w1 0 12)
    ceilDiv ((stuffed + (stuffed - 1) / 4 + 13) * nom * 25) 4

/-- A message of a store. -/
def CanSt.msg (c : CanSt) : CanSource → Option CanPending
  | .fifo => c.fifo.head?
  | .mailbox m => c.mb m
  | .reference => none

/-- Changes a message of a store. -/
def CanSt.setMsg (c : CanSt) (src : CanSource) (p : CanPending) : CanSt :=
  match src with
  | .fifo => { c with fifo := p :: c.fifo.drop 1 }
  | .mailbox m => { c with mbox := SMap.put none c.mbox m (some p) }
  | .reference => c

/-- Takes a message out of its store; a mailbox loads the copy that waits for it (R286). -/
def CanSt.popMsg (c : CanSt) (src : CanSource) : CanSt :=
  match src with
  | .fifo => { c with fifo := c.fifo.drop 1 }
  | .mailbox m =>
    let next := (SMap.get none c.mboxNext m).map (fun k => (⟨k, 0, none, none⟩ : CanPending))
    { c with mbox := SMap.put none c.mbox m next, mboxNext := SMap.put none c.mboxNext m none }
  | .reference => { c with ttRefPending := false }

/-- The stores that hold a message which may start in a window (R287, R294, R296). -/
def State.canEligible (s : State) (ch : Nat) : List CanSource :=
  let c := s.canSt ch
  let all := (List.range 16).map CanSource.mailbox ++ [.fifo]
  let here := all.filter (fun x => (c.msg x).isSome)
  match s.ttWindow ch with
  | none => here
  | some w =>
    here.filter (fun x =>
      let fresh := match c.msg x with
        | none => false
        | some p => decide (p.window ≠ some w.instance_)
      match w.only_, x with
      | some m, .mailbox k => decide (k = m) && fresh
      | some _, _ => false
      | none, .mailbox k => !s.ttNamed ch k
      | none, _ => true)

/-- Whether a message ends within its window (R295). -/
def State.canFits (s : State) (ch : Nat) (x : CanSource) : Bool :=
  let c := s.canSt ch
  match s.ttWindow ch, c.msg x with
  | some w, some p => match w.endAt with
    | some t => decide (s.ns + frameTime c p.copy.data ≤ t)
    | none => true
  | _, _ => true

/-- Counts a hold, once for a message and window, for each message that does not fit (R295). -/
def countTtHolds (ch : Nat) (s : State) : State :=
  match s.ttWindow ch with
  | none => s
  | some w =>
    (s.canEligible ch).foldl (fun s x =>
      match (s.canSt ch).msg x with
      | none => s
      | some p =>
        if s.canFits ch x ∨ p.heldIn = some w.instance_ then s
        else raiseCan ch 8 (bump (A.canTtHold ch) (setCan ch ((s.canSt ch).setMsg x { p with heldIn := some w.instance_ }) s))) s

/-- The message that a channel offers (R287, R292). -/
def State.canOffer (s : State) (ch : Nat) : Option CanSource :=
  let c := s.canSt ch
  if c.ttActive ∧ c.ttRefPending then some .reference
  else
    let l := (s.canEligible ch).filter (fun x => s.canFits ch x)
    let key (x : CanSource) : Nat := ((c.msg x).map (fun p => arbField p.copy.data)).getD 0
    match l with
    | [] => none
    | x :: r => some (r.foldl (fun a b => if key b < key a then b else a) x)

/-- CAN_ARBITRATION (R287, R290): the bus is idle, the channel offers its message, and arbitration decides; an offer that wins is the attempt in
progress, one that loses leaves the bus to another node. -/
def execCanArbitration (o : CanOffer) (s : State) : Host.Outcome State Fault Refusal :=
  let ch := o.ch
  ran s (only (s.on && decide (s.canMode ch ≠ 0) && (s.canSt ch).sending.isNone) (fun s =>
    let s := setCan ch { s.canSt ch with pexWait := false, busBusy := false } s
    only (s.canSends ch) (fun s =>
      let s := countTtHolds ch s
      let x := s.canOffer ch
      if o.won then setCan ch { s.canSt ch with offer := x, sending := x, sofAt := s.ns } s
      else setCan ch { s.canSt ch with offer := x, busBusy := x.isSome } s) s) s)

/-- The reference message of a channel in the stored form (R292). -/
def State.refMsg (s : State) (ch : Nat) : List Byte :=
  let w := s.cfg (A.canTtCtrl ch)
  let id := fld (s.cfg (A.canTtRefId ch)) 0 29
  let data := (beBytes 1 ((s.canSt ch).ttK % 64) ++ beBytes 4 (s.cfg (A.canTtRefDataLo ch)).toNat
    ++ beBytes 3 (fld (s.cfg (A.canTtRefDataHi ch)) 8 24)).take (fld w 8 4)
  beBytes 4 (bit (tst w 4) * 2 ^ 30 + id) ++ beBytes 4 data.length ++ List.replicate 24 0 ++ data

/-- An attempt succeeds (R286, R291, R293). -/
def canSent (ch : Nat) (src : CanSource) (s : State) : State :=
  let c := s.canSt ch
  let s := bump (A.canTxOk ch) (setCounters ch (c.tec - 1) c.rec_ s)
  match src with
  | .reference =>
    let late := c.sofAt - c.ttRefDue
    let s := setRegN (A.canTtRefLateMax ch) (max (s.reg (A.canTtRefLateMax ch)).toNat (min late 0xFFFFFFFF)) s
    let s := emit (48 + ch) (s.refMsg ch) false c.sofAt s
    setCan ch { s.canSt ch with ttRefPending := false, ttRefStart := some c.sofAt, ttWindows := [], sending := none } s
  | _ =>
    match c.msg src with
    | none => setCan ch { s.canSt ch with sending := none } s
    | some p =>
      let s := setCan ch { (s.canSt ch).popMsg src with sending := none } s
      let bytes := canBytes (fld (s.cfg (A.canTxCtrl ch)) 8 8) p.copy.data
      stampSent (48 + ch) p.copy c.sofAt (freeCopy p.copy (emit (48 + ch) bytes false c.sofAt s))

/-- The stamp of an abandoned message (R89, R289), where one was asked for. -/
def stampFailed (v : Nat) (k : Copy) (sof : Nat) (s : State) : State :=
  let asked := match k.txId with
    | some i => some i
    | none => if k.outIdx.isNone ∧ k.item.res.getLsbD 42 then some (k.item.seq.setWidth 16) else none
  match asked with
  | none => s
  | some i => txStamp v ⟨sof, i, k.item.vertex, true⟩ s

/-- An attempt ends in an error (R286, R289, R296). -/
def canFailed (ch : Nat) (src : CanSource) (k : CanErrKind) (spared : Bool) (s : State) : State :=
  let c := s.canSt ch
  let retry := fld (s.cfg (A.canTxCtrl ch)) 0 5
  let s := transmitError ch k spared (errorFrame ch s)
  let s := setCan ch { s.canSt ch with sending := none } s
  match c.msg src with
  | none => s
  | some p =>
    let replaced := match src with
      | .mailbox m => (SMap.get none c.mboxNext m).isSome
      | _ => false
    if replaced then mailboxReplaced ch p.copy (setCan ch ((s.canSt ch).popMsg src) s)
    else if retry ≠ 0x1F ∧ p.errors ≥ retry then
      let s := setCan ch ((s.canSt ch).popMsg src) s
      stampFailed (48 + ch) p.copy c.sofAt (raiseCan ch 5 (bump (A.canTxAbandoned ch) (dropReserved 0x11 true p.copy s)))
    else
      let w := (s.ttWindow ch).bind (fun w => w.only_.map (fun _ => w.instance_))
      setCan ch ((s.canSt ch).setMsg src { p with errors := p.errors + 1, window := w }) s

/-- CAN_TRANSMIT_END (R287, R289). -/
def execCanTransmitEnd (ch : CanCh) (o : CanOutcome) (s : State) : Host.Outcome State Fault Refusal :=
  ran s (only s.on (fun s =>
    match (s.canSt ch).sending with
    | none => s
    | some src =>
      match o with
      | .success => canSent ch src s
      | .error k spared => canFailed ch src k spared s) s)

/-! ## Commits, faults, status registers -/

/-- What a commit does to a channel (R275, R277, R297). -/
def canCommit (old : Bank) (s : State) : State :=
  (List.range 24).foldl (fun s ch =>
    let diff (l : List Nat) : Bool := l.any (fun a => old.regs.read a ≠ s.cfg a)
    let again := decide (fld (old.regs.read (A.canCtrl ch)) 0 2 ≠ fld (s.cfg (A.canCtrl ch)) 0 2)
      || diff (A.canRateCtrl ch :: (List.range 8).flatMap (fun k => [A.canCandNbt ch k, A.canCandDbt ch k]))
    let c := s.canSt ch
    let timing := diff [A.canCtrl ch, A.canNbt ch, A.canDbt ch, A.canXbt ch, A.canXpwm ch] || (decide (fld c.ctrl 0 2 = 3) && again)
    let was := if c.timingPending then c.effEpoch else s.epoch.draining.getD s.epoch.live
    let s := if timing then setCan ch { c with timingPending := true, effEpoch := was, detectPending := c.detectPending || again } s else s
    if diff [A.canTtCtrl ch] then ttStart ch s else s) s

/-- A transceiver of a CAN channel reports thermal shutdown or dominant time-out, or no longer does (R335). -/
def canTrx (ch : Nat) (present : Bool) (s : State) : State :=
  let c := s.canSt ch
  let s := setCan ch { c with trxFault := present } s
  if present ∧ !c.trxFault then raiseCan ch 9 (fault (canPage ch) 0x10F (48 + ch) s) else s

/-- CAN_STATUS (R330). BUS_IDLE is 0 in MODE OFF, while the channel sends, from an arbitration it lost to the end of that frame, and while it
waits under R281 (DEDUCED: log entry 42). -/
def State.canStatus (s : State) (ch : Nat) : W32 :=
  let c := s.canSt ch
  w32 (fld c.ctrl 0 2 + bit (decide (s.canMode ch ≠ 0) && c.sending.isNone && !c.pexWait && !c.busBusy) * 4 + bit c.trxFault * 8)

/-- CAN_TX_STATUS (R330). -/
def State.canTxStatus (s : State) (ch : Nat) : W32 :=
  let c := s.canSt ch
  w32 (c.fifo.length % 128 + maskOf 16 ((List.range 16).filter (fun m => (c.mb m).isSome)) * 2 ^ 16)

/-- CAN_MBm_STATUS (R330). -/
def State.canMbStatus (s : State) (ch m : Nat) : W32 :=
  let c := s.canSt ch
  w32 (bit (c.mb m).isSome + bit (decide (c.sending = some (.mailbox m))) * 2 + bit (s.ttNamed ch m) * 4)

/-- CAN_TT_STATUS (R330). -/
def State.ttStatus (s : State) (ch : Nat) : W32 :=
  let c := s.canSt ch
  w32 ((if c.ttConflict then 2 else if c.ttActive || c.ttArmed then 1 else 0) + c.ttK % 64 * 2 ^ 8)

end Sys2Proof.Machine
end

