-- ==== Sys2Proof/Machine/Lin.lean ====
section
/-! DEFINITION. The LIN channels (R300–R308): schedule tables, publish buffers, headers and responses; transceiver faults. -/

namespace Sys2Proof.Machine

/-- The page of a LIN channel. -/
def linPage (j : Nat) : PageRef := ⟨.lin, j / 2⟩

/-- The state of a LIN channel. -/
def State.linSt (s : State) (j : Nat) : LinSt := SMap.get LinSt.reset s.lin j

/-- Sets the state of a LIN channel. -/
def setLin (j : Nat) (c : LinSt) (s : State) : State := { s with lin := SMap.put LinSt.reset s.lin j c }

/-- MODE (R332, R623): 0 OFF, 1 MASTER, 2 SLAVE. -/
def State.linMode (s : State) (j : Nat) : Nat := if s.vertexOn (72 + j) then fld (s.cfg (A.linCtrl j)) 0 2 else 0

/-- DIR of an identifier: 0 none, 1 PUBLISH, 2 SUBSCRIBE (R301). -/
def State.linDir (s : State) (j id : Nat) : Nat := fld (s.cfg (A.linId j id)) 0 2

/-- Whether an identifier uses the enhanced checksum: 0x3C and 0x3D never do (R301). -/
def State.linEnhanced (s : State) (j id : Nat) : Bool := decide (id ≠ 0x3C ∧ id ≠ 0x3D) && tst (s.cfg (A.linId j id)) 2

/-- The publish buffer of an identifier. -/
def State.linBuf (s : State) (j id : Nat) : LinBuf := SMap.get LinBuf.reset (s.linSt j).bufs id

/-- Sets a publish buffer. -/
def setLinBuf (j id : Nat) (b : LinBuf) (s : State) : State :=
  setLin j { s.linSt j with bufs := SMap.put LinBuf.reset (s.linSt j).bufs id b } s

/-- An entry of a schedule table. -/
def State.linEntry (s : State) (j t e : Nat) : W32 := s.cfg (selKey (A.linTabEntry j) (t * 64 + e))

/-- The sporadic list of an entry in priority order (R332). -/
def State.linSpor (s : State) (j t e : Nat) : List Nat :=
  let w := s.cfg (selKey (A.linTabSpor j) (t * 64 + e))
  (List.range 4).filterMap (fun k => if tst w (8 * k + 6) then some (fld w (8 * k) 6) else none)

/-- Counts an error by kind in LIN_ERR (R308): the field's lowest bit, 8 bits wide, saturating. -/
def linError (j lo : Nat) (s : State) : State :=
  let w := s.reg (A.linErr j)
  raiseLin j 0 (setReg (A.linErr j) (setFld w lo 8 (min (fld w lo 8 + 1) 255)) s)

/-- A slot or header of a published identifier whose buffer has never received data (R303, R307). -/
def linNoData (j : Nat) (s : State) : State := raiseLin j 1 (bump (A.linNoData j) s)

/-- The table and entry of the next slot (R303–R305), with the resolution that goes on and whether one ended. -/
def State.linNext (s : State) (j : Nat) : Nat × Nat × Option (Nat × Nat × Nat) × Bool :=
  let c := s.linSt j
  let wrap (t e : Nat) : Nat := if e ≥ 64 ∨ fld (s.linEntry j t e) 0 3 = 0 then 0 else e
  match c.pendingTable with
  | some t => (t, 0, none, false)
  | none =>
    if !c.running then (c.table, 0, none, false)
    else
      match c.resolving with
      | some (t, e, 0) =>
        let r := fld (s.linEntry j c.table c.entry) 9 3
        if fld (s.linEntry j r 0) 0 3 = 0 then (t, wrap t e, none, true) else (r, 0, some (t, e, 1), false)
      | some (t, e, n) =>
        let k := c.entry + 1
        if k ≥ 64 ∨ fld (s.linEntry j c.table k) 0 3 = 0 then (t, wrap t e, none, true) else (c.table, k, some (t, e, n), false)
      | none => (c.table, wrap c.table (c.entry + 1), none, false)

/-- The header that a master sends in a slot (R303): what it then expects on the bus. -/
def linHeader (j id : Nat) (s : State) : State :=
  let c := s.linSt j
  if s.linDir j id = 1 then
    if (s.linBuf j id).filled then setLin j { c with expecting := some id, headerAt := s.ns } s
    else linNoData j (setLin j { c with expecting := none } s)
  else setLin j { c with expecting := if s.linDir j id = 2 then some id else none, headerAt := s.ns } s

/-- LIN_SLOT_START (R303–R305): the current slot has ended, and the next entry of the schedule starts. -/
def execLinSlotStart (j : LinCh) (s : State) : Host.Outcome State Fault Refusal :=
  let c := s.linSt j
  ran s (only (s.on && decide (s.linMode j = 1) && (!c.running || decide (c.slotEnd ≤ s.ns))) (fun s =>
    let (t, e, r, ended) := s.linNext j
    let w := s.linEntry j t e
    let start := if c.running then c.slotEnd else s.ns
    let live := decide (fld w 0 3 ≠ 0)
    let switched := c.pendingTable.isSome
    let s := setLin j { c with table := t, entry := e, pendingTable := none, resolving := r, running := live, expecting := none,
                               slotStart := start, slotEnd := start + fld w 16 16 * 100000 } s
    let s := if ended then raiseLin j 3 s else s
    let s := if switched then raiseLin j 4 s else s
    match fld w 0 3 with
    | 1 => linHeader j (fld w 3 6) s
    | 2 => linHeader j (fld w 3 6) s
    | 3 => match (s.linSpor j t e).find? (fun id => (s.linBuf j id).fresh.isSome) with
      | some id => linHeader j id s
      | none => s
    | 4 => linHeader j 0x3C s
    | 5 => linHeader j 0x3D s
    | _ => s) s)

/-- LIN_HEADER_RECEIVE (R307, R308): a header whose identifier fails its parity gets no answer and is counted. -/
def execLinHeaderReceive (j : LinCh) (h : LinHeader) (s : State) : Host.Outcome State Fault Refusal :=
  ran s (only (s.on && decide (s.linMode j = 2)) (fun s =>
    let s := setLin j { s.linSt j with synced := true } s
    if h.parityOk then linHeader j h.id s else linError j 24 (setLin j { s.linSt j with expecting := none } s)) s)

/-- The stored form of a LIN response (R268). -/
def linStored (id : Nat) (enhanced : Bool) (data : List Byte) : List Byte :=
  beBytes 4 id ++ beBytes 4 data.length ++ beBytes 4 0 ++ beBytes 4 (bit enhanced * 2 ^ 30) ++ List.replicate 16 0 ++ data

/-- The data of a response that this channel sends (R301): the LEN bytes of its identifier; bytes that the buffer does not hold are free
values (DESIGN CHOICE: log entry 44). -/
def State.linData (s : State) (j id : Nat) : List Byte :=
  let d := (s.linBuf j id).data
  let n := fld (s.cfg (A.linId j id)) 3 4
  d.take n ++ (List.range (n - d.length)).map (fun i => (Config.freeWord (s.fresh + i)).setWidth 8)

/-- A response of this channel has been sent (R302): the copy that it carries first counts as sent. -/
def linSent (j id sof : Nat) (s : State) : State :=
  let b := s.linBuf j id
  let d := s.linData j id
  let s := emit (72 + j) (linStored id (s.linEnhanced j id) d) false sof (bump (A.linTxOk j) { s with fresh := s.fresh + (d.length - b.data.length) })
  match b.fresh with
  | none => s
  | some k => stampSent (72 + j) k sof (freeCopy k (setLinBuf j id { b with fresh := none } s))

/-- The copy whose response a LIN channel sends now (R126). -/
def State.linSending (s : State) (j : Nat) : Option (Nat × Copy) :=
  match (s.linSt j).expecting with
  | none => none
  | some id => if s.linDir j id = 1 then (s.linBuf j id).fresh.map (fun k => (id, k)) else none

/-- LIN_FRAME_RECEIVE (R301, R304, R308): the response of the frame that the channel expects ends. `sof` is the start of its break. -/
def execLinFrameReceive (j : LinCh) (o : LinOutcome) (sof : Nat) (s : State) : Host.Outcome State Fault Refusal :=
  ran s (only s.on (fun s =>
    let c := s.linSt j
    match c.expecting with
    | none => s
    | some id =>
      let s := setLin j { c with expecting := none } s
      let pub := decide (s.linDir j id = 1)
      match o with
      | .sent => if pub then linSent j id sof s else s
      | .good data =>
        if pub then s
        else if data.length ≠ fld (s.cfg (A.linId j id)) 3 4 then linError j 24 s
        else
          let room := !s.power.shed || s.freeBit
          let s := if s.power.shed then freshen s else s
          busReceive (72 + j) sof (linStored id (s.linEnhanced j id) data) room false (bump (A.linRxOk j) s)
      | .bitError => linError j 0 s
      | .checksum => linError j 8 s
      | .framing => linError j 24 s
      | .parity => linError j 24 s
      | .collision =>
        if s.linMode j = 1 ∧ fld (s.linEntry j c.table c.entry) 0 3 = 2 ∧ c.resolving.isNone then
          setLin j { s.linSt j with resolving := some (c.table, c.entry + 1, 0) } s
        else linError j 0 s) s)

/-- LIN_RESPONSE_TIMEOUT (R308): no response within the frame time. -/
def execLinResponseTimeout (j : LinCh) (s : State) : Host.Outcome State Fault Refusal :=
  let c := s.linSt j
  ran s (only (s.on && c.expecting.isSome) (fun s => linError j 16 (setLin j { c with expecting := none } s)) s)

/-- LIN_PUBLISH_UPDATE (R270, R302): the head copy of the highest class replaces the buffer of its identifier. -/
def execLinPublishUpdate (j : LinCh) (s : State) : Host.Outcome State Fault Refusal :=
  let v := 72 + j.val
  ran s (only (s.coreOn && decide (s.linMode j ≠ 0)) (fun s =>
    match (List.range 8).reverse.find? (fun c => s.queue v c ≠ []) with
    | none => s
    | some c =>
      match takeHead v c s with
      | none => s
      | some (k, s) =>
        let w1 := w32 (beAt k.data 4 4)
        let n := fld w1 0 12
        if 2 ≤ byteAt k.data 0 / 64 ∨ tst w1 31 then dropForm 0x16 k s
        else if n = 0 ∨ n > 8 then dropForm 7 k s
        else
          let id := byteAt k.data 3 % 64
          let b := s.linBuf j id
          let s := match b.fresh with
            | none => s
            | some old => raiseLin j 2 (bump (A.linReplaced j) (dropReserved 0x15 true old s))
          setLinBuf j id ⟨k.data.drop 32, true, some k⟩ s) s)

/-- A write of LIN_SCHED_SEL (R305). -/
def linSelWritten (j : Nat) (v : W32) (s : State) : State :=
  setLin j { s.linSt j with pendingTable := some (fld v 0 3) } (setReg (A.linSchedSel j) (v &&& 7) s)

/-- What a commit does to a LIN channel (R305): a change of the running table restarts it at the end of the slot; a channel that is no
longer master stops its schedule, and one whose MODE has changed leaves the frame it waited for. -/
def linCommit (old : Bank) (s : State) : State :=
  (List.range 12).foldl (fun s j =>
    let c := s.linSt j
    let changed := (List.range 64).any (fun e =>
      [A.linTabEntry j, A.linTabSpor j].any (fun a => old.regs.read (selKey a (c.table * 64 + e)) ≠ s.cfg (selKey a (c.table * 64 + e))))
    let s := if changed ∧ c.pendingTable.isNone then setLin j { c with pendingTable := some c.table } s else s
    let s := if s.linMode j = 1 then s else setLin j { s.linSt j with running := false, resolving := none } s
    if (s.linMode j ≠ 0 ∧ fld (old.regs.read (A.linCtrl j)) 0 2 = s.linMode j) ∨ (s.linSending j).isSome then s
    else setLin j { s.linSt j with expecting := none, synced := false } s) s

/-- LIN_STATUS (R332). -/
def State.linStatus (s : State) (j : Nat) : W32 :=
  let c := s.linSt j
  w32 (c.table % 8 + c.entry % 64 * 2 ^ 8 + bit c.resolving.isSome * 2 ^ 16 + bit c.synced * 2 ^ 17)

/-- TRANSCEIVER_FAULT (R329, R335): CAN channels are 0–23, LIN channels 24–35. -/
def execTransceiverFault (v : BusVertex) (present : Bool) (s : State) : Host.Outcome State Fault Refusal :=
  ran s (only s.on (fun s =>
    if v.val < 24 then canTrx v present s
    else
      let j := v.val - 24
      let c := s.linSt j
      let s := setLin j { c with trxFault := present } s
      if present ∧ !c.trxFault then raiseLin j 5 (fault (linPage j) 0x10F (72 + j) s) else s) s)

end Sys2Proof.Machine
end

