-- ==== Sys2Proof/Machine/Journal.lean ====
section
/-! DEFINITION. The journal and its rings (chapter 08): the writer and its policy (R395–R397), the read window (R398), the
export (R400–R404), capture rings and their descriptors (R405, R406), injection FIFOs (R408–R410, R412), crossings (R411, R573). -/

namespace Sys2Proof.Machine

/-- The crossing page of the journal block: the page of sources 276–291. -/
def jrnPage : PageRef := ⟨.jrn, 0⟩
/-- The power page. -/
def pwrPage : PageRef := ⟨.pwr, 0⟩

/-- Records that the ring holds (R388). -/
def jrnCapacity : Nat := 402653184

/-! ## The writer -/

/-- JRN_PROTECT (R397). -/
def State.protect (s : State) : Nat := pair (s.reg A.jrnProtectLo) (s.reg A.jrnProtectHi)

/-- Records that the ring takes now: under DROP_NEW the space above JRN_PROTECT. -/
def State.ringRoom (s : State) : Nat :=
  if s.jrn.policy then jrnCapacity - (s.jrn.wr - s.protect) else jrnCapacity

/-- Writes one record into its slot; the slot's old record is gone (R397). -/
def putRecord (r : JRec) (s : State) : State :=
  let j := s.jrn
  let slot := j.wr % jrnCapacity
  { s with jrn := { j with ring := SMap.put JRec.nil j.ring slot r, wr := j.wr + 1,
                           oldest := max j.oldest (j.wr + 1 - jrnCapacity), corruptSlots := dropFrom j.corruptSlots slot } }

/-- The records of an entry: the record and its EXT record. -/
def JEntry.records (e : JEntry) : List JRec := e.rec_ :: e.ext.toList

/-- Writes an entry whole (R395) and raises what it causes: the wrap under OVERWRITE, the fill threshold under DROP_NEW. -/
def putEntry (e : JEntry) (s : State) : State :=
  let old := s.jrn.wr
  let t := e.records.foldl (fun s r => putRecord r s) s
  let new := t.jrn.wr
  let t := if !t.jrn.policy ∧ jrnCapacity ≤ old ∧ ceilDiv old jrnCapacity ≠ ceilDiv new jrnCapacity then raise 276 t else t
  let th := (t.reg A.jrnFillThresh).toNat
  if t.jrn.policy ∧ old - t.protect < th ∧ th ≤ new - t.protect then raise 289 t else t

/-- Writes an entry to the ring, or drops and counts it under DROP_NEW (R397); the GAP record of earlier drops comes first. -/
def writeEntry (e : JEntry) (s : State) : State :=
  let s := if s.jrn.lostPolicy > 0 ∧ s.ringRoom ≥ 1 then
      let k := s.ownKey 99
      let r := recOf k 0xC 0 0 0 false false s.epoch.live (w32 s.jrn.lostPolicy) 0
      putEntry ⟨r, none⟩ (takeSeq 99 k.1 { s with jrn := { s.jrn with lostPolicy := 0 } })
    else s
  let n := e.records.length
  if n ≤ s.ringRoom then putEntry e s
  else
    let s' := addSat A.jrnPolicyDrop n { s with jrn := { s.jrn with lostPolicy := s.jrn.lostPolicy + n } }
    if s.jrn.lostPolicy = 0 then raise 277 s' else s'

/-- Takes the policy that JRN_CTRL asks for: every command begins at a record boundary (R397). -/
def takePolicy (s : State) : State := { s with jrn := { s.jrn with policy := tst (s.reg A.jrnCtrl) 0 } }

/-- The writer takes the head of the event lane into the staging area when there is room (R396). -/
def drainLane (s : State) : State :=
  match s.jrn.eventLane with
  | [] => s
  | e :: l =>
    if entryCount s.jrn.staging + 1 ≤ 8192 then stageQuiet e { s with jrn := { s.jrn with eventLane := l } } else s

/-- JOURNAL_WRITE (R395, R397): the oldest staged record, with its EXT record, goes to the ring; an event record enters the
staging area. -/
def execJournalWrite (s : State) : Host.Outcome State Fault Refusal :=
  ran s (only s.coreOn (fun s =>
    let s := flushGap (drainLane (takePolicy s))
    match s.jrn.staging with
    | [] => s
    | e :: l => writeEntry e { s with jrn := { s.jrn with staging := l } }) s)

/-- EVENT_LANE_DRAIN (R396): one COALESCED record per counted source, in ascending order; the counts are cleared. -/
def execEventLaneDrain (s : State) : Host.Outcome State Fault Refusal :=
  ran s (only (s.coreOn && decide (s.jrn.coalesce ≠ []) && decide (s.jrn.eventLane.length < 512)) (fun s =>
    let cs := s.jrn.coalesce
    let s : State := { s with jrn := { s.jrn with coalesce := [] } }
    cs.foldl (fun s p => record 99 0xB (w32 p.1) (w32 p.2) s) s) s)

/-! ## The read window -/

/-- A record as it is read out: CORRUPT set and counted when its slot is uncorrectable (R390). -/
def readRecord (n : Nat) (s : State) : JRec × State :=
  let slot := n % jrnCapacity
  let r := SMap.get JRec.nil s.jrn.ring slot
  if s.jrn.corruptSlots.contains slot then ({ r with w4 := setBit r.w4 7 true }, bump A.jrnCorrupt s) else (r, s)

/-- The words of a record. -/
def JRec.words (r : JRec) : List W32 := [r.w0, r.w1, r.w2, r.w3, r.w4, r.w5, r.w6, r.w7]

/-- A write of JRN_RD_REQ (R398): copies the present records from JRN_RD_POS on, up to COUNT, into the read window. -/
def rdReqWritten (v : W32) (s : State) : State :=
  let count := fld v 0 7
  let pos := pair (s.reg A.jrnRdPosLo) (s.reg A.jrnRdPosHi)
  let ended (got res : Nat) (s : State) : State := { s with jrn := { s.jrn with rdGot := got, rdResult := res } }
  if count = 0 ∨ count > 64 then ended 0 4 s
  else if pos < s.jrn.oldest then ended 0 2 s
  else if pos ≥ s.jrn.wr then ended 0 3 s
  else
    let got := min count (s.jrn.wr - pos)
    let s := (List.range got).foldl (fun s i =>
      let (r, s) := readRecord (pos + i) s
      (List.range 8).foldl (fun s w => setReg (A.jrnRdWin (8 * i + w)) (r.words.getD w 0) s) s) s
    let s := setReg A.jrnRdPosHi (hiW (pos + got)) (setReg A.jrnRdPosLo (loW (pos + got)) s)
    ended got (if got = count then 0 else 1) s

/-- JRN_RD_STATUS (R413). -/
def State.rdStatus (s : State) : W32 := w32 (s.jrn.rdGot * 2 ^ 8 + s.jrn.rdResult * 2 ^ 16)

/-- JRN_STATUS (R413). -/
def State.jrnStatus (s : State) : W32 :=
  w32 (bit (decide (s.jrn.wr > jrnCapacity)) + 2 * bit (decide (s.jrn.lostPolicy > 0)) + 4 * bit (decide (s.jrn.coalesce ≠ []))
    + 8 * bit s.jrn.expOn)

/-! ## The export -/

/-- Egress vertex of the export. -/
def State.expDest (s : State) : Nat := fld (s.cfg A.jrnExpCtrl) 8 7
/-- Records of a full export frame. -/
def State.expRecs (s : State) : Nat := fld (s.cfg A.jrnExpPack) 0 7
/-- W of the export, in ns. -/
def State.expW (s : State) : Nat := fld (s.cfg A.jrnExpW) 0 9 * 1000
/-- First record of a replay. -/
def State.expStart (s : State) : Nat := pair (s.cfg A.jrnExpStartLo) (s.cfg A.jrnExpStartHi)
/-- Record after the last of a replay. -/
def State.expEnd (s : State) : Nat := pair (s.cfg A.jrnExpEndLo) (s.cfg A.jrnExpEndHi)

/-- The export takes its settings at a commit: EN rising or another MODE starts it anew, EN clear stops it (R403, R404). A LIVE
export begins at the writer. -/
def expCommit (old : Bank) (s : State) : State :=
  let o := old.regs.read A.jrnExpCtrl
  let n := s.cfg A.jrnExpCtrl
  if !tst n 0 then
    { s with jrn := { s.jrn with expOn := false, store := [], frame := [] } }
  else if tst o 0 ∧ tst o 1 = tst n 1 then s
  else
    { s with jrn := { s.jrn with expOn := true, expReplay := tst n 1, store := [], frame := [], frameSeq := 0,
                                 cursor := if tst n 1 then s.expStart else s.jrn.wr, hi := none, hiAt := s.ns, expMax := none } }

/-- Key of a record: its stamp, vertex and sequence number. -/
def JRec.key (r : JRec) : Nat × Nat × W32 := (timeOf (pair r.w0 r.w1) r.w2.toNat, fld r.w4 0 7, r.w3)

/-- Rank of a record among those of one key (R393). -/
def JRec.rank (r : JRec) : Nat :=
  match fld r.w4 8 4 with
  | 0 => 0
  | 2 => 1
  | 1 => 2
  | _ => 3

/-- The order of the merge store (R393, R402). -/
def entryBefore (a b : JEntry) : Bool :=
  keyBefore a.rec_.key b.rec_.key || (!keyBefore b.rec_.key a.rec_.key && decide (a.rec_.rank < b.rec_.rank))

/-- Puts an entry into the merge store when its TYPE and FACET are selected (R400). -/
def expTake (e : JEntry) (s : State) : State :=
  let t := tst (s.cfg A.jrnExpCtrl) (16 + fld e.rec_.w4 8 4) && tst (s.cfg A.jrnExpFacets) (fld e.rec_.w4 12 4)
  if t then { s with jrn := { s.jrn with store := insertBy entryBefore e s.jrn.store } } else s

/-- The record at the cursor with its EXT record, and the export moved past both. -/
def readEntry (s : State) : JEntry × State :=
  let c := s.jrn.cursor
  let (r, s) := readRecord c s
  let x := SMap.get JRec.nil s.jrn.ring ((c + 1) % jrnCapacity)
  if c + 1 < s.jrn.wr ∧ fld x.w4 8 4 = 0xF ∧ fld r.w4 8 4 ≠ 0xF then
    let (x, s) := readRecord (c + 1) s
    (⟨r, some x⟩, { s with jrn := { s.jrn with cursor := c + 2 } })
  else (⟨r, none⟩, { s with jrn := { s.jrn with cursor := c + 1 } })

/-- The frame in hand is full: it waits for its cells and holds the cursor (R404). -/
def State.expFull (s : State) : Bool := decide (s.jrn.frame.length ≥ s.expRecs)

/-- EXPORT_READ (R400, R402, R404): the cursor reads one record; overtaken by the writer it moves to JRN_OLDEST and exports a
GAP record; at the end of a replay it stops. -/
def execExportRead (s : State) : Host.Outcome State Fault Refusal :=
  ran s (only (s.coreOn && s.jrn.expOn && !s.expFull && decide (entryCount s.jrn.store < 32768)) (fun s =>
    let c := s.jrn.cursor
    if c < s.jrn.oldest then
      let skip := s.jrn.oldest - c
      let k := s.ownKey 99
      let r := recOf k 0xC 0 0 0 false false s.epoch.live (w32 skip) 2
      let s := takeSeq 99 k.1 { s with jrn := { s.jrn with cursor := s.jrn.oldest } }
      raise 280 (expTake ⟨r, none⟩ (addSat A.jrnExpGap skip s))
    else if s.jrn.expReplay ∧ c ≥ s.expEnd then
      if s.jrn.store = [] ∧ s.jrn.frame = [] then raise 283 { s with jrn := { s.jrn with expOn := false } } else s
    else if c ≥ s.jrn.wr then s
    else
      let (e, s) := readEntry s
      if fld e.rec_.w4 8 4 = 0xF then s
      else
        let t := e.rec_.key.1
        let h := match s.jrn.hi with
          | none => t
          | some x => max x t
        expTake e { s with jrn := { s.jrn with hi := some h, hiAt := s.ns } }) s)

/-- A record as the export sends it: LATE where it is late, and to a tenant 0x0F in place of the reasons 0x06 and 0x0D
(R399, R402). -/
def State.expForm (s : State) (late : Bool) (r : JRec) : JRec :=
  let w := if late then setBit r.w4 27 true else r.w4
  let reason := fld w 16 8
  { r with w4 := if s.bound s.expDest ≠ 0 ∧ (reason = 6 ∨ reason = 0xD) then setFld w 16 8 0xF else w }

/-- The bytes of the export frame that holds the given records (R403). -/
def State.expBytes (s : State) (rs : List JRec) : List Byte :=
  let vl := s.cfg A.jrnExpVlan
  let tci := fld vl 0 16
  let hdr := beBytes 1 0x10 ++ beBytes 1 (bit s.jrn.expReplay) ++ beBytes 2 rs.length ++ beBytes 4 s.jrn.frameSeq.toNat
  ethFrame (macOf (s.cfg A.jrnExpDmacLo) (s.cfg A.jrnExpDmacHi)) (s.station s.expDest)
    (if tci = 0 then none else some (BitVec.ofNat 16 tci)) (fld vl 16 16)
    (hdr ++ (rs.map (fun r => (r.words.map (fun w => beBytes 4 w.toNat)).flatten)).flatten)

/-- Sends the frame in hand when its cells are admitted; otherwise it waits (R404). -/
def expSend (s : State) : State :=
  let rs := s.jrn.frame.take s.expRecs
  let tc := fld (s.cfg A.jrnExpCtrl) 4 3
  let data := s.expBytes rs
  if rs = [] ∨ !s.ownFits 99 s.expDest tc data then s
  else
    let s := sendOwn 99 s.expDest tc data s
    bump A.jrnExpFrames { s with jrn := { s.jrn with frame := s.jrn.frame.drop s.expRecs, frameAt := s.ns, frameSeq := s.jrn.frameSeq + 1 } }

/-- Whether the lowest-keyed record of the merge store may go, and whether only because the store is full (R402). -/
def State.expDue (s : State) : Option (JEntry × Bool) :=
  match s.jrn.store.head? with
  | none => none
  | some e =>
    let byW := match s.jrn.hi with
      | none => false
      | some h => decide (e.rec_.key.1 + s.expW ≤ h)
    let ended := s.jrn.expReplay && decide (s.jrn.cursor ≥ s.expEnd)
    let idle := !s.jrn.expReplay && decide (s.jrn.hiAt + s.expW ≤ s.ns)
    if byW || ended || idle then some (e, false)
    else if entryCount s.jrn.store ≥ 32768 then some (e, true)
    else none

/-- EXPORT_RELEASE (R402): the lowest-keyed record goes into the frame; a late one is marked and its frame is sent at once. -/
def execExportRelease (s : State) : Host.Outcome State Fault Refusal :=
  ran s (only (s.coreOn && !s.expFull) (fun s =>
    match s.expDue with
    | none => s
    | some (e, early) =>
      let k := e.rec_.key
      let late := match s.jrn.expMax with
        | none => false
        | some m => keyBefore k m
      let top := if late then s.jrn.expMax else some k
      let j := s.jrn
      let frame := j.frame ++ e.records.map (s.expForm late)
      let at_ := if j.frame = [] then s.ns else j.frameAt
      let s : State := { s with jrn := { j with store := j.store.drop 1, expMax := top, frame := frame, frameAt := at_ } }
      let s := if early then raise 282 (bump A.jrnExpEarly s) else s
      if late then expSend (raise 281 (bump A.jrnExpLate s)) else s) s)

/-- EXPORT_FRAME_SEND (R404): a full frame is sent as an item of vertex 99. -/
def execExportFrameSend (s : State) : Host.Outcome State Fault Refusal :=
  ran s (only (s.coreOn && s.expFull) expSend s)

/-- EXPORT_FLUSH_TIMEOUT (R403): FLUSH µs after its first record a frame is sent. -/
def execExportFlushTimeout (s : State) : Host.Outcome State Fault Refusal :=
  ran s (only (s.coreOn && decide (s.jrn.frame ≠ []) && decide (s.jrn.frameAt + fld (s.cfg A.jrnExpPack) 16 10 * 1000 ≤ s.ns))
    expSend s)

/-! ## The ring region and capture rings -/

/-- First byte address of the ring region (R388). -/
def ringLow : Nat := 0x320000000
/-- The address after the ring region. -/
def ringTop : Nat := 0x360000000

/-- Whether `n` bytes lie wholly in the ring region. -/
def inRing (a n : Nat) : Bool := decide (ringLow ≤ a) && decide (a + n ≤ ringTop)

/-- A byte of the ring region; one that nothing has written reads as zero (DESIGN CHOICE: log entry 12). -/
def State.dramByte (s : State) (a : Nat) : Byte := SMap.get 0 s.dram a

/-- A word of the ring region, least significant byte first (R8). -/
def State.dramWord (s : State) (a : Nat) : W32 := w32 (leAt ((List.range 4).map (fun i => s.dramByte (a + i))) 0 4)

/-- Writes bytes into the ring region. -/
def dramPut (a : Nat) (l : List Byte) (s : State) : State :=
  let d := (l.mapIdx (fun i b => (i, b))).foldl (fun m p => SMap.put 0 m (a + p.1) p.2) s.dram
  { s with dram := d }

/-- Writes a word into the ring region. -/
def dramPutWord (a : Nat) (v : W32) (s : State) : State := dramPut a (leBytes 4 v.toNat) s

/-- Base of the data window of the ring page (R414). -/
def State.dwBase (s : State) : Nat := ((s.reg A.rngDwAddrLo).toNat / 64) * 64 + fld (s.reg A.rngDwAddrHi) 0 3 * 2 ^ 32

/-- Descriptors of a capture ring. -/
def State.capLen (s : State) (r : Nat) : Nat := fld (s.cfg (A.capLen r)) 0 17

/-- Descriptors that the device owns: CAP_r_HEAD to CAP_r_TAIL − 1 (R405). A ring that is not enabled gives it none. -/
def State.capOwned (s : State) (r : Nat) : Nat :=
  let n := s.capLen r
  if tst (s.cfg (A.capCtrl r)) 0 ∧ n > 0 then (fld (s.reg (A.capTail r)) 0 16 % n + n - fld (s.reg (A.capHead r)) 0 16 % n) % n else 0

/-- Address of a descriptor. -/
def State.descAddr (s : State) (r i : Nat) : Nat :=
  pair (s.cfg (A.capBaseLo r)) (w32 (fld (s.cfg (A.capBaseHi r)) 0 3)) + 16 * i

/-- Returns the descriptor at HEAD with its W2 and W3. -/
def returnDesc (r : Nat) (w2 w3 : W32) (s : State) : State :=
  let h := fld (s.reg (A.capHead r)) 0 16
  let a := s.descAddr r h
  let s := if inRing a 16 then dramPutWord (a + 12) w3 (dramPutWord (a + 8) w2 s) else s
  setRegN (A.capHead r) ((h + 1) % s.capLen r) s

/-- Fills descriptors with the bytes of a frame that are left (R405): whether the frame ended, with the indices used. BYTES of a
descriptor given to the device is the size of its buffer. -/
def fillDescs (r : Nat) (i : Item) : Nat → Nat → Bool → List Byte → List Nat → State → Bool × List Nat × State
  | 0, _, _, _, used, s => (false, used, s)
  | fuel + 1, owned, first, l, used, s =>
    if owned = 0 then (false, used, s)
    else
      let h := fld (s.reg (A.capHead r)) 0 16
      let a := s.descAddr r h
      let buf := pair (s.dramWord a) (w32 (fld (s.dramWord (a + 4)) 0 3))
      let size := fld (s.dramWord (a + 8)) 0 16
      if !inRing a 16 || !inRing buf size || decide (buf % 64 ≠ 0) then
        fillDescs r i fuel (owned - 1) first l used (returnDesc r (w32 (2 ^ 18 + i.vertex % 128 * 2 ^ 24)) i.seq s)
      else
        let part := l.take size
        let rest := l.drop size
        let last := decide (rest = [])
        let w2 := w32 (part.length + bit first * 2 ^ 16 + bit last * 2 ^ 17 + i.vertex % 128 * 2 ^ 24)
        let s := returnDesc r w2 i.seq (dramPut buf part s)
        if last then (true, used ++ [h], s) else fillDescs r i fuel (owned - 1) false rest (used ++ [h]) s

/-- Marks the used buffers of an abandoned frame (R406). -/
def abandonDescs (r : Nat) (used : List Nat) (s : State) : State :=
  used.foldl (fun s h =>
    let a := s.descAddr r h + 8
    dramPutWord a (setBit (s.dramWord a) 18 true) s) s

/-- CAPTURE_RING_RECEIVE (R405, R406): the oldest copy for vertex 99 in class r goes into the buffers of ring r; without a
descriptor left it is abandoned and counted. -/
def execCaptureRingReceive (r : Fin 8) (s : State) : Host.Outcome State Fault Refusal :=
  ran s (only s.coreOn (fun s =>
    match s.queue 99 r with
    | [] => s
    | c :: l =>
      let s := setQueue 99 r l s
      let (done, used, s) := fillDescs r c.item (s.capOwned r) (s.capOwned r) true c.data [] s
      if done then bump (A.capFrames r) (freeCopy c s)
      else raise 286 (bump (A.capNobuf r) (dropReserved 3 true c (abandonDescs r used s)))) s)

/-! ## Injection FIFOs -/

/-- An injection FIFO. -/
def State.injSt (s : State) (k : Nat) : InjSt := SMap.get InjSt.reset s.inj k

/-- Sets an injection FIFO. -/
def setInj (k : Nat) (i : InjSt) (s : State) : State := { s with inj := SMap.put InjSt.reset s.inj k i }

/-- MODE PINGPONG of an injection FIFO. -/
def State.pingPong (s : State) (k : Nat) : Bool := tst (s.reg (A.injCtrl k)) 1

/-- Free words of the FIFO, in which a closed packet takes whole sectors of eight words (R409), or of the half being filled (R410). -/
def State.injFree (s : State) (k : Nat) : Nat :=
  let i := s.injSt k
  if s.pingPong k then (if i.halves.length ≥ 2 then 0 else 2048 - i.words.length)
  else 4096 - i.words.length - i.closed.foldl (fun n p => n + 8 * ceilDiv p.length 32) 0

/-- FULL of an injection FIFO: no free word, or both halves held (R410, R414). -/
def State.injFull (s : State) (k : Nat) : Bool :=
  if s.pingPong k then decide ((s.injSt k).halves.length ≥ 2) else decide (s.injFree k = 0)

/-- INJ_k_STATUS (R414). -/
def State.injStatus (s : State) (k : Nat) : W32 :=
  w32 (s.injFree k + bit (s.injFull k) * 2 ^ 16 + (s.injSt k).half % 2 * 2 ^ 17)

/-- Sets a bit of INJ_k_FLAGS. -/
def injFlag (k b : Nat) (s : State) : State := setReg (A.injFlags k) (setBit (s.reg (A.injFlags k)) b true) s

/-- A write of INJ_k_DATA (R408, R409): the word enters, or the FIFO overruns and the packet in progress is lost. -/
def injDataWritten (k : Nat) (v : W32) (s : State) : State :=
  let i := s.injSt k
  if !tst (s.reg (A.injCtrl k)) 0 then s
  else if i.bad then setInj k { i with lastWrite := s.now } s
  else if s.injFree k = 0 then raise 290 (injFlag k 0 (setInj k { i with words := [], bad := true, lastWrite := s.now } s))
  else setInj k { i with words := i.words ++ [v], lastWrite := s.now } s

/-- The bytes of the words of a packet whose last word has `valid` valid bytes (R409). -/
def packetOf (ws : List W32) (valid : Nat) : List Byte :=
  let l := (ws.map (fun w => beBytes 4 w.toNat)).flatten
  l.take (l.length - (4 - valid))

/-- Whether a packet may leave END (R409): 1–4 valid bytes, 60 to 16,000 bytes, no longer than the MAXLEN of its class. -/
def State.injFits (s : State) (k valid : Nat) (p : List Byte) : Bool :=
  let d := s.reg (A.injDest k)
  decide (1 ≤ valid) && decide (valid ≤ 4) && decide (60 ≤ p.length) && decide (p.length ≤ 16000)
    && decide (p.length + 4 ≤ fld (s.cfg (selKey (A.qCMaxlen (fld d 8 3)) (fld d 0 7))) 0 14)

/-- A write of INJ_k_END (R409, R412): the packet closes; one that overran or does not fit is dropped and counted; a flush that
waited for this boundary discards everything. -/
def injEndWritten (k : Nat) (v : W32) (s : State) : State :=
  let i := s.injSt k
  let valid := fld v 0 3
  let p := packetOf i.words valid
  if !tst (s.reg (A.injCtrl k)) 0 ∨ s.pingPong k then s
  else
    let i' := { i with words := [], bad := false, lastWrite := s.now }
    if i.flush then setInj k { i' with flush := false, closed := [] } s
    else if i.bad || !s.injFits k valid p then bump (A.injDropped k) (setInj k i' s)
    else setInj k { i' with closed := i.closed ++ [p] } s

/-- CMD.SWAP (R410): the half is handed over as one packet; filling moves to the other half, or waits until it is free. -/
def injSwapWritten (k valid : Nat) (s : State) : State :=
  let i := s.injSt k
  let p := packetOf i.words valid
  if !tst (s.reg (A.injCtrl k)) 0 || !s.pingPong k || decide (i.halves.length ≥ 2) then s
  else
    let i' := { i with words := [], bad := false, lastWrite := s.now }
    if i.flush then setInj k { i' with flush := false, halves := [] } s
    else if i.bad || !s.injFits k valid p then bump (A.injDropped k) (setInj k i' s)
    else setInj k { i' with halves := i.halves ++ [p], half := if i.halves = [] then 1 - i.half else i.half } s

/-- CMD.FLUSH (R412): the FIFO is emptied at once between items, otherwise at the end of the item in progress. -/
def injFlushWritten (k : Nat) (s : State) : State :=
  let i := s.injSt k
  if i.words = [] ∧ !i.bad then setInj k { i with closed := [], halves := [] } s else setInj k { i with flush := true } s

/-- A write of INJ_k_CMD: SWAP before FLUSH, which then takes effect at the boundary that SWAP made. -/
def injCmdWritten (k : Nat) (v : W32) (s : State) : State :=
  let s := if tst v 1 then injSwapWritten k (fld v 2 3) s else s
  if tst v 0 then injFlushWritten k s else s

/-- INJECT_ADMIT (R409): the oldest closed packet becomes an item of vertex 96 when its cells are admitted. -/
def execInjectAdmit (k : Fin 4) (s : State) : Host.Outcome State Fault Refusal :=
  ran s (only s.coreOn (fun s =>
    let i := s.injSt k
    let d := s.reg (A.injDest k)
    let dest := fld d 0 7
    let tc := fld d 8 3
    let take (p : List Byte) (i' : InjSt) : State :=
      if s.ownFits 96 dest tc p then sendOwn 96 dest tc p (setInj k i' s) else s
    match i.closed, i.halves with
    | p :: l, _ => take p { i with closed := l }
    | [], p :: l => take p { i with halves := l, half := if l = [] then i.half else 1 - i.half }
    | [], [] => s) s)

/-- A poisoned item has been discarded: event 287 and its fault record (R412). -/
def poisoned (v : Nat) (s : State) : State := raise 287 (fault jrnPage 0x105 v s)

/-- INJECT_IDLE_TIMEOUT (R412): 1 ms without a write closes the packet in progress as poisoned and discards it; one that had overrun is
counted (R408). -/
def execInjectIdleTimeout (k : Fin 4) (s : State) : Host.Outcome State Fault Refusal :=
  let i := s.injSt k
  ran s (only (s.coreOn && (decide (i.words ≠ []) || i.bad) && decide (i.lastWrite + 1000000 ≤ s.now)) (fun s =>
    let i' := { i with words := [], bad := false }
    let s := if i.bad then bump (A.injDropped k) s else s
    poisoned 96 (injFlag k 1 (setInj k (if i.flush then { i' with flush := false, closed := [], halves := [] } else i') s))) s)

/-! ## Crossings -/

/-- The crossing of a vertex. -/
def State.crossing (s : State) (v : Nat) : Crossing := SMap.get Crossing.reset s.cross v

/-- Sets the crossing of a vertex. -/
def setCrossing (v : Nat) (c : Crossing) (s : State) : State := { s with cross := SMap.put Crossing.reset s.cross v c }

/-- One side of a crossing is reset (R411, R574): the FIFO enters Gray-coded mode; `n` items in flight are discarded and
counted; event 288 and its fault record. -/
def enterGray (v n : Nat) (s : State) : State :=
  raise 288 (fault jrnPage 0x106 v (addSat A.jrnXingDiscard n (setCrossing v ⟨true, s.now, none⟩ s)))

/-- CROSSING_RESYNC (R411): the pointers are in step again and the crossing returns to the native mode. -/
def execCrossingResync (v : Vertex) (s : State) : Host.Outcome State Fault Refusal :=
  ran s (only (s.on && (s.crossing v).gray) (setCrossing v Crossing.reset) s)

/-- A vertex has a copy to take over its crossing. -/
def State.offers (s : State) (v : Nat) : Option Nat := (List.range 8).reverse.find? (fun c => decide (s.queue v c ≠ []))

/-- CROSSING_WAKE_TIMEOUT (R573): a wake request unanswered for 1 µs raises event 43 with its fault record; the handshake waits
on. -/
def execCrossingWakeTimeout (v : Vertex) (s : State) : Host.Outcome State Fault Refusal :=
  let c := s.crossing v
  ran s (only (s.coreOn && (s.offers v).isSome && c.waking.isNone) (fun s =>
    raise 43 (fault pwrPage 0x105 v (setCrossing v { c with waking := some s.now } s))) s)

/-- PRODUCER_STALL_TIMEOUT (R412): a producer stalled for 4,096 handshake periods of the crossing of a vertex; the item it
offers is closed as poisoned and discarded, and a wake request it waited on ends with it. The spec names no reason code (log entry 45). -/
def execProducerStallTimeout (v : Vertex) (s : State) : Host.Outcome State Fault Refusal :=
  ran s (only s.coreOn (fun s =>
    match s.offers v with
    | none => s
    | some c =>
      match takeHead v c s with
      | none => s
      | some (k, s) =>
        let s := freeCopy k (unnamedFate k s)
        poisoned v (setCrossing v { s.crossing v with waking := none } s)) s)

end Sys2Proof.Machine
end

