-- ==== Sys2Proof/Machine/Reset.lean ====
section
/-! DEFINITION. What a reset, a collapse and the entry to SLEEP leave (R520, R560, R575, R589–R593), the start that follows, and
the restart of the management processor (R55, R59, R63). -/

namespace Sys2Proof.Machine

/-- The system page. -/
def sysPage : PageRef := ⟨.sys, 0⟩
/-- The update page. -/
def updPage : PageRef := ⟨.upd, 0⟩
/-- The wake page. -/
def wakPage : PageRef := ⟨.wak, 0⟩

/-! ## What survives -/

/-- The flash, the fuses and the fault log survive every reset (R575, R611); a bank that was being written is rejected (R594). -/
def FirmwareSt.kept (f : FirmwareSt) : FirmwareSt :=
  let banks := f.banks.map (fun p => (p.1, if p.2.st = 1 then { p.2 with st := 5 } else p.2))
  { FirmwareSt.reset with banks := banks, sets := f.sets, rec_ := f.rec_, recOld := f.recOld, fuses := f.fuses, floor := f.floor, starts := f.starts,
                          flog := f.flog, flogSec := f.flogSec, flogInSec := f.flogInSec,
                          flogTotal := f.flogTotal }

/-- The supplies as the power stage sees them. -/
def PowerSt.supplies (p : PowerSt) (now : Nat) : PowerSt :=
  { PowerSt.reset with aOk := p.aOk, bOk := p.bOk, aDc := p.aDc, bCrank := p.bCrank, aCarry := p.aCarry, bCarry := p.bCarry,
                       holdup := p.holdup, lostAt := p.lostAt, wasA := p.wasA, thermal := p.thermal, over125 := p.over125,
                       xoDue := now + 50000000, wdogAt := now, startAt := now, cause := p.cause, devResets := p.devResets }

/-- Buffer cells mapped out once every cell is free, as a reset leaves them (R120). -/
def State.cellsOut (s : State) : Nat := min 1024 (s.mappedOut + s.cellDue.length)

/-- Whether a register counts since the last module reset: FAULTS of a PAGE_STATUS (R628). -/
def faultsKey (k : Nat) : Bool := decide (k < 0x1000000 ∧ k % 0x1000 = 0x0C)

/-- The counts that run since the last module reset: SYS_EPOCH_DISCARD (R45), the cells mapped out (R120) and FAULTS of each page (R628). They
are put back over the registers that a reset leaves (DEDUCED: log entry 33). -/
def State.sinceModule (s : State) (regs : RegFile) : RegFile :=
  let kept := (s.regs.filter (fun p => faultsKey p.1)).map (fun p => (p.1, setFld 0 8 8 (fld p.2 8 8)))
  let kept := kept ++ [(A.sysEpochDiscard, s.reg A.sysEpochDiscard), (A.bufMappedOut, w32 s.cellsOut)]
  kept.foldl (fun m p => m.write p.1 p.2) regs

/-- The main die loses its state: everything but the registers, the always-on domain and the power stage given, the flash, the fuses and what
counts since the last module reset. -/
def dieOff (regs : RegFile) (w : WakeSt) (p : PowerSt) (s : State) : State :=
  { State.reset with pending := s.pending, now := s.now, fresh := s.fresh, resp := s.resp, outbox := s.outbox, nextId := s.nextId,
                     regs := s.sinceModule regs, wake := w, power := p, fw := s.fw.kept, mappedOut := s.cellsOut, cellErrs := s.cellErrs,
                     svc := { MonitorSt.reset with output := s.svc.output } }

/-- What counts since the last module reset begins anew. -/
def forgetCounts (s : State) : State := { s with regs := [], mappedOut := 0, cellErrs := [], cellDue := [] }

/-- Registers of the always-on domain and the power stage that a device reset keeps (R575). -/
def keptByDevice : List Nat :=
  [A.wakSleeps, A.wakCause, A.wakCauseSecLo, A.wakCauseSecHi, A.wakCauseNs, A.pwrSupplyLosses, A.pwrHoldups, A.pwrFreezeDrops]

/-- Some registers of a register file. -/
def RegFile.only (m : RegFile) (keys : List Nat) : RegFile := m.filter (fun p => keys.contains p.1)

/-- The part of the wake state that the always-on domain keeps over a device reset. -/
def WakeSt.kept (w : WakeSt) : WakeSt :=
  { WakeSt.reset with aon := w.aon, trimAt := w.trimAt, trimVertex := w.trimVertex, trimBad := w.trimBad, corr := w.corr }

/-! ## Starts -/

/-- Sixteen free bytes. -/
def State.freeBytes (s : State) : List Byte := ((List.range 4).map (fun i => beBytes 4 (Config.freeWord (s.fresh + i)).toNat)).flatten

/-- A start begins with its cause (R575, R603, R611): the start count, the entry of the fault log, a new challenge, the ROM. -/
def beginStart (cause : Nat) (s : State) : State :=
  let f := { s.fw with starts := s.fw.starts + 1, step := .rom, challenge := s.freeBytes }
  let s : State := { s with fw := f, fresh := s.fresh + 4, mp := .boot, power := { s.power with cause := cause } }
  flogWrite (recOf (s.ownKey 96) 5 0 0 0 false false s.epoch.live 0x00130003 (w32 cause)) s

/-- A module reset (R575): the main die and the always-on domain are reset. -/
def moduleReset (s : State) : State :=
  let p := { s.power.supplies s.now with devResets := 0 }
  beginStart 0 (dieOff [] WakeSt.reset p (forgetCounts s))

/-- A device reset with its cause (R575): the always-on domain and the power stage keep their state. -/
def deviceReset (cause : Nat) (s : State) : State :=
  let p := { s.power.supplies s.now with devResets := s.power.devResets + 1 }
  beginStart cause (dieOff (s.regs.only keptByDevice) s.wake.kept p s)

/-- A collapse (R560): every rail is off and the always-on domain is reset. -/
def collapse (s : State) : State :=
  let p := { s.power.supplies s.now with collapsed := true, holdup := false }
  dieOff [] { WakeSt.reset with mode := .off } p (forgetCounts s)

/-! ## The management processor -/

/-- The processor restarts (R63, R73, R537, R574): the locus is in HOLDOVER with cause RESTART, a round in progress is
abandoned, and the processor side of its crossings is reset. -/
def mpDown (s : State) : State :=
  let n := s.ctlIn.length
  let s := s.ctlIn.foldl (fun s x => consume x.uid s) s
  let s := holdover 3 { s with mp := .restarting, ctlIn := [], wake := { s.wake with token := none } }
  enterGray 96 n s

/-- LOCKSTEP_MISMATCH (R55, R59): the processor restarts; after the third restart within 60 s it is halted. The third mismatch within 60 s
halts it at once, before its restart would complete (DESIGN CHOICE: log entry 70). -/
def execLockstepMismatch (s : State) : Host.Outcome State Fault Refusal :=
  ran s (only s.mpOn (fun s =>
    let l := (s.mpRestarts.filter (fun t => s.now < t + 60000000000)) ++ [s.now]
    let s := mpDown { s with mpRestarts := l }
    let s := raise 11 (fault sysPage 0x10D l.length s)
    if l.length ≥ 3 then raise 12 (fault sysPage 0x10E 0 { s with mp := .halted }) else s) s)

end Sys2Proof.Machine
end

