-- ==== Sys2Proof/Machine/Sleep.lean ====
section
/-! DEFINITION. Sleep, wake and the perimeter ring (chapter 11): DOZE and sleeping vertices, the entry to SLEEP, rounds of the ring, wake
sources, and the wake start. -/

namespace Sys2Proof.Machine

/-! ## Modes and sleeping vertices (R521–R528) -/

/-- Enters a power mode: event 292 when it changes (R551). -/
def setMode (m : PowerMode) (s : State) : State :=
  if s.wake.mode = m then s else raise 292 { s with wake := { s.wake with mode := m } }

/-- Marks a vertex asleep. -/
def markAsleep (v : Nat) (s : State) : State := { s with wake := { s.wake with asleep := addTo s.wake.asleep v } }

/-- The PHY or lane of a vertex goes off and its partner sees link loss (R524). -/
def ethOff (v : Nat) (s : State) : State :=
  let s := linkLost (if v < 8 then s.live.portOf v else v) false s
  let s := if v < 8 then setLane v { s.lane v with st := .disabled, good := 0, bad := 0, lastCwc := none } s else s
  markAsleep v (setEth v { s.ethSt v with phy := if v < 8 then (s.ethSt v).phy else .sleep } s)

/-- The go-to-sleep command of ISO 17987 (R524). -/
def goToSleep : List Byte := 0x00 :: List.replicate 7 0xFF

/-- A vertex falls asleep (R524). -/
def sleepVertex (v : Nat) (s : State) : State :=
  if s.wake.asleep.contains v then s
  else if 8 ≤ v ∧ v < 40 ∧ tst (s.cfg (A.ethPhyCtrl v)) 12 then
    if (SMap.get none s.wake.tc10 v).isSome then s
    else { s with wake := { s.wake with tc10 := SMap.put none s.wake.tc10 v (some s.now) } }
  else if v < 48 then ethOff v s
  else if v < 72 then
    markAsleep v (setCan (v - 48) { s.canSt (v - 48) with selective := true, sending := none, offer := none } s)
  else
    let j := v - 72
    let cmd := decide (s.linMode j = 1) && tst (s.cfg A.wakLinCtrl) (16 + j)
    let s := if cmd then emit v (linStored 0x3C false goToSleep) false s.ns s else s
    markAsleep v (setLin j { s.linSt j with running := false, expecting := none, resolving := none, synced := false } s)

/-- A sleeping vertex wakes (R528): a channel resumes; a PHY trains again. -/
def wakeVertex (v : Nat) (s : State) : State :=
  let s : State := { s with wake := { s.wake with asleep := dropFrom s.wake.asleep v, tc10 := SMap.put none s.wake.tc10 v none } }
  if v < 8 then setLane v { s.lane v with st := .down } s
  else if v < 48 then setEth v { s.ethSt v with phy := if tst (s.cfg (A.ethPhyCtrl v)) 0 then .training else .disabled } s
  else if v < 72 then setCan (v - 48) { s.canSt (v - 48) with selective := false } s
  else s

/-- Wakes every sleeping vertex, and drops the sleep requests that have no answer yet. -/
def wakeAll (s : State) : State :=
  let s := s.wake.asleep.foldl (fun s v => wakeVertex v s) s
  { s with wake := { s.wake with tc10 := [] } }

/-- The vertices of WAK_DOZE_SET. -/
def State.dozeSet (s : State) : List Nat :=
  let w := pair (s.cfg A.wakDozeSetLo) (s.cfg A.wakDozeSetMid) + fld (s.cfg A.wakDozeSetHi) 0 20 * 2 ^ 64
  bitsOf 84 w

/-- A commit that changes WAK_DOZE_SET in DOZE (R524). -/
def wakeCommit (old : Bank) (s : State) : State :=
  let changed := [A.wakDozeSetLo, A.wakDozeSetMid, A.wakDozeSetHi].any (fun a => old.regs.read a ≠ s.cfg a)
  if s.wake.mode = .doze ∧ changed ∧ s.wake.phase ≠ .dark then
    let now := s.dozeSet
    let s := (s.wake.asleep.filter (fun v => !now.contains v)).foldl (fun s v => wakeVertex v s) s
    now.foldl (fun s v => sleepVertex v s) s
  else s

/-- TC10_SLEEP_ANSWER (R524): the partner accepts or rejects the sleep request. -/
def execTc10SleepAnswer (v : EthV) (accept : Bool) (s : State) : Host.Outcome State Fault Refusal :=
  ran s (only (s.on && (SMap.get none s.wake.tc10 v).isSome) (fun s =>
    let s : State := { s with wake := { s.wake with tc10 := SMap.put none s.wake.tc10 v none } }
    if accept then ethOff v s else raise 298 s) s)

/-- TC10_SLEEP_TIMEOUT (R524): no answer in 16 ms leaves the vertex awake. -/
def execTc10SleepTimeout (v : EthV) (s : State) : Host.Outcome State Fault Refusal :=
  let due := match SMap.get none s.wake.tc10 v with
    | none => false
    | some t => decide (t + 16000000 ≤ s.now)
  ran s (only (s.on && due) (fun s => raise 298 { s with wake := { s.wake with tc10 := SMap.put none s.wake.tc10 v none } }) s)

/-! ## Rounds of the ring (R529–R541) -/

/-- A member that rounds visit: enabled and not excluded. -/
def State.pmVisits (s : State) (m : Nat) : Bool := tst (s.cfg (A.wakPmCtrl m)) 0 && !tst (s.reg (A.wakPmExclude m)) 0

/-- State of a member. -/
def State.member (s : State) (m : Nat) : MemberSt := SMap.get MemberSt.reset s.wake.members m

/-- Sets the state of a member. -/
def setMember (m : Nat) (x : MemberSt) (s : State) : State :=
  { s with wake := { s.wake with members := SMap.put MemberSt.reset s.wake.members m x } }

/-- Ranks of the UP accord peers that keep. -/
def State.peersKeeping (s : State) : List Nat :=
  (List.range 8).filter (fun r => let p := SMap.get PeerSt.reset s.accord.peers r
    decide (p.state = 1) && p.keeper)

/-- Sets the keeper registers; a change of the keeper set raises event 296 (R541). -/
def setKeepers (pm other : Nat) (s : State) : State :=
  let same := decide ((s.reg A.wakKeepersPm).toNat = pm ∧ (s.reg A.wakKeepersOther).toNat = other)
  let s := setRegN A.wakKeepersOther other (setRegN A.wakKeepersPm pm s)
  if same then s else raise 296 s

/-- What a round that ends records of a visited member (R540): how long it has kept without a break; at KEEP_LIMIT event 297, and
exclusion where AUTO_EXCLUDE asks for it. -/
def memberRound (m : Nat) (kept : Bool) (s : State) : State :=
  let x := s.member m
  if !kept then setMember m { x with keepSince := none, keepTime := 0 } s
  else
    let since := x.keepSince.getD s.now
    let secs := (s.now - since) / 1000000000
    let limit := fld (s.cfg A.wakPmTimeout) 8 8 * 60
    let s := setMember m { x with keepSince := some since, keepTime := secs, roundsKept := x.roundsKept + 1 } s
    if limit ≠ 0 ∧ limit ≤ secs ∧ (x.keepTime < limit) then
      let s := raise 297 s
      if tst (s.cfg (A.wakPmCtrl m)) 9 then setRegN (A.wakPmExclude m) 1 s else s
    else s

/-- A round counts as kept: the next one follows after the longer of WAK_ROUND_PERIOD and the largest HOLD_MS, at most 60 s
(R529). -/
def roundKept (ms : List Nat) (s : State) : State :=
  let hold := ms.foldl (fun a m => max a (s.member m).holdMs) 0
  let wait := min 60000 (max (fld (s.cfg A.wakRoundPeriod) 0 16) hold) * 1000000
  let w := { s.wake with hadKeeper := true, token := none }
  if w.req then { s with wake := { w with phase := .waitRound, result := 2, nextRound := s.now + wait } }
  else { s with wake := { w with phase := .none } }

/-- A round ends after its last member (R530, R531, R536). -/
def endRound (s : State) : State :=
  let w := s.wake
  let absent := (List.range 32).filter (fun m => s.pmVisits m && decide ((s.member m).status = 3) && !tst (s.cfg (A.wakPmCtrl m)) 8)
  let ms := (List.range 32).filter (fun m => w.keep.contains m || absent.contains m)
  let group := tst (s.cfg A.wakCtrl) 2
  let peers := if group then s.peersKeeping else []
  let facets := fld (s.reg A.wakFacetKeep) 0 16
  let visited := (List.range 32).filter s.pmVisits
  let s := visited.foldl (fun s m => memberRound m (ms.contains m) s) s
  let s := setKeepers (maskOf 32 ms) (facets + maskOf 8 peers * 2 ^ 16) s
  let s := raise 293 s
  if ms ≠ [] ∨ facets ≠ 0 ∨ peers ≠ [] then roundKept (ms.filter (fun m => w.keep.contains m)) s
  else
    let phase := if group then SleepPhase.groupWait else .preparing
    { s with wake := { s.wake with hadKeeper := false, token := none, phase := phase, groupAt := s.now } }

/-- Sends the token to the next member from `m` on; one whose vertex is asleep consents without it; after the last the round ends
(R536). -/
def passToken : Nat → Nat → State → State
  | 0, _, s => endRound s
  | n + 1, m, s =>
    if !s.pmVisits m then passToken n (m + 1) s
    else if s.wake.asleep.contains (s.pmVertex m) then
      let s := setMember m { s.member m with status := 1 } s
      passToken n (m + 1) { s with wake := { s.wake with consent := addTo s.wake.consent m } }
    else pmSend 1 m { s with wake := { s.wake with token := some ⟨m, 1, s.now⟩ } }

/-- Starts a round (R529): the next number, nobody has answered. -/
def startRound (s : State) : State :=
  let s := setReg A.wakRound (s.reg A.wakRound + 1) { s with wake := { s.wake with phase := .round, consent := [], keep := [], token := none } }
  passToken 32 0 s

/-- ROUND_START (R529, R537): the wait between two rounds has passed, or the round that a restart of the processor abandoned is begun
anew. -/
def execRoundStart (s : State) : Host.Outcome State Fault Refusal :=
  let w := s.wake
  let waits := decide (w.phase = .waitRound ∧ w.nextRound ≤ s.now)
  let again := decide (w.phase = .round) && w.token.isNone
  ran s (only (s.mpOn && w.req && (waits || again)) startRound s)

/-- Rejects a perimeter frame (R539). -/
def pmReject (s : State) : State := raise 302 (bump A.wakPmRejects s)

/-- The first frame that the control path has taken for a purpose, with the rest; its input cells are freed (R115). -/
def takeCtl (p : Item → Bool) (s : State) : Option (Item × State) :=
  match s.ctlIn.find? p with
  | none => none
  | some i => some (i, consume i.uid { s with ctlIn := s.ctlIn.eraseIdx (s.ctlIn.findIdx p) })

/-- Whether an item taken by the control path is a perimeter message. -/
def isPerimeter (i : Item) : Bool :=
  let o := ctlOff i.data
  decide (beAt i.data o 2 = 0x88B5 ∧ byteAt i.data (o + 2) = 0x50)

/-- PERIMETER_ANSWER (R539): a matching ANSWER records the member's consent or keep and passes the token on; any other perimeter frame
is rejected. -/
def execPerimeterAnswer (s : State) : Host.Outcome State Fault Refusal :=
  ran s (only s.mpOn (fun s =>
    match takeCtl isPerimeter s with
    | none => s
    | some (i, s) =>
      let d := i.data.drop (ctlOff i.data + 2)
      let m := byteAt d 3 % 32
      match s.wake.token with
      | none => pmReject s
      | some t =>
        let ok := decide (byteAt d 1 = 1 ∧ byteAt d 2 = 2 ∧ byteAt d 3 < 32 ∧ m = t.member ∧ beAt d 4 4 = (s.reg A.wakRound).toNat)
          && decide (i.vertex = s.pmVertex m ∧ slice i.data 6 6 = s.pmMac m)
        if !ok then pmReject s
        else
          let yes := decide (byteAt d 24 % 2 = 1)
          let s := setMember m { s.member m with status := if yes then 1 else 2, reason := byteAt d 25, holdMs := beAt d 26 2 } s
          let w := s.wake
          let w := if yes then { w with consent := addTo w.consent m } else { w with keep := addTo w.keep m }
          passToken (31 - m) (m + 1) { s with wake := { w with token := none } }) s)

/-- PERIMETER_TIMEOUT (R536): the token is sent once more, then the member is ABSENT. -/
def execPerimeterTimeout (s : State) : Host.Outcome State Fault Refusal :=
  ran s (only s.mpOn (fun s =>
    match s.wake.token with
    | none => s
    | some t =>
      if s.now < t.sentAt + fld (s.cfg A.wakPmTimeout) 0 8 * 1000000 then s
      else if t.tries < 2 then pmSend 1 t.member { s with wake := { s.wake with token := some ⟨t.member, 2, s.now⟩ } }
      else
        let s := raise 295 (setMember t.member { s.member t.member with status := 3 } s)
        passToken (31 - t.member) (t.member + 1) { s with wake := { s.wake with token := none } }) s)

/-! ## The entry to SLEEP (R521, R522, R529–R535) -/

/-- Every UP peer has sent POWER = 2 with KEEPER = 0 in three consecutive messages (R531). -/
def State.peersQuiet (s : State) : Bool :=
  (List.range 8).all (fun r => let p := SMap.get PeerSt.reset s.accord.peers r
    decide (p.state ≠ 1) || decide (p.quietCount ≥ 3))

/-- GROUP_WAIT_TIMEOUT (R531). -/
def execGroupWaitTimeout (s : State) : Host.Outcome State Fault Refusal :=
  ran s (only (s.mpOn && decide (s.wake.phase = .groupWait ∧ s.wake.groupAt + 1000000000 ≤ s.now) && !s.peersQuiet) (fun s =>
    roundKept [] (setKeepers 0 (2 ^ 24) s)) s)

/-- Abandons the entry (R534): ingress reopens, the vertices it put to sleep wake, the members are told. -/
def abandonEntry (s : State) : State :=
  let s := if s.wake.phase = .dark then
      (s.wake.asleep.filter (fun v => !s.wake.before.contains v)).foldl (fun s v => wakeVertex v s) s
    else s
  let s : State := { s with wake := { s.wake with tc10 := [] } }
  let s := if s.wake.closed then pmNotices 4 s.pmEnabled s else s
  let w := { s.wake with closed := false, phase := .none, req := false, result := 3, token := none }
  raise 301 (bump A.wakAbandoned (setMode s.wake.prev { s with wake := w }))

/-- Whether an entry to SLEEP can be abandoned (R534): consent is complete and the point of no return is not reached. -/
def State.entering (s : State) : Bool :=
  s.on && decide (s.wake.phase = .groupWait ∨ s.wake.phase = .preparing ∨ s.wake.phase = .dark)

/-- A SLEEP command is refused (R522): RESULT and event 299. -/
def sleepRefused (result : Nat) (s : State) : State := raise 299 { s with wake := { s.wake with result := result } }

/-- A write of WAK_CMD (R521, R522, R529, R534). Only F0 changes the mode; another facet's SLEEP is refused with RIGHTS. -/
def wakCmdWritten (f : Nat) (v : W32) (s : State) : Rsp × State :=
  let cmd := fld v 0 2
  if f ≠ 0 then (.rights, if cmd = 3 then sleepRefused 4 s else s)
  else
    let s := if tst v 4 ∧ s.wake.req then
        if s.entering then abandonEntry s
        else { s with wake := { s.wake with req := false, phase := .none, token := none } }
      else s
    (.ok,
      if cmd = 1 then
        if s.wake.mode = .doze ∧ s.wake.phase ≠ .dark then setMode .run (wakeAll s) else s
      else if cmd = 2 then
        if s.wake.mode = .run ∧ s.wake.phase ≠ .dark then
          let s := setMode .doze s
          s.dozeSet.foldl (fun s v => sleepVertex v s) s
        else s
      else if cmd = 3 then
        if s.wake.req then sleepRefused 6 s
        else if !s.power.bOk then sleepRefused 1 s
        else if s.mp = .halted then sleepRefused 5 s
        else
          let s : State := { s with wake := { s.wake with req := true, result := 0, prev := s.wake.mode } }
          if s.mpOn then startRound s else { s with wake := { s.wake with phase := .round } }
      else s)

/-- SLEEP_ENTRY (R533, steps 1 and 2): consent is complete; every enabled member has a notice, and ingress closes. -/
def execSleepEntry (s : State) : Host.Outcome State Fault Refusal :=
  let w := s.wake
  let ready := decide (w.phase = .preparing) || (decide (w.phase = .groupWait) && s.peersQuiet)
  ran s (only (s.mpOn && w.req && !w.closed && ready) (fun s =>
    let s := pmNotices 3 s.pmEnabled s
    { s with wake := { s.wake with phase := .preparing, closed := true, drainAt := s.now } }) s)

/-- SLEEP_DRAIN_END (R533, steps 3 and 4): the class queues are empty or WAK_DRAIN_MAX has passed; every vertex is put to sleep. -/
def execSleepDrainEnd (s : State) : Host.Outcome State Fault Refusal :=
  let w := s.wake
  let drained := s.queues.all (fun q => decide (q.2 = []))
  ran s (only (s.on && decide (w.phase = .preparing) && w.closed
      && (drained || decide (w.drainAt + fld (s.cfg A.wakDrainMax) 0 7 * 1000000 ≤ s.now))) (fun s =>
    let s : State := { s with wake := { s.wake with phase := .dark, groupAt := s.now, before := s.wake.asleep } }
    (List.range 84).foldl (fun s v => sleepVertex v s) s) s)

/-- Time covered by trims up to now since the entry (R545, R547): 10 s from each trim. -/
def WakeSt.covered (w : WakeSt) (now : Nat) : Nat :=
  match w.trimAt with
  | none => 0
  | some t => min now (t + 10000000000) - max t w.entryAon

/-- SLEEP_POINT_OF_NO_RETURN (R533, step 5): TC10 answers have come or 10 ms have passed; the always-on domain keeps the locus and
WAK_SLEEPS with the wake configuration, and the other rails go off. -/
def execSleepPointOfNoReturn (s : State) : Host.Outcome State Fault Refusal :=
  let w := s.wake
  ran s (only (s.on && decide (w.phase = .dark) && (decide (w.tc10 = []) || decide (w.groupAt + 10000000 ≤ s.now))) (fun s =>
    let w := { s.wake.kept with mode := .sleep, entryAon := s.now, entryLocus := s.locus }
    let regs := s.regs.filter (fun p => decide (0x180000 ≤ p.1 % 2 ^ 24) && decide (p.1 % 2 ^ 24 < 0x185000) || keptByDevice.contains p.1)
    let t := dieOff regs w { s.power.supplies s.now with holdup := false } s
    { t with live := ⟨s.live.regs, [], [], [], []⟩, locus := s.locus, epoch := { t.epoch with live := s.epoch.live },
             wake := { w with asleep := List.range 84 } }) s)

/-- A write of WAK_FACET_KEEP (R534, R542): a facet changes its own bit, F0 any bit; a bit newly set abandons an entry. -/
def facetKeepWritten (f : Nat) (v : W32) (s : State) : State :=
  let old := s.reg A.wakFacetKeep
  let new := if f = 0 then w32 (fld v 0 16) else setBit old f (tst v f)
  let s := setReg A.wakFacetKeep new s
  if s.entering ∧ (List.range 16).any (fun i => tst new i && !tst old i) then abandonEntry s else s

/-- A reset of a facet, or the expiry of its lease, clears its keep bit (R542). -/
def clearKeep (f : Nat) (s : State) : State := setReg A.wakFacetKeep (setBit (s.reg A.wakFacetKeep) f false) s

/-! ## Wake sources (R527, R528, R543–R545) -/

/-- A wake source acts: `module_` its ACTION, `v` its vertex. In SLEEP the first wake is latched and the wake start follows (R534); an
entry under way is abandoned; in DOZE the vertex or the module wakes (R528). -/
def wakes (kind idx pat : Nat) (module_ : Bool) (v : Option Nat) (s : State) : State :=
  if s.wake.mode = .sleep then
    if s.wake.latched.isSome then s else { s with wake := { s.wake with latched := some (kind, idx, pat) } }
  else if s.entering then abandonEntry s
  else if s.wake.mode = .doze ∧ s.on then
    if module_ then setMode .run (raise 294 (wakeAll s))
    else match v with
      | none => s
      | some v => if s.wake.asleep.contains v then raise 294 (wakeVertex v s) else s
  else s

/-- The wake decoders work: SLEEP, DOZE, or RUN with an entry under way; never without the always-on domain. -/
def State.aonOn (s : State) : Bool := !s.power.collapsed && !s.power.resetHeld && s.wake.mode ≠ .off

/-- WAKE_PIN (R543): a pulse of `width` ns on a wake pin. EDGE names the edge that starts it; LEVEL takes a high level. -/
def execWakePin (k : Fin 4) (rising : Bool) (width : Nat) (s : State) : Host.Outcome State Fault Refusal :=
  let c := s.cfg (A.wakPin k)
  let hit := if rising then tst c 1 || tst c 3 else tst c 2
  ran s (only (s.aonOn && tst c 0 && hit && decide (fld c 4 8 * 10000 ≤ width)) (wakes 1 k 0 (tst c 12) none) s)

/-- Whether a channel ignores frames (R526): it sleeps. -/
def State.ignoring (s : State) (ch : Nat) : Bool := s.aonOn && s.wake.asleep.contains (48 + ch)

/-- A trim of the always-on oscillator by `d` in units of 10 ppm (R545): one of more than 2 % is not applied. -/
def trim (v : Nat) (d : Int) (s : State) : State :=
  let w := s.wake
  if d > 2000 ∨ d < -2000 then { s with wake := { w with trimBad := true } }
  else { s with wake := { w with corr := w.corr + d, trimmedFor := w.trimmedFor + w.covered s.now, trimAt := some s.now, trimVertex := v } }

/-- Whether a pattern of a channel matches a frame (R544). -/
def State.patMatches (s : State) (ch p : Nat) (m : CanMsg) : Bool :=
  let c := s.cfg (A.wakCanPatCtrl ch p)
  let id := s.cfg (A.wakCanPatId ch p)
  let mask := (s.cfg (A.wakCanPatMask ch p)).toNat % 2 ^ 29
  let data := beBytes 4 (s.cfg (A.wakCanPatDataLo ch p)).toNat ++ beBytes 4 (s.cfg (A.wakCanPatDataHi ch p)).toNat
  tst c 0 && !m.fdf && decide (fld id 30 2 = m.format.toNat) && decide (Nat.land (Nat.xor m.id.toNat (fld id 0 29)) mask = 0)
    && decide (fld c 1 4 = m.data.length)
    && (!tst c 5 || (List.range 8).any (fun i => Nat.land (byteAt data i) (byteAt m.data i) ≠ 0 && decide (i < m.data.length)))

/-- WAKE_FRAME_DECODE (R527, R544, R545): what the decoder of an ignoring channel with SW_EN sees. `trim` is the correction that the
frame gives the oscillator, in 10 ppm. -/
def execWakeFrameDecode (ch : CanCh) (d : WakeDecode) (s : State) : Host.Outcome State Fault Refusal :=
  let c := s.cfg (A.wakCanCtrl ch)
  let v := 48 + ch.val
  ran s (only (s.ignoring ch && tst c 0) (fun s =>
    let fec := (s.reg (A.wakCanFec ch)).toNat
    match d with
    | .tolerated => s
    | .error =>
      let s := setRegN (A.wakCanFec ch) (min 255 (fec + 1)) s
      if fec + 1 > fld c 2 8 then wakes 3 v 0 true (some v) s else s
    | .good m t =>
      let s := setRegN (A.wakCanFec ch) (fec - 1) s
      let s := if tst c 1 then trim v t s else s
      let ps := (List.range 4).filter (fun p => s.patMatches ch p m)
      match ps.head? with
      | none => s
      | some p =>
        let s := setReg (A.wakCanStatus ch) (setFld (s.reg (A.wakCanStatus ch)) 4 2 p) s
        wakes 2 v p (ps.any (fun p => tst (s.cfg (A.wakCanPatCtrl ch p)) 6)) (some v) s) s)

/-- CAN_WAKE_UP_PATTERN (R543): kind 4. -/
def execCanWakeUpPattern (ch : CanCh) (s : State) : Host.Outcome State Fault Refusal :=
  let v := 48 + ch.val
  ran s (only (s.ignoring ch && tst (s.cfg (A.wakCanCtrl ch)) 10) (wakes 4 v 0 true (some v)) s)

/-- LIN_WAKE (R543): kind 5. -/
def execLinWake (j : LinCh) (us : Nat) (s : State) : Host.Outcome State Fault Refusal :=
  let v := 72 + j.val
  ran s (only (s.aonOn && s.wake.asleep.contains v && tst (s.cfg A.wakLinCtrl) j && decide (150 ≤ us)) (wakes 5 v 0 true (some v)) s)

/-- TC10_WAKE (R543): kind 6. -/
def execTc10Wake (v : EthV) (s : State) : Host.Outcome State Fault Refusal :=
  ran s (only (s.aonOn && decide (8 ≤ v.val ∧ v.val < 40) && s.wake.asleep.contains v && tst (s.cfg (A.ethPhyCtrl v)) 12)
    (wakes 6 v 0 true (some v.val)) s)

/-- WAKE_TIMER (R543): kind 7; WAK_TIMER seconds of always-on time since the entry. -/
def execWakeTimer (s : State) : Host.Outcome State Fault Refusal :=
  ran s (only (decide (s.wake.mode = .sleep) && tst (s.cfg A.wakCtrl) 1
    && decide (s.wake.entryAon + (s.cfg A.wakTimer).toNat * 1000000000 ≤ s.now)) (wakes 7 0 0 true none) s)

/-- SERVICE_WAKE (R543): kind 9. -/
def execServiceWake (s : State) : Host.Outcome State Fault Refusal := ran s (only s.aonOn (wakes 9 84 0 true none) s)

/-- AON_MEASURE (R545): in RUN, every second, the oscillator measured against the locus, in 10 ppm. -/
def execAonMeasure (corr : Int) (s : State) : Host.Outcome State Fault Refusal :=
  ran s (only (s.on && decide (s.wake.mode = .run) && decide (s.wake.measuredAt + 1000000000 ≤ s.now))
    (fun s => { s with wake := { s.wake with corr := corr, measuredAt := s.now } }) s)

/-! ## The wake start (R547) -/

/-- The lower bound of a sleep of `elapsed` ns of always-on count (R547): reduced by 0.1 % where trims cover it and by 2 % elsewhere. -/
def lowerBound (elapsed covered : Nat) : Nat :=
  let c := min covered elapsed
  c - ceilDiv c 1000 + ((elapsed - c) - ceilDiv (elapsed - c) 50)

/-- WAKE_START (R77, R547): after `elapsed` ns of always-on count a latched wake starts the module. The wake pulse of a LIN master is
an emission without bytes. -/
def execWakeStart (elapsed : Nat) (s : State) : Host.Outcome State Fault Refusal :=
  ran s (only (decide (s.wake.mode = .sleep)) (fun s =>
    match s.wake.latched with
    | none => s
    | some (kind, idx, pat) =>
      let w := s.wake
      let covered := w.trimmedFor + w.covered s.now
      let locus := w.entryLocus + lowerBound elapsed covered * 65536
      let at_ := locus / 65536
      let bad := w.trimBad
      let old := s
      let w' := { w.kept with aon := w.aon + elapsed, trimBad := false, noticeDue := old.pmEnabled,
                              wlo := (List.range 4).foldl (fun m k =>
                                if tst (old.cfg (A.wakWlo k)) 0 && tst (old.cfg (A.wakWlo k)) 16 then
                                  SMap.put none m k (some (old.now + fld (old.cfg (A.wakWlo k)) 8 8 * 1000000, !tst (old.cfg (A.wakWlo k)) 1))
                                else m) [] }
      let t := dieOff (s.regs.only keptByDevice) w' (s.power.supplies s.now) s
      let t : State := { t with locus := locus, epoch := { t.epoch with live := s.epoch.live } }
      let t := bump A.wakSleeps t
      let t := setRegN A.wakCause (kind + idx * 2 ^ 4 + pat * 2 ^ 12) t
      let t := setRegN A.wakCauseNs (nsOf at_) (setReg A.wakCauseSecHi (hiW (secOf at_)) (setReg A.wakCauseSecLo (loW (secOf at_)) t))
      let t := (List.range 12).foldl (fun t j =>
        if tst (old.cfg A.wakLinTxwake) j ∧ fld (old.cfg (A.linCtrl j)) 0 2 = 1 then emit (72 + j) [] false at_ t else t) t
      let t := enterLocus .holdover 5 t
      let t : State := { t with loc := { t.loc with holdAge := elapsed / 1000000 } }
      let t := beginStart 1 t
      if bad then freshen (raise 300 (fault wakPage 0x10C t.freeWord.toNat t)) else t) s)

/-- WAKE_LINE_OUTPUT_RELEASE (R547): WIDTH ms after the wake start an output line releases. -/
def execWakeLineOutputRelease (k : Fin 4) (s : State) : Host.Outcome State Fault Refusal :=
  let due := match SMap.get none s.wake.wlo k with
    | none => false
    | some t => decide (t.1 ≤ s.now)
  ran s (only (s.aonOn && due) (fun s => { s with wake := { s.wake with wlo := SMap.put none s.wake.wlo k none } }) s)

/-! ## Status registers (R548, R550) -/

/-- WAK_STATUS (R548). -/
def State.wakStatus (s : State) : W32 :=
  let w := s.wake
  let n := match w.phase with
    | .none => if w.mode = .doze then 1 else 0
    | .round => 2
    | .waitRound => 2
    | .groupWait => 3
    | .preparing => 4
    | .dark => 4
  w32 (n + bit w.req * 2 ^ 8 + w.result % 16 * 2 ^ 12)

/-- Whether a trim lies within the last 10 s. -/
def State.trimmed (s : State) : Bool :=
  match s.wake.trimAt with
  | none => false
  | some t => decide (s.now < t + 10000000000)

/-- WAK_AON_STATUS (R548). -/
def State.aonStatus (s : State) : W32 :=
  let c := max (-32768) (min 32767 s.wake.corr)
  w32 (s.wake.trimVertex % 128 + bit s.trimmed * 2 ^ 7 + (c % 65536).toNat * 2 ^ 16)

/-- WAK_CANc_STATUS (R550). -/
def State.wakCanSt (s : State) (ch : Nat) : W32 :=
  w32 (bit (s.ignoring ch) + bit (s.trimmed && decide (s.wake.trimVertex = 48 + ch)) * 2 + fld (s.reg (A.wakCanStatus ch)) 4 2 * 2 ^ 4)

/-- WAK_PMm_STATUS (R548). -/
def State.pmStatus (s : State) (m : Nat) : W32 :=
  let x := s.member m
  w32 (x.status % 4 + x.reason % 256 * 2 ^ 8 + x.holdMs % 65536 * 2 ^ 16)

end Sys2Proof.Machine
end

