-- ==== Sys2Proof/Machine/Sweep.lean ====
section
/-! DEFINITION. The sweep that discards items wherever they stand: by age (R164, R165), with their epoch (R41, R54), with their facet
(R53, R126, R443) or at a vertex that is reset (R126, R576). -/

namespace Sys2Proof.Machine

/-- What a sweep asks of something that holds an item: the item, the vertex whose class it waits in (97 while a job or its admission
holds it), and the class. -/
abbrev SweepTest := Item → Nat → Nat → Bool

/-- A copy meets a test. -/
def SweepTest.copy (t : SweepTest) (c : Copy) : Bool := t c.item c.egress c.tc

/-- A job meets a test. -/
def SweepTest.job (t : SweepTest) (j : JobReq) : Bool := t j.item 97 j.item.tc

/-! ## At the vertices -/

/-- Discards copies of the class queues. -/
def sweepQueues (t : SweepTest) (reason : Nat) (s : State) : State :=
  s.queues.foldl (fun s q =>
    let gone := q.2.filter t.copy
    if gone = [] then s
    else
      let s : State := { s with queues := SMap.put [] s.queues q.1 (q.2.filter (fun c => !t.copy c)) }
      gone.foldl (fun s c => dropReserved reason true c s) s) s

/-- Discards copies of the merge stores. -/
def sweepMerge (t : SweepTest) (reason : Nat) (s : State) : State :=
  s.egress.foldl (fun s p =>
    let gone := p.2.merge.filter t.copy
    if gone = [] then s
    else
      let o := s.out p.1
      gone.foldl (fun s c => dropReserved reason true c s) (setOut p.1 { o with merge := o.merge.filter (fun c => !t.copy c) } s)) s

/-- Discards the frame that a 10BASE-T1S vertex holds between two attempts. -/
def sweepContending (t : SweepTest) (reason : Nat) (s : State) : State :=
  s.eth.foldl (fun s p =>
    match p.2.contending with
    | none => s
    | some c =>
      if t.copy c ∧ (s.out p.1).tx.isNone then
        dropReserved reason true c (setEth p.1 { s.ethSt p.1 with contending := none, attempts := 0 } s)
      else s) s

/-- Discards the messages of a CAN channel that are not on the bus. -/
def sweepCan (t : SweepTest) (reason ch : Nat) (s : State) : State :=
  let c := s.canSt ch
  let busy (x : CanSource) : Bool := c.sending = some x
  let keepF := c.fifo.mapIdx (fun i p => (p, (i = 0 && busy .fifo) || !t.copy p.copy))
  let boxes := c.mbox.filterMap (fun p => p.2.map (fun x => (p.1, x)))
  let goneB := boxes.filter (fun p => t.copy p.2.copy && !busy (.mailbox p.1))
  let nexts := c.mboxNext.filterMap (fun p => p.2.map (fun x => (p.1, x)))
  let goneN := nexts.filter (fun p => t.copy p.2)
  let gone := (keepF.filter (fun p => !p.2)).map (fun p => p.1.copy) ++ goneB.map (fun p => p.2.copy) ++ goneN.map (fun p => p.2)
  if gone = [] then s
  else
    let c' := { c with fifo := (keepF.filter (fun p => p.2)).map (fun p => p.1), mbox := goneB.foldl (fun m p => SMap.put none m p.1 none) c.mbox,
                       mboxNext := goneN.foldl (fun m p => SMap.put none m p.1 none) c.mboxNext,
                       offer := if c.sending.isSome then c.offer else none }
    gone.foldl (fun s k => dropReserved reason true k s) (setCan ch c' s)

/-- Discards the copies that publish buffers of a LIN channel still have to send, but not one whose response is on the bus; the buffers keep
their data. -/
def sweepLin (t : SweepTest) (reason j : Nat) (s : State) : State :=
  (s.linSt j).bufs.foldl (fun s p =>
    match p.2.fresh with
    | none => s
    | some k => if t.copy k ∧ (s.linSending j).map (·.1) ≠ some p.1 then dropReserved reason true k (setLinBuf j p.1 { s.linBuf j p.1 with fresh := none } s) else s) s

/-- Discards what waits at the egress side of the vertices. A frame whose transmission has started is left to complete. -/
def sweepEgress (t : SweepTest) (reason : Nat) (s : State) : State :=
  let s := sweepContending t reason (sweepMerge t reason (sweepQueues t reason s))
  let s := (List.range 24).foldl (fun s ch => sweepCan t reason ch s) s
  (List.range 12).foldl (fun s j => sweepLin t reason j s) s

/-! ## In transmission -/

/-- The copies in transmission, those between two fragments of their frame included, with the vertex that sends each. -/
def State.flying (s : State) : List (Nat × Copy) :=
  (s.egress.map (fun p => (p.2.tx.toList ++ p.2.suspended.toList).map (fun f => (p.1, f.copy)))).flatten
    ++ s.can.filterMap (fun p => (p.2.sending.bind p.2.msg).map (fun m => (48 + p.1, m.copy)))
    ++ s.lin.filterMap (fun p => (s.linSending p.1).map (fun k => (72 + p.1, k.2)))

/-- Ends a frame in transmission at once: what has gone of it ends with a bad FCS. -/
def cutFrame (v reason : Nat) (f : TxFrame) (s : State) : State :=
  dropReserved reason true f.copy (emit v (f.bytes.take (f.sent + s.goneBytes v f)) true f.sof s)

/-- Discards what is in transmission (R41): a frame on its medium ends with a bad FCS, the remainder of a suspended one does not follow, a
bus message leaves its store. -/
def sweepFlying (t : SweepTest) (reason : Nat) (s : State) : State :=
  let s := s.egress.foldl (fun s p =>
    let o := s.out p.1
    let s := match o.tx with
      | none => s
      | some f => if t.copy f.copy then cutFrame p.1 reason f (setOut p.1 { o with tx := none, busyUntil := s.now } s) else s
    match o.suspended with
    | none => s
    | some f => if t.copy f.copy then dropReserved reason true f.copy (setOut p.1 { s.out p.1 with suspended := none } s) else s) s
  let s := s.can.foldl (fun s p =>
    let c := s.canSt p.1
    match c.sending.bind (fun x => (c.msg x).map (fun m => (x, m.copy))) with
    | none => s
    | some (x, k) =>
      if t.copy k then dropReserved reason true k (setCan p.1 { c.popMsg x with sending := none, busBusy := true } s) else s) s
  s.lin.foldl (fun s p =>
    match s.linSending p.1 with
    | none => s
    | some (id, k) =>
      if t.copy k then dropReserved reason true k (setLinBuf p.1 id { s.linBuf p.1 id with fresh := none } s) else s) s

/-! ## At the input side -/

/-- Discards the copies that wait for their plane. -/
def sweepPlanes (t : SweepTest) (reason : Nat) (s : State) : State :=
  (List.range 5).foldl (fun s p =>
    let gone := (s.planeIn p).filter t.copy
    if gone = [] then s
    else gone.foldl (fun s c => dropReserved reason false c s) (setPlaneIn p ((s.planeIn p).filter (fun c => !t.copy c)) s)) s

/-- Discards the copies that wait in order lanes. -/
def sweepLanes (t : SweepTest) (reason : Nat) (s : State) : State :=
  let gone := (s.lanes.map (fun l => (l.2.map (fun e => e.ready.filter t.copy)).flatten)).flatten
  if gone = [] then s
  else
    let lanes := s.lanes.map (fun l => (l.1, l.2.map (fun e => { e with ready := e.ready.filter (fun c => !t.copy c) })))
    gone.foldl (fun s c => dropAtInput reason c s) { s with lanes := lanes }

/-- Discards a job that waits for admission. -/
def dropWaiting (reason : Nat) (j : JobReq) (s : State) : State :=
  let i := j.item
  countDrop reason i.facet 97 i.tc i.vertex (laneDone j [] (release j.src (jobFate j reason 0 s)))

/-- Discards the jobs: those that wait, those that wait for another cell, those that run (R53, R54, R165, R256). -/
def sweepJobs (t : SweepTest) (reason : Nat) (s : State) : State :=
  let wait := (s.admission.map (fun p => p.2.filter t.job)).flatten
  let s : State := { s with admission := (s.admission.map (fun p => (p.1, p.2.filter (fun j => !t.job j)))).filter (fun p => decide (p.2 ≠ [])) }
  let s := wait.foldl (fun s j => dropWaiting reason j s) s
  let again := s.replayQ.filter (fun j => t.job j.req)
  let s : State := { s with replayQ := s.replayQ.filter (fun j => !t.job j.req) }
  let run := s.jobs.filter (fun p => t.job p.2.req)
  let s : State := { s with ctxs := run.foldl (fun m p => SMap.put none m p.1 none) s.ctxs }
  (again ++ run.map (·.2)).foldl (fun s j =>
    let i := j.req.item
    countDrop reason i.facet 97 i.tc i.vertex (discardJob reason 0 j s)) s

/-- The FATE record of an item of the control path that is discarded (R393). -/
def itemFate (i : Item) (reason : Nat) (s : State) : State :=
  stage ⟨recOf i.key 1 i.facet reason i.tc false false i.epoch 0x7F (sat32 (s.ns - i.stamp)), none⟩ s

/-! ## Windows -/

/-- The state of a window (R453). -/
def State.window (s : State) (k : Nat) : WindowSt := SMap.get WindowSt.reset s.windows k

/-- Sets the state of a window. -/
def setWindow (k : Nat) (w : WindowSt) (s : State) : State := { s with windows := SMap.put WindowSt.reset s.windows k w }

/-- The far frame that a window has in flight is left behind where its tag meets a test: its tag returns, and its reply will be discarded
(R53, R54, R459). -/
def dropFlight (gone : FarFrame → Bool) (k : Nat) (s : State) : State :=
  match (s.window k).flight with
  | none => s
  | some fr =>
    if fr.dropped ∨ !gone fr then s
    else returnTag fr.tag (setWindow k { s.window k with flight := some { fr with dropped := true } } s)

/-- A line that waits for a far read is discarded (R54): its reads that wait are withdrawn, a far frame of them alone is left behind, and
those in flight beside others have nobody to answer. -/
def abortLine (s : State) : State :=
  let mine (o : FarOp) : Bool := decide (o.waiter = .monitor)
  let nobody := s.nextId
  (List.range 8).foldl (fun s k =>
    let w := s.window k
    let s := dropFlight (fun fr => decide (fr.ops ≠ []) && fr.ops.all mine) k (setWindow k { w with queue := w.queue.filter (fun o => !mine o) } s)
    let w := s.window k
    let orphan (o : FarOp) : FarOp := if mine o then { o with waiter := .frame nobody } else o
    setWindow k { w with flight := w.flight.map (fun fr => { fr with ops := fr.ops.map orphan }) } s) { s with nextId := s.nextId + 1 }

/-- Discards the frames and lines that wait for the control path, and the learning steps of items; their input cells are freed. A line that
waits for a far read ends without an answer. -/
def sweepControl (p : Item → Bool) (reason : Nat) (s : State) : State :=
  let gone := (s.octIn.map (·.1)).filter p ++ s.ctlIn.filter p ++ s.svc.lines.filter p
  let was := s.svc.held
  let held := was && !(s.svc.lines.head?.any p)
  let s : State := { s with octIn := s.octIn.filter (fun x => !p x.1), ctlIn := s.ctlIn.filter (fun i => !p i),
                            learnQ := s.learnQ.filter (fun r => !p r.item),
                            svc := { s.svc with lines := s.svc.lines.filter (fun i => !p i), held := held } }
  let s := if s.svc.held ∨ !was then s else abortLine s
  gone.foldl (fun s i => consume i.uid (itemFate i reason s)) s

/-- Discards what waits anywhere in the device. -/
def sweep (t : SweepTest) (reason : Nat) (s : State) : State :=
  sweepEgress t reason (sweepPlanes t reason (sweepLanes t reason (sweepJobs t reason s)))

/-! ## What the device holds -/

/-- The items that wait anywhere: the vertex where each stands, and the item. -/
def State.waiting (s : State) : List (Nat × Item) :=
  let at_ (l : List Copy) : List (Nat × Item) := l.map (fun c => (c.egress, c.item))
  let in_ (l : List Copy) : List (Nat × Item) := l.map (fun c => (c.item.vertex, c.item))
  (s.queues.map (fun q => at_ q.2)).flatten ++ (s.egress.map (fun p => at_ p.2.merge)).flatten
    ++ s.eth.filterMap (fun p => if (s.out p.1).tx.isSome then none else p.2.contending.map (fun c => (c.egress, c.item)))
    ++ (s.can.map (fun p => at_ (p.2.fifo.map (·.copy) ++ p.2.mbox.filterMap (fun x => x.2.map (·.copy)) ++ p.2.mboxNext.filterMap (·.2)))).flatten
    ++ (s.lin.map (fun p => at_ (p.2.bufs.filterMap (fun x => x.2.fresh)))).flatten
    ++ (s.planeQ.map (fun q => in_ q.2)).flatten
    ++ (s.lanes.map (fun l => (l.2.map (fun e => in_ e.ready)).flatten)).flatten
    ++ (s.admission.map (fun p => p.2.map (fun j => (j.item.vertex, j.item)))).flatten
    ++ (s.jobs.map (·.2) ++ s.replayQ).map (fun j => (j.req.item.vertex, j.req.item))

/-- The items in transmission, each with the vertex that sends it. -/
def State.sending (s : State) : List (Nat × Item) := s.flying.map (fun p => (p.1, p.2.item))

/-- The frames and lines of the control path that still execute or wait, and the learning steps: sequence identity and epoch. -/
def State.control (s : State) : List (Nat × W32) :=
  (s.octIn.map (fun p => (p.1.uid, p.1.epoch))) ++ s.octRun.map (fun x => (x.id, x.epoch)) ++ s.ctlIn.map (fun i => (i.uid, i.epoch))
    ++ s.svc.lines.map (fun i => (i.uid, i.epoch)) ++ s.learnQ.map (fun r => (r.item.uid, r.item.epoch))

/-- SYS_EPOCH_DRAIN_ITEMS: the items of an epoch still in the device. -/
def State.itemsOf (s : State) (e : W32) : Nat :=
  let uids := ((s.waiting ++ s.sending).filter (fun p => p.2.epoch = e)).map (fun p => p.2.uid)
    ++ (s.control.filter (fun p => p.2 = e)).map (·.1)
  uids.eraseDups.length

/-! ## Ageing (R164) -/

/-- Whether what holds an item in a class of a vertex has reached its ceiling (R164, R166). -/
def State.aged (s : State) (i : Item) (v c : Nat) : Bool :=
  decide (i.stamp + (s.bankOf i.epoch).qCeiling v c i.vertex * 1000000 ≤ s.ns)

/-- AGED_DISCARD (R164, R165): every copy and job of the item that has reached the ceiling of its class is discarded. -/
def execAgedDiscard (uid : Nat) (s : State) : Host.Outcome State Fault Refusal :=
  let t : SweepTest := fun i v c => decide (i.uid = uid) && s.aged i v c
  ran s (only s.coreOn (sweep t 4) s)

end Sys2Proof.Machine
end

