-- ==== Sys2Proof/Machine/Power.lean ====
section
/-! DEFINITION. Power entry, clocks, pace and reset scopes (chapter 12), the baseplate (R656), and PAGE_CTRL with the vertex and cell resets
it starts (R576, R577, R622–R627). -/

namespace Sys2Proof.Machine

/-! ## Supplies (R552–R560) -/

/-- The supply that carries the load (R553): the preferred one of those in range. -/
def carry (s : State) : State :=
  let p := s.power
  let preferB := tst (s.cfg A.pwrCtrl) 0
  { s with power := { p with aCarry := p.aOk && (!p.bOk || !preferB), bCarry := p.bOk && (!p.aOk || preferB) } }

/-- Adds one to a 16-bit count of a register, saturating. -/
def bumpHalf (a lo : Nat) (s : State) : State := setReg a (setFld (s.reg a) lo 16 (min (fld (s.reg a) lo 16 + 1) 65535)) s

/-- A supply has returned (R559): HOLDUP and SHED clear, event 34 with its fault record. -/
def supplyBack (b : Bool) (s : State) : State :=
  raise 34 (fault pwrPage 0x10B (bit b) { s with power := { s.power with holdup := false, shed := false } })

/-- SUPPLY_IN_RANGE (R552, R553, R559): a supply is declared in range; it ends a holdup. Supply A may be a wake source (R543). -/
def execSupplyInRange (b : Bool) (dc : Bool) (s : State) : Host.Outcome State Fault Refusal :=
  let p := s.power
  let known := if b then p.bOk else p.aOk
  ran s (only (!known) (fun s =>
    let s : State := { s with power := if b then { p with bOk := true, bCrank := false } else { p with aOk := true, aDc := dc } }
    let s := carry s
    let s := if s.power.holdup ∧ !s.power.shed then supplyBack b s else s
    if !b ∧ tst (s.cfg A.wakCtrl) 0 ∧ s.aonOn then wakes 8 0 0 true none s else s) s)

/-- SUPPLY_LOST (R552, R553, R555): a supply is declared lost; the other carries the load, or the holdup begins. In SLEEP the loss of
supply B ends in OFF (R523). -/
def execSupplyLost (b : Bool) (s : State) : Host.Outcome State Fault Refusal :=
  let p := s.power
  let known := if b then p.bOk else p.aOk
  ran s (only known (fun s =>
    let s : State := { s with power := if b then { p with bOk := false, bCrank := false } else { p with aOk := false, aDc := false } }
    let s := carry s
    if p.collapsed then s
    else if s.wake.mode = .sleep then (if b then collapse s else s)
    else
      let s := bumpHalf A.pwrSupplyLosses (if b then 16 else 0) s
      let s := raise (if b then 33 else 32) (fault pwrPage 0x10B (bit b) s)
      if s.power.aOk ∨ s.power.bOk then s
      else
        let s : State := { s with power := { s.power with holdup := true, lostAt := s.now, wasA := !b } }
        raise 35 (fault pwrPage 0x10B 2 (bumpHalf A.pwrHoldups 0 s))) s)

/-- SUPPLY_B_CRANK (R552): supply B dips below 8 V and its converter goes on, or it is back above. -/
def execSupplyBCrank (below : Bool) (s : State) : Host.Outcome State Fault Refusal :=
  ran s (only s.power.bOk (fun s => { s with power := { s.power with bCrank := below } }) s)

/-- Whether the holdup can be spent (R552, R555): 20 ms from the instant at which supply A left its limits, 12 ms before it was declared lost.
How long it lasts beyond that, or with supply B alone, depends on the energy drawn, which the sender knows. -/
def State.holdupSpent (s : State) : Bool := decide (s.power.lostAt + (if s.power.wasA then 8000000 else 0) ≤ s.now)

/-- HOLDUP_EXPIRY (R555, R556): the stored energy is spent; the power stage stops the processor and sheds VCORE. -/
def execHoldupExpiry (s : State) : Host.Outcome State Fault Refusal :=
  ran s (only (s.power.holdup && !s.power.shed && s.holdupSpent) (fun s =>
    let s := raise 36 (fault pwrPage 0x10B 3 (bumpHalf A.pwrHoldups 16 s))
    let mp := if s.mp = .halted then MpState.halted else .stopped
    { s with mp := mp, power := { s.power with shed := true, lostAt := s.now } }) s)

/-- CORE_RESUME (R559): a supply is back and VCORE is at the level it had; the core resumes its handshakes and the processor restarts,
without counting toward R59. -/
def execCoreResume (s : State) : Host.Outcome State Fault Refusal :=
  let p := s.power
  ran s (only (p.shed && (p.aOk || p.bOk)) (fun s =>
    let s := supplyBack (!p.aOk) s
    if s.mp = .halted then s else raise 11 (fault sysPage 0x10D (s.mpRestarts.filter (fun t => s.now < t + 60000000000)).length (mpDown s))) s)

/-- RESERVE_EXPIRY (R556, R560): the reserve after a shed is spent, which lasts at least 5 ms. -/
def execReserveExpiry (s : State) : Host.Outcome State Fault Refusal :=
  ran s (only (s.power.shed && !s.power.aOk && !s.power.bOk && decide (s.power.lostAt + 5000000 ≤ s.now)) collapse s)

/-- RAIL_FAULT (R560): a rail other than VCORE (rail 0) is more than 10 % low for 10 µs. In SLEEP only VAON is on. -/
def execRailFault (rail : Fin 8) (s : State) : Host.Outcome State Fault Refusal :=
  let powered := s.on || (decide (s.wake.mode = .sleep) && decide (rail = 7))
  ran s (only (powered && decide (rail ≠ 0)) collapse s)

/-- POWER_ON_RESET (R560, R575): the rails have ramped from below 0.3 V, a supply is in range and the baseplate has cooled. -/
def execPowerOnReset (s : State) : Host.Outcome State Fault Refusal :=
  let p := s.power
  ran s (only (p.collapsed && (p.aOk || p.bOk) && !p.thermal) (fun s => carry (moduleReset s)) s)

/-! ## The baseplate (R656) -/

/-- BASEPLATE_OVERTEMP (R656): above 125 °C, event 42 once. -/
def execBaseplateOvertemp (s : State) : Host.Outcome State Fault Refusal :=
  ran s (only (s.on && !s.power.over125) (fun s => raise 42 { s with power := { s.power with over125 := true } }) s)

/-- BASEPLATE_CRITICAL (R656): 140 °C collapses the module. -/
def execBaseplateCritical (s : State) : Host.Outcome State Fault Refusal :=
  ran s (only (!s.power.collapsed) (fun s =>
    let t := collapse s
    { t with power := { t.power with thermal := true, over125 := true } }) s)

/-- BASEPLATE_COOLED (R656): below 120 °C. -/
def execBaseplateCooled (s : State) : Host.Outcome State Fault Refusal :=
  ran s { s with power := { s.power with over125 := false, thermal := false } }

/-! ## Clocks (R562–R566) -/

/-- XO_ACCEPTED (R562, R565): the crystal is accepted; the PLLs lock, or return to their reference. -/
def execXoAccepted (s : State) : Host.Outcome State Fault Refusal :=
  ran s (only (s.on && !s.power.xoOk) (fun s =>
    { s with power := { s.power with xoOk := true, xoLost := false, ircBoot := false, plls := [0, 1, 2, 3, 4, 5] } }) s)

/-- XO_RESTART (R564): the crystal has not been accepted in time and is started again. -/
def execXoRestart (s : State) : Host.Outcome State Fault Refusal :=
  ran s (only (s.on && !s.power.xoOk && decide (s.power.xoDue ≤ s.now)) (fun s =>
    let s : State := { s with power := { s.power with xoDue := s.now + 100000000 } }
    raise 39 (fault pwrPage 0x10C 0 (bump A.clkXoStarts s))) s)

/-- XO_LOST (R565): four missing cycles. -/
def execXoLost (s : State) : Host.Outcome State Fault Refusal :=
  ran s (only (s.on && s.power.xoOk) (fun s =>
    let s : State := { s with power := { s.power with xoOk := false, xoLost := true, xoDue := s.now + 50000000 } }
    raise 38 (fault pwrPage 0x10C 1 (bump A.clkXoLosses s))) s)

/-- PLL_UNLOCK (R565): a PLL loses lock with the crystal present; the crystal is restarted. -/
def execPllUnlock (p : Fin 6) (s : State) : Host.Outcome State Fault Refusal :=
  ran s (only (s.on && s.power.xoOk && s.power.plls.contains p.val) (fun s =>
    let q := { s.power with plls := dropFrom s.power.plls p, xoOk := false, xoDue := s.now + 50000000 }
    raise 40 (fault pwrPage 0x10C (8 + p) { s with power := q })) s)

/-- CLK_STATUS (R584). -/
def State.clkStatus (s : State) : W32 :=
  let p := s.power
  w32 (bit p.xoOk + bit p.xoLost * 2 + bit p.ircBoot * 4 + maskOf 6 p.plls * 2 ^ 8)

/-- PWR_STATUS (R585). -/
def State.pwrStatus (s : State) : W32 :=
  let p := s.power
  w32 (bit p.aOk + bit p.bOk * 2 + bit p.bCrank * 4 + bit p.aDc * 8 + bit p.holdup * 16 + bit p.shed * 32 + bit p.aCarry * 64
    + bit p.bCarry * 128)

/-! ## Pace (R567–R571) -/

/-- Divider D of a level. -/
def paceDivider (l : Nat) : Nat := [16, 12, 10, 8, 7, 6, 5, 4].getD l 4

/-- The target level (R569, R571): P7 while a request stands or holds and before the backbone step. -/
def State.paceTarget (s : State) : Nat :=
  let p := s.power
  if p.planeReq || p.latReq || p.reqClear.isSome || p.preBackbone then 7 else max p.target (fld (s.cfg A.pwrPaceCtrl) 0 3)

/-- PACE_MEASURE (R569): the highest plane load and the lattice issue load of the last 100 µs, in 1/1,000. -/
def execPaceMeasure (plane : Fin 1024) (lattice : Fin 1024) (s : State) : Host.Outcome State Fault Refusal :=
  let p := s.power
  let c := s.cfg A.pwrPaceCtrl
  let up := fld c 8 7 * 10
  let down := fld c 16 7 * 10
  let hold := fld c 24 8 * 100000
  let free := !p.planeReq && !p.latReq && p.reqClear.isNone && !p.preBackbone
  ran s (only (s.on && !p.shed && free && decide (p.lastMeasure + 100000 ≤ s.now)) (fun s =>
    let t := s.paceTarget
    if plane.val > up ∨ lattice.val > up then
      { s with power := { p with target := min 7 (t + 1), belowSince := none, lastMeasure := s.now } }
    else if plane.val < down ∧ lattice.val < down then
      let since := p.belowSince.getD s.now
      if since + hold ≤ s.now then
        { s with power := { p with target := max (t - 1) (fld c 0 3), belowSince := some s.now, lastMeasure := s.now } }
      else { s with power := { p with belowSince := some since, lastMeasure := s.now } }
    else { s with power := { p with target := t, belowSince := none, lastMeasure := s.now } }) s)

/-- PACE_REQUEST_HOLD_EXPIRY (R569): 1 ms after the last request cleared the target may leave P7. -/
def execPaceRequestHoldExpiry (s : State) : Host.Outcome State Fault Refusal :=
  let p := s.power
  let due := match p.reqClear with
    | none => false
    | some t => decide (t + 1000000 ≤ s.now)
  ran s (only (s.on && due && !p.planeReq && !p.latReq)
    (fun s => { s with power := { p with reqClear := none, target := 7, belowSince := none } }) s)

/-- PACE_STEP (R567, R568): VCORE settles one level nearer to the target; before a fall D has the new level's value. -/
def execPaceStep (s : State) : Host.Outcome State Fault Refusal :=
  let p := s.power
  let t := s.paceTarget
  let l := if p.level < t then p.level + 1 else if t < p.level ∧ paceDivider (p.level - 1) ≤ p.divider then p.level - 1 else p.level
  ran s (only (s.on && !p.shed && decide (l ≠ p.level)) (fun s => raise 37 (bump A.pwrPaceSteps { s with power := { p with level := l } })) s)

/-- The value that D moves toward (R568): that of the level settled, or on a fall that of the level below. -/
def State.dividerGoal (s : State) : Nat :=
  let p := s.power
  paceDivider (if s.paceTarget < p.level then p.level - 1 else p.level)

/-- DIVIDER_STEP (R567, R568): D moves by one. -/
def execDividerStep (s : State) : Host.Outcome State Fault Refusal :=
  let d := s.power.divider
  let g := s.dividerGoal
  ran s (only (s.on && !s.power.shed && decide (d ≠ g))
    (fun s => { s with power := { s.power with divider := if d < g then d + 1 else d - 1 } }) s)

/-- PWR_PACE_STATUS (R584). -/
def State.paceStatus (s : State) : W32 :=
  let p := s.power
  w32 (p.level % 8 + s.paceTarget % 8 * 16 + bit p.planeReq * 2 ^ 8 + bit p.latReq * 2 ^ 9
    + bit (decide (p.level ≠ s.paceTarget ∨ p.divider ≠ s.dividerGoal)) * 2 ^ 10)

/-- CLK_MP (R584). -/
def State.clkMp (s : State) : W32 := w32 (s.power.divider % 32 + 6400 / max 1 s.power.divider * 2 ^ 16)

/-! ## Device resets (R578–R580) -/

/-- RESET_PIN (R578): RST_N low for `lowNs`. Between 9.9 and 10.1 µs the spec leaves open whether it counts: a free value. -/
def execResetPin (lowNs : Nat) (s : State) : Host.Outcome State Fault Refusal :=
  ran s (only s.on (fun s =>
    if 10100 ≤ lowNs then deviceReset 2 s
    else if lowNs < 9900 then s
    else if s.freeBit then deviceReset 2 (freshen s) else freshen s) s)

/-- A write of PWR_RESET_CMD (R579): with KEY and DEVICE the reset is due once the reply has been sent. -/
def resetCmdWritten (f : Nat) (v : W32) (s : State) : State :=
  if (f = 0 ∨ f = 15) ∧ fld v 0 16 = 0xA5C3 ∧ tst v 16 then { s with power := { s.power with resetDue := true } } else s

/-- A reset that waits for a reply takes place. -/
def resetIfDue (s : State) : State := if s.power.resetDue then deviceReset 4 s else s

/-- WATCHDOG_SERVICE (R580). -/
def execWatchdogService (s : State) : Host.Outcome State Fault Refusal :=
  ran s (only s.mpOn (fun s => { s with power := { s.power with wdogAt := s.now, wdogHalf := false } }) s)

/-- TIMEOUT of the watchdog in ns. -/
def State.wdogTimeout (s : State) : Nat := fld (s.cfg A.pwrWdogCtrl) 16 14 * 1000000

/-- WATCHDOG_HALF (R580). -/
def execWatchdogHalf (s : State) : Host.Outcome State Fault Refusal :=
  let p := s.power
  ran s (only (s.on && tst (s.cfg A.pwrWdogCtrl) 0 && !p.wdogHalf && decide (p.wdogAt + s.wdogTimeout / 2 ≤ s.now))
    (fun s => raise 41 { s with power := { p with wdogHalf := true } }) s)

/-- WATCHDOG_TIMEOUT (R580). -/
def execWatchdogTimeout (s : State) : Host.Outcome State Fault Refusal :=
  ran s (only (s.on && tst (s.cfg A.pwrWdogCtrl) 0 && decide (s.power.wdogAt + s.wdogTimeout ≤ s.now)) (deviceReset 3) s)

/-- PWR_WDOG_STATUS (R584). -/
def State.wdogStatus (s : State) : W32 := w32 (min 65535 ((s.now - s.power.wdogAt) / 1000000) + bit s.power.wdogHalf * 2 ^ 16)

/-- What a commit does to the power block: PREFER moves the load (R553); a watchdog that is enabled starts its time. -/
def powerCommit (old : Bank) (s : State) : State :=
  let s := carry s
  if tst (s.cfg A.pwrWdogCtrl) 0 ∧ !tst (old.regs.read A.pwrWdogCtrl) 0 then
    { s with power := { s.power with wdogAt := s.now, wdogHalf := false } }
  else s

/-! ## PAGE_CTRL (R622–R627) -/

/-- The vertices that a SOFT_RESET of a page resets (R576): both channels of a LIN pair, every lane of a bonded port, none for a member
vertex. -/
def State.resetScope (s : State) (p : PageRef) : List Nat :=
  match p.kind with
  | .eth => if p.inst < 8 then (if s.live.member p.inst then [] else s.live.lanesOf p.inst) else [p.inst]
  | .can => [48 + p.inst]
  | .lin => [72 + 2 * p.inst, 73 + 2 * p.inst]
  | _ => []

/-- A vertex is reset (R576, R126, R574): its medium stops, what waits at it is discarded, its sequence number and the LOST count of its
transmit stamps restart. A frame in transmission completes first. -/
def resetVertex (v : Nat) (s : State) : State :=
  let t : SweepTest := fun _ w _ => decide (w = v)
  let s := enterGray v 0 (sweepEgress t 9 s)
  let s := if v < 48 then
      let e := s.ethSt v
      let s := if v < 8 then setLane v LaneSt.reset s else s
      if (s.out v).tx.isSome ∨ (s.out v).suspended.isSome ∨ !e.linkUp then s else linkLost v false s
    else s
  let q := SMap.get TxStampQ.reset s.txq v
  { s with seqs := SMap.put 0 s.seqs v 0, txq := SMap.put TxStampQ.reset s.txq v { q with lost := 0 } }

/-- A vertex comes out of its reset (R627): it begins anew under its live settings; MACsec SAs and counters are kept. -/
def vertexRestarts (v : Nat) (s : State) : State :=
  if v < 48 then
    let s := linkLost v false s
    let e := s.ethSt v
    setEth v { EthSt.reset with anInUse := e.anInUse, anPend := e.anPend, txExhausted := e.txExhausted,
                                phy := if v < 8 then .disabled else if s.wake.asleep.contains v then .sleep
                                  else if tst (s.cfg (A.ethPhyCtrl v)) 0 then .training else .disabled } s
  else if v < 72 then
    ttStart (v - 48) (takeTiming (v - 48) (setCan (v - 48) { CanSt.reset with trxFault := (s.canSt (v - 48)).trxFault } s))
  else setLin (v - 72) { LinSt.reset with trxFault := (s.linSt (v - 72)).trxFault } s

/-- The cells of a cell page. -/
def cellsOfPage (k : Nat) : List Nat := [2 * k, 2 * k + 1]

/-- SOFT_RESET of a cell page (R577): spares are checked, cells in service go through the steps of R253. -/
def resetCells (k : Nat) (s : State) : State :=
  let cs := cellsOfPage k
  let s := cs.foldl (fun s c =>
    if (s.cell c).st = .spare then setCell c ⟨.checking, false, true, false, s.now⟩ s else s) s
  cs.foldl (fun s c =>
    if (s.cell c).st = .inService ∧ !(s.cell c).noDispatch then
      let spare := decide (s.cellsIn .spare ≠ [])
      let s := if spare then replaceCell c s else s
      setCell c { s.cell c with noDispatch := true, periodic := true, inPlace := !spare, since := s.now } s
    else s) s

/-- Starts the reset of a page's scope (R576, R577). -/
def startSoftReset (p : PageRef) (s : State) : State :=
  if s.softReset.contains p.base then s
  else if p.kind = .latCell then
    if (cellsOfPage p.inst).all (fun c => (s.cell c).st = .retired) then s
    else resetCells p.inst { s with softReset := addTo s.softReset p.base }
  else
    let vs := s.resetScope p
    if vs = [] then s
    else vs.foldl (fun s v => resetVertex v s) { s with softReset := (vs.map vertexPage).foldl addTo s.softReset }

/-- Whether the staging copy is closed to writes (R38). -/
def State.stagingClosed (s : State) : Bool := decide (s.epoch.st ≠ .idle)

/-- A write of PAGE_CTRL by a facet with the right to it (R622). -/
def pageCtrlWritten (p : PageRef) (v : W32) (s : State) : Rsp × State :=
  let a := p.base + 8
  let s := if p.kind.quiesce then setReg a (setBit (s.reg a) 1 (tst v 1)) s else s
  let s := if p.kind.softReset ∧ tst v 2 then startSoftReset p s else s
  if !p.kind.gate then (.ok, s)
  else
    let staged := tst (s.stg a) 0
    if s.stagingClosed then (if tst v 0 ≠ staged then .armed else .ok, s)
    else (.ok, setStaged a (w32 (bit (tst v 0))) s)

/-- PAGE_CTRL as it reads (R622); `en` is ENABLE of the view asked for. -/
def State.pageCtrl (s : State) (p : PageRef) (en : W32) : W32 :=
  if p.kind.gate ∨ p.kind.quiesce then
    w32 ((if p.kind.gate then bit (tst en 0) else 1) + bit (p.kind.quiesce && tst (s.reg (p.base + 8)) 1) * 2
      + bit (s.softReset.contains p.base) * 4)
  else 1

/-- QUIESCED (R625, R626). -/
def State.quiesced (s : State) (p : PageRef) : Bool :=
  p.kind.quiesce && tst (s.reg (p.base + 8)) 1
    && (if p.kind = .eth then (match (s.out p.inst).tx with
        | none => true
        | some f => decide (f.copy.item.vertex = 96))
      else (cellsOfPage p.inst).all (fun c => decide ((s.freeCtxs c).length = 16)))

/-- PAGE_STATUS (R628) as F0 reads it. -/
def State.pageStatus (s : State) (p : PageRef) : W32 :=
  w32 ((if p.kind.gate then bit (tst (s.cfg (p.base + 8)) 0) else 1) + bit (s.quiesced p) * 2
    + bit (s.softReset.contains p.base) * 4 + bit ((s.lockOf (p.base / 0x1000)).isSome) * 8 + fld (s.reg (p.base + 0x0C)) 8 8 * 2 ^ 8)

/-- SOFT_RESET_COMPLETE (R126, R576, R577, R627): what was in transmission has ended, or the page's cells have been checked. -/
def execSoftResetComplete (page : PageNo) (s : State) : Host.Outcome State Fault Refusal :=
  let base := 0x1000 * page.val
  ran s (only (s.on && s.softReset.contains base) (fun s =>
    match pageOf base with
    | none => s
    | some p =>
      if p.kind = .latCell then
        let busy := (cellsOfPage p.inst).any (fun c => decide ((s.cell c).st = .checking) || (s.cell c).noDispatch)
        if busy then s else { s with softReset := dropFrom s.softReset base }
      else
        let vs := (match p.kind with
          | .eth => [p.inst]
          | _ => s.resetScope p)
        let s := vs.foldl (fun s v => finishTx v s) s
        if s.flying.any (fun p => vs.contains p.1) then s
        else vs.foldl (fun s v => vertexRestarts v s) { s with softReset := dropFrom s.softReset base }) s)

end Sys2Proof.Machine
end

