-- ==== Sys2Proof/Machine/Validate.lean ====
section
/-! DEFINITION. Validation (R34, R35, R659): every condition under which a chapter refuses a staging copy as a conflict, with the object
that is reported, the warnings of R35, and the digest of the accord group (R465). A condition that the spec states of one register is
reported as that register; one on a set of registers as the lowest address of the set with VALID 0. -/

namespace Sys2Proof.Machine

/-! ## What is reported -/

/-- What SYS_EPOCH_CONFLICT and SYS_EPOCH_CONFLICT_INDEX report: the address and the index word of R659. -/
structure Conflict where
  addr : Nat
  word : Nat
  deriving DecidableEq, Repr

/-- The index word of a named object (R659). -/
def indexWord (kind vertex index : Nat) : Nat := 2 ^ 31 + kind * 2 ^ 27 + vertex % 128 * 2 ^ 20 + index % 2 ^ 20

/-- A conflict of a register at a fixed address, or of a set of registers whose lowest address it is. -/
def atReg (c : Bool) (addr : Nat) : List Conflict := if c then [⟨addr, 0⟩] else []

/-- A conflict of a register behind a selector. -/
def atSel (c : Bool) (addr sel : Nat) : List Conflict := if c then [⟨addr, indexWord 0 0x7F sel⟩] else []

/-- A conflict of a register of the queue window. -/
def atQue (c : Bool) (addr v i : Nat) : List Conflict := if c then [⟨addr, indexWord 0 v i⟩] else []

/-- Ascending address order, then ascending index (R34). -/
def Conflict.before (a b : Conflict) : Bool := decide (a.addr < b.addr ∨ (a.addr = b.addr ∧ a.word < b.word))

/-- The first of some conflicts. -/
def firstConflict (l : List Conflict) : Option Conflict :=
  l.foldl (fun m c => match m with
    | none => some c
    | some d => if c.before d then some c else some d) none

/-! ## Vertices that a configuration names (R4, R5, R342) -/

/-- Whether R3 assigns a vertex number. -/
def assigned (v : Nat) : Bool := decide (v < 85 ∨ (96 ≤ v ∧ v < 109))

/-- The peer channel of the own accord rank (R5). -/
def Bank.ownChannel (b : Bank) (v : Nat) : Bool :=
  let c := b.regs.read A.brgAccCtrl
  tst c 0 && decide (v = 101 + fld c 1 3)

/-- Whether a configuration may not name a vertex: not assigned, or a member of a bonded port. -/
def Bank.unnameable (b : Bank) (v : Nat) : Bool := !assigned v || b.member v

/-- Whether a configuration may not route to a vertex. -/
def Bank.unroutable (b : Bank) (v : Nat) : Bool := b.unnameable v || b.ownChannel v

/-- The vertices of the device that have class queues. -/
def queueVertices : List Nat := (List.range 109).filter assigned

/-- Sum of a field of sixteen registers. -/
def Bank.sum16 (b : Bank) (a : Nat → Nat) (n : Nat) : Nat := ((List.range 16).map (fun f => fld (b.regs.read (a f)) 0 n)).sum

/-- The stored words of a register behind a selector: selector and word. A register that is not stored has its reset value. -/
def Bank.stored (b : Bank) (a : Nat) : List (Nat × W32) :=
  b.regs.filterMap (fun p => if p.1 % 2 ^ 24 = a then some (p.1 / 2 ^ 24, p.2) else none)

/-! ## Time base (chapter 02) -/

/-- Sync outputs (R94, R109). -/
def Bank.chkSync (b : Bank) : List Conflict :=
  ((List.range 16).map (fun n =>
    let r (a : Nat) : Nat := (b.regs.read a).toNat
    let c := b.regs.read (A.locSoCtrl n)
    let on := fld c 0 2 = 1 ∨ fld c 0 2 = 2
    let period := r (A.locSoPeriodNs n) * 65536 + r (A.locSoPeriodFrac n) % 65536
    let width := r (A.locSoWidthNs n) * 65536 + r (A.locSoWidthFrac n) % 65536
    atReg (decide (fld c 0 2 = 3 ∨ (on ∧ fld c 3 2 = 3))) (A.locSoCtrl n)
      ++ atReg (decide (on ∧ (period < 100 * 65536 ∨ period > 4294967295 * 65536 ∨ period < width + 20 * 65536))) (A.locSoPeriodNs n)
      ++ atReg (decide (on ∧ width < 20 * 65536)) (A.locSoWidthNs n))).flatten

/-- Capture units and the PPS source (R85, R103). -/
def Bank.chkCapture (b : Bank) : List Conflict :=
  let a := b.regs.read A.locApexSrc
  let u := b.regs.read (A.locCapCtrl (fld a 0 3))
  atReg (tst a 3 && !(tst u 0 && (fld u 1 2 = 1 || fld u 1 2 = 3))) A.locApexSrc
    ++ ((List.range 4).map (fun n => atReg (tst (b.regs.read (A.locCapCtrl n)) 7) (A.locCapCtrl n))).flatten

/-- Time-domain instances (R82, R83, R86, R342). -/
def Bank.chkDomains (b : Bank) : List Conflict :=
  let on (d : Nat) : Bool := tst (b.regs.read (A.locDomCtrl d)) 0
  let name (d : Nat) : Nat × Nat := (fld (b.regs.read (A.locDomCtrl d)) 1 1, fld (b.regs.read (A.locDomCtrl d)) 8 8)
  ((List.range 4).map (fun d =>
    let bc := tst (b.regs.read (A.locDomCtrl d)) 1
    let ports := pair (b.regs.read (A.locDomPortsLo d)) (b.regs.read (A.locDomPortsHi d))
    let bad (v : Nat) : Bool := ports / 2 ^ v % 2 = 1 && ((bc && decide (8 ≤ v)) || b.member v)
    let iv := b.regs.read (A.locDomIntervals d)
    let oneStep (v : Nat) : Bool := let c := b.regs.read (A.ethSecCtrl v)
      bc && ports / 2 ^ v % 2 = 1 && tst c 0 && !tst c 6
    if !on d then []
    else
      atReg ((List.range 32).any bad) (A.locDomPortsLo d) ++ atReg ((List.range 16).any (fun i => bad (32 + i))) (A.locDomPortsHi d)
        ++ atReg (decide (sx 8 (fld iv 8 8) < -3 ∨ sx 8 (fld iv 24 8) < 2)) (A.locDomIntervals d)
        ++ atReg ((List.range 4).any (fun e => decide (d < e) && on e && name d = name e)) (A.locDomCtrl d)
        ++ ((List.range 8).map (fun v => atReg (oneStep v) (A.ethSecCtrl v))).flatten)).flatten

/-- Shared pins and capture units (R104, R105, R549): two functions of one resource in the staging copy, or one there and the other live. -/
def chkPins (b live : Bank) : List Conflict :=
  let both (f g : Bank → Bool) : Bool := (f b && (g b || g live)) || (f live && g b)
  let pin (alt : Bool) (k : Nat) (x : Bank) : Bool := let c := x.regs.read (A.locCapCtrl (4 + k)); tst c 0 && (tst c 7 == alt)
  ((List.range 4).map (fun k =>
    atReg (both (fun x => fld (x.regs.read (A.locSoCtrl (12 + k))) 0 2 ≠ 0) (fun x => tst (x.regs.read (A.wakWlo k)) 0)) (A.locSoCtrl (12 + k))
      ++ atReg (both (fun x => tst (x.regs.read (A.locCapCtrl (4 + k))) 7) (fun x => tst (x.regs.read (A.wakPin k)) 0)
          || both (pin false k) (pin true k)) (A.locCapCtrl (4 + k)))).flatten

/-! ## Planes, buffer and queues (chapter 03) -/

/-- Replication groups (R142): the first group of each mask register that names a vertex it may not. -/
def Bank.chkGroups (b : Bank) : List Conflict :=
  ((List.range 4).map (fun k =>
    ((b.stored (A.bufMcMask k)).map (fun p => atSel ((bitsOf 32 p.2.toNat).any (fun i => b.unroutable (32 * k + i))) (A.bufMcMask k) p.1)).flatten)).flatten

/-- Rate in kbit/s of the port of a vertex, by its kind, its bond and the rates its PHY may take (R336). -/
def Bank.portKbps (b : Bank) (v : Nat) : Nat :=
  if v < 8 then 100000000 * b.portWidth v
  else if 40 ≤ v then 10000
  else
    let r := fld (b.regs.read (A.ethPhyCtrl v)) 3 6
    if r / 32 % 2 = 1 then 25000000 else if r / 16 % 2 = 1 then 10000000 else if r / 8 % 2 = 1 then 5000000
    else if r / 4 % 2 = 1 then 2500000 else if r / 2 % 2 = 1 then 1000000 else 100000

/-- The queue window of a vertex (R127, R144, R146, R149, R166, R172, R174, R380). -/
def Bank.chkQueue (b : Bank) (v : Nat) : List Conflict :=
  let r (a : Nat) : W32 := b.regs.read (selKey a v)
  let mode := r A.qMode
  let merge := tst mode 1
  let cbs (c : Nat) : Bool := tst (r (A.qCCbs c)) 0
  let anyCbs := (List.range 8).any cbs
  let top := b.largest v - (if merge then 20 else 0)
  let secTop := b.largest v - b.secOverhead v - (if merge then 20 else 0)
  let slopes := ((List.range 8).map (fun c => (r (A.qCIdleslope c)).toNat)).sum
  let len := fld (r A.qGclLen) 0 11
  let e (a i : Nat) : W32 := b.regs.read (selKey a (v * 1024 + i))
  atQue (decide (fld (r A.qInLim) 0 18 < 2 * ceilDiv (b.largest v) 256)) A.qInLim v 0
    ++ atQue ((tst mode 3 && decide (24 ≤ v)) || (decide (48 ≤ v) && (tst mode 1 || tst mode 2)) || (merge && (tst mode 2 || tst mode 3 || anyCbs)))
        A.qMode v 0
    ++ atQue (decide (fld (r A.qMergeW) 0 9 = 0 ∨ fld (r A.qMergeW) 0 9 > 500)) A.qMergeW v 0
    ++ atQue (decide ((r A.qGclCycleNs).toNat < 1000 ∨ (r A.qGclCycleNs).toNat > 1000000000)) A.qGclCycleNs v 0
    ++ atQue (decide (len = 0 ∨ len > 1024)) A.qGclLen v 0
    ++ ((List.range (min len 1024)).map (fun i => atQue (decide ((e A.qGclInterval i).toNat < 64)) A.qGclInterval v i)).flatten
    ++ ((List.range 8).map (fun c =>
        let maxlen := fld (r (A.qCMaxlen c)) 0 14
        atQue (decide (fld (r (A.qCLim c)) 0 18 < ceilDiv maxlen 256)) (A.qCLim c) v 0
          ++ atQue (decide (maxlen > top) || (decide (v < 48 ∧ maxlen > secTop) && tst (b.regs.read (A.ethSecCtrl v)) 0)) (A.qCMaxlen c) v 0
          ++ atQue (decide (48 ≤ v) && cbs c) (A.qCCbs c) v 0
          ++ atQue (decide (fld (r (A.qCCeiling c)) 0 7 = 0 ∨ fld (r (A.qCCeiling c)) 0 7 > 100)) (A.qCCeiling c) v 0)).flatten
    ++ atReg (decide (v < 48 ∧ slopes > b.portKbps v)) (A.qCIdleslope 0)

/-- Facet caps, groups, queues, and the number of sorted-merge vertices (R127, R162). -/
def Bank.chkBuffer (b : Bank) : List Conflict :=
  atReg (decide (b.sum16 A.bufFcap 18 > 257024)) (A.bufFcap 0) ++ b.chkGroups ++ (queueVertices.map b.chkQueue).flatten
    ++ (b.stored A.qGclOp).flatMap (fun p => atQue (decide (fld p.2 8 2 = 3)) A.qGclOp (p.1 / 1024) (p.1 % 1024))
    ++ ((List.range 128).filter (fun v => !assigned v)).flatMap (fun v => atQue (tst (b.regs.read (selKey A.qMode v)) 3) A.qMode v 0)
    ++ atReg (decide (((List.range 48).filter (fun v => tst (b.regs.read (selKey A.qMode v)) 1)).length > 8)) A.qMode

/-! ## Tables and the lattice (chapters 04, 05) -/

/-- A result may not stand (R4, R5, R193, R230, R342): what it names does not exist, or is closed to its owner. -/
def Bank.badResult (b : Bank) (r : BitVec 64) : Bool :=
  let v := resFld r 47 7
  let e := b.de (resJob r)
  decide (resAction r > 4) || (!resGroup r && (b.unnameable v || (decide (resAction r = 0) && b.ownChannel v)))
    || (decide (resAction r = 2) && !(e.valid && e.allow / 2 ^ resOwner r % 2 = 1))

/-- Address and index word that R34 gives for a table entry. -/
def tableConflict (kind port index : Nat) : Conflict := ⟨A.tblCmdOp port, indexWord kind 0x7F index⟩

/-- The ingress vertex that a hash key names; BRIDGE keys name none. -/
def hashVertex (k : BitVec 320) : Option Nat := if hashKind k = 1 then none else some (k.toNat / 16 % 128)

/-- Static table entries, defaults, VLAN entries, learning caps and the rehash (R180, R193, R202, R230, R342, R365). Dynamic entries are not
judged (R178). -/
def State.chkTables (s : State) (b : Bank) : List Conflict :=
  atReg (s.rebuilding || decide (s.unplaced ≠ [])) A.tblRehashStatus
    ++ atReg (decide (b.sum16 A.tblLearnCap 18 > 131072)) (A.tblLearnCap 0)
    ++ (queueVertices.map (fun v => atReg (b.badResult (b.defResult v)) (A.tblDefLo v))).flatten
    ++ (b.cam.map (fun p => match p.2 with
        | none => []
        | some e =>
          let named := e.care / 2 % 2 = 1 && b.unnameable (camFld e.key 144 7)
          if b.badResult e.res || named then [tableConflict 1 e.port p.1] else [])).flatten
    ++ (b.hash.map (fun p => match p.2 with
        | none => []
        | some e =>
          let named := match hashVertex e.key with
            | none => false
            | some v => b.unnameable v
          if resStatic e.res && (b.badResult e.res || named) then [tableConflict 2 e.port p.1] else [])).flatten
    ++ ((b.stored A.ethVtFlags).map (fun p => atSel (tst p.2 0 && decide (p.1 = 0 ∨ p.1 = 4095)) A.ethVtFlags p.1)).flatten
    ++ ([A.ethVtMemberLo, A.ethVtUntagLo].map (fun a =>
        ((b.stored a).map (fun p => atSel ((List.range 8).any (fun v => b.member v && tst p.2 v)) a p.1)).flatten)).flatten

/-- Whether a range of words lies wholly within one SEALED segment. -/
def State.inSealed (s : State) (a n : Nat) : Bool :=
  (List.range 64).any (fun i => let g := s.seg i; decide (g.st = 2 ∧ g.start ≤ a ∧ a + n ≤ g.start + g.len ∧ 0 < n))

/-- Context quotas and dispatch entries (R228, R259, R262, R263). -/
def State.chkLattice (s : State) (b : Bank) : List Conflict :=
  let named := ((b.stored A.latDeCtrl ++ b.stored A.latDeBudget ++ b.stored A.latDeOutbytes).map (·.1)).eraseDups
  atReg (decide (b.sum16 A.latCtxQuota 11 > 1024)) (A.latCtxQuota 0)
    ++ (named.map (fun n =>
        let e := b.de n
        atSel (decide (e.outMax > 8)) A.latDeCtrl n ++ atSel (decide (e.budget = 0)) A.latDeBudget n
          ++ atSel (decide (e.outBytes = 0 ∨ e.outBytes > 16000)) A.latDeOutbytes n
          ++ atSel (e.valid && !s.inSealed e.start e.len) A.latDeStart n
          ++ atSel (e.valid && decide (e.constLen > 0) && !s.inSealed e.const (ceilDiv e.constLen 4)) A.latDeConst n)).flatten

/-! ## CAN, LIN and the bridge (chapter 06) -/

/-- Bit timing (R274): a nominal word. -/
def badNbt (w : W32) : Bool := decide (nbtCycles w < 160 ∨ nbtCycles w > 16000 ∨ fld w 20 7 > fld w 13 7)

/-- Bit timing (R274): a data word at most `160 / fast` Mbit/s and not below the nominal rate. -/
def badDbt (fast nominal : Nat) (w : W32) : Bool := decide (dbtCycles w < fast ∨ dbtCycles w > nominal ∨ fld w 14 5 > fld w 9 5)

/-- A trigger of the time master (R294). -/
structure Trigger where
  typ : Nat
  offset : Nat
  rep : Nat
  mark : Nat
  len : Nat
  deriving DecidableEq, Repr

/-- Trigger i of a channel. -/
def Bank.trigger (b : Bank) (ch i : Nat) : Trigger :=
  let c := b.regs.read (A.canTtTrigCtrl ch i)
  ⟨fld c 0 2, fld c 8 6, fld c 16 3, (b.regs.read (A.canTtTrigMark ch i)).toNat, (b.regs.read (A.canTtTrigLen ch i)).toNat⟩

/-- Two EXCLUSIVE windows that can be active in one basic cycle and overlap (R298). -/
def Trigger.clash (x y : Trigger) : Bool :=
  let r := 2 ^ min x.rep y.rep
  decide (x.typ = 1 ∧ y.typ = 1 ∧ x.offset % r = y.offset % r ∧ x.mark < y.mark + y.len ∧ y.mark < x.mark + x.len)

/-- The time master of a channel (R298). -/
def Bank.chkTt (b : Bank) (ch : Nat) : List Conflict :=
  let c := b.regs.read (A.canTtCtrl ch)
  let cycles := fld c 1 3
  let ts := (List.range 64).map (fun i => (i, b.trigger ch i))
  let used := ts.filter (fun p => p.2.typ ≠ 0)
  atReg (tst c 0 && fld (b.regs.read (A.canCtrl ch)) 0 2 ≠ 1) (A.canCtrl ch)
    ++ atReg (decide (cycles > 6) || used.any (fun p => decide (p.2.rep > cycles))) (A.canTtCtrl ch)
    ++ atReg (used.any (fun p => decide (p.2.mark + p.2.len > (b.regs.read (A.canTtCycleNs ch)).toNat))) (A.canTtCycleNs ch)
    ++ (used.map (fun p =>
        atReg (decide (p.2.typ = 3 ∨ p.2.offset ≥ 2 ^ p.2.rep) || used.any (fun q => decide (p.1 < q.1) && p.2.clash q.2))
          (A.canTtTrigCtrl ch p.1))).flatten

/-- A CAN channel (R274, R279, R289, R298). -/
def chkCan (b live : Bank) (ch : Nat) : List Conflict :=
  let r (a : Nat) : W32 := b.regs.read a
  let c := r (A.canCtrl ch)
  let n := nbtCycles (r (A.canNbt ch))
  let detect (x : Bank) : Bool := fld (x.regs.read (A.canCtrl ch)) 0 2 = 3
  let master (x : Bank) : Bool := tst (x.regs.read (A.canTtCtrl ch)) 0
  let retry := fld (r (A.canTxCtrl ch)) 0 5
  atReg ((detect b && (master b || master live)) || (detect live && master b)) (A.canCtrl ch)
    ++ atReg (badNbt (r (A.canNbt ch))) (A.canNbt ch)
    ++ atReg (tst c 4 && badDbt 20 n (r (A.canDbt ch))) (A.canDbt ch)
    ++ atReg (tst c 5 && badDbt 8 n (r (A.canXbt ch))) (A.canXbt ch)
    ++ atReg (decide (16 ≤ retry ∧ retry ≤ 30)) (A.canTxCtrl ch)
    ++ (if detect b then
          ((List.range (fld (r (A.canRateCtrl ch)) 4 3 + 1)).map (fun k =>
            atReg (badNbt (r (A.canCandNbt ch k))) (A.canCandNbt ch k)
              ++ atReg (tst c 4 && badDbt 20 (nbtCycles (r (A.canCandNbt ch k))) (r (A.canCandDbt ch k))) (A.canCandDbt ch k))).flatten
        else [])
    ++ b.chkTt ch

/-- A LIN channel (R301, R306, R332). -/
def Bank.chkLin (b : Bank) (j : Nat) : List Conflict :=
  let rate := fld (b.regs.read (A.linCtrl j)) 16 15
  let len (id : Nat) : Nat := fld (b.regs.read (A.linId j id)) 3 4
  atReg (decide (fld (b.regs.read (A.linCtrl j)) 0 2 = 3)) (A.linCtrl j)
    ++ ((List.range 64).map (fun i => atReg (decide (fld (b.regs.read (A.linId j i)) 0 2 = 3)) (A.linId j i))).flatten
    ++ ((b.stored (A.linTabEntry j)).map (fun p =>
        let typ := fld p.2 0 3
        let sp := b.regs.read (selKey (A.linTabSpor j) p.1)
        let listed := (List.range 4).filterMap (fun k => if tst sp (8 * k + 6) then some (fld sp (8 * k) 6) else none)
        let ids := if typ = 4 then [0x3C] else if typ = 5 then [0x3D] else if typ = 3 then listed
          else if typ = 2 then fld p.2 3 6 :: listed else [fld p.2 3 6]
        let top := (ids.map len).foldl max 0
        atSel (decide (typ > 5) || (decide (typ ≠ 0) && decide (fld p.2 16 16 * rate < 14000 * (34 + 10 * (top + 1))))) (A.linTabEntry j) p.1)).flatten

/-- A rule may not stand (R4, R5, R230, R342): it names a vertex that it may not, or it is VALID and its job is closed to its owner. -/
def Bank.badRule (b : Bank) (tangent : Bool) (r : RuleRec) : Bool :=
  let w := r.words.getD 2 0
  let d := r.words.getD (if tangent then 7 else 4) 0
  let e := b.de (fld w 0 12)
  (!tst w 30 && b.unnameable (fld w 23 7)) || (!tst d 29 && b.unroutable (fld d 16 7)) || (r.valid && !(e.valid && e.allow / 2 ^ r.owner % 2 = 1))

/-- The rules (R230), and the queue limits and ceilings of the bridge (R166, R309). -/
def Bank.chkBridge (b : Bank) : List Conflict :=
  ([false, true].map (fun t => ((b.rules t).map (fun p => match p.2 with
      | none => []
      | some r => if b.badRule t r then [⟨A.brgRcmdOp r.port, indexWord (if t then 4 else 3) 0x7F p.1⟩] else [])).flatten)).flatten
    ++ ((List.range 2).map (fun d => ((List.range 8).map (fun c =>
        let k := fld (b.regs.read (A.brgQCCeiling d c)) 0 7
        atReg (decide (fld (b.regs.read (A.brgQCLim d c)) 0 18 < 9)) (A.brgQCLim d c)
          ++ atReg (decide (k = 0 ∨ k > 100)) (A.brgQCCeiling d c))).flatten)).flatten

/-! ## Ethernet vertices (chapter 07) -/

/-- RATES bits that the kind of a vertex supports (R336, R350). -/
def ratesOf (v : Nat) : Nat := if 8 ≤ v ∧ v < 24 then 0x3E else if 24 ≤ v ∧ v < 40 then 0x03 else 0

/-- The page of an Ethernet vertex (R342, R350, R351, R360, R373, R380, R382, R383). -/
def chkEth (b live : Bank) (v : Nat) : List Conflict :=
  let r (a : Nat) : W32 := b.regs.read a
  let phy := r (A.ethPhyCtrl v)
  let plca := r (A.ethPlcaCtrl v)
  let fc := r (A.ethFcCtrl v)
  let xoff := fld (r (A.ethFcXoff v)) 0 18
  let xon := fld (r (A.ethFcXon v)) 0 18
  let sec := r (A.ethSecCtrl v)
  let vl := r (A.ethPortVlan v)
  let s10 := decide (40 ≤ v)
  let base := vertexPage v
  let changed := if b.member v then
      (b.regs.filter (fun p => decide (base + 0x40 ≤ p.1 ∧ p.1 < base + 0x1000) && decide (p.2 ≠ live.regs.read p.1))).map (·.1)
        ++ (live.regs.filter (fun p => decide (base + 0x40 ≤ p.1 ∧ p.1 < base + 0x1000) && decide (p.2 ≠ b.regs.read p.1))).map (·.1)
    else []
  (changed.map (fun a => (⟨a, 0⟩ : Conflict)))
    ++ atReg (decide (b.maxFrame v < 64 ∨ b.maxFrame v > ethMaxframeReset v)) (A.ethMaxframe v)
    ++ atReg (decide (fld (r (A.ethRxFilter v)) 1 2 = 3)) (A.ethRxFilter v)
    ++ atReg (decide (fld vl 16 2 = 3 ∨ fld vl 0 12 = 0 ∨ fld vl 0 12 = 4095)) (A.ethPortVlan v)
    ++ atReg (decide (8 ≤ v) && ((bitsOf 6 (fld phy 3 6)).any (fun i => ratesOf v / 2 ^ i % 2 = 0)
        || (!s10 && tst phy 0 && fld phy 3 6 = 0) || (s10 && tst phy 12))) (A.ethPhyCtrl v)
    ++ atReg (s10 && decide (fld plca 4 4 < 2 ∨ fld plca 4 4 > 8 ∨ fld plca 1 3 ≥ fld plca 4 4)) (A.ethPlcaCtrl v)
    ++ atReg (decide (fld fc 0 2 = 3 ∨ fld fc 2 2 = 3) || (s10 && decide (fld fc 0 4 ≠ 0))) (A.ethFcCtrl v)
    ++ atReg (decide (xon ≥ xoff ∨ xoff > fld (r (selKey A.qInLim v)) 0 18)) (A.ethFcXoff v)
    ++ atReg (decide (fld (r (A.ethFcTimers v)) 16 8 = 0 ∨ fld (r (A.ethFcTimers v)) 24 8 = 0)) (A.ethFcTimers v)
    ++ atReg (decide (fld sec 3 2 = 3 ∨ fld sec 7 2 = 3)) (A.ethSecCtrl v)

/-- The bonding (R341). -/
def Bank.chkBond (b : Bank) : List Conflict :=
  let w := b.regs.read A.ethBond
  atReg ((List.range 2).any (fun q => tst w (4 + q) && !(tst w (2 * q) && tst w (2 * q + 1)))) A.ethBond

/-! ## Journal, facets, control (chapters 08, 09) -/

/-- The export (R4, R342, R401). -/
def Bank.chkExport (b : Bank) : List Conflict :=
  let c := b.regs.read A.jrnExpCtrl
  let w := fld (b.regs.read A.jrnExpW) 0 9
  let dest := fld c 8 7
  let f := b.bound dest
  let full := 26 + (if fld (b.regs.read A.jrnExpVlan) 0 16 = 0 then 0 else 4) + 32 * fld (b.regs.read A.jrnExpPack) 0 7
  let maxlen := fld (b.regs.read (selKey (A.qCMaxlen (fld c 4 3)) dest)) 0 14
  let merge := tst (b.regs.read (selKey A.qMode dest)) 1
  atReg (decide (w = 0 ∨ w > 500)) A.jrnExpW
    ++ atReg (b.unnameable dest) A.jrnExpCtrl
    ++ (if !tst c 0 then []
        else atReg (decide (48 ≤ dest) || decide (full > maxlen ∨ full + (if merge then 20 else 0) > b.largest dest)) A.jrnExpCtrl
          ++ atReg (decide (f ≠ 0 ∧ dest < 48) && (bitsOf 16 (fld (b.regs.read A.jrnExpFacets) 0 16)).any (fun g => g ≠ f)) A.jrnExpFacets)

/-- Bindings, quotas, facet leases (R49, R417, R469, R624). -/
def Bank.chkFacets (b : Bank) : List Conflict :=
  let bind (v : Nat) : W32 := b.regs.read (A.sysBind v)
  let oct (v : Nat) : Bool := tst (bind v) 4
  atReg (decide (b.sum16 A.sysTagQuota 13 > 4096)) (A.sysTagQuota 0)
    ++ ((List.range 84).map (fun v => atReg (decide (fld (bind v) 0 4 = 15) || (oct v && (decide (48 ≤ v) || b.member v))) (A.sysBind v))).flatten
    ++ atReg (!(List.range 48).any (fun v => oct v && decide (fld (bind v) 0 4 = 0) && tst (b.regs.read (vertexPage v + 8)) 0)) (A.sysBind 0)
    ++ ((List.range 16).map (fun f => atReg (decide (fld (b.regs.read (A.sysFlease f)) 0 7 > 100)) (A.sysFlease f))).flatten

/-- Page kinds whose OWNER may name no facet but F0 (R424). -/
def PageKind.ungranted : PageKind → Bool
  | .pln | .latDisp | .latProg | .latCell | .cip | .pwr | .jrn | .rng | .upd => true
  | _ => false

/-- OWNER of a page. -/
def ownerAddr (p : PageRef) : Nat := p.base + 0x30

/-- OWNER registers that grant what they may not (R424). -/
def Bank.chkOwners (b : Bank) : List Conflict :=
  (PageKind.all.map (fun k =>
    if !k.ungranted then []
    else ((List.range k.count).map (fun i =>
      let a := ownerAddr ⟨k, i⟩
      let w := b.regs.read a
      atReg (decide (fld w 17 15 ≠ 0 ∨ fld w 0 4 ≠ 0)) a)).flatten)).flatten

/-! ## Accord (R463, R465, R466) -/

/-- The block at 0x2_0000 × b that a register key lies in; the accord and window-bridge pages lie in none (R465). -/
def digestBlock (key : Nat) : Option Nat :=
  let a := key % 2 ^ 24
  match pageOf a with
  | none => none
  | some p => if p.kind = .accord ∨ p.kind = .window ∨ p.kind = .aperture then none else some (a / 0x20000)

/-- What the digest is taken over (R465): the values of the staged registers, tables, rules and dispatch entries of the blocks in scope, in
ascending order, as keys and words. A register that is not stored has its reset value in every module. -/
def Bank.digestInput (b : Bank) : List (Nat × W32) :=
  let scope := b.regs.read A.brgAccScope
  let inScope (k : Nat) : Bool := match digestBlock k with
    | none => false
    | some n => tst scope n
  let wide (n v : Nat) : List W32 := (List.range n).map (fun i => w32 (v / 2 ^ (32 * i)))
  let cam := if tst scope 3 then (b.cam.map (fun p => match p.2 with
      | none => []
      | some e => (wide 6 e.key.toNat ++ [w32 e.prefixLen, w32 e.care] ++ wide 2 e.res.toNat).map (fun w => (p.1, w)))).flatten else []
  let hash := if tst scope 3 then (b.hash.map (fun p => match p.2 with
      | none => []
      | some e => (wide 10 e.key.toNat ++ wide 2 e.res.toNat).map (fun w => (p.1, w)))).flatten else []
  let rules := if tst scope 9 then ([b.chords, b.tangents].map (fun m => (m.map (fun p => match p.2 with
      | none => []
      | some r => r.words.map (fun w => (p.1, w)))).flatten)).flatten else []
  b.regs.filter (fun p => inScope p.1) ++ cam ++ hash ++ rules

/-- The digest of a bank under its key slot (R465): none when the slot holds no key. How the values are laid out as bytes the spec leaves
open (DESIGN CHOICE: log entry 15). -/
def State.digestOf (s : State) (b : Bank) : Option (List Byte) :=
  (s.keyOf (fld (b.regs.read A.brgAccKeyslot) 0 9) 0).map (fun k => cmac k.key (Config.digestBytes b.digestInput))

/-- The senior's digest, when it has a valid one. -/
def State.seniorDigest (s : State) : Option (List Byte) :=
  let p := SMap.get PeerSt.reset s.accord.peers s.accord.senior
  if p.state = 1 ∧ p.digestValid then some p.digest else none

/-- Whether the module is a junior: accord is enabled and another rank is the senior (R464). -/
def State.junior (s : State) : Bool :=
  let c := s.cfg A.brgAccCtrl
  tst c 0 && decide (s.accord.senior ≠ fld c 1 3)

/-- Whether a junior is mismatched (R466). -/
def State.mismatched (s : State) : Bool :=
  s.junior && (match s.seniorDigest with
    | none => true
    | some d => !s.accord.digestValid || decide (d ≠ s.accord.digest))

/-- Accord settings, and what a junior refuses (R463, R466). -/
def State.chkAccord (s : State) (b : Bank) : List Conflict :=
  let c := b.regs.read A.brgAccCtrl
  let differs := match s.digestOf b, s.seniorDigest with
    | some d, some e => decide (d ≠ e)
    | _, _ => false
  atReg (decide (fld c 4 4 = 15)) A.brgAccCtrl
    ++ atReg ((List.range 8).any (fun v => tst (b.regs.read A.brgAccVertices) v && b.bound v ≠ fld c 4 4)) A.brgAccVertices
    ++ atReg (s.junior && (differs || (tst (s.cfg A.brgAccCtrl) 8 && s.mismatched))) (A.brgAccDigest 0)

/-! ## Check units, wake, power, update (chapters 10–13) -/

/-- Check-unit profiles (R509). -/
def Bank.chkUnits (b : Bank) : List Conflict :=
  ((List.range 8).map (fun u =>
    let w := fld (b.regs.read (A.chkUCtrl u)) 8 7
    let overAt (lo hi : Nat) : List Conflict := atReg (decide (pair (b.regs.read lo) (b.regs.read hi) ≥ 2 ^ w)) lo
    atReg (decide (w = 0 ∨ w > 64)) (A.chkUCtrl u)
      ++ (if w = 0 ∨ w > 64 then []
          else overAt (A.chkUPolyLo u) (A.chkUPolyHi u) ++ overAt (A.chkUInitLo u) (A.chkUInitHi u) ++ overAt (A.chkUXoroutLo u) (A.chkUXoroutHi u)))).flatten

/-- Wake settings (R546, R549). -/
def Bank.chkWake (b : Bank) : List Conflict :=
  ((List.range 24).map (fun ch => ((List.range 4).map (fun p =>
      atReg (tst (b.regs.read (A.wakCanPatCtrl ch p)) 0 && decide (nbtCycles (b.regs.read (A.canNbt ch)) < 320)) (A.wakCanPatCtrl ch p))).flatten)).flatten
    ++ ((List.range 32).map (fun m => let v := fld (b.regs.read (A.wakPmCtrl m)) 1 7
        atReg (decide (48 ≤ v) || b.member v) (A.wakPmCtrl m))).flatten

/-- Power, clock, update and service settings (R570, R580, R584, R612, R613). -/
def Bank.chkPower (b : Bank) : List Conflict :=
  let p := b.regs.read A.pwrPaceCtrl
  let t := fld (b.regs.read A.pwrWdogCtrl) 16 14
  let idle := fld (b.regs.read A.svcUnlockIdle) 0 16
  atReg (decide (fld p 16 7 ≥ fld p 8 7 ∨ fld p 8 7 > 100 ∨ fld p 24 8 = 0)) A.pwrPaceCtrl
    ++ atReg (decide (t < 100 ∨ t > 10000)) A.pwrWdogCtrl
    ++ ([A.clkSscMp, A.clkSscDram].map (fun a => atReg (decide (fld (b.regs.read a) 1 4 > 8)) a)).flatten
    ++ atReg (decide (fld (b.regs.read A.updCtrl) 0 2 = 0)) A.updCtrl
    ++ atReg (decide (idle < 60 ∨ idle > 3600)) A.svcUnlockIdle

/-! ## The whole copy -/

/-- Every conflict of the staging copy against the live one. -/
def State.conflicts (s : State) : List Conflict :=
  let b := s.staging
  b.chkSync ++ b.chkCapture ++ b.chkDomains ++ chkPins b s.live ++ b.chkBuffer ++ s.chkTables b ++ s.chkLattice b
    ++ ((List.range 24).map (chkCan b s.live)).flatten ++ ((List.range 12).map b.chkLin).flatten ++ b.chkBridge
    ++ ((List.range 48).map (chkEth b s.live)).flatten ++ b.chkBond ++ b.chkExport ++ b.chkFacets ++ b.chkOwners ++ s.chkAccord b ++ b.chkUnits
    ++ b.chkWake ++ b.chkPower

/-- The conflict that validation reports (R34); T of an at-time commit must name a nanosecond (R45). -/
def State.conflict (s : State) : Option Conflict :=
  firstConflict (atReg (s.epoch.atTime.isSome && decide ((s.reg A.sysEpochAtNs).toNat > 999999999)) A.sysEpochAtNs ++ s.conflicts)

/-! ## Warnings (R35, R184, R319) -/

/-- Pairs of a list in order. -/
def pairsOf {α : Type} : List α → List (α × α)
  | [] => []
  | x :: l => l.map (fun y => (x, y)) ++ pairsOf l

/-- Whether two rules overlap (R319). -/
def RuleRec.overlaps (tangent : Bool) (a b : RuleRec) : Bool :=
  let w (r : RuleRec) (i : Nat) : W32 := r.words.getD i 0
  let one := tst (w a 2) 30 || tst (w b 2) 30 || decide (fld (w a 2) 23 7 = fld (w b 2) 23 7)
  let m := Nat.land (fld (w a 1) 0 29) (fld (w b 1) 0 29)
  a.valid && b.valid && one && decide (fld (w a 0) 30 2 = fld (w b 0) 30 2)
    && decide (Nat.land (Nat.xor (fld (w a 0) 0 29) (fld (w b 0) 0 29)) m = 0)
    && (!tangent || (decide (fld (w a 2) 21 2 = fld (w b 2) 21 2)
        && (!tst (w a 2) 22 || decide (w a 3 = w b 3 ∧ w a 4 = w b 4))))

/-- The overlapping pairs of a bank, as R34 names their entries. -/
def Bank.warnings (b : Bank) : List (Conflict × Conflict) :=
  let cam := b.cam.filterMap (fun p => p.2.map (fun e => (p.1, e)))
  let rules (t : Bool) : List (Nat × RuleRec) := (b.rules t).filterMap (fun p => p.2.map (fun r => (p.1, r)))
  let name (t : Bool) (p : Nat × RuleRec) : Conflict := ⟨A.brgRcmdOp p.2.port, indexWord (if t then 4 else 3) 0x7F p.1⟩
  ((pairsOf cam).filter (fun q => q.1.2.overlaps q.2.2)).map (fun q => (tableConflict 1 q.1.2.port q.1.1, tableConflict 1 q.2.2.port q.2.1))
    ++ (([false, true].map (fun t => ((pairsOf (rules t)).filter (fun q => q.1.2.overlaps t q.2.2)).map (fun q => (name t q.1, name t q.2)))).flatten)

/-- The ADMIN record of a warning with its EXT record (R35, R391, R392). -/
def warnRecord (w : Conflict × Conflict) (s : State) : State :=
  let k := s.ownKey 96
  let r := recOf k 0xA 0 0 0 false false s.epoch.live 2 (w32 w.1.addr)
  stage ⟨r, some (extOf r (w32 w.1.word) (w32 w.2.word) (w32 w.2.addr))⟩ (takeSeq 96 k.1 s)

end Sys2Proof.Machine
end

