-- ==== Sys2Proof/Machine/Epoch.lean ====
section
/-! DEFINITION. Commit requests, validation, the instant at which a commit takes effect, the drain of the older epoch
(R34–R46), copy-forward (R177, R231, R316), the end of a processor restart (R63) and the scrub of the memories (R55). -/

namespace Sys2Proof.Machine

/-! ## The epoch log (R43, R599) -/

/-- The highest number of an epoch log; 0 for an empty one. -/
def highest (l : List W32) : W32 := l.foldl (fun a n => if a.toNat < n.toNat then n else a) 0

/-- The settings bank of a number. -/
def State.setBank (s : State) (b : Nat) : SettingsBank := SMap.get SettingsBank.reset s.fw.sets b

/-- Changes a settings bank. -/
def setBankTo (b : Nat) (x : SettingsBank) (s : State) : State :=
  { s with fw := { s.fw with sets := SMap.put SettingsBank.reset s.fw.sets b x } }

/-- The highest number in the epoch log of the active settings bank. -/
def State.highestEpoch (s : State) : W32 := highest (s.setBank s.fw.runSet).log

/-- SYS_EPOCH_NEXT (R43): one above the highest number logged, never wrapping. -/
def State.nextEpoch (s : State) : W32 := if s.highestEpoch = 0xFFFFFFFF then 0xFFFFFFFF else s.highestEpoch + 1

/-- Writes a number to the epoch log, a ring of 49,152 (R599). -/
def logEpoch (n : W32) (s : State) : State :=
  let b := s.setBank s.fw.runSet
  setBankTo s.fw.runSet { b with log := (n :: b.log).take 49152 } s

/-! ## Requests (R31, R34, R38, R43) -/

/-- A refused request: its result and event 8 (R46). -/
def refuseCommit (result : Nat) (s : State) : State := raise 8 { s with epoch := { s.epoch with result := result } }

/-- The committed halves of T (R38, R45), in ns. -/
def State.atTime (s : State) : Nat := timeOf (pair (s.reg A.sysEpochAtSecLo) (s.reg A.sysEpochAtSecHi)) (s.reg A.sysEpochAtNs).toNat

/-- A commit request of F0 (R38, R43): a held write of SYS_EPOCH_AT_SEC_LO is discarded, whatever becomes of the request. An accepted one shows
RESULT OK at once, before it is judged (DESIGN CHOICE: log entry 35). -/
def requestCommit (atTime : Bool) (s : State) : Rsp × State :=
  let s : State := { s with loHeld := SMap.put none s.loHeld (A.sysEpochAtSecLo * 16) none }
  if s.epoch.st ≠ .idle then (.armed, refuseCommit 4 s)
  else if s.highestEpoch = 0xFFFFFFFF then (.ok, refuseCommit 5 s)
  else
    let at_ := if atTime then some s.atTime else none
    (.ok, { s with epoch := { s.epoch with st := .validating, result := 0, reqNo := s.epoch.reqNo + 1, atTime := at_ } })

/-- CANCEL (R38): it disarms an ARMED or DEFERRED request. -/
def cancelCommit (s : State) : State :=
  if s.epoch.st = .armed ∨ s.epoch.st = .deferred then { s with epoch := { s.epoch with st := .idle, result := 6 } } else s

/-- A write of SYS_EPOCH_CTRL (R31, R38): a tenant is refused with RIGHTS; CANCEL comes first, the request second. -/
def epochCtrlWritten (f : Nat) (v : W32) (s : State) : Rsp × State :=
  if f ≠ 0 then (.rights, refuseCommit 2 s)
  else
    let s := if tst v 2 then cancelCommit s else s
    if tst v 0 then requestCommit (tst v 1) s else (.ok, s)

/-! ## A commit takes effect (R36, R40, R44, R176) -/

/-- A facet's lease restarts when a commit enables or changes it (R441). -/
def leaseCommit (old : Bank) (s : State) : State :=
  (List.range 16).foldl (fun s n =>
    if s.cfg (A.sysFlease n) = old.regs.read (A.sysFlease n) then s else { s with fleases := SMap.put none s.fleases n (some s.now) }) s

/-- While accord is disabled no peer is UP (R5); every change of a peer's state raises event 252 (R462). -/
def accordCommit (s : State) : State :=
  if tst (s.cfg A.brgAccCtrl) 0 then s
  else
    let up := s.accord.peers.filter (fun p => p.2.state = 1)
    let s : State := { s with accord := { s.accord with
      peers := s.accord.peers.map (fun p => if p.2.state = 1 then (p.1, { p.2 with state := 0, opened := false }) else p) } }
    up.foldl (fun s _ => raise 252 s) s

/-- What follows from the new settings in each block; `t` is the instant of the commit in 1/65,536 ns. -/
def commitHooks (old : Bank) (t : Nat) (s : State) : State :=
  let s := (List.range 16).foldl (fun s n => soCommit old t n s) (locCommit old (leaseCommit old s))
  let s := canCommit old (ethCommit old (keyCommit old (chkCommit old s)))
  let s := powerCommit old (wakeCommit old (expCommit old (bridgeCommit old (linCommit old s))))
  endQuota (endCtxQuota (accordCommit s))

/-- The entries of a bank as copy-forward carries them into the next staging copy: written by port 0 (R34, R177, R231, R316). -/
def Bank.carried (b : Bank) : Bank :=
  { b with cam := b.cam.map (fun p => (p.1, p.2.map (fun e => { e with port := 0 }))),
           hash := b.hash.map (fun p => (p.1, p.2.map (fun e => { e with port := 0 }))),
           chords := b.chords.map (fun p => (p.1, p.2.map (fun r => { r with port := 0 }))),
           tangents := b.tangents.map (fun p => (p.1, p.2.map (fun r => { r with port := 0 }))) }

/-- The EPOCH record of vertex 96, stamped at the instant of the commit (R44). -/
def epochRecord (t : Nat) (was n : W32) (s : State) : State :=
  let k := s.ownKey 96
  stage ⟨recOf (t / 65536, k.2) 6 0 0 0 false false n was n, none⟩ (takeSeq 96 (SMap.get 0 s.lastStamp 96) s)

/-- A commit takes effect at an instant in 1/65,536 ns (R36): the banks change roles (R176), with their shadow images (R217), the older epoch
drains (R40), the instant and the journal record follow (R44, R45). RESULT stays that of the last request (R46). -/
def takeEffect (t : Nat) (s : State) : State :=
  let n := s.highestEpoch
  let old := s.live
  let was := s.epoch.live
  let ns := t / 65536
  let e := { s.epoch with live := n, draining := some was, drainStart := s.now, st := .idle, atTime := none, copyTbl := true, copyDe := true,
                          copyRules := true, switchNs := ns, prev := was }
  let s : State := { s with drain := old, drainShadow := s.shadow, live := s.staging, shadow := s.staging, staging := s.staging.carried,
                            epoch := e, accord := { s.accord with digestDue := true } }
  let s := setRegN A.sysEpochSwitchSecLo (secOf ns) (setRegN A.sysEpochSwitchSecHi (secOf ns / 2 ^ 32) s)
  let s := epochRecord t was n (setRegN A.sysEpochSwitchNs (nsOf ns) s)
  commitHooks old t (raise 7 s)

/-- A commit is due: it takes effect at the instant it is due, or waits for the drain (R36, R42). -/
def dueNow (s : State) : State :=
  if s.epoch.draining.isSome then { s with epoch := { s.epoch with st := .deferred } } else takeEffect s.epoch.due s

/-! ## Validation (R34–R37) -/

/-- Whether a port runs a command that changes the staging bank (R178). -/
def PortCmd.staging (c : PortCmd) (p : Nat) : Bool :=
  let op := c.code % 16
  c.code / 16 % 2 = 0 && (op = 2 || op = 3 || (op = 4 && decide (p < 4)))

/-- Validation may run: the staging commands and the copy-forwards have ended (R177, R178, R231, R316). -/
def State.mayValidate (s : State) : Bool :=
  decide (s.epoch.st = .validating) && !s.epoch.copyTbl && !s.epoch.copyDe && !s.epoch.copyRules
    && (List.range 6).all (fun p => match s.cmd p with
      | none => true
      | some c => !c.staging p)

/-- Validation has found no conflict: the number is logged, the warnings come, then T is judged (R35, R37, R599). -/
def validated (s : State) : State :=
  let s := logEpoch s.nextEpoch s
  let ws := s.staging.warnings
  let s : State := { s with epoch := { s.epoch with warn := decide (ws ≠ []) } }
  let s := ws.foldl (fun s w => warnRecord w s) s
  let s := if ws = [] then s else raise 9 s
  match s.epoch.atTime with
  | none => dueNow { s with epoch := { s.epoch with due := s.locus } }
  | some t =>
    if t * 65536 < s.locus + 100000 * 65536 then refuseCommit 3 { s with epoch := { s.epoch with st := .idle, atTime := none } }
    else { s with epoch := { s.epoch with st := .armed, due := t * 65536 } }

/-- VALIDATION (R34): the whole staging copy is judged. -/
def execValidation (s : State) : Host.Outcome State Fault Refusal :=
  ran s (only (s.mpOn && s.mayValidate) (fun s =>
    match s.conflict with
    | some c =>
      let s := setRegN A.sysEpochConflictIndex c.word (setRegN A.sysEpochConflict c.addr s)
      refuseCommit 1 { s with epoch := { s.epoch with st := .idle, atTime := none } }
    | none => validated s) s)

/-- COMMIT_TAKES_EFFECT (R36, R39, R42, R63, R71): the control fabric makes the switch of an armed commit. -/
def execCommitTakesEffect (s : State) : Host.Outcome State Fault Refusal :=
  ran s (only (s.on && decide (s.epoch.st = .armed ∧ s.epoch.due ≤ s.locus)) dueNow s)

/-! ## The drain (R40–R42) -/

/-- The older epoch retires: each old gate list stops, and a deferred commit takes effect at this instant (R40, R42, R145). The bank is kept for
an item whose stamp, taken before the switch, still comes in (R36). -/
def retireEpoch (s : State) : State :=
  let lists := ((List.range 48).filter (fun v => s.drain.gated v)).length
  let s : State := { s with epoch := { s.epoch with draining := none } }
  let s := (List.range lists).foldl (fun s _ => raise 96 s) s
  if s.epoch.st = .deferred then takeEffect s.locus s else s

/-- EPOCH_RETIRE (R40): the last item of the draining epoch has left. -/
def execEpochRetire (s : State) : Host.Outcome State Fault Refusal :=
  ran s (only s.on (fun s =>
    match s.epoch.draining with
    | none => s
    | some e => if s.itemsOf e = 0 then retireEpoch s else s) s)

/-- The vertices at which items wait, with the number of distinct items at each. -/
def countAt (l : List (Nat × Item)) : List (Nat × Nat) :=
  (l.map (·.1)).eraseDups.map (fun v => (v, ((l.filter (fun p => p.1 = v)).map (fun p => p.2.uid)).eraseDups.length))

/-- Ends what a frame of the control path has started (R54): its commands are aborted, its far reads that wait are withdrawn and those in
flight left behind, and every tag that it took returns. -/
def abortFrame (id : Nat) (s : State) : State :=
  let mine (t : Nat) : Bool := decide (SMap.get none s.tagFrames t = some id)
  let reads (o : FarOp) : Bool := decide (o.waiter = .frame id)
  let s := (List.range 6).foldl (fun s p => if (s.cmd p).any (fun c => mine c.tag) then abortCmd p s else s) s
  (List.range 8).foldl (fun s k =>
    let w := s.window k
    dropFlight (fun fr => decide (fr.ops ≠ []) && fr.ops.all reads) k (setWindow k { w with queue := w.queue.filter (fun o => !reads o) } s)) s

/-- The frames of an epoch that execute end without a reply (R41, R54). -/
def discardFrames (e : W32) (s : State) : State :=
  let gone := s.octRun.filter (fun x => x.epoch = e)
  gone.foldl (fun s x => abortFrame x.id s) { s with octRun := s.octRun.filter (fun x => x.epoch ≠ e) }

/-- EPOCH_DISCARD (R41, R54): 10 ms of real time after its successor took effect the items of the older epoch are discarded and
counted, one record for each vertex affected; the epoch retires. -/
def execEpochDiscard (s : State) : Host.Outcome State Fault Refusal :=
  ran s (only (s.on && decide (s.epoch.drainStart + 10000000 ≤ s.now)) (fun s =>
    match s.epoch.draining with
    | none => s
    | some e =>
      let old : SweepTest := fun i _ _ => decide (i.epoch = e)
      let gone := (s.waiting ++ s.sending).filter (fun p => p.2.epoch = e)
      let ctl := (s.control.filter (fun p => p.2 = e)).filter (fun p => !s.learnQ.any (fun r => r.item.uid = p.1))
      let n := (gone.map (fun p => p.2.uid) ++ ctl.map (·.1)).eraseDups.length
      let per := countAt gone ++ (if ctl = [] then [] else [(96, ctl.length)])
      let s := sweepFlying old 5 (sweep old 5 s)
      let s := discardFrames e (sweepControl (fun i => i.epoch = e) 5 s)
      let s := if n = 0 then s
        else raise 10 (per.foldl (fun s p => record 96 7 (w32 p.1) (w32 p.2) s) (addSat A.sysEpochDiscard n s))
      if s.itemsOf e = 0 then retireEpoch s else s) s)

/-- COPY_FORWARD_COMPLETE (R177, R231, R316): 0 the tables, 1 the dispatch entries, 2 the rules. The staging copy keeps its
content at a commit, so that the copy has nothing left to move. -/
def execCopyForwardComplete (which : Fin 3) (s : State) : Host.Outcome State Fault Refusal :=
  ran s (only s.coreOn (fun s =>
    let e := s.epoch
    { s with epoch := (if which = 0 then { e with copyTbl := false } else if which = 1 then { e with copyDe := false }
                       else { e with copyRules := false }) }) s)

/-! ## The processor and the memories (R55, R63) -/

/-- MP_RESTART_COMPLETE (R63, R73): the processor runs again; validation, servo and messages go on. The crossing of vertex 96 and the
locus follow under their own rules. -/
def execMpRestartComplete (s : State) : Host.Outcome State Fault Refusal :=
  ran s (only (s.coreOn && decide (s.mp = .restarting)) (fun s =>
    { s with mp := if 2 ≤ s.fw.step.rank then .running else .boot }) s)

/-- An error of a scrub: the fault record of its page with the address or index of the word (R632), then the event of the block. -/
def scrubbed (p : PageRef) (detail addr : Nat) (event : State → State) (s : State) : State := event (fault p detail addr s)

/-- The copies that hold queue cells at the egress vertices. -/
def State.queued (s : State) : List Copy :=
  (s.queues.map (·.2)).flatten ++ (s.egress.map (fun p => p.2.merge)).flatten
    ++ (s.can.map (fun p => p.2.fifo.map (·.copy) ++ p.2.mbox.filterMap (fun x => x.2.map (·.copy)) ++ p.2.mboxNext.filterMap (·.2))).flatten
    ++ (s.lin.map (fun p => p.2.bufs.filterMap (fun x => x.2.fresh))).flatten

/-- What a buffer cell that cannot be corrected holds is told by nothing: the input cells of an item, the queue cells of a copy, or none, by a
free value (R58). The item is discarded wherever its input cells are used, or the copy where it waits. -/
def bufferLost (cell : Nat) (s : State) : State :=
  let k := s.freeWord.toNat % (s.inputs.length + s.queued.length + 1)
  let copies := s.queued
  let s := freshen s
  match s.inputs[k]?, copies[k - s.inputs.length]? with
  | some r, _ =>
    let t : SweepTest := fun i _ _ => decide (i.uid = r.uid)
    cellGone cell (some r.facet) (sweepControl (fun i => i.uid = r.uid) 6 (sweepPlanes t 6 (sweepLanes t 6 (sweepJobs t 6 s))))
  | none, some c =>
    let t : SweepTest := fun i v tc => decide (i.uid = c.item.uid ∧ v = c.egress ∧ tc = c.tc)
    cellGone cell (some c.item.facet) (sweepEgress t 6 s)
  | none, none => cellGone cell none s

/-- Journal record that a DRAM address holds (R388). -/
def jrnSlotOf (addr : Nat) : Option Nat := if addr < 0x300000000 then some (addr / 32) else none

/-- A unit of the always-on domain or the power stage is scrubbed whenever its domain has power; the others while the core works. -/
def State.scrubs (s : State) (u : ScrubUnit) : Bool :=
  match u with
  | .aon => s.aonOn
  | .fabric | .locus | .power => s.on
  | _ => s.coreOn

/-- The page and the event of a memory whose errors have no rule of their own. The uncorrectable error of a memory raises the event that its
chapter gives to its corrected ones; the locus raises that of the control fabric, the program store that of the cells (R61; DESIGN CHOICE: log
entry 36). -/
def ScrubUnit.block (u : Sys2Proof.ScrubUnit) : PageRef × (State → State) :=
  match u with
  | .fabric => (sysPage, raise 13)
  | .planes => (plnPage, raise 87)
  | .buffer => (bufPage, raise 86)
  | .tables => (tblPage, raise 119)
  | .locus => (⟨.loc, 0⟩, raise 13)
  | .power => (pwrPage, raise 44)
  | .aon => (wakPage, raise 303)
  | .ethernet v => (ethPage v, raiseEth v 12)
  | .can ch => (canPage ch, raiseCan ch 10)
  | .lin j => (linPage j, raiseLin j 6)
  | .ruleStore => (brgPage, raise 247)
  | .cell c => (cellPage c, raise 134)
  | .keyStore _ _ => (cipPage, raise 267)
  | .cipherData => (cipPage, raise 267)
  | .programStore _ => (progPage, raise 134)
  | .dram _ => (jrnPage, raise 284)
  | .flash _ => (updPage, raise 311)

/-- What FAULT_ADDR shows of a scrub: the cell, slot, word or address that the memory names, else the address or index in the report. -/
def ScrubUnit.word (u : Sys2Proof.ScrubUnit) (word : Nat) : Nat :=
  match u with
  | .cell c => c
  | .keyStore slot _ => slot
  | .programStore w => w
  | .dram a => a
  | .flash a => a
  | .fabric | .planes | .buffer | .tables | .locus | .power | .aon | .ethernet _ | .can _ | .lin _ | .ruleStore | .cipherData => word

/-- A scrub corrects a single-bit error (R55, R248, R476): fault record CORRECTED and the event of the block. -/
def scrubCorrects (u : ScrubUnit) (word : Nat) (s : State) : State :=
  let (p, event) := ScrubUnit.block u
  let a := ScrubUnit.word u word
  match u with
  | .buffer => cellCorrected (word % 262144) ((s.inputs[s.freeWord.toNat % (s.inputs.length + 1)]?).map (·.id)) (freshen s)
  | .cell c => scrubbed p 0x101 a event (bump (A.latCEccCorr c) s)
  | .keyStore _ _ => scrubbed p 0x101 a event (bump A.cipKsCorr s)
  | .dram _ => scrubbed p 0x101 a event (bump A.jrnDramCorr s)
  | .flash _ => scrubbed p 0x005 a event s
  | _ => scrubbed p 0x101 a event s

/-- A scrub finds an error that it cannot correct (R58, R61, R249, R260, R476). -/
def scrubFails (u : ScrubUnit) (word : Nat) (s : State) : State :=
  let (p, event) := ScrubUnit.block u
  let a := ScrubUnit.word u word
  match u with
  | .buffer => bufferLost (word % 262144) s
  | .cell c => if (s.cell c).st = .inService then cellFails c .memory s else scrubbed p 0x102 a event s
  | .keyStore slot next =>
    let r := slot.val * 2 + bit next
    let s := setKey slot (bit next) none { s with cip := { s.cip with lost := addTo s.cip.lost r } }
    scrubbed p 0x102 a (raise 268) (bump A.cipKsLost s)
  | .programStore w => psWordLost w s
  | .dram a =>
    let s := match jrnSlotOf a with
      | none => s
      | some n => { s with jrn := { s.jrn with corruptSlots := addTo s.jrn.corruptSlots n } }
    scrubbed p 0x102 a (raise 285) (bump A.jrnDramDbe s)
  | _ => scrubbed p 0x102 a event s

/-- ECC_SCRUB (R55): a scrub corrects a single-bit error, or reports one that it cannot correct, with the address or index of the word. A cell fails only while it is in
service (R249). -/
def execEccScrub (u : ScrubUnit) (found : ScrubFinding) (s : State) : Host.Outcome State Fault Refusal :=
  ran s (only (s.scrubs u) (if found.uncorrectable then scrubFails u found.word.toNat else scrubCorrects u found.word.toNat) s)

end Sys2Proof.Machine
end

