-- ==== Sys2Proof/Machine/Firmware.lean ====
section
/-! DEFINITION. The start-up of the module (R582, R591–R593, R597–R605), the update page (R594–R596, R612) and the settings banks
(R598–R600). -/

namespace Sys2Proof.Machine

/-! ## Image banks and headers (R587–R591) -/

/-- An image bank of the flash. -/
def State.bank (s : State) (b : Nat) : ImageBank := SMap.get ImageBank.reset s.fw.banks b

/-- Changes an image bank. -/
def setBankImg (b : Nat) (x : ImageBank) (s : State) : State :=
  { s with fw := { s.fw with banks := SMap.put ImageBank.reset s.fw.banks b x } }

/-- A word of a bank by its index; flash that was never written reads erased. -/
def ImageBank.word (b : ImageBank) (i : Nat) : W32 := SMap.get erasedWord b.words i

/-- VERSION of a bank's header. -/
def ImageBank.version (b : ImageBank) : W32 := b.word 3

/-- FEATURE of a bank's header. -/
def ImageBank.feature (b : ImageBank) : Nat := fld (b.word 4) 16 16

/-- A section of an image (R589, R590): TYPE, OFFSET and LENGTH. -/
structure Section where
  typ : Nat
  off : Nat
  len : Nat
  deriving DecidableEq, Repr

/-- Entry `e` of the section table. -/
def ImageBank.section_ (b : ImageBank) (e : Nat) : Section :=
  ⟨(b.word (0x10 + 0x10 * e)).toNat, (b.word (0x11 + 0x10 * e)).toNat, (b.word (0x12 + 0x10 * e)).toNat⟩

/-- The layout of R590: each type once, entries 4–7 zero, MP_CODE of at most 2 MiB, sections inside the bank and apart. -/
def ImageBank.layoutOk (b : ImageBank) : Bool :=
  let l := (List.range 4).map b.section_
  decide (fld (b.word 4) 0 16 = 4)
    && [1, 2, 3, 4].all (fun t => l.any (fun x => decide (x.typ = t)))
    && (List.range 64).all (fun i => decide (b.word (0x50 + i) = 0))
    && l.all (fun x => decide (0x400 ≤ x.off ∧ x.off + x.len ≤ 0x4000000 ∧ (x.typ = 1 → x.len ≤ 0x200000)))
    && (pairsOf l).all (fun p => decide (p.1.off + p.1.len ≤ p.2.off ∨ p.2.off + p.2.len ≤ p.1.off))

/-- Number of bits that a fuse field of `n` bits holds by the rule of R602: those that two copies hold. -/
def fuseCount (n : Nat) (copies : List Nat) : Nat :=
  ((List.range n).filter (fun i => decide (2 ≤ (copies.filter (fun c => decide (c / 2 ^ i % 2 = 1))).length))).length

/-- The rollback floor (R605). -/
def State.floor (s : State) : Nat := fuseCount 32 (s.fw.floor.map BitVec.toNat)

/-- KEY_ID permitted in a stage (R604). -/
def keyAllowed (stage key : Nat) : Bool :=
  match stage with
  | 0 | 1 => decide (key ≤ 1)
  | 2 => decide (key = 0)
  | 3 => decide (key = 2)
  | _ => false

/-- The check of an image (R591): the code of the first check that fails, 0 when all pass. -/
def State.imageCheck (s : State) (b : ImageBank) (sig hash : Bool) : Nat :=
  if b.word 0 ≠ 0x4F51494D ∨ b.word 1 ≠ 0x00010400 then 1
  else if b.word 2 ≠ 0x72000000 then 2
  else if !b.layoutOk then 3
  else if !tst (b.word 7) s.stage then 4
  else if !keyAllowed s.stage (b.word 9).toNat then 5
  else if (b.word 8).toNat < s.floor then 6
  else if !sig then 7
  else if !hash then 8
  else 0

/-- An image or a section is rejected: the code is recorded, event 304 comes with its fault record (R591, R592, R632). -/
def imageRejected (b code : Nat) (s : State) : State :=
  raise 304 (fault updPage 0x004 (code + b * 2 ^ 8) (setBankImg b { s.bank b with code := code } s))

/-! ## The ROM (R591, R597, R602, R603) -/

/-- A fuse field as the ROM completes it (R602): every bit of any copy, and every bit below a set one. -/
def fuseFill (n : Nat) (copies : List Nat) : Nat :=
  let any (i : Nat) : Bool := copies.any (fun c => decide (c / 2 ^ i % 2 = 1))
  maskOf n ((List.range n).filter (fun i => ((List.range n).filter (fun j => decide (i ≤ j))).any any))

/-- The ROM completes the fuse fields (R602, R605); bits 4–7 of the stage are never burned. -/
def burnFuses (s : State) : State :=
  let st := BitVec.ofNat 8 (fuseFill 4 (s.fw.fuses.map BitVec.toNat))
  let fl := BitVec.ofNat 32 (fuseFill 32 (s.fw.floor.map BitVec.toNat))
  { s with fw := { s.fw with fuses := s.fw.fuses.map (fun c => c ||| st), floor := s.fw.floor.map (fun c => c ||| fl) } }

/-- Writes the boot record into the copy with the lower sequence number (R588): it becomes the one in force, the other stays as it was. -/
def writeRec (r : BootRec) (s : State) : State :=
  { s with fw := { s.fw with rec_ := { r with recSeq := s.fw.rec_.recSeq + 1 }, recOld := s.fw.rec_ } }

/-- The transitions of R603's table. -/
def lcAllowed (from_ dest : Nat) : Bool :=
  match from_, dest with
  | 0, 1 | 0, 2 | 1, 2 | 2, 3 => true
  | _, 4 => decide (from_ < 4)
  | _, _ => false

/-- The ROM performs or refuses a life-cycle request (R603): event 309, the fuses, the log entry of a transition; RETURNED erases both
settings banks (R604). -/
def lifeCycle (dest : Nat) (sig : Bool) (s : State) : State :=
  let result (n : Nat) (s : State) : State := raise 309 { s with fw := { s.fw with lcStatus := n } }
  let s := writeRec { s.fw.rec_ with lcReq := none } s
  if dest ≤ s.stage then result 4 s
  else if !lcAllowed s.stage dest ∨ !sig then result 3 s
  else
    let byte := 2 ^ dest - 1
    let s : State := { s with fw := { s.fw with fuses := s.fw.fuses.map (fun c => c ||| BitVec.ofNat 8 byte),
                                                sets := if dest = 3 then [] else s.fw.sets } }
    let k := s.ownKey 96
    result 2 (flogWrite (recOf k 5 0 0 0 false false s.epoch.live 0x00130002 (w32 byte)) s)

/-- The ROM falls back (R597): the proven settings bank learns the highest epoch of the trial one, the proven pair is the only pair. The
state of the bank that fell back is not stated: READY or REJECTED, a free value. -/
def fallBack (image settings : Nat) (s : State) : State :=
  let proven := s.fw.rec_.settings
  let e := highest (s.setBank settings).log
  let b := s.setBank proven
  let s := setBankTo proven { b with log := (e :: b.log).take 49152 } s
  let s := writeRec { s.fw.rec_ with trial := none, left := 0, fallback := false, unproven := false } s
  let s : State := { s with fw := { s.fw with fallenBack := true } }
  let bk := s.bank image
  let s := setBankImg image { bk with st := if bk.st = 5 then 5 else if s.freeBit then 2 else 5 } (freshen s)
  raise 305 (fault updPage 0x001 image (bump A.updFallbacks s))

/-- The ROM enters recovery (R601). -/
def enterRecovery (s : State) : State := { s with fw := { s.fw with step := .recovery } }

/-- The ROM starts the image of a bank with a settings bank (R43, R591): the epoch of the highest number logged is live. -/
def startImage (image settings : Nat) (trial : Bool) (s : State) : State :=
  let f := { s.fw with step := .image, runImage := image, runSet := settings, trialRun := trial, unproven := false }
  let s : State := { s with fw := f, mp := .running }
  { s with epoch := { s.epoch with live := s.highestEpoch } }

/-- Checks a bank, and rejects what fails. -/
def romCheck (f : BootFindings) (b : Nat) (s : State) : Bool × State :=
  let code := s.imageCheck (s.bank b) (if b = 0 then f.sigA else f.sigB) (if b = 0 then f.hashA else f.hashB)
  if code = 0 then (true, setBankImg b { s.bank b with code := 0 } s)
  else
    let s := imageRejected b code s
    (false, setBankImg b { s.bank b with st := if (s.bank b).st = 0 then 0 else 5 } s)

/-- The proven bank, else the other one, else recovery. -/
def startProven (f : BootFindings) (s : State) : State :=
  let r := s.fw.rec_
  let (ok, s) := romCheck f r.image s
  if ok then startImage r.image r.settings false s
  else
    let (ok, s) := romCheck f (1 - r.image) s
    if ok then startImage (1 - r.image) r.settings false s else enterRecovery s

/-- Bank selection of the boot procedure. -/
def selectBank (f : BootFindings) (s : State) : State :=
  match s.fw.rec_.trial with
  | none => startProven f s
  | some (image, settings) =>
    if s.fw.rec_.fallback ∨ s.fw.rec_.left = 0 then startProven f (fallBack image settings s)
    else
      let s := writeRec { s.fw.rec_ with left := s.fw.rec_.left - 1 } s
      let (ok, s) := romCheck f image s
      if ok then startImage image settings true s else startProven f (fallBack image settings s)

/-- A plane that fails its self-check at reset is retired before the first item is stamped (R134): its buckets move at once, none holding a
copy. -/
def bootPlane (p : Nat) (s : State) : State :=
  let s := planeFails p 0x103 s
  match s.plane.move with
  | none => s
  | some m => m.buckets.foldl (fun s b => remap b.1 b.2 s) s

/-- The self-checks at reset, before the first item is stamped: the planes (R134) and the cells (R251). -/
def bootChecks (b : BootFindings) (s : State) : State :=
  let s := b.planes.eraseDups.foldl (fun s (p : Fin 5) => bootPlane p.val s) s
  b.cells.eraseDups.foldl (fun s (c : CellNo) => cellFails c.val .selfCheck s) s

/-- ROM_BOOT (R134, R251, R591): the self-checks and the steps of the boot procedure. -/
def execRomBoot (b : BootFindings) (s : State) : Host.Outcome State Fault Refusal :=
  ran s (only (s.coreOn && decide (s.fw.step = .rom)) (fun s =>
    let s := burnFuses (bootChecks b s)
    if s.stage = 4 then { s with fw := { s.fw with step := .voidMonitor } }
    else
      let s := match s.fw.rec_.lcReq with
        | none => s
        | some (dest, sig) => lifeCycle dest sig s
      if s.stage = 4 then { s with fw := { s.fw with step := .voidMonitor } }
      else if b.break_ ∨ s.fw.rec_.recover then
        enterRecovery (if s.fw.rec_.recover then writeRec { s.fw.rec_ with recover := false } s else s)
      else selectBank b s) s)

/-! ## The image (R582, R592, R593, R596, R598, R600) -/

/-- A trial image marks itself UNPROVEN, requests fallback and resets the device with cause COMMAND (R596). -/
def trialFails (s : State) : State :=
  let s := writeRec { s.fw.rec_ with fallback := true, unproven := true } s
  deviceReset 4 { s with fw := { s.fw with unproven := true } }

/-- A section of the running image fails its check (R592). -/
def sectionFails (s : State) : State := trialFails (imageRejected s.fw.runImage 8 s)

/-- LAT_SEG_START, LEN and CRC show a segment that the start has sealed (R264). -/
def showSeg (i : Nat) (s : State) : State :=
  let g := s.seg i
  setReg (selKey A.latSegCrc i) g.crc (setRegN (selKey A.latSegLen i) g.len (setRegN (selKey A.latSegStart i) g.start s))

/-- BRG_LIB_k for a library program that lies in `len` words of the program store from `start` (R321): where in them is told by an opaque
word of the image (log entry 16). -/
def libWord (start len : Nat) (w : W32) : W32 :=
  if len = 0 then 0
  else
    let off := fld w 0 19 % len
    w32 (start + off + (1 + fld w 19 13 % (len - off)) * 2 ^ 19)

/-- IMAGE_START (R321, R592, R593): the bridge library of the image goes into segment 63 and is sealed. -/
def execImageStart (sectionsOk : Bool) (s : State) : Host.Outcome State Fault Refusal :=
  ran s (only (s.mpOn && decide (s.fw.step = .image ∧ (s.seg 63).st = 0)) (fun s =>
    if !sectionsOk then sectionFails s
    else
      let b := s.bank s.fw.runImage
      let x := ((List.range 4).map b.section_).find? (fun x => decide (x.typ = 4))
      let (off, len) := match x with
        | none => (0, 0)
        | some x => (x.off / 4, min (x.len / 4) 524288)
      let start := (Config.bridgeLib 5).toNat % (524289 - len)
      let words := ((List.range len).map (fun i => (start + i, b.word (off + i)))).filter (fun p => decide (p.2 ≠ 0))
      let s : State := { s with ps := words }
      let g : Segment := ⟨2, start, len, 0, 0, false, false⟩
      let s := showSeg 63 (setSeg 63 { g with crc := w32 (s.segCheck g) } s)
      (List.range 5).foldl (fun s k => setReg (A.brgLib k) (libWord start len (Config.bridgeLib k)) s) s) s)

/-- PHY_FIRMWARE_LOADED (R582, R592): the M, G and S PHYs are enabled. -/
def execPhyFirmwareLoaded (ok : Bool) (s : State) : Host.Outcome State Fault Refusal :=
  ran s (only (s.mpOn && decide (s.fw.step = .image ∧ (s.seg 63).st = 2)) (fun s =>
    if ok then ethCommit s.live { s with fw := { s.fw with step := .phyLoaded } } else sectionFails s) s)

/-- The valid half of a settings bank with the higher sequence number (R598). -/
def SettingsBank.newest (b : SettingsBank) : Option Snapshot :=
  if !b.valid then none
  else if b.half0.valid ∧ (!b.half1.valid ∨ b.half1.seq.toNat ≤ b.half0.seq.toNat) then some b.half0
  else if b.half1.valid then some b.half1
  else none

/-- The configuration of a snapshot as the staging copy, with its segments: what migration judges. -/
def State.withSettings (s : State) (h : Snapshot) : State :=
  { s with staging := h.content, segs := h.segs ++ s.segs.filter (fun p => decide (p.1 = 63)) }

/-- The settings bank that migration reads and the one it writes: for a trial the proven one and that of the trial pair, else the bank
of the pair and the other one. -/
def State.migrates (s : State) : Nat × Nat :=
  if s.fw.trialRun then (s.fw.rec_.settings, s.fw.runSet) else (s.fw.runSet, 1 - s.fw.runSet)

/-- Whether migration runs (R600): SET_VERSION of the image differs from the version of its pair's settings bank, and there are
settings to migrate. -/
def State.mustMigrate (s : State) : Bool :=
  let b := s.setBank s.fw.runSet
  let v := (s.bank s.fw.runImage).word 5
  (s.setBank s.migrates.1).newest.isSome && (!b.valid || decide (b.version ≠ v.toNat))

/-- MIGRATION (R596, R600): the settings of the other bank are written at the image's version with the next sequence number and judged
as a staging copy. The epoch log goes on from its highest number (R43). The settings mean the same in both versions. -/
def execMigration (ok : Bool) (s : State) : Host.Outcome State Fault Refusal :=
  ran s (only (s.mpOn && decide (s.fw.step = .phyLoaded) && s.mustMigrate) (fun s =>
    let (src, dst) := s.migrates
    let from_ := s.setBank src
    let img := s.bank s.fw.runImage
    match from_.newest with
    | none => s
    | some h =>
      if !ok ∨ from_.version < (img.word 6).toNat ∨ (img.word 5).toNat < from_.version then trialFails s
      else
        let s := setBankTo dst ⟨true, (img.word 5).toNat, from_.seq + 1, { h with valid := true }, Snapshot.reset, [highest from_.log]⟩ s
        if (s.withSettings h).conflicts ≠ [] then trialFails s
        else
          let s := if s.fw.trialRun then s
            else writeRec { s.fw.rec_ with settings := dst } { s with fw := { s.fw with runSet := dst } }
          raise 308 { s with epoch := { s.epoch with live := s.highestEpoch } }) s)

/-- SETTINGS_LOADED (R582, R593, R598): the configuration of the newest valid half is live; without one the reset values stay, with
DEFAULTS and event 308. -/
def execSettingsLoaded (s : State) : Host.Outcome State Fault Refusal :=
  ran s (only (s.mpOn && decide (s.fw.step = .phyLoaded) && !s.mustMigrate) (fun s =>
    match (s.setBank s.fw.runSet).newest with
    | none => raise 308 { s with fw := { s.fw with step := .settings, defaults := true } }
    | some h =>
      let t := s.withSettings h
      let ps := h.ps.foldl (fun m p => SMap.put 0 m p.1 p.2) s.ps
      let s : State := { t with live := h.content, shadow := h.content, ps := ps, fw := { s.fw with step := .settings } }
      let s := h.segs.foldl (fun s p => showSeg p.1 s) s
      let s := commitHooks Bank.reset s.locus s
      { s with svc := { s.svc with rate := fld (s.cfg A.svcCtrl) 0 3, echo := tst (s.cfg A.svcCtrl) 4 },
               accord := { s.accord with digestDue := true } }) s)

/-- CHANNELS_JOIN (R582): CAN and LIN channels join their buses. -/
def execChannelsJoin (s : State) : Host.Outcome State Fault Refusal :=
  ran s (only (s.mpOn && decide (s.fw.step = .settings)) (fun s =>
    (List.range 24).foldl (fun s ch => takeTiming ch s) { s with fw := { s.fw with step := .joined } }) s)

/-- SERDES_FIRMWARE_LOADED (R582, R592): the lanes are enabled, and with them the backbone step is reached. -/
def execSerdesFirmwareLoaded (ok : Bool) (s : State) : Host.Outcome State Fault Refusal :=
  ran s (only (s.mpOn && decide (s.fw.step = .joined)) (fun s =>
    if !ok then sectionFails s
    else
      ethCommit s.live { s with fw := { s.fw with step := .backbone, backboneAt := some s.now },
                                power := { s.power with preBackbone := false } }) s)

/-! ## The update page (R594–R599) -/

/-- The bank that holds neither the proven image nor a trial image (R594). -/
def State.freeBank (s : State) : Option Nat :=
  let b := 1 - s.fw.rec_.image
  match s.fw.rec_.trial with
  | none => some b
  | some (t, _) => if t = b then none else some b

/-- RESULT of UPD_CMD_STATUS. -/
def updResult (r : Nat) (s : State) : State := { s with fw := { s.fw with cmdResult := r } }

/-- OPEN (R594): the erasure of the free bank begins. -/
def updOpen (s : State) : State :=
  if s.fw.rec_.trial.isSome then updResult 3 s
  else if s.fw.xmodem then updResult 2 s
  else
    match s.freeBank with
    | none => updResult 3 s
    | some b => updResult 0 (setBankImg b ImageBank.reset { s with fw := { s.fw with busy := some 1 } })

/-- The free bank, when its state is one of those given. -/
def State.freeIn (s : State) (sts : List Nat) : Option Nat :=
  match s.freeBank with
  | none => none
  | some b => if sts.contains (s.bank b).st then some b else none

/-- A write of UPD_WR_DATA (R594). -/
def updWrDataWritten (v : W32) (s : State) : State :=
  match s.freeIn [1] with
  | none => updResult 1 s
  | some b =>
    let o := fld (s.reg A.updWrOffset) 2 24
    let x := s.bank b
    setRegN A.updWrOffset ((o + 1) % 2 ^ 24 * 4) (setBankImg b { x with words := SMap.put erasedWord x.words o v } s)

/-- VERIFY (R594): the check of the written image begins. -/
def updVerify (s : State) : State :=
  if (s.freeIn [1]).isSome then updResult 0 { s with fw := { s.fw with busy := some 2 } } else updResult 1 s

/-- ACTIVATE (R594): a boot record names the bank with the other settings bank as a trial pair. -/
def updActivate (s : State) : State :=
  match s.freeIn [2] with
  | none => updResult 1 s
  | some b =>
    let r := { s.fw.rec_ with trial := some (b, 1 - s.fw.rec_.settings), left := fld (s.cfg A.updCtrl) 0 2, fallback := false, unproven := false }
    updResult 0 (setBankImg b { s.bank b with st := 6 } (writeRec r s))

/-- Whether the running image is in trial and no fallback stands. -/
def State.inTrial (s : State) : Bool := s.fw.trialRun && !s.fw.unproven

/-- The trial image is proven (R595): the trial pair becomes the proven pair, the floor is raised where the image asks for it. -/
def prove (s : State) : State :=
  match s.fw.rec_.trial with
  | none => s
  | some (image, settings) =>
    let old := s.fw.rec_.image
    let s := writeRec { s.fw.rec_ with image := image, settings := settings, trial := none, left := 0, fallback := false, unproven := false } s
    let s := setBankImg image { s.bank image with st := 3 } (setBankImg old { s.bank old with st := 4 } s)
    let b := s.bank image
    let raised := BitVec.ofNat 32 (2 ^ min (b.word 8).toNat 32 - 1)
    let f := { s.fw with trialRun := false, floor := if tst (b.word 10) 0 then s.fw.floor.map (fun c => c ||| raised) else s.fw.floor }
    raise 307 { s with fw := f }

/-- CONFIRM (R594, R595). -/
def updConfirm (s : State) : State := if s.inTrial then prove (updResult 0 s) else updResult 1 s

/-- FALLBACK (R594, R596): the reset follows the reply. -/
def updFallback (s : State) : State :=
  if !s.inTrial then updResult 1 s
  else
    let s := writeRec { s.fw.rec_ with fallback := true, unproven := true } (updResult 0 s)
    { s with fw := { s.fw with unproven := true }, power := { s.power with resetDue := true } }

/-- The half that SAVE writes (R599): the one that is not in force. -/
def SettingsBank.older (b : SettingsBank) : Bool := !(b.half0.valid && (!b.half1.valid || decide (b.half1.seq.toNat ≤ b.half0.seq.toNat)))

/-- Changes a half of a settings bank: the first when `first`. -/
def SettingsBank.setHalf (b : SettingsBank) (first : Bool) (h : Snapshot) : SettingsBank :=
  if first then { b with half0 := h } else { b with half1 := h }

/-- A half of a settings bank. -/
def SettingsBank.half (b : SettingsBank) (first : Bool) : Snapshot := if first then b.half0 else b.half1

/-- What SAVE writes (R598, R599): the live configuration without what learning put there, and the sealed segments of the owner. -/
def State.snapshot (s : State) (seq : W32) : Snapshot :=
  let segs := s.segs.filter (fun p => decide (p.1 ≠ 63 ∧ p.2.st = 2))
  let inside (w : Nat) : Bool := segs.any (fun p => decide (p.2.start ≤ w ∧ w < p.2.start + p.2.len))
  let hash := s.live.hash.filter (fun p => match p.2 with
    | none => false
    | some e => !e.dyn)
  ⟨false, seq, { s.live with hash := hash }, segs, s.ps.filter (fun p => inside p.1)⟩

/-- SAVE (R594, R599): the older half of the active bank is being written, and is not valid meanwhile. -/
def updSave (s : State) : State :=
  if s.fw.saving then updResult 2 s
  else
    let b := s.setBank s.fw.runSet
    let seq := (if b.half0.seq.toNat < b.half1.seq.toNat then b.half1.seq else b.half0.seq) + 1
    let s := setBankTo s.fw.runSet (b.setHalf b.older (s.snapshot seq)) s
    updResult 0 { s with fw := { s.fw with saving := true } }

/-- ABORT (R594): a WRITING or READY bank is erased; an ACTIVATE that no start has taken is cancelled. -/
def updAbort (s : State) : State :=
  match s.freeIn [1, 2] with
  | some b => updResult 0 (setBankImg b ImageBank.reset { s with fw := { s.fw with busy := none } })
  | none =>
    match s.fw.rec_.trial with
    | some (b, _) =>
      if s.fw.trialRun then updResult 1 s
      else updResult 0 (setBankImg b { s.bank b with st := 2 } (writeRec { s.fw.rec_ with trial := none, left := 0 } s))
    | none => updResult 1 s

/-- A write of UPD_CMD by F0 (R594). -/
def updCmdWritten (v : W32) (s : State) : State :=
  match fld v 0 4 with
  | 1 => updOpen s
  | 2 => updVerify s
  | 3 => updActivate s
  | 4 => updConfirm s
  | 5 => updFallback s
  | 6 => updSave s
  | 7 => updAbort s
  | _ => s

/-- BANK_ERASE_COMPLETE (R594): the bank is WRITING at offset 0. -/
def execBankEraseComplete (s : State) : Host.Outcome State Fault Refusal :=
  ran s (only (s.mpOn && decide (s.fw.busy = some 1)) (fun s =>
    match s.freeBank with
    | none => { s with fw := { s.fw with busy := none } }
    | some b => setReg A.updWrOffset 0 (setBankImg b ⟨1, 0, []⟩ { s with fw := { s.fw with busy := none } })) s)

/-- An image in a bank is judged as a whole (R591, R594): READY with event 306, or REJECTED. -/
def judgeBank (b : Nat) (sig hash : Bool) (s : State) : Nat × State :=
  let code := s.imageCheck (s.bank b) sig hash
  if code = 0 then (0, raise 306 (setBankImg b { s.bank b with st := 2, code := 0 } s))
  else (code, imageRejected b code (setBankImg b { s.bank b with st := 5 } s))

/-- VERIFY_COMPLETE (R591, R594). -/
def execVerifyComplete (sigOk : Bool) (hashOk : Bool) (s : State) : Host.Outcome State Fault Refusal :=
  ran s (only (s.mpOn && decide (s.fw.busy = some 2)) (fun s =>
    let s : State := { s with fw := { s.fw with busy := none } }
    match s.freeIn [1] with
    | none => s
    | some b =>
      let (code, s) := judgeBank b sigOk hashOk s
      updResult code s) s)

/-- PROVE_AUTO_EXPIRY (R595): PROVE_AUTO seconds after the backbone step the trial image is proven. -/
def execProveAutoExpiry (s : State) : Host.Outcome State Fault Refusal :=
  let p := fld (s.cfg A.updCtrl) 8 8
  let due := match s.fw.backboneAt with
    | none => false
    | some t => decide (t + p * 1000000000 ≤ s.now)
  ran s (only (s.mpOn && s.inTrial && !s.fw.rec_.fallback && due && decide (p ≠ 0)) prove s)

/-- SAVE_COMPLETE (R599): the half is valid, in a bank that carries the version of the running image. -/
def execSaveComplete (s : State) : Host.Outcome State Fault Refusal :=
  ran s (only (s.mpOn && s.fw.saving) (fun s =>
    let b := s.setBank s.fw.runSet
    let first := b.older
    let b := b.setHalf first { b.half first with valid := true }
    let b := if b.valid then b else { b with valid := true, version := ((s.bank s.fw.runImage).word 5).toNat, seq := b.seq + 1 }
    bump A.updSaves (setBankTo s.fw.runSet b { s with fw := { s.fw with saving := false } })) s)

/-- A life-cycle request is recorded for the next start (R603). -/
def lcRequest (dest : Nat) (sig : Bool) (s : State) : State :=
  writeRec { s.fw.rec_ with lcReq := some (dest, sig) } { s with fw := { s.fw with lcStatus := 1 } }

/-- A write of UPD_LC_REQ by F0 (R603); `sig` says whether UPD_SIG_WIN holds a signature by the key that authorises it. -/
def lcReqWritten (v : W32) (sig : Bool) (s : State) : State := if tst v 8 then lcRequest (fld v 0 3) sig s else s

/-! ## Status registers (R612) -/

/-- UPD_STATUS. -/
def State.updStatus (s : State) : W32 :=
  let f := s.fw
  w32 (f.runImage % 2 + f.runSet % 2 * 2 + (if f.unproven then 2 else bit f.trialRun) * 2 ^ 4 + s.stage * 2 ^ 8
    + f.rec_.left % 4 * 2 ^ 12 + bit f.fallenBack * 2 ^ 16 + bit f.defaults * 2 ^ 17)

/-- UPD_FEATURE. -/
def State.updFeature (s : State) : W32 :=
  let own := (s.bank s.fw.runImage).feature
  w32 (own + (if tst (s.cfg A.brgAccCtrl) 0 then s.accord.level else own) % 65536 * 2 ^ 16)

/-- UPD_CMD_STATUS. -/
def State.updCmdStatus (s : State) : W32 := w32 (bit (s.fw.busy.isSome || s.fw.saving) + s.fw.cmdResult * 2 ^ 8)

/-- UPD_BANKb_STATUS. -/
def State.updBank (s : State) (b : Nat) : W32 := w32 ((s.bank b).st + (s.bank b).code * 2 ^ 8)

/-- UPD_SETb_STATUS. -/
def State.updSet (s : State) (b : Nat) : W32 := w32 ((s.setBank b).version % 65536 + bit (s.setBank b).valid * 2 ^ 16)

/-- UPD_FUSE_RAW. -/
def State.fuseRaw (s : State) : W32 :=
  w32 ((s.fw.fuses.getD 0 0).toNat + (s.fw.fuses.getD 1 0).toNat * 2 ^ 8 + (s.fw.fuses.getD 2 0).toNat * 2 ^ 16)

/-- The fault-log entry that UPD_FLOG_INDEX selects. -/
def State.flogShown (s : State) : JRec := s.fw.flog.getD (fld (s.reg A.updFlogIndex) 0 19) JRec.nil

end Sys2Proof.Machine
end

