-- ==== Sys2Proof/Machine/View.lean ====
section
/-! DEFINITION. The registers as they read (R9, R13, R423, R618–R636): the page header, and the block registers whose value
the state holds in structured form. A register that nothing here computes reads as it is stored. -/

namespace Sys2Proof.Machine

/-- A register request: the facet it acts for, its session, and the epoch under whose rights it is judged (R418, R425). -/
structure Req where
  facet : Nat
  sess : Nat
  peer : Bool
  rank : Nat
  epoch : W32
  deriving DecidableEq, Repr

/-- The request of a plain access by a facet: session 0, the live epoch. -/
def State.plain (s : State) (f : Nat) : Req := ⟨f, 0, false, 0, s.epoch.live⟩

/-! ## Keys of registers behind selectors -/

/-- The vertex in a facet's queue window (R173). -/
def State.winVertex (s : State) (f : Nat) : Nat := fld (s.reg (A.qSel f)) 0 7

/-- The dispatch entry that a facet's LAT_DE_INDEX names: a tenant's write affects only its own reads (R266). -/
def State.deIndex (s : State) (f : Nat) : Nat := fld (s.reg (selKey A.latDeIndex f)) 0 12

/-- The selector of an Ethernet vertex's MACsec registers (R383): the receive channel for the RXSC registers, the SA for the
others. -/
def State.secSel (s : State) (v off : Nat) : Nat :=
  let w := s.reg (A.ethSecSaSel v)
  if 0x160 ≤ off then fld w 2 3 else saSel (tst w 5) (fld w 2 3) (fld w 0 2)

/-- The key under which a register of a page is stored, for an access of a facet: its address, with its selector where it lies
behind one. -/
def State.keyAt (s : State) (p : PageRef) (f addr : Nat) : Nat :=
  let off := addr % 0x1000
  match p.kind with
  | .sys => if off = 0x70 ∨ off = 0x630 then selKey addr f else addr
  | .que =>
    let v := s.winVertex f
    if off < 0x100 then addr
    else if off = 0x12C ∨ off = 0x130 then selKey addr (gclSel v (fld (s.reg (selKey A.qGclIndex v)) 0 10))
    else selKey addr v
  | .buf => if 0x204 ≤ off ∧ off < 0x218 then selKey addr (fld (s.reg A.bufMcIndex) 0 13) else addr
  | .tbl => if 0x804 ≤ off ∧ off < 0x828 then selKey addr (fld (s.reg A.tblSfIndex) 0 10) else addr
  | .latDisp => if off = 0x200 then selKey addr f else if 0x204 ≤ off ∧ off < 0x280 then selKey addr (s.deIndex f) else addr
  | .latProg => if off = 0x44 ∨ off = 0x48 ∨ off = 0x50 then selKey addr (fld (s.reg A.latSegIndex) 0 6) else addr
  | .eth => if 0x144 ≤ off ∧ off < 0x16C then selKey addr (s.secSel p.inst off) else addr
  | .ethCommon => if 0x48 ≤ off ∧ off < 0x5C then selKey addr (fld (s.reg A.ethVtIndex) 0 12) else addr
  | .lin => if off % 0x400 = 0x304 ∨ off % 0x400 = 0x308 then
      selKey addr (fld (s.reg (A.linTabIndex (2 * p.inst + off / 0x400))) 0 9) else addr
  | .cip => if off = 0x84 then selKey addr (fld (s.reg A.cipKsIndex) 0 9) else addr
  | _ => addr

/-! ## The page header (R618–R636) -/

/-- PAGE_ID (R619). -/
def PageRef.id (p : PageRef) : W32 := w32 (p.kind.blockType * 2 ^ 16 + p.inst * 2 ^ 8 + 1)

/-- STAGED of PAGE_CAPS (R620): the page holds staged registers. -/
def PageKind.staged (k : PageKind) : Bool := k.rows.any (fun r => decide (r.acc = .rws))

/-- PAGE_CAPS (R620). -/
def PageRef.caps (p : PageRef) : W32 :=
  let k := p.kind
  w32 (p.sources.1 + p.sources.2 * 2 ^ 9 + bit k.summary * 2 ^ 15 + bit k.staged * 2 ^ 16 + bit k.gate * 2 ^ 17
    + bit k.quiesce * 2 ^ 18 + bit k.softReset * 2 ^ 19 + bit k.split * 2 ^ 20)

/-- Whether a key belongs to a dispatch or VLAN entry (R633). -/
def entryKey (key : Nat) : Bool :=
  let a := key % 2 ^ 24
  (decide (A.latDeCtrl ≤ a) && decide (a ≤ A.latDeOutbytes)) || (decide (A.ethVtFlags ≤ a) && decide (a ≤ A.ethVtUntagHi))

/-- The keys of a page's registers whose staged value differs from the live one. -/
def State.stagedKeys (s : State) (base : Nat) : List Nat :=
  let keys := s.staging.regs.map (·.1) ++ (s.live.regs.map (·.1)).filter (fun k => s.staging.regs.all (fun p => p.1 ≠ k))
  keys.filter (fun k => decide (k % 2 ^ 24 / 0x1000 * 0x1000 = base) && decide (s.stg k ≠ s.cfg k))

/-- EPOCH_STAGE (R633, R635). -/
def State.epochStage (s : State) (p : PageRef) : W32 :=
  if p.kind = .aperture then 0
  else
    let ks := s.stagedKeys p.base
    let other := match p.kind with
      | .tbl => decide (s.staging.cam ≠ s.live.cam ∨ s.staging.hash ≠ s.live.hash)
      | .brg => decide (s.staging.chords ≠ s.live.chords ∨ s.staging.tangents ≠ s.live.tangents)
      | _ => false
    w32 (min (ks.filter (fun k => !entryKey k)).length 0xFFFF + bit (other || ks.any entryKey) * 2 ^ 16)

/-- EPOCH_LIVE (R633, R635). -/
def State.epochLive (s : State) (p : PageRef) : W32 :=
  if !p.kind.staged then 0
  else if p.kind = .can ∧ (s.canSt p.inst).timingPending then (s.canSt p.inst).effEpoch
  else s.epoch.live

/-- An EV_RAW or EV_PEND word without its fault bits for a facet other than F0 (R423). -/
def evShown (p : PageRef) (f : Nat) (w : W32) : W32 := if f = 0 then w else w &&& ~~~(w32 (faultBits p))

/-- A fault register for F0, with the latch of the page's last read of FAULT_CODE for the three after it (R631, R423). -/
def State.faultShown (s : State) (p : PageRef) (f off : Nat) : W32 :=
  if f ≠ 0 then 0
  else if off = 0x20 then s.reg (p.base + off)
  else
    match SMap.get [] s.faultLatch p.base with
    | [] => s.reg (p.base + off)
    | l => l.getD ((off - 0x24) / 4) 0

/-- A header register as it reads; `b` is the bank of the view asked for. -/
def State.header (s : State) (p : PageRef) (f off : Nat) (b : Bank) : W32 :=
  let base := p.base
  let pend := s.reg (base + 0x10) &&& ~~~(s.reg (base + 0x14))
  match off with
  | 0x00 => p.id
  | 0x04 => p.caps
  | 0x08 => s.pageCtrl p (b.regs.read (base + 8))
  | 0x0C => if f = 0 then s.pageStatus p else w32 (fld (s.pageStatus p) 0 8)
  | 0x10 => evShown p f (s.reg (base + 0x10))
  | 0x14 => s.reg (base + 0x14)
  | 0x18 => evShown p f pend
  | 0x1C => setBit (s.reg (base + 0x1C)) 0 true
  | 0x30 => b.regs.read (base + 0x30)
  | 0x34 => s.epochStage p
  | 0x38 => s.epochLive p
  | 0x3C => s.lockReg (base / 0x1000)
  | o => s.faultShown p f o

/-- A header register of an aperture page (R636). -/
def State.apertureHeader (s : State) (p : PageRef) (off : Nat) : W32 :=
  if off = 0 then p.id
  else if off = 4 then p.caps
  else if off = 0x0C then
    w32 (bit (decide ((SMap.get PeerSt.reset s.accord.peers (fld (s.cfg (A.brgWinCtrl p.inst)) 1 3)).state = 1)))
  else 0

/-! ## Block registers: the system page (R45, R469) -/

/-- Code of the commit machinery in SYS_EPOCH_STATUS (R46). -/
def CommitState.code : CommitState → Nat
  | .idle => 0 | .validating => 1 | .armed => 2 | .deferred => 3

/-- SYS_EPOCH_STATUS (R46). -/
def State.epochStatus (s : State) : W32 := w32 (s.epoch.st.code + s.epoch.result * 2 ^ 8 + bit s.epoch.warn * 2 ^ 16)

/-- The ring that a facet's event window shows (R447). -/
def State.ringOf (s : State) (f : Nat) : Nat := if f = 0 then fld (s.reg A.sysEvView) 0 4 else f

/-- A facet's ring. -/
def State.ring (s : State) (r : Nat) : EvRing := SMap.get EvRing.reset s.rings r

/-- A word of an event-ring entry (R446). -/
def EvEntry.word (e : EvEntry) (i : Nat) : W32 :=
  if i = 0 then w32 (e.src % 512 + bit e.overflow * 2 ^ 15 + min e.count 0xFFFF * 2 ^ 16)
  else if i = 1 then loW (secOf e.stamp)
  else if i = 2 then hiW (secOf e.stamp)
  else w32 (nsOf e.stamp)

/-- A facet's session, or the session of a peer rank at 64 + rank (R434). -/
def State.session (s : State) (k : Nat) : Session := SMap.get Session.reset s.sessions k

/-- A register of a session (R469). -/
def State.sessReg (s : State) (k r : Nat) : W32 :=
  let x := s.session k
  if r = 0 then w32 (bit x.isOpen + (s.octRun.filter (fun e => e.sess = k)).length % 16 * 2)
  else if r = 4 then x.high
  else if r = 8 then sat32 x.dups
  else sat32 x.stale

/-- SYS_FACET_RESET_STATUS for a facet (R442, R469). -/
def State.resetStatus (s : State) (f : Nat) : W32 :=
  let (named, res) := (SMap.get none s.facetResets f).getD (0, 0)
  w32 (bit s.facetReset.isSome + named % 16 * 2 ^ 4 + res % 256 * 2 ^ 8)

/-- The overflow bits of sources 32k to 32k + 31 of a ring. -/
def EvRing.ovfMap (r : EvRing) (k : Nat) : W32 :=
  w32 (maskOf 32 ((List.range 32).filter (fun i => (SMap.get none r.ovf (32 * k + i)).isSome)))

/-- The event window of a facet (R447, R469). -/
def State.evReg (s : State) (f off : Nat) : W32 :=
  let r := s.ring (s.ringOf f)
  if off = 0x610 then w32 r.entries.length
  else if off < 0x624 then (r.entries.headD r.last).word ((off - 0x614) / 4)
  else if off = 0x628 then w32 (bit r.notify)
  else if off = 0x62C then w32 (bit r.under + bit (decide (r.ovf ≠ [])) * 2)
  else if off = 0x634 then
    match SMap.get none r.ovf (fld (s.reg (selKey A.sysEvOvfSel f)) 0 9) with
    | none => 0
    | some o => w32 (o.count % 2 ^ 16 + 2 ^ 16)
  else r.ovfMap ((off - 0x640) / 4)

/-- A system register that the state computes. -/
def State.viewSys (s : State) (q : Req) (off : Nat) : Option W32 :=
  let f := q.facet
  match off with
  | 0x060 => some (w32 (f % 16 + q.sess % 4 * 16 + bit q.peer * 64 + q.rank % 8 * 128))
  | 0x104 => some s.epochStatus
  | 0x114 => some s.nextEpoch
  | 0x118 => some (s.epoch.draining.getD 0)
  | 0x11C => some (match s.epoch.draining with
    | none => 0
    | some e => sat32 (s.itemsOf e))
  | 0x140 => some (w32 (4096 - s.tags.length))
  | 0x464 => some (s.resetStatus f)
  | 0x6C0 => some (w32 (min 255 (s.locks.filter (fun p => match p.2 with
    | none => false
    | some l => decide (l.holder = f))).length))
  | _ =>
    if 0x1C0 ≤ off ∧ off < 0x200 then some (w32 (s.tagsOf ((off - 0x1C0) / 4)))
    else if (0x610 ≤ off ∧ off < 0x624) ∨ off = 0x628 ∨ off = 0x62C ∨ off = 0x634 ∨ (0x640 ≤ off ∧ off < 0x668) then some (s.evReg f off)
    else if 0x680 ≤ off ∧ off < 0x6C0 then some (s.sessReg (f * 4 + (off - 0x680) / 16) (off % 16))
    else none

/-! ## Power, locus, planes, buffer, queues, tables -/

/-- Registers that hold a measurement of the outside: a free value at each read (DESIGN CHOICE: log entry 1). -/
def measured (addr : Nat) : Bool :=
  [A.pwrVinA, A.pwrVinB, A.pwrPin, A.pwrTemp, A.pwrVcore, A.clkIrc, A.plnCyclePs, A.latIssueLoad].contains addr
    || (List.range 5).any (fun p => decide (addr = A.plnPLoad p))

/-- A power or clock register that the state computes (R584). -/
def State.viewPwr (s : State) (off : Nat) : Option W32 :=
  match off with
  | 0x044 => some s.pwrStatus
  | 0x04C => some (s.freeWord &&& 0xFFFF)
  | 0x048 => some s.freeWord
  | 0x050 => some (s.freeWord &&& 0xFFFF)
  | 0x054 => some s.freeWord
  | 0x058 => some (s.freeWord &&& 0xFFF)
  | 0x05C => some (w32 (0xFF - bit s.power.shed))
  | 0x064 => some s.paceStatus
  | 0x078 => some (w32 (s.power.cause % 16 + min s.power.devResets 0xFFFF * 2 ^ 16))
  | 0x084 => some s.wdogStatus
  | 0x100 => some s.clkStatus
  | 0x114 => some s.clkMp
  | 0x118 => some (s.freeWord &&& 0xFFFF)
  | _ => none

/-- LOC_STATUS (R108, R76). -/
def State.locStatus (s : State) (f : Nat) : W32 :=
  w32 (s.loc.st.code + bit s.loc.slewing * 8 + (if f = 0 then s.loc.cause % 16 else 0) * 16 + s.locDom * 2 ^ 8)

/-- A word of a transmit-stamp entry (R89). -/
def TxStamp.word (e : TxStamp) (i : Nat) : W32 :=
  if i = 0 then loW (secOf e.stamp)
  else if i = 1 then hiW (secOf e.stamp)
  else if i = 2 then w32 (nsOf e.stamp)
  else w32 (e.id.toNat + e.ingress % 128 * 2 ^ 16 + bit e.failed * 2 ^ 23)

/-- A register of a transmit-stamp port (R107). -/
def State.txqReg (s : State) (n off : Nat) : Option W32 :=
  let q := s.txQueue (fld (s.reg (A.locTxqSel n)) 0 7)
  if off = 4 then some (w32 (q.entries.length % 128 + fld (s.reg (A.locTxqStatus n)) 8 1 * 2 ^ 8 + min q.lost 0xFFFF * 2 ^ 16))
  else if 8 ≤ off ∧ off < 0x18 then some ((s.txqShown n).word ((off - 8) / 4))
  else none

/-- A register of a capture unit (R107). -/
def State.capReg (s : State) (n off : Nat) : Option W32 :=
  let u := s.cap n
  let c := s.capShown n
  match off with
  | 0x04 => some (w32 (u.fifo.length % 32 + bit u.under * 2 ^ 8 + min u.overruns 0xFFFF * 2 ^ 16))
  | 0x08 => some (loW (secOf c.stamp))
  | 0x0C => some (hiW (secOf c.stamp))
  | 0x10 => some (w32 (nsOf c.stamp))
  | 0x14 => some (w32 (bit c.rising))
  | 0x18 => some (sat32 u.period)
  | _ => none

/-- A register of a time-domain instance (R107). -/
def State.domReg (s : State) (d off : Nat) : Option W32 :=
  let x := s.dom d
  match off with
  | 0x14 => some (w32 (x.role % 8 + x.slaveVertex % 128 * 2 ^ 8 + min x.steps 255 * 2 ^ 16))
  | 0x18 => some (loW x.gm.toNat)
  | 0x1C => some (hiW x.gm.toNat)
  | 0x20 => some (loW (BitVec.ofInt 64 x.offset).toNat)
  | 0x24 => some (hiW (BitVec.ofInt 64 x.offset).toNat)
  | 0x28 => some (satI32 x.ratio)
  | _ => none

/-- LOC_SOn_STATUS (R106, R107): TO12–TO15 yield their pins outside RUN. -/
def State.soStatus (s : State) (n : Nat) : W32 :=
  let yielded := decide (12 ≤ n) && s.yields
  w32 (bit ((SMap.get SyncOut.reset s.syncs n).active && !yielded) + bit (s.quieted (s.live.syncCfg n)) * 2 + bit yielded * 4)

/-- A locus register that the state computes (R107). -/
def State.viewLoc (s : State) (f off : Nat) : Option W32 :=
  match off with
  | 0x044 => some (s.locStatus f)
  | 0x048 => some (loW (secOf s.ns))
  | 0x04C => some (hiW (secOf s.ns))
  | 0x050 => some (w32 (nsOf s.ns))
  | 0x054 => some (w32 (s.locus % 65536))
  | 0x07C => some (sat32 s.holdAge)
  | _ =>
    if 0x100 ≤ off ∧ off < 0x200 then s.domReg ((off - 0x100) / 0x40) (off % 0x40)
    else if 0x400 ≤ off ∧ off < 0x600 then s.txqReg ((off - 0x400) / 0x20) (off % 0x20)
    else if 0x600 ≤ off ∧ off < 0xA00 ∧ off % 0x40 = 0x24 then some (s.soStatus ((off - 0x600) / 0x40))
    else if 0xA00 ≤ off ∧ off < 0xB00 then s.capReg ((off - 0xA00) / 0x20) (off % 0x20)
    else none

/-- A share of 1 ms in 1/1,000: 0 when its last event lies more than 1 ms back, else a free value (DESIGN CHOICE: log entry 1). -/
def State.shareOf (s : State) (last : Option Nat) : Nat :=
  match last with
  | none => 0
  | some t => if s.now ≤ t + 1000000 then s.freeWord.toNat % 1001 else 0

/-- A plane register that the state computes (R168). PLN_CYCLE_PS is a mean of the plane clock: a free value once 1 ms has passed since the
start. -/
def State.viewPln (s : State) (off : Nat) : Option W32 :=
  if off = 0x40 then some s.plnStatus
  else if off = 0x44 then some (if s.power.startAt + 1000000 ≤ s.now then s.freeWord else 0)
  else if off = 0x4C then some (w32 (bit s.plane.move.isSome + s.plane.result * 2 ^ 8))
  else if 0x80 ≤ off ∧ off < 0xD0 ∧ off % 0x10 = 0xC then
    let p := (off - 0x80) / 0x10
    some (w32 (s.shareOf (SMap.get none s.lastXfer p) + (s.bucketsOn p).length * 2 ^ 16))
  else if 0x200 ≤ off ∧ off < 0x400 then
    let n := (off - 0x200) / 4
    some (w32 ((List.range 8).foldl (fun a k => a + s.planeOf (8 * n + k) * 2 ^ (4 * k)) 0))
  else none

/-- A buffer register that the state computes (R170). -/
def State.viewBuf (s : State) (off : Nat) : Option W32 :=
  if off = 0x44 then some (w32 (262144 - 4096 - s.mappedOut - ((List.range 16).map (fun f => (s.reg (A.bufFuse f)).toNat)).sum))
  else none

/-- A register of the queue window of a vertex that the state computes (R172). -/
def State.viewQue (s : State) (v off : Nat) : Option W32 :=
  if off = 0x134 then
    some (w32 ((if s.live.gated v then (s.live.gateAt v s.ns).1 else 0) + bit (s.epoch.draining.isSome && s.drain.gated v) * 2 ^ 16))
  else if off = 0x138 then some (w32 (s.live.gatesAt v s.ns))
  else if off = 0x13C then
    some (match (s.out v).preempt with
      | .disabled => 0
      | .verifying => 1
      | .succeeded => 2
      | .failed => 3)
  else none

/-- Entries that a store lists. -/
def entriesOf {α : Type} (m : SMap (Option α)) : Nat := (m.filter (fun p => p.2.isSome)).length

/-- A table register that the state computes (R221). -/
def State.viewTbl (s : State) (off : Nat) : Option W32 :=
  match off with
  | 0x040 => some s.tblStatus
  | 0x048 => some (w32 (bit s.reqRehash + bit s.rebuilding * 2 + min s.unplaced.length 0xFFFF * 2 ^ 16))
  | 0x060 => some (w32 (entriesOf s.live.cam))
  | 0x064 => some (w32 s.live.hashUsed)
  | 0x068 => some (w32 (s.live.dynCount (fun _ => true)))
  | 0x818 => some (w32 (bit (s.blocked.contains (fld (s.reg A.tblSfIndex) 0 10))))
  | _ =>
    if 0x100 ≤ off ∧ off < 0x140 then some (w32 (s.learnUse ((off - 0x100) / 4)))
    else if 0x200 ≤ off ∧ off < 0x400 ∧ off % 0x80 = 0 then some (s.lockReg (portLock ((off - 0x200) / 0x80)))
    else none

/-! ## Lattice, Ethernet, field buses, bridge -/

/-- A dispatcher register that the state computes (R262). -/
def State.viewLatDisp (s : State) (off : Nat) : Option W32 :=
  let map (lo n : Nat) : W32 := w32 (maskOf n ((List.range n).filter (fun i => decide ((s.cell (lo + i)).st = .inService))))
  match off with
  | 0x040 => some s.latStatus
  | 0x044 => some (map 0 32)
  | 0x048 => some (map 32 32)
  | 0x04C => some (map 64 8)
  | 0x064 => some (sat32 ((List.range 16).map (fun f => (SMap.get [] s.admission f).length)).sum)
  | 0x068 => some (w32 s.ctxFree)
  | 0x06C => some (w32 (s.shareOf s.lastIssue))
  | _ =>
    if 0xC0 ≤ off ∧ off < 0x100 then some (w32 (s.ctxUse ((off - 0xC0) / 4)))
    else if 0x100 ≤ off ∧ off < 0x140 then some (sat32 (SMap.get [] s.admission ((off - 0x100) / 4)).length)
    else none

/-- A program-page register that the state computes (R264). -/
def State.viewLatProg (s : State) (off : Nat) : Option W32 :=
  if off = 0x54 then some (s.segStatus (fld (s.reg A.latSegIndex) 0 6))
  else if off = 0x5C then some (SMap.get 0 s.ps (fld (s.reg A.latPsAddr) 0 19))
  else if off = 0x60 then some (w32 s.psFree)
  else none

/-- A cell register that the state computes (R265). -/
def State.viewLatCell (s : State) (k off : Nat) : Option W32 :=
  let c := 2 * k + (off - 0x100) / 0x100
  if off % 0x100 = 0 then some (s.cellStatus c)
  else if off % 0x100 = 4 then some (w32 (maskOf 16 ((List.range 16).filter (fun x => (s.jobAt c x).isSome))))
  else none

/-- An Ethernet register that the state computes (R382–R385). The RC counters are given where they are read. -/
def State.viewEth (s : State) (v off : Nat) : Option W32 :=
  match off with
  | 0x044 => some (s.ethStatus v)
  | 0x0C4 => some (s.phyStatus v)
  | 0x0CC => some (s.plcaStatus v)
  | 0x0E0 => some (s.fcStatus v)
  | 0x114 => some (s.secStatus v)
  | 0x804 => some (s.laneStatus v)
  | 0x80C => some (loW (s.lane v).peerId.toNat)
  | 0x810 => some (hiW (s.lane v).peerId.toNat)
  | 0x814 => some (w32 ((s.lane v).skew % 65536))
  | _ => none

/-- A register of the field-bus common page (R329). -/
def State.viewFieldBus (s : State) (off : Nat) : Option W32 :=
  match off with
  | 0x040 => some (w32 (maskOf 24 ((List.range 24).filter (fun c => decide ((s.canSt c).err = .busOff)))))
  | 0x044 => some (w32 (maskOf 24 ((List.range 24).filter (fun c => (s.canSt c).trxFault))))
  | 0x048 => some (w32 (maskOf 12 ((List.range 12).filter (fun j => (s.linSt j).trxFault))))
  | 0x04C => some (w32 (bit (tst s.clkStatus 8)))
  | _ => none

/-- A CAN register that the state computes (R330). -/
def State.viewCan (s : State) (ch off : Nat) : Option W32 :=
  match off with
  | 0x044 => some (s.canStatus ch)
  | 0x058 => some (s.canErrReg ch)
  | 0x068 => some (s.canTxStatus ch)
  | 0x070 => some (s.rateStatus ch)
  | 0x220 => some (s.ttStatus ch)
  | _ => if 0x180 ≤ off ∧ off < 0x1C0 then some (s.canMbStatus ch ((off - 0x180) / 4)) else none

/-- A LIN register that the state computes (R332). -/
def State.viewLin (s : State) (k off : Nat) : Option W32 :=
  if off % 0x400 = 0x104 then some (s.linStatus (2 * k + off / 0x400)) else none

/-- A bridge register that the state computes (R333). -/
def State.viewBrg (s : State) (off : Nat) : Option W32 :=
  let t := fld (s.reg A.brgTSel) 0 12
  match off with
  | 0x040 => some s.brgStatus
  | 0x084 => some (sat32 (SMap.get 0 s.bridge.tFrames t))
  | 0x088 => some (sat32 (SMap.get 0 s.bridge.tGap t))
  | 0x200 => some (s.lockReg (portLock 4))
  | 0x240 => some (s.lockReg (portLock 5))
  | _ => none

/-! ## Window bridge, accord, cipher, checks, journal, rings -/

/-- An accord peer. -/
def State.peer (s : State) (r : Nat) : PeerSt := SMap.get PeerSt.reset s.accord.peers r

/-- Rank of a window's peer. -/
def State.winPeer (s : State) (k : Nat) : Nat := fld (s.cfg (A.brgWinCtrl k)) 1 3

/-- The facet of a window. -/
def State.winFacet (s : State) (k : Nat) : Nat := fld (s.cfg (A.brgWinCtrl k)) 8 4

/-- BRG_WINk_LOCK (R470): HELD while the lock is requested or granted, and STATE. -/
def State.winLockReg (s : State) (k : Nat) : W32 :=
  match (s.window k).lock with
  | .none => 0
  | .requesting => 3
  | .granted => 5
  | .denied => 6

/-- A window register that the state computes (R470). -/
def State.viewWindow (s : State) (off : Nat) : Option W32 :=
  let k := (off - 0x100) / 0x40
  let w := s.window k
  if off < 0x100 then none
  else if off % 0x40 = 8 then some (s.winLockReg k)
  else if off % 0x40 = 0xC then
    some (w32 (w.queue.length % 128 + bit w.flight.isSome * 2 ^ 8 + bit (decide ((s.peer (s.winPeer k)).state = 1)) * 2 ^ 9))
  else none

/-- BRG_ACC_STATUS (R471). -/
def State.accStatus (s : State) : W32 :=
  let own := fld (s.cfg A.brgAccCtrl) 1 3
  let ranks (st : Nat) : Nat := maskOf 8 ((List.range 8).filter (fun r => decide ((s.peer r).state = st)))
  let held := tst (s.cfg A.brgAccCtrl) 0 && tst (s.cfg A.brgAccCtrl) 8 && s.junior && s.mismatched
  w32 (s.accord.senior % 8 + bit (tst (s.cfg A.brgAccCtrl) 0 && decide (s.accord.senior = own)) * 8 + bit s.accord.match_ * 16
    + bit held * 32 + ranks 1 * 2 ^ 8 + ranks 3 * 2 ^ 16)

/-- BRG_PEERr_STATE (R471). -/
def State.peerState (s : State) (r : Nat) : W32 :=
  let p := s.peer r
  let same := p.digestValid && s.accord.digestValid && decide (p.digest = s.accord.digest)
  w32 (p.state % 4 + bit same * 4 + p.power % 4 * 8 + bit p.keeper * 32 + p.vertex % 128 * 2 ^ 8)

/-- An accord register that the state computes (R471). -/
def State.viewAccord (s : State) (off : Nat) : Option W32 :=
  match off with
  | 0x054 => some s.accStatus
  | 0x058 => some (w32 (s.accord.level % 65536))
  | 0x05C => some (w32 (maskOf 8 ((List.range 8).filter (fun r => decide ((s.peer r).state = 1) && (s.peer r).keeper))))
  | _ =>
    if 0x60 ≤ off ∧ off < 0x70 then some (w32 (beAt s.accord.digest (off - 0x60) 4))
    else if 0x80 ≤ off ∧ off < 0x180 then
      let r := (off - 0x80) / 0x20
      let p := s.peer r
      match off % 0x20 with
      | 0x00 => some (loW p.id.toNat)
      | 0x04 => some (hiW p.id.toNat)
      | 0x08 => some p.epoch
      | 0x0C => some p.version
      | 0x10 => some (s.peerState r)
      | 0x14 => some p.offset
      | 0x18 => some (w32 (p.feature % 65536))
      | _ => none
    else none

/-- CIP_STATUS (R517). -/
def State.cipStatusReg (s : State) : W32 :=
  w32 (s.cip.inService.length % 8 + s.cip.spares.length % 8 * 8 + bit (decide (s.cip.inService.length < 5)) * 2 ^ 8 + bit s.rootAvailable * 2 ^ 9)

/-- CHK_Uu_STATUS (R519). -/
def State.chkStatus (s : State) (u : Nat) : W32 :=
  let c := s.unit u
  w32 (bit c.scanning.isSome + bit c.inUse * 2 + bit c.refused * 4 + bit c.lastMatch * 8 + c.result % 256 * 2 ^ 8)

/-- A word of a completion. -/
def CipComp.word (c : CipComp) (i : Nat) : W32 :=
  if i = 0 then c.w0 else if i = 1 then c.w1 else if i = 2 then c.w2 else c.w3

/-- The key-slot view of a request page (R475, R518): zero when the page's facet may not name the slot. -/
def State.ksReg (s : State) (n off : Nat) : W32 :=
  let slot := fld (s.reg (A.cipKsSel n)) 0 9
  let cur := s.keyOf slot 0
  let nxt := s.keyOf slot 1
  let get (k : Option KeyRole) (g : KeyRole → W32) : W32 := match k with
    | none => 0
    | some k => g k
  if !s.mayUse n slot then 0
  else if off = 0xA4 then
    w32 (bit cur.isSome + bit nxt.isSome * 2
      + (get cur (fun k => w32 (k.usage % 256 * 4 + k.lenCode % 4 * 2 ^ 10 + bit k.exhausted * 2 ^ 12))).toNat)
  else if off = 0xA8 then get cur (·.version)
  else if off = 0xAC then get nxt (·.version)
  else if off = 0xB0 then get cur (fun k => loW k.count.toNat)
  else if off = 0xB4 then get cur (fun k => hiW k.count.toNat)
  else if off = 0xB8 then get cur (fun k => sat32 k.hits)
  else get nxt (fun k => sat32 k.hits)

/-- Offset in a facet's cipher data area of a word of its window (R518). -/
def State.cipWinOff (s : State) (n off : Nat) : Nat := (fld (s.reg (A.cipDataBase n)) 0 6 * 1024 + (off - 0x400)) % 65536

/-- A cipher request register that the state computes (R518). The data window holds its bytes first byte in bits [7:0] (R8). -/
def State.viewCipReq (s : State) (n off : Nat) : Option W32 :=
  let c := s.cipFacet n
  if off = 0x64 then some (w32 ((c.queue.length + (s.cipRunning n).length) % 512 + c.comps.length % 512 * 2 ^ 16))
  else if 0x70 ≤ off ∧ off < 0x80 then some ((c.comps.headD c.last).word ((off - 0x70) / 4))
  else if off = 0x84 then some (w32 (bit c.under))
  else if 0xA4 ≤ off ∧ off < 0xC0 then some (s.ksReg n off)
  else if 0x400 ≤ off then some (w32 (leAt (s.area n (s.cipWinOff n off) 4) 0 4))
  else none

/-- A journal register that the state computes (R413). -/
def State.viewJrn (s : State) (off : Nat) : Option W32 :=
  match off with
  | 0x044 => some s.jrnStatus
  | 0x048 => some (loW s.jrn.wr)
  | 0x04C => some (hiW s.jrn.wr)
  | 0x050 => some (loW s.jrn.oldest)
  | 0x054 => some (hiW s.jrn.oldest)
  | 0x08C => some s.rdStatus
  | 0x12C => some (loW s.jrn.cursor)
  | 0x130 => some (hiW s.jrn.cursor)
  | _ => none

/-- A ring-page register that the state computes (R414). -/
def State.viewRng (s : State) (off : Nat) : Option W32 :=
  if 0x400 ≤ off ∧ off < 0x500 ∧ off % 0x40 = 0x14 then some (s.injStatus ((off - 0x400) / 0x40))
  else if 0x800 ≤ off then some (s.dramWord (s.dwBase + (off - 0x800)))
  else none

/-! ## Wake, update, service -/

/-- A wake register that the state computes (R548). -/
def State.viewWak (s : State) (off : Nat) : Option W32 :=
  let asleep (lo n : Nat) : W32 := w32 (maskOf n ((List.range n).filter (fun i => s.wake.asleep.contains (lo + i))))
  match off with
  | 0x048 => some s.wakStatus
  | 0x058 => some (asleep 0 32)
  | 0x05C => some (asleep 32 32)
  | 0x060 => some (asleep 64 20)
  | 0x0A0 => some s.aonStatus
  | _ =>
    if 0x100 ≤ off ∧ off < 0x500 then
      let m := (off - 0x100) / 0x20
      match off % 0x20 with
      | 0x10 => some (s.pmStatus m)
      | 0x14 => some (sat32 (s.member m).keepTime)
      | 0x18 => some (sat32 (s.member m).roundsKept)
      | _ => none
    else none

/-- A CAN wake register that the state computes (R550). -/
def State.viewWakCan (s : State) (k off : Nat) : Option W32 :=
  if 0x100 ≤ off ∧ off < 0xD00 ∧ (off - 0x100) % 0x200 = 8 then some (s.wakCanSt (6 * k + (off - 0x100) / 0x200)) else none

/-- An update register that the state computes (R612). -/
def State.viewUpd (s : State) (off : Nat) : Option W32 :=
  match off with
  | 0x040 => some s.updStatus
  | 0x044 => some (s.bank s.fw.runImage).version
  | 0x048 => some s.updFeature
  | 0x04C => some (w32 s.floor)
  | 0x058 => some s.updCmdStatus
  | 0x070 => some (s.updBank 0)
  | 0x074 => some (s.bank 0).version
  | 0x078 => some (s.updBank 1)
  | 0x07C => some (s.bank 1).version
  | 0x080 => some (s.updSet 0)
  | 0x084 => some (s.setBank 0).seq
  | 0x088 => some (s.updSet 1)
  | 0x08C => some (s.setBank 1).seq
  | 0x0B4 => some (w32 s.fw.lcStatus)
  | 0x0B8 => some s.fuseRaw
  | 0x0C0 => some (w32 s.fw.flog.length)
  | _ =>
    if 0xA0 ≤ off ∧ off < 0xB0 then some (w32 (beAt s.fw.challenge (off - 0xA0) 4))
    else if 0xC8 ≤ off ∧ off < 0xE8 then some (s.flogShown.words.getD ((off - 0xC8) / 4) 0)
    else none

/-- SVC_STATUS (R613). -/
def State.svcStatus (s : State) : W32 :=
  let left := ceilDiv (s.svc.refuseUntil - s.now) 1000000000
  w32 (s.svc.rate % 8 + s.svc.unlock % 4 * 16 + bit (decide (s.svc.lines ≠ [])) * 64 + min left 0xFFFF * 2 ^ 16)

/-! ## All block registers -/

/-- A block register that the state computes, for a request; none for one that is stored. -/
def State.computed (s : State) (q : Req) (p : PageRef) (off : Nat) : Option W32 :=
  match p.kind with
  | .sys => s.viewSys q off
  | .pwr => s.viewPwr off
  | .loc => s.viewLoc q.facet off
  | .pln => s.viewPln off
  | .buf => s.viewBuf off
  | .que => s.viewQue (s.winVertex q.facet) off
  | .tbl => s.viewTbl off
  | .latDisp => s.viewLatDisp off
  | .latProg => s.viewLatProg off
  | .latCell => s.viewLatCell p.inst off
  | .eth => s.viewEth p.inst off
  | .ethCommon => none
  | .fieldBus => s.viewFieldBus off
  | .can => s.viewCan p.inst off
  | .lin => s.viewLin p.inst off
  | .brg => s.viewBrg off
  | .window => s.viewWindow off
  | .accord => s.viewAccord off
  | .aperture => none
  | .cip => if off = 0x40 then some s.cipStatusReg else none
  | .chk => if 0x100 ≤ off ∧ off < 0x300 ∧ off % 0x40 = 0x34 then some (s.chkStatus ((off - 0x100) / 0x40)) else none
  | .cipReq => s.viewCipReq p.inst off
  | .jrn => s.viewJrn off
  | .rng => s.viewRng off
  | .wak => s.viewWak off
  | .wakCan => s.viewWakCan p.inst off
  | .upd => s.viewUpd off
  | .svc => if off = 0x44 then some s.svcStatus else none

/-- Registers that count internal faults and read as zero for every facet other than F0 (R423). -/
def faultCounters : List Nat :=
  [A.bufMappedOut, A.bufDbe, A.bufCorr, A.tblRepairs, A.tblShadowLost, A.tblDynDrop, A.brgRepairs, A.brgShadowLost]

/-- Whether the facet of a request reads the staging view (R634). -/
def State.stagedView (s : State) (f : Nat) : Bool := tst (s.reg (selKey A.sysStageView f)) 0

/-- The bank that a facet's reads of staged registers show (R13, R634). -/
def State.viewBank (s : State) (f : Nat) : Bank := if s.stagedView f then s.staging else s.live

/-- A register as it reads for a request, without the effects of reading it. The caller has judged its rights. -/
def State.viewReg (s : State) (q : Req) (addr : Nat) : W32 :=
  match pageOf addr with
  | none => 0
  | some p =>
    let off := addr % 0x1000
    if p.kind = .aperture then s.apertureHeader p off
    else if off < 0x40 then s.header p q.facet off (s.viewBank q.facet)
    else if q.facet ≠ 0 ∧ faultCounters.contains addr then 0
    else
      match regRow addr with
      | none => 0
      | some r =>
        if r.acc = .wo then 0
        else
          match s.computed q p off with
          | some v => v
          | none =>
            let key := s.keyAt p q.facet addr
            if r.acc = .rws then (s.viewBank q.facet).regs.read key else s.reg key

end Sys2Proof.Machine
end

