-- ==== Sys2Proof/Machine/Access.lean ====
section
/-! DEFINITION. Register accesses: the rights of facets (R420–R425 and the rights rules of the block chapters), reads with
their effects (R9, R92, R369, R631), and writes by access code (R10–R12, R38), by lock (R207, R439) and by what each register
does when it is written. The far side of an aperture is in Window. -/

namespace Sys2Proof.Machine

/-! ## Rights -/

/-- Offsets of a page that every facet reads (R621). -/
def openHeader (off : Nat) : Bool := off = 0 || off = 4 || off = 0x30 || off = 0x3C

/-- The check unit that an offset of the check page belongs to. -/
def chkUnitOf (off : Nat) : Nat := if off < 0x400 then (off - 0x100) / 0x40 % 8 else (off - 0x400) / 0x10 % 8

/-- Registers that a block chapter opens to a facet other than F0 by name, for reading (R422). -/
def State.namedRead (s : State) (b : Bank) (p : PageRef) (f off : Nat) : Bool :=
  match p.kind with
  | .sys => off = 0x60 || off = 0x70 || off = 0x464 || (decide (0x610 ≤ off) && decide (off < 0x6C4))
      || decide (off = 0x200 + 8 * f) || decide (off = 0x204 + 8 * f)
  | .loc =>
    decide (0x400 + 0x20 * f ≤ off) && decide (off < 0x420 + 0x20 * f)
      && (decide (off % 0x20 = 0) || decide (b.bound (fld (s.reg (A.locTxqSel f)) 0 7) = f))
  | .buf => decide (off = 0xC0 + 4 * f) || decide (off / 0x10 = (0x100 + 0x10 * f) / 0x10)
  | .que => decide (off = 0x40 + 4 * f) || (decide (0x100 ≤ off) && decide (b.bound (s.winVertex f) = f))
  | .tbl => decide (off = 0x100 + 4 * f)
  | .latDisp => decide (off = 0xC0 + 4 * f) || decide (off = 0x100 + 4 * f)
      || (([0x220, 0x224, 0x228].contains off || (decide (0x240 ≤ off) && decide (off < 0x280))) && tst (b.regs.read (selKey A.latDeCtrl (s.deIndex f))) (16 + f))
  | .eth => decide (b.bound p.inst = f) && ([0x44, 0xC4, 0xCC, 0xE0, 0x804].contains off
      || (decide (0x200 ≤ off) && decide (off < 0x300)) || (decide (0x840 ≤ off) && decide (off < 0x8E0)))
  | .window => (decide (off % 0x40 = 4) || decide (off % 0x40 = 8)) && decide (0x100 ≤ off)
      && decide (fld (b.regs.read (A.brgWinCtrl ((off - 0x100) / 0x40))) 8 4 = f)
  | .chk => decide (0x100 ≤ off) && decide (fld (b.regs.read (A.chkUCtrl (chkUnitOf off))) 0 4 = f)
  | .wak => off = 0x48 || off = 0x74
  | .wakCan => decide (0x100 ≤ off) && decide (b.bound (48 + 6 * p.inst + (off - 0x100) / 0x200) = f)
  | .svc => decide (f = 15)
  | _ => false

/-- Whether a request may read a register (R421–R423, R47, R453, R494, R621). -/
def State.mayRead (s : State) (q : Req) (p : PageRef) (off : Nat) : Bool :=
  let f := q.facet
  let b := s.bankOf q.epoch
  let owner := b.regs.read (p.base + 0x30)
  if f = 0 ∨ openHeader off then true
  else if p.kind = .aperture then (off = 0x0C || decide (0x40 ≤ off)) && decide (fld (b.regs.read (A.brgWinCtrl p.inst)) 8 4 = f)
  else if p.kind = .cipReq then decide (f = p.inst)
  else if s.namedRead b p f off then true
  else if p.kind = .sys ∧ 0x200 ≤ off ∧ off < 0x280 then false
  else decide (fld owner 0 4 = f) || tst owner (16 + f)

/-- Pages that a facet named in OWNER.FACET may write (R421); on the others the block chapters leave writing to F0. -/
def PageKind.ownerWrites : PageKind → Bool
  | .loc => true | .tbl => true | .fieldBus => true | .can => true | .lin => true | .brg => true | .window => true
  | _ => false

/-- Registers of those pages that stay with F0: the header registers of R421, the phase adjustment of R72. -/
def reservedToF0 (p : PageRef) (off : Nat) : Bool :=
  off = 0x10 || off = 0x14 || off = 0x1C || off = 0x30 || (decide (p.kind = .loc) && (off = 0x5C || off = 0x60))

/-- Registers that a block chapter opens to a facet other than F0 by name, for writing (R421). The registers that refuse a
tenant by a result of their own (SYS_EPOCH_CTRL, PLN_MOVE, WAK_CMD) answer for themselves. -/
def State.namedWrite (s : State) (b : Bank) (p : PageRef) (f off : Nat) : Bool :=
  match p.kind with
  | .sys => [0x70, 0x100, 0x460].contains off || (decide (0x610 ≤ off) && decide (off < 0x668))
  | .pwr => decide (f = 15) && off = 0x7C
  | .loc => decide (off = 0x400 + 0x20 * f)
      || (decide (off = 0x418 + 0x20 * f) && decide (b.bound (fld (s.reg (A.locTxqSel f)) 0 7) = f))
  | .pln => off = 0x48
  | .que => decide (off = 0x40 + 4 * f)
  | .latDisp => off = 0x200
  | .window => (decide (off % 0x40 = 4) || decide (off % 0x40 = 8)) && decide (0x100 ≤ off)
      && decide (fld (b.regs.read (A.brgWinCtrl ((off - 0x100) / 0x40))) 8 4 = f)
  | .chk => decide (0x100 ≤ off) && decide (fld (b.regs.read (A.chkUCtrl (chkUnitOf off))) 0 4 = f)
  | .wak => off = 0x44 || off = 0x74
  | _ => false

/-- Whether a request may write a register (R421). -/
def State.mayWrite (s : State) (q : Req) (p : PageRef) (off : Nat) : Bool :=
  let f := q.facet
  let b := s.bankOf q.epoch
  let winReg := decide (p.kind = .window) && decide (0x100 ≤ off) && (decide (off % 0x40 = 4) || decide (off % 0x40 = 8))
  if f = 0 then true
  else if p.kind = .aperture then decide (0x40 ≤ off) && decide (fld (b.regs.read (A.brgWinCtrl p.inst)) 8 4 = f)
  else if p.kind = .cipReq then decide (f = p.inst) && !reservedToF0 p off
  else if s.namedWrite b p f off then true
  else p.kind.ownerWrites && decide (fld (b.regs.read (p.base + 0x30)) 0 4 = f) && !reservedToF0 p off && !winReg

/-! ## Locks and leases of an access -/

/-- The command port that an address belongs to; ports 4 and 5 are the rule ports. -/
def portAt (p : PageRef) (off : Nat) : Option Nat :=
  if p.kind = .tbl ∧ 0x200 ≤ off ∧ off < 0x400 then some ((off - 0x200) / 0x80)
  else if p.kind = .brg ∧ 0x200 ≤ off ∧ off < 0x280 then some (4 + (off - 0x200) / 0x40)
  else none

/-- An access renews the leases of the page and of the port it goes to, when its facet holds them (R440). -/
def renewAccess (q : Req) (p : PageRef) (off : Nat) (s : State) : State :=
  let s := renewLock (p.base / 0x1000) q.facet s
  match portAt p off with
  | none => s
  | some k => renewLock (portLock k) q.facet s

/-- Whether a page lock of another facet refuses a write (R439): all writes but F0's FORCE to LOCK. -/
def State.lockedOut (s : State) (q : Req) (p : PageRef) (off : Nat) (v : W32) : Bool :=
  match s.lockOf (p.base / 0x1000) with
  | none => false
  | some l => decide (l.holder ≠ q.facet) && !(decide (q.facet = 0) && off = 0x3C && tst v 8)

/-! ## Reads -/

/-- Key of a latched or held half for a facet. -/
def halfKey (addr f : Nat) : Nat := addr * 16 + f

/-- Latches what a register shows to a facet (R9). -/
def latch (q : Req) (addr : Nat) (s : State) : State :=
  { s with hiLatch := SMap.put none s.hiLatch (halfKey addr q.facet) (some (s.viewReg q addr)) }

/-- The latched value of a register for a facet, or what it shows. -/
def State.latched (s : State) (q : Req) (addr : Nat) : W32 :=
  (SMap.get none s.hiLatch (halfKey addr q.facet)).getD (s.viewReg q addr)

/-- A read of the _LO half of an RC counter (R369). -/
def readCounter (q : Req) (addr : Nat) (s : State) : W32 × State :=
  let key := addr + 2 ^ 24 * (if q.facet = 0 then 0 else 1)
  let total := SMap.get 0 s.counters addr
  let d := total - SMap.get 0 s.baseline key
  (loW d, { s with baseline := SMap.put 0 s.baseline key total,
                   hiLatch := SMap.put none s.hiLatch (halfKey (addr + 4) q.facet) (some (hiW d)) })

/-- What a read of a register does beside returning its value: a read of an empty queue sets UNDERRUN (R92, R447, R502); a read
of FAULT_CODE latches the other fault registers (R631); a measurement takes the next free value. -/
def readEffect (q : Req) (p : PageRef) (addr : Nat) (s : State) : State :=
  let off := addr % 0x1000
  if measured addr then freshen s
  else
    match p.kind with
    | .sys =>
      if 0x614 ≤ off ∧ off < 0x624 then
        let k := s.ringOf q.facet
        let r := s.ring k
        if r.entries = [] then { s with rings := SMap.put EvRing.reset s.rings k { r with under := true } } else s
      else s
    | .loc =>
      if 0x400 ≤ off ∧ off < 0x600 ∧ 8 ≤ off % 0x20 ∧ off % 0x20 < 0x18 then
        let n := (off - 0x400) / 0x20
        if (s.txQueue (fld (s.reg (A.locTxqSel n)) 0 7)).entries = [] then setReg (A.locTxqStatus n) 0x100 s else s
      else if 0xA00 ≤ off ∧ off < 0xB00 ∧ 8 ≤ off % 0x20 ∧ off % 0x20 < 0x18 then
        let n := (off - 0xA00) / 0x20
        let u := s.cap n
        if u.fifo = [] then { s with caps := SMap.put CapUnit.reset s.caps n { u with under := true } } else s
      else s
    | .cipReq =>
      if 0x70 ≤ off ∧ off < 0x80 ∧ (s.cipFacet p.inst).comps = [] then
        setCipFacet p.inst { s.cipFacet p.inst with under := true } s
      else s
    | _ => s

/-- A read of FAULT_CODE by F0 latches FAULT_ADDR and the stamp (R631). -/
def latchFault (p : PageRef) (s : State) : State :=
  { s with faultLatch := SMap.put [] s.faultLatch p.base [s.reg (p.base + 0x24), s.reg (p.base + 0x28), s.reg (p.base + 0x2C)] }

/-- The value of a permitted read with its effects. The _HI half of a counter that no read of its _LO half has latched reads 0, and that of any
other pair reads as it stands (DESIGN CHOICE: log entry 22). -/
def readOpen (q : Req) (p : PageRef) (addr : Nat) (s : State) : W32 × State :=
  let off := addr % 0x1000
  if p.kind = .aperture then (s.viewReg q addr, s)
  else
    match regRow addr with
    | none => (0, s)
    | some r =>
      if off = 0x20 then (s.viewReg q addr, if q.facet = 0 then latchFault p s else s)
      else if r.acc = .rc then
        if r.pair = .lo then readCounter q addr s else ((SMap.get none s.hiLatch (halfKey addr q.facet)).getD 0, s)
      else if addr = A.locTimeSecLo then
        (s.viewReg q addr, latch q A.locTimeFrac (latch q A.locTimeNs (latch q A.locTimeSecHi s)))
      else if r.pair = .lo then (s.viewReg q addr, latch q (addr + 4) (readEffect q p addr s))
      else if r.pair = .hi ∨ addr = A.locTimeNs ∨ addr = A.locTimeFrac then (s.latched q addr, readEffect q p addr s)
      else (s.viewReg q addr, readEffect q p addr s)

/-- A read of one word (R6, R422, R423, R617): its result, its data and the state it leaves. -/
def readReg (q : Req) (addr : Nat) (s : State) : Rsp × W32 × State :=
  if addr % 4 ≠ 0 then (.align, 0, s)
  else
    match pageOf addr with
    | none => (.unmapped, 0, s)
    | some p =>
      let off := addr % 0x1000
      let outside := decide (p.kind = .rng) && decide (0x800 ≤ off) && !inRing (s.dwBase + (off - 0x800)) 4
      if !s.mayRead q p off ∨ outside then (.rights, 0, s)
      else
        let (v, s) := readOpen q p addr (renewAccess q p off s)
        (.ok, v, s)

/-! ## Writes -/

/-- The word that a register holds after a write: the reserved bits keep their fixed value (R11). -/
def RegRow.fit (r : RegRow) (v : W32) : W32 := (v &&& w32 r.mask) ||| (w32 r.reset &&& ~~~(w32 r.mask))

/-- Stores a word in a register of the given access code. -/
def store (r : RegRow) (key : Nat) (v : W32) (s : State) : State :=
  match r.acc with
  | .rw => setReg key (r.fit v) s
  | .rws => setStaged key (r.fit v) s
  | .w1c => setReg key (s.reg key &&& ~~~v) s
  | .wo => setReg key (r.fit v) s
  | _ => s

/-- Holds the _LO half of a pair (R10). -/
def holdLo (f addr : Nat) (v : Option W32) (s : State) : State :=
  { s with loHeld := SMap.put none s.loHeld (halfKey addr f) v }

/-- The current _LO half that an _HI write commits: the held one, or the one in place (R10). -/
def State.loHalf (s : State) (r : RegRow) (f addr key : Nat) : W32 :=
  (SMap.get none s.loHeld (halfKey addr f)).getD (if r.acc = .rws then s.stg key else s.reg key)

/-- A write of a register that only stores it: a pair under R10, any other at once. -/
def storeWrite (q : Req) (p : PageRef) (addr : Nat) (r : RegRow) (v : W32) (s : State) : State :=
  let f := q.facet
  let key := s.keyAt p f addr
  match r.pair with
  | .none => store r key v s
  | .lo => holdLo f addr (some v) s
  | .hi =>
    let lo := addr - 4
    let loKey := s.keyAt p f lo
    match regRow lo with
    | none => store r key v s
    | some rl => holdLo f lo none (store r key v (store rl loKey (s.loHalf rl f lo loKey) s))

/-- A register whose field takes values of a range only (R107, R262, R517): a write outside it has no effect. -/
def writeRanged (addr lo hi : Nat) (r : RegRow) (v : W32) (s : State) : Rsp × State :=
  let x := (v &&& w32 r.mask).toNat
  if lo ≤ x ∧ x ≤ hi then (.ok, store r addr v s) else (.range, s)

/-- The answer of a write that is accepted. -/
def done (s : State) : Option (Rsp × State) := some (.ok, s)

/-- A pop of the event window (R447, R448): the oldest entry goes; the space it frees takes one catch-up entry, the lowest source
first. -/
def evPopped (k : Nat) (s : State) : State :=
  let r := s.ring k
  match r.entries with
  | [] => { s with rings := SMap.put EvRing.reset s.rings k { r with under := true } }
  | e :: l =>
    let r : EvRing := { r with entries := l, last := e, under := false }
    let r : EvRing := match r.ovf with
      | (src, some o) :: m => { r with entries := l ++ [⟨src, true, o.count, o.first⟩], ovf := m, episode := decide (m ≠ []) }
      | _ => { r with episode := false }
    { s with rings := SMap.put EvRing.reset s.rings k r }

/-- SYS_EV_CTRL (R447): NOTIFY of the ring shown. -/
def evCtrlWritten (k : Nat) (v : W32) (s : State) : State :=
  { s with rings := SMap.put EvRing.reset s.rings k { s.ring k with notify := tst v 0 } }

/-- Records the outcome of a facet's write of SYS_FACET_RESET (R442). -/
def resetRecorded (f named result : Nat) (s : State) : State :=
  { s with facetResets := SMap.put none s.facetResets f (some (named, result)) }

/-- A write of SYS_FACET_RESET (R442). -/
def facetResetWritten (q : Req) (v : W32) (s : State) : Rsp × State :=
  let g := fld v 0 4
  if !tst v 8 then (.ok, s)
  else if q.facet ≠ 0 ∧ g ≠ q.facet then (.rights, resetRecorded q.facet g 1 s)
  else if s.facetReset.isSome then (.ok, resetRecorded q.facet g 2 s)
  else
    (.ok, resetRecorded q.facet g 0 { s with facetReset := some ⟨g, s.now, 0, none⟩ })

/-- What writes of the system page do beyond storing. -/
def writeSys (q : Req) (off : Nat) (v : W32) (s : State) : Option (Rsp × State) :=
  let f := q.facet
  if off = 0x100 then some (epochCtrlWritten f v s)
  else if 0x108 ≤ off ∧ off ≤ 0x110 then if s.armed then some (.armed, s) else none
  else if off = 0x460 then some (facetResetWritten q v s)
  else if off = 0x624 then done (if tst v 0 then evPopped (s.ringOf f) s else s)
  else if off = 0x628 then done (evCtrlWritten (s.ringOf f) v s)
  else if off = 0x300 + 4 * 84 then done s
  else none

/-- What writes of the locus page do beyond storing. LOC_ADJ_SEC is stored whatever the servo's state (DESIGN CHOICE: log entry 66). -/
def writeLoc (q : Req) (off : Nat) (r : RegRow) (v : W32) (s : State) : Option (Rsp × State) :=
  let addr := 0x20000 + off
  if off = 0x40 then done (locCtrlWritten (v &&& 3) s)
  else if off = 0x58 then done (locRateWritten v s)
  else if off = 0x60 then some (locAdjWritten v s)
  else if off = 0x68 then some (writeRanged addr 1 500 r v s)
  else if off = 0x74 then some (writeRanged addr 1 255 r v s)
  else if off = 0x80 ∨ off = 0x84 then if s.loc.st = .free then none else some (.conflict, s)
  else if 0x400 ≤ off ∧ off < 0x600 then
    let n := (off - 0x400) / 0x20
    if off % 0x20 = 0 then
      if n = 0 ∨ (s.bankOf q.epoch).bound (fld v 0 7) = n then none else some (.rights, s)
    else if off % 0x20 = 0x18 then done (if tst v 0 then txqPopped n s else s)
    else none
  else if 0xA00 ≤ off ∧ off < 0xB00 ∧ off % 0x20 = 0x1C then done (if tst v 0 then capPopped ((off - 0xA00) / 0x20) s else s)
  else none

/-- A write of a register of a command port (R206–R208, R325). -/
def writePort (q : Req) (k off : Nat) (v : W32) (s : State) : Option (Rsp × State) :=
  let span := if k < 4 then 0x80 else 0x40
  if off % span = 0 then some (lockWritten (portLock k) q.facet v .rights s)
  else if !s.holds (portLock k) q.facet then some (.rights, s)
  else if off % span = 4 then some (if k < 4 then tblOpWritten q.facet k v s else ruleOpWritten q.facet (k - 4) v s)
  else none

/-- What writes of the table page do beyond storing. -/
def writeTbl (q : Req) (p : PageRef) (off : Nat) (r : RegRow) (v : W32) (s : State) : Option (Rsp × State) :=
  match portAt p off with
  | some k => writePort q k off v s
  | none =>
    if off = 0x44 then done (seedWritten (store r A.tblHashSeed v s))
    else if off = 0x81C then done (sfUnblock v s)
    else none

/-- What writes of the lattice pages do beyond storing. -/
def writeLat (p : PageRef) (off : Nat) (r : RegRow) (v : W32) (s : State) : Option (Rsp × State) :=
  if p.kind = .latDisp then
    if off = 0x50 then some (writeRanged A.latCheckPeriod 10 1000 r v s)
    else if off = 0x54 then done (latForceWritten v s)
    else none
  else if off = 0x4C then done (segCtrlWritten v s)
  else if off = 0x5C then some (psDataWritten v s)
  else if off = 0x44 ∨ off = 0x48 then if (s.seg (fld (s.reg A.latSegIndex) 0 6)).st = 0 then none else done s
  else none

/-- What writes of the check page do beyond storing. -/
def writeChk (q : Req) (off : Nat) (r : RegRow) (v : W32) (s : State) : Option (Rsp × State) :=
  let u := chkUnitOf off
  if 0x400 ≤ off then none
  else if off % 0x40 = 0 ∧ q.facet ≠ 0 then
    let key := A.chkUCtrl u
    done (setStaged key (setFld (r.fit v) 0 4 (fld (s.stg key) 0 4)) s)
  else if off % 0x40 = 0x20 then
    let lo := A.chkURunLo u
    let w := (SMap.get none s.loHeld (halfKey lo q.facet)).getD (s.reg lo)
    done (holdLo q.facet lo none (runWritten u (pair w v) s))
  else if off % 0x40 = 0x3C then done (scanWritten q.facet u v s)
  else none

/-- What writes of a cipher request page do beyond storing. -/
def writeCipReq (n off : Nat) (v : W32) (s : State) : Option (Rsp × State) :=
  if off = 0x60 then done (if tst v 0 then submitWritten n s else s)
  else if off = 0x80 then done (if tst v 0 then cqPopped n s else s)
  else if off = 0xC0 then done (ksCmdWritten n v s)
  else if 0x400 ≤ off then done (putArea n (s.cipWinOff n off) (leBytes 4 v.toNat) s)
  else none

/-- What writes of the ring page do beyond storing. -/
def writeRng (off : Nat) (v : W32) (s : State) : Option (Rsp × State) :=
  if 0x800 ≤ off then
    let a := s.dwBase + (off - 0x800)
    if inRing a 4 then done (dramPutWord a v s) else some (.rights, s)
  else if 0x400 ≤ off ∧ off < 0x500 then
    let k := (off - 0x400) / 0x40
    if off % 0x40 = 0x08 then done (injDataWritten k v s)
    else if off % 0x40 = 0x0C then done (injEndWritten k v s)
    else if off % 0x40 = 0x10 then done (injCmdWritten k v s)
    else none
  else none

/-- What writes of the update page do beyond storing. The verdict of the signature in UPD_SIG_WIN is a free bit. -/
def writeUpd (off : Nat) (v : W32) (s : State) : Option (Rsp × State) :=
  if off = 0x54 then done (updCmdWritten v s)
  else if off = 0x60 then done (updWrDataWritten v s)
  else if off = 0xB0 then done (if tst v 8 then freshen (lcReqWritten v s.freeBit s) else s)
  else none

/-- What a write of SVC_FORCE_LOCK does (R610): unlock ends, with event 314 when it was in force. -/
def forceLocked (v : W32) (s : State) : State :=
  if tst v 0 ∧ s.svc.unlock ≠ 0 then raise 314 { s with svc := { s.svc with unlock := 0 } } else s

/-- What a write of a block register does beyond storing the word; none for a register that only stores it. -/
def writeEffect (q : Req) (p : PageRef) (addr : Nat) (r : RegRow) (v : W32) (s : State) : Option (Rsp × State) :=
  let off := addr % 0x1000
  match p.kind with
  | .sys => writeSys q off v s
  | .pwr => if off = 0x7C then done (resetCmdWritten q.facet v s) else none
  | .loc => writeLoc q off r v s
  | .pln =>
    if off = 0x48 then some (plnMoveWritten q.facet v s)
    else if off = 0x50 then some (plnForceWritten v s)
    else none
  | .que =>
    if off < 0x100 ∧ q.facet ≠ 0 ∧ (s.bankOf q.epoch).bound (fld v 0 7) ≠ q.facet then some (.rights, s) else none
  | .tbl => writeTbl q p off r v s
  | .latDisp => writeLat p off r v s
  | .latProg => writeLat p off r v s
  | .eth => if off = 0x110 then done (secTxAnWritten p.inst v s) else none
  | .can =>
    if off = 0x60 then
      let s := if tst v 0 then canRecovered p.inst s else s
      done (if tst v 1 then ttRestarted p.inst s else s)
    else none
  | .lin => if off % 0x400 = 0x108 then done (linSelWritten (2 * p.inst + off / 0x400) v s) else none
  | .brg => match portAt p off with
    | some k => writePort q k off v s
    | none => none
  | .cip => if off = 0x44 then some (writeRanged A.cipKatPeriod 10 1000 r v s) else none
  | .chk => writeChk q off r v s
  | .cipReq => writeCipReq p.inst off v s
  | .jrn => if off = 0x88 then done (rdReqWritten v s) else none
  | .rng => writeRng off v s
  | .wak =>
    if off = 0x44 then some (wakCmdWritten q.facet v s)
    else if off = 0x74 then done (facetKeepWritten q.facet v s)
    else none
  | .upd => writeUpd off v s
  | .svc => if off = 0x58 then done (forceLocked v s) else none
  | .buf => none
  | .latCell => none
  | .ethCommon => none
  | .fieldBus => none
  | .window => none
  | .accord => none
  | .aperture => none
  | .wakCan => none

/-- A permitted write of a header register (R420, R439, R445, R622, R630). -/
def writeHeader (q : Req) (p : PageRef) (off : Nat) (v : W32) (s : State) : Rsp × State :=
  let addr := p.base + off
  if off = 0x08 then pageCtrlWritten p v s
  else if off = 0x10 then (.ok, setReg addr (s.reg addr &&& ~~~v) s)
  else if off = 0x14 then (.ok, setReg addr v s)
  else if off = 0x1C then (.ok, setReg addr ((v &&& 0xFFFE) ||| 1) s)
  else if off = 0x30 then if s.armed then (.armed, s) else (.ok, setStaged addr (v &&& 0xFFFF000F) s)
  else if off = 0x3C then lockWritten (p.base / 0x1000) q.facet v .locked s
  else (.ok, s)

/-- Whether a register belongs to a command port that the facet does not hold: every write of it but one of LOCK is refused (R207). -/
def State.portClosed (s : State) (q : Req) (p : PageRef) (addr : Nat) : Bool :=
  let off := addr % 0x1000
  match portAt p off with
  | none => false
  | some k => decide (off % (if k < 4 then 0x80 else 0x40) ≠ 0) && !s.holds (portLock k) q.facet

/-- A permitted write of a block register (R10–R12, R38). -/
def writeBlock (q : Req) (p : PageRef) (addr : Nat) (v : W32) (s : State) : Rsp × State :=
  match regRow addr with
  | none => (.ok, s)
  | some r =>
    if s.portClosed q p addr then (.rights, s)
    else if r.acc = .ro ∨ r.acc = .rc then (.ok, s)
    else if r.acc = .rws ∧ s.armed then (.armed, s)
    else
      match writeEffect q p addr r v s with
      | some x => x
      | none => (.ok, storeWrite q p addr r v s)

/-- A write of one word (R6, R421, R439, R617): its result and the state it leaves. An aperture's header ignores writes
(R636); its window is written through Window. -/
def writeReg (q : Req) (addr : Nat) (v : W32) (s : State) : Rsp × State :=
  if addr % 4 ≠ 0 then (.align, s)
  else
    match pageOf addr with
    | none => (.unmapped, s)
    | some p =>
      let off := addr % 0x1000
      if !s.mayWrite q p off then (.rights, s)
      else if p.kind = .aperture then (.ok, s)
      else if s.lockedOut q p off v then (.locked, s)
      else
        let s := renewAccess q p off s
        if off < 0x40 then writeHeader q p off v s else writeBlock q p addr v s

end Sys2Proof.Machine
end

