-- ==== Sys2Proof/Machine/Oct.lean ====
section
/-! DEFINITION. Octiq Control Transport (R427–R438): the bytes of requests and replies, sessions, sequence numbers and the reply
cache, and the end of a frame. What the operations do is in Control. -/

namespace Sys2Proof.Machine

/-! ## Results and layout -/

/-- Code of a result (R430). -/
def Rsp.code : Rsp → Nat
  | .ok => 0 | .rights => 1 | .align => 2 | .conflict => 3 | .armed => 4 | .locked => 5 | .unmapped => 6 | .range => 7
  | .notExecuted => 8 | .farError => 9 | .farTimeout => 10 | .peerDown => 11 | .lost => 12 | .badOp => 13 | .busy => 14

/-- The result of a code. -/
def Rsp.ofCode (n : Nat) : Rsp :=
  ([.ok, .rights, .align, .conflict, .armed, .locked, .unmapped, .range, .notExecuted, .farError, .farTimeout, .peerDown, .lost,
    .badOp, .busy] : List Rsp).getD n .farError

/-- Words of an operation in a request (R428); none for an undefined code. -/
def reqWords (code n : Nat) : Option Nat :=
  if code = 1 then some 0 else if code = 2 then some n else if code = 3 then some 2 else if code = 4 ∨ code = 5 then some 0
  else if code = 6 ∨ code = 7 then some 1 else none

/-- Words of an operation in a reply (R428). -/
def replyWords (o : OctOp) : Nat := if o.code = 1 then o.n else if o.code = 4 ∨ o.code = 6 ∨ o.code = 7 then 1 else 0

/-- FLAGS that an operation may set (R428): RENEW of LOCK, and ABORT of UNLOCK, which a window bridge alone sets. -/
def flagsOf (code : Nat) (peer : Bool) : Nat := if code = 4 then 1 else if code = 5 ∧ peer then 2 else 0

/-- Reads one operation (R428): none when it is truncated, undefined or sets a reserved bit. -/
def octOp (peer : Bool) (l : List Byte) : Option (OctOp × List Byte) :=
  let code := byteAt l 0
  let n := byteAt l 1
  let flags := byteAt l 2
  let ok := decide (8 ≤ l.length) && decide (byteAt l 3 = 0) && (flags = 0 || decide (flags = flagsOf code peer))
    && (if code = 1 ∨ code = 2 then decide (1 ≤ n) && decide (n ≤ 16) else decide (n = 1))
  match reqWords code n with
  | none => none
  | some k =>
    if !ok ∨ l.length < 8 + 4 * k then none
    else some (⟨code, n, flags, beAt l 4 4, (List.range k).map (fun i => w32 (beAt l (8 + 4 * i) 4))⟩, l.drop (8 + 4 * k))

/-- Reads a number of operations. -/
def octOps (peer : Bool) : Nat → List Byte → Option (List OctOp × List Byte)
  | 0, l => some ([], l)
  | k + 1, l =>
    match octOp peer l with
    | none => none
    | some (o, l) => (octOps peer k l).map (fun r => (o :: r.1, r.2))

/-- A request as its bytes say it (R427): `size` is the length of its payload to the end of its last operation. -/
structure OctReq where
  opens : Bool
  stop : Bool
  sid : Nat
  peer : Bool
  rank : Nat
  seqNo : W32
  ops : List OctOp
  size : Nat
  deriving DecidableEq, Repr

/-- What a payload is (R427, R428): of no known version; a reply or notification; malformed; a request. -/
inductive OctKind where
  | unknown | answer | malformed
  | request (r : OctReq)
  deriving DecidableEq, Repr

/-- Reads a payload (R427, R428). -/
def octRead (d : List Byte) : OctKind :=
  let b1 := byteAt d 1
  let b2 := byteAt d 2
  let count := byteAt d 3
  let peer := decide (b2 / 4 % 2 = 1)
  let bad := decide (d.length < 12) || decide (b1 / 8 ≠ 0) || decide (b2 / 64 ≠ 0) || decide (count = 0) || decide (64 < count)
    || decide (beAt d 8 4 ≠ 0)
  if byteAt d 0 ≠ 1 then .unknown
  else if b1 % 2 = 1 ∨ b1 / 16 % 2 = 1 then .answer
  else if bad then .malformed
  else
    match octOps peer count (d.drop 12) with
    | none => .malformed
    | some (ops, rest) =>
      .request ⟨decide (b1 / 2 % 2 = 1), decide (b1 / 4 % 2 = 1), b2 % 4, peer, b2 / 8 % 8, w32 (beAt d 4 4), ops,
        d.length - rest.length⟩

/-- The header of a reply (R427). -/
def replyHead (cached : Bool) (sid count : Nat) (seqNo : W32) (status first : Nat) : List Byte :=
  beBytes 1 1 ++ beBytes 1 (1 + 8 * bit cached) ++ beBytes 1 (sid % 4) ++ beBytes 1 count ++ beBytes 4 seqNo.toNat ++ beBytes 1 status
    ++ beBytes 1 first ++ [0, 0]

/-- An operation in a reply (R428). -/
def replyOp (o : OctOp) (r : OctRes) : List Byte :=
  beBytes 1 (o.code + 128) ++ beBytes 1 o.n ++ beBytes 1 r.rsp.code ++ [0] ++ beBytes 4 o.addr
    ++ ((List.range (replyWords o)).map (fun i => beBytes 4 (r.words.getD i 0).toNat)).flatten

/-- Index of the first result other than OK; 0xFF when there is none. -/
def firstFail (l : List OctRes) : Nat := if l.all (fun r => decide (r.rsp = .ok)) then 0xFF else l.findIdx (fun r => decide (r.rsp ≠ .ok))

/-- The reply of a frame whose operations are done (R427, R428). -/
def OctExec.reply (x : OctExec) : List Byte :=
  replyHead false x.sid x.ops.length x.seqNo 0 (firstFail x.done) ++ ((x.ops.zip x.done).map (fun p => replyOp p.1 p.2)).flatten

/-- Length of the frame that carries the reply to a request, with its FCS (R428). -/
def replyFrame (p : OctPeer) (ops : List OctOp) : Nat :=
  let payload := 12 + (ops.map (fun o => 8 + 4 * replyWords o)).sum
  18 + (if p.tci.isSome then 4 else 0) + (if p.udp.isSome then 28 else 0) + payload

/-! ## Sessions -/

/-- Changes a session. -/
def setSession (k : Nat) (x : Session) (s : State) : State := { s with sessions := SMap.put Session.reset s.sessions k x }

/-- The sessions of a facet (R434): its own four, and those of the accord ranks when it is the peer facet. -/
def State.facetSessions (s : State) (f : Nat) : List Nat :=
  (List.range 4).map (fun i => f * 4 + i)
    ++ (if fld (s.cfg A.brgAccCtrl) 4 4 = f then (List.range 8).map (fun r => 64 + r) else [])

/-- Closes a session: its cache goes, its counters stay (R434). -/
def closeSession (k : Nat) (s : State) : State :=
  setSession k { s.session k with isOpen := false, cache := [], opened := none } s

/-- The CONTROL record of a frame (R391): operations executed, result of the first failing one. -/
def controlRec (i : Item) (facet sid : Nat) (line : Bool) (executed failed : Nat) (seqNo : W32) (s : State) : State :=
  stage ⟨recOf i.key 3 facet 0 0 false false i.epoch (w32 (sid % 4 + bit line * 4 + executed % 256 * 2 ^ 8 + failed * 2 ^ 16)) seqNo,
    none⟩ s

/-- A status-only reply (R427, R434–R437); MALFORMED and TOO_BIG are counted for the module, STALE, SEQ_REUSE and BUSY for the
session, with event 4. -/
def statusOnly (status sid k : Nat) (seqNo : W32) (i : Item) (p : OctPeer) (s : State) : State :=
  let s := sendOct p (replyHead false sid 0 seqNo status 0xFF) s
  let s := controlRec i i.facet sid false 0 0 seqNo s
  if status = 3 ∨ status = 4 then bump A.sysOctMalformed s
  else if status = 6 then s
  else
    let x := s.session k
    raise 4 (setSession k { x with stale := x.stale + 1 } s)

/-! ## The end of a monitor line (R606) -/

/-- A word in hexadecimal. -/
def hexWord (w : W32) : String :=
  String.ofList ((List.range 8).map (fun i => let d := w.toNat / 16 ^ (7 - i) % 16
    Char.ofNat (if d < 10 then 48 + d else 55 + d)))

/-- Name of a result (R430). -/
def Rsp.name : Rsp → String
  | .ok => "OK" | .rights => "RIGHTS" | .align => "ALIGN" | .conflict => "CONFLICT" | .armed => "ARMED" | .locked => "LOCKED"
  | .unmapped => "UNMAPPED" | .range => "RANGE" | .notExecuted => "NOT_EXECUTED" | .farError => "FAR_ERROR"
  | .farTimeout => "FAR_TIMEOUT" | .peerDown => "PEER_DOWN" | .lost => "LOST" | .badOp => "BAD_OP" | .busy => "BUSY"

/-- The line at the front has executed: it is answered OK with data lines, or ER with the name of the result (R606); its CONTROL record
says how many operations it executed (R20, R391). -/
def monEnds (ops : Nat) (r : Rsp) (out : List String) (s : State) : State :=
  match s.svc.lines with
  | [] => s
  | i :: l =>
    let s : State := consume i.uid { s with svc := { s.svc with lines := l, held := false } }
    let s := controlRec i 15 0 true ops r.code 0 (bump A.svcLines s)
    say (if r = .ok then "OK" :: out else ["ER " ++ r.name]) s

/-! ## The end of a frame -/

/-- The operations of a frame that have executed. -/
def OctExec.executed (x : OctExec) : Nat := (x.done.filter (fun r => decide (r.rsp ≠ .notExecuted))).length

/-- The item of a frame, as far as its record needs it. -/
def OctExec.item (x : OctExec) : Item :=
  { Item.nil with stamp := x.stamp, vertex := x.vertex, seq := x.itemSeq, epoch := x.epoch, facet := x.facet }

/-- Code of the first failing result of a frame; 0 when none failed. -/
def OctExec.failed (x : OctExec) : Nat := ((x.done.find? (fun r => decide (r.rsp ≠ .ok))).map (fun r => r.rsp.code)).getD 0

/-- The CONTROL record of a frame that has ended. -/
def endRec (x : OctExec) (s : State) : State := controlRec x.item x.facet x.sid false x.executed x.failed x.seqNo s

/-- A frame whose last operation is done is answered, and its reply kept (R432, R435); a device reset that it asked for follows the
reply, which has left by then (R579). -/
def finishOct (x : OctExec) (s : State) : State :=
  let reply := x.reply
  let s : State := { s with octRun := s.octRun.filter (fun y => y.id ≠ x.id) }
  let c := s.session x.sess
  let s := if x.stale then s else setSession x.sess { c with cache := c.cache ++ [⟨x.seqNo, x.crc, reply⟩] } s
  let s := endRec x s
  if x.resets then deviceReset 4 (emit x.dst.vertex (s.octFrame x.dst reply) false s.ns s) else sendOct x.dst reply s

/-- Replaces a frame in execution. -/
def setOct (x : OctExec) (s : State) : State := { s with octRun := s.octRun.map (fun y => if y.id = x.id then x else y) }

/-- An operation is done (R427, R431): under STOP the operations after the first failing one are not executed; after the last the frame
ends. -/
def opDone (x : OctExec) (r : OctRes) (s : State) : State :=
  let res := x.done ++ [r]
  let res := if x.stop ∧ r.rsp ≠ .ok then res ++ List.replicate (x.ops.length - res.length) ⟨.notExecuted, []⟩ else res
  let y := { x with done := res, held := false }
  if x.ops.length ≤ res.length then finishOct y s else setOct y s

/-- The operation that a frame waits for is done (R429, R455): the reply of a far read. A frame that was stopped is gone. -/
def waiterDone (id : Nat) (r : OctRes) (s : State) : State :=
  match s.octRun.find? (fun x => x.id = id) with
  | none => s
  | some x => if x.held then opDone x r s else s

/-! ## Arrival (R434–R438) -/

/-- Starts a frame: it is the highest executed when its SEQ is above H, its facet's lease restarts (R441), and notifications go where it
came from (R450). -/
def startOct (r : OctReq) (k : Nat) (crc : W32) (i : Item) (p : OctPeer) (s : State) : State :=
  let c := s.session k
  let h := if serialBefore c.high r.seqNo then r.seqNo else c.high
  let s := setSession k { c with high := h, cache := c.cache.filter (fun e => decide ((h - e.seq).toNat ≤ 255)) } s
  let x : OctExec := ⟨s.nextId, k, i.facet, r.peer, r.rank, r.sid, i.epoch, i.stamp, i.vertex, r.seqNo, i.seq, crc, r.stop, p, r.ops,
    [], false, false, false⟩
  { s with octRun := s.octRun ++ [x], nextId := s.nextId + 1, fleases := SMap.put none s.fleases i.facet (some s.now),
           facetAddr := SMap.put none s.facetAddr i.facet (some p) }

/-- Opens a session under a frame (R438): its cache is empty, H is SEQ − 1; event 3. -/
def openSession (k : Nat) (seqNo crc : W32) (s : State) : State :=
  let s : State := { s with octRun := s.octRun.map (fun x => if x.sess = k then { x with stale := true } else x) }
  raise 3 (setSession k { s.session k with isOpen := true, high := seqNo - 1, cache := [], opened := some (seqNo, crc) } s)

/-- Counts a request of a session that its original answers (R435, R436). -/
def countDup (k : Nat) (s : State) : State := setSession k { s.session k with dups := (s.session k).dups + 1 } s

/-- Handles a request of a session (R434–R438). -/
def octSession (r : OctReq) (k : Nat) (crc : W32) (i : Item) (p : OctPeer) (s : State) : State :=
  let c := s.session k
  let refuse (status : Nat) : State := statusOnly status r.sid k r.seqNo i p s
  let cached := c.cache.find? (fun e => e.seq = r.seqNo)
  let running := s.octRun.find? (fun x => decide (x.sess = k) && !x.stale && decide (x.seqNo = r.seqNo))
  let full := decide (8 ≤ (s.octRun.filter (fun x => decide (x.sess = k))).length)
  let again := c.isOpen && decide (c.opened = some (r.seqNo, crc))
    && ((match cached with
      | none => false
      | some e => decide (e.crc = crc)) || (match running with
      | none => false
      | some x => decide (x.crc = crc)))
  let start (s : State) : State := if full then refuse 5 else startOct r k crc i p s
  if r.opens ∧ !again then (if full then refuse 5 else startOct r k crc i p (openSession k r.seqNo crc s))
  else if !c.isOpen then refuse 6
  else
    match running, cached with
    | some x, _ => if x.crc = crc then controlRec i i.facet r.sid false 0 0 r.seqNo (countDup k s) else refuse 2
    | none, some e =>
      if e.crc = crc then
        let reply := e.reply.take 1 ++ beBytes 1 (byteAt e.reply 1 + 8) ++ e.reply.drop 2
        controlRec i i.facet r.sid false 0 0 r.seqNo (sendOct p reply (countDup k s))
      else refuse 2
    | none, none =>
      if serialBefore c.high r.seqNo ∨ (c.high - r.seqNo).toNat ≤ 255 then start s else refuse 1

/-- OCT_FRAME (R427, R428, R434–R438, R463): the oldest frame that the control path has taken is checked, and refused, answered from the
cache, or started. -/
def octArrived (i : Item) (p : OctPeer) (s : State) : State :=
  let d := i.data
  let sid := byteAt d 2 % 4
  let seqNo := w32 (beAt d 4 4)
  match octRead d with
  | .unknown => controlRec i i.facet sid false 0 0 seqNo (bump A.sysOctMalformed s)
  | .answer => controlRec i i.facet sid false 0 0 seqNo s
  | .malformed => statusOnly 4 sid 0 seqNo i p s
  | .request r =>
    if (s.bankOf i.epoch).maxFrame i.vertex < replyFrame p r.ops then statusOnly 3 sid 0 seqNo i p s
    else if r.peer ∧ i.facet ≠ fld (s.at_ i.epoch A.brgAccCtrl) 4 4 then statusOnly 4 sid 0 seqNo i p s
    else octSession r (if r.peer then 64 + r.rank else i.facet * 4 + r.sid) (w32 (crc32c (d.take r.size))) i p s

/-- OCT_FRAME. -/
def execOctFrame (s : State) : Host.Outcome State Fault Refusal :=
  ran s (only s.coreOn (fun s =>
    match s.octIn with
    | [] => s
    | (i, p) :: l => octArrived i p (consume i.uid { s with octIn := l })) s)

end Sys2Proof.Machine
end

