-- ==== Sys2Proof/Machine/Window.lean ====
section
/-! DEFINITION. The window bridge (R452–R459): accesses to an aperture as far operations, far frames with their retries and replies,
and far locks. -/

namespace Sys2Proof.Machine

/-! ## Windows -/

/-- A window whose operations can be sent: it is enabled and its peer is UP (R452, R456). -/
def State.windowUp (s : State) (k : Nat) : Bool := tst (s.cfg (A.brgWinCtrl k)) 0 && decide ((s.peer (s.winPeer k)).state = 1)

/-- CLASS of a window: true for DATA. -/
def State.winData (s : State) (k : Nat) : Bool := tst (s.cfg (A.brgWinCtrl k)) 4

/-- The far page that a window's far lock is on (R457). -/
def State.winPage (s : State) (k : Nat) : Nat := (s.reg (A.brgWinBase k)).toNat / 0x1000

/-- The far address that an offset of an aperture page reaches (R452), modulo 2^32. -/
def State.farAddr (s : State) (k off : Nat) : Nat := ((s.reg (A.brgWinBase k)).toNat + (off - 0x40)) % 2 ^ 32

/-- Reports a far error (R455): the event of the window's class to its facet, the far address and result, and for class DATA the count. -/
def farError (k addr code : Nat) (s : State) : State :=
  let s := setRegN (A.brgWinErrCode k) code (setRegN (A.brgWinErrAddr k) addr s)
  if s.winData k then raiseTo 251 [s.winFacet k] (bump (A.brgWinDataErr k) s) else raiseTo 250 [s.winFacet k] s

/-- The near answer of a read, for what waits for it. -/
def nearAnswer (o : FarOp) (rsp : Rsp) (words : List W32) (s : State) : State :=
  match o.waiter with
  | .command => answer rsp words s
  | .frame id => waiterDone id ⟨rsp, words⟩ s
  | .monitor => monEnds 1 rsp (words.map hexWord) s

/-- A far read has failed (R455): class CONTROL shows the error, class DATA reads OK, both return 0xFFFF_FFFF. -/
def readFailed (k : Nat) (o : FarOp) (code : Nat) (s : State) : State :=
  let rsp : Rsp := if s.winData k then .ok else if code = 10 then .farTimeout else if code = 11 then .peerDown else .farError
  nearAnswer o rsp (o.words ++ List.replicate o.flags 0xFFFFFFFF) (farError k o.addr code s)

/-- The near side of a far lock ends with a cause, and STATE is NONE (R440, R458); without a lease only event 255 tells of it. -/
def dropFarLock (k cause : Nat) (s : State) : State :=
  let s := match s.lockOf (518 + k) with
    | some _ => endLock (518 + k) cause s
    | none => if cause = 0 then s else raiseTo 255 [s.winFacet k] s
  setWindow k { s.window k with lock := .none } s

/-- The result of a far LOCK (R457): a first one grants or denies; a RENEW answered LOST denies, with event 255. -/
def farLockResult (k : Nat) (o : FarOp) (code : Nat) (s : State) : State :=
  let w := s.window k
  if o.flags % 2 = 1 then
    if code = 12 ∧ w.lock = .granted then
      let s := dropFarLock k 1 s
      setWindow k { s.window k with lock := .denied } s
    else s
  else if w.lock ≠ .requesting then s
  else if code = 0 then grantLock (518 + k) (s.winFacet k) (setWindow k { w with lock := .granted, lastFar := s.now } s)
  else setWindow k { w with lock := .denied } s

/-- A far operation ends with a code and the words read (R455, R457). -/
def farDone (k : Nat) (o : FarOp) (code : Nat) (words : List W32) (s : State) : State :=
  if o.code = 1 then
    if code = 0 then nearAnswer o .ok (o.words ++ (List.range o.flags).map (fun i => words.getD i 0)) s else readFailed k o code s
  else if o.code = 4 then
    let s := farLockResult k o code s
    if code = 0 ∨ code = 5 ∨ code = 12 then s else farError k o.addr code s
  else if code = 0 ∨ (o.code = 5 ∧ code = 5) then s
  else farError k o.addr code s

/-- Queues a far operation, or fails it at once while the peer is not UP (R454, R456). -/
def farQueue (k : Nat) (o : FarOp) (s : State) : State :=
  if s.windowUp k then setWindow k { s.window k with queue := (s.window k).queue ++ [o] } s else farDone k o 11 [] s

/-- Whether a window takes another operation of an access now (R454, R455). -/
def State.windowRoom (s : State) (k : Nat) : Bool := !s.windowUp k || decide ((s.window k).queue.length < 64)

/-- An access of the window's facet renews the near lease of a granted far lock (R457). -/
def renewFar (q : Req) (k : Nat) (s : State) : State :=
  if (s.window k).lock = .granted ∧ s.winFacet k = q.facet then renewLock (518 + k) q.facet s else s

/-- An operation UNLOCK of a window's far page. -/
def State.farUnlock (s : State) (k flags : Nat) : FarOp := ⟨5, (s.reg (A.brgWinBase k)).toNat, [], .command, flags⟩

/-! ## Writes of the window page (R457, R458) -/

/-- HELD = 1 of BRG_WINk_LOCK: a far LOCK goes out; while the lock is granted the write renews the near lease. -/
def farLockTaken (q : Req) (k : Nat) (s : State) : State :=
  match (s.window k).lock with
  | .granted => renewFar q k s
  | .requesting => s
  | _ => farQueue k ⟨4, (s.reg (A.brgWinBase k)).toNat, [], .command, 0⟩ (setWindow k { s.window k with lock := .requesting } s)

/-- Whether a far lock is asked for or held. -/
def State.farLocked (s : State) (k : Nat) : Bool := decide ((s.window k).lock = .granted ∨ (s.window k).lock = .requesting)

/-- HELD = 0 of BRG_WINk_LOCK (R458): UNLOCK goes out. -/
def farLockReleased (k : Nat) (s : State) : State :=
  if s.farLocked k then farQueue k (s.farUnlock k 0) (dropFarLock k 0 s)
  else setWindow k { s.window k with lock := .none } s

/-- The near lease ends by expiry, facet reset or FORCE (R458): UNLOCK with ABORT goes out. -/
def farLockAborted (k cause : Nat) (s : State) : State :=
  if s.farLocked k then farQueue k (s.farUnlock k 2) (dropFarLock k cause s) else s

/-- A write of BRG_WINk_LOCK (R457, R458, R470): FORCE of F0 alone counts when it is set. -/
def winLockWritten (q : Req) (k : Nat) (v : W32) (s : State) : State :=
  if q.facet = 0 ∧ tst v 8 then farLockAborted k 3 s
  else if tst v 0 then farLockTaken q k s
  else farLockReleased k s

/-! ## Accesses to an aperture (R452–R456) -/

/-- The window that an address lies in: its number, for offsets from 0x040 of an aperture page. -/
def farWindow (addr : Nat) : Option Nat :=
  match pageOf addr with
  | none => none
  | some p => if p.kind = .aperture ∧ 0x40 ≤ addr % 0x1000 then some p.inst else none

/-- Whether a request may use a window (R453). -/
def State.mayUseWindow (s : State) (q : Req) (k : Nat) : Bool :=
  decide (q.facet = 0) || decide (fld ((s.bankOf q.epoch).regs.read (A.brgWinCtrl k)) 8 4 = q.facet)

/-- A posted write of words, or of MASK and VALUE, at an offset of an aperture (R455): the near result is OK when it is queued; while the
peer is not UP it fails at once as a far error. -/
def farWrite (q : Req) (k code off : Nat) (words : List W32) (s : State) : Rsp × State :=
  if !s.mayUseWindow q k then (.rights, s)
  else (.ok, farQueue k ⟨code, s.farAddr k off, words, .command, 0⟩ (renewFar q k s))

/-- A read of `n` words at an offset of an aperture (R455), after the words already read near. -/
def farRead (q : Req) (k off n : Nat) (near : List W32) (waiter : FarFor) (s : State) : State :=
  farQueue k ⟨1, s.farAddr k off, near, waiter, n⟩ (renewFar q k s)

/-- A write of one register, the window lock and the apertures among them. -/
def writeAny (q : Req) (addr : Nat) (v : W32) (s : State) : Rsp × State :=
  match farWindow addr with
  | some k => if addr % 4 ≠ 0 then (.align, s) else farWrite q k 2 (addr % 0x1000) [v] s
  | none =>
    let (r, t) := writeReg q addr v s
    let k := (addr % 0x1000 - 0x100) / 0x40
    if r = .ok ∧ addr = A.brgWinLock k ∧ k < 8 then (.ok, winLockWritten q k v t) else (r, t)

/-- WINDOW_ACCESS (R452–R456): a facet reads or writes a word of an aperture. Offsets below 0x040 are the page's own header. While 64
operations are queued the access is held, and the command finds nothing to do yet. -/
def execWindowAccess (f : Facet) (k : Fin 8) (off : Fin 4096) (write : Bool) (v : W32) (s : State) :
    Host.Outcome State Fault Refusal :=
  ran s (only (s.coreOn && (decide (off.val < 0x40) || s.windowRoom k)) (fun s =>
    let q := s.plain f
    let addr := 0x128000 + 0x1000 * k.val + off.val
    if write then
      let (r, t) := writeAny q addr v s
      answer r [] t
    else if off.val < 0x40 ∨ addr % 4 ≠ 0 then
      let (r, w, t) := readReg q addr s
      answer r [w] t
    else if !s.mayUseWindow q k then answer .rights [0] s
    else farRead q k off.val 1 [] .command s) s)

/-! ## Far frames (R454) -/

/-- Bytes of a far operation in its request, and in the reply. -/
def FarOp.sizes (o : FarOp) : Nat × Nat :=
  (8 + (if o.code = 1 then 0 else 4 * o.words.length), 8 + (if o.code = 1 then 4 * o.flags else if o.code = 4 then 4 else 0))

/-- How many queued operations one frame takes: at most 64, as many as fit the frame and its reply. -/
def fitting (max : Nat) : List FarOp → Nat × Nat → Nat → Nat
  | [], _, n => n
  | o :: l, (a, b), n =>
    let a := a + o.sizes.1
    let b := b + o.sizes.2
    if n < 64 ∧ (n = 0 ∨ (a ≤ max ∧ b ≤ max)) then fitting max l (a, b) (n + 1) else n

/-- A far operation as its request carries it (R428). -/
def FarOp.bytes (o : FarOp) : List Byte :=
  let n := if o.code = 1 then o.flags else if o.code = 2 then o.words.length else 1
  let flags := if o.code = 1 then 0 else o.flags
  beBytes 1 o.code ++ beBytes 1 n ++ beBytes 1 flags ++ [0] ++ beBytes 4 o.addr
    ++ (if o.code = 1 then [] else (o.words.map (fun w => beBytes 4 w.toNat)).flatten)

/-- The payload of a far frame (R427, R454): PEER = 1 and the own rank; the first one to a peer opens the session (R434). -/
def State.farPayload (s : State) (fr : FarFrame) : List Byte :=
  let rank := fld (s.cfg A.brgAccCtrl) 1 3
  [1] ++ beBytes 1 (bit fr.opens * 2) ++ beBytes 1 (4 + rank * 8) ++ beBytes 1 fr.ops.length ++ beBytes 4 fr.seqNo.toNat ++ [0, 0, 0, 0]
    ++ (fr.ops.map FarOp.bytes).flatten

/-- Sends a far frame of a window to the peer channel of its rank, as an item of the bridge (R19, R454). -/
def farTransmit (k : Nat) (fr : FarFrame) (s : State) : State :=
  let p := s.peer (s.winPeer k)
  sendMessage 100 (101 + s.winPeer k) s.octTc (ethFrame p.mac (s.station p.vertex) none 0x88B5 (s.farPayload fr)) s

/-- The next SEQ of the bridge's counter for a peer (R454). -/
def takeFarSeq (r : Nat) (s : State) : State :=
  { s with accord := { s.accord with peers := SMap.put PeerSt.reset s.accord.peers r { s.peer r with seqOut := (s.peer r).seqOut + 1, opened := true } } }

/-- A far operation to the page of the far lock. -/
def State.touchesLock (s : State) (k : Nat) (fr : FarFrame) : Bool := fr.ops.any (fun o => decide (o.addr / 0x1000 = s.winPage k))

/-- Sends the queued operations of a window as one far frame (R454): it takes a tag of the window's facet and the next SEQ. -/
def farSend (k : Nat) (s : State) : State :=
  let w := s.window k
  let p := s.peer (s.winPeer k)
  let n := fitting (s.live.maxFrame p.vertex - 18) w.queue (12, 12) 0
  let ops := w.queue.take n
  let fr : FarFrame := ⟨ops, p.seqOut, s.now, 1, s.nextTag, !p.opened, false⟩
  let s := takeTag (s.winFacet k) s
  let s := takeFarSeq (s.winPeer k) s
  let last := if s.touchesLock k fr then s.now else w.lastFar
  farTransmit k fr (setWindow k { w with queue := w.queue.drop n, flight := some fr, lastFar := last } s)

/-- The operations of a window whose peer is no longer UP fail (R456). -/
def failQueue (k : Nat) (s : State) : State :=
  let ops := (s.window k).queue
  ops.foldl (fun s o => farDone k o 11 [] s) (setWindow k { s.window k with queue := [] } s)

/-- FAR_FRAME_SEND (R454, R456): with no frame in flight, the queued operations leave as one frame; without a tag they wait (R50); while the
peer is not UP they fail. -/
def execFarFrameSend (k : Fin 8) (s : State) : Host.Outcome State Fault Refusal :=
  let w := s.window k
  ran s (only (s.coreOn && w.flight.isNone && decide (w.queue ≠ [])) (fun s =>
    if !s.windowUp k then failQueue k s
    else if !s.tagOk (s.winFacet k) then tagWait (s.winFacet k) s
    else farSend k s) s)

/-- The operations of a far frame end with one code and its tag returns; a facet reset has done both for the frame it left behind. -/
def farFailed (k : Nat) (fr : FarFrame) (code : Nat) (s : State) : State :=
  let s := setWindow k { s.window k with flight := none } s
  if fr.dropped then s else fr.ops.foldl (fun s o => farDone k o code [] s) (returnTag fr.tag s)

/-- FAR_RETRY (R454): INTERVAL without a reply sends the frame again with the same SEQ; after ATTEMPTS it has timed out. While the peer is
not UP it fails (R456). -/
def execFarRetry (k : Fin 8) (s : State) : Host.Outcome State Fault Refusal :=
  match (s.window k).flight with
  | none => ran s s
  | some fr =>
    let r := s.cfg A.brgWRetry
    ran s (only (s.coreOn && decide (fr.sentAt + fld r 0 16 * 1000 ≤ s.now)) (fun s =>
      if !s.windowUp k then farFailed k fr 11 s
      else if fr.tries < fld r 16 4 then
        let fr' := { fr with tries := fr.tries + 1, sentAt := s.now }
        farTransmit k fr' (bump (A.brgWinRetries k) (setWindow k { s.window k with flight := some fr' } s))
      else farFailed k fr 10 s) s)

/-- FAR_REPLY (R455, R459): the reply to the frame in flight completes its operations in order and returns its tag; the reply of a frame
that a facet reset left behind is discarded. -/
def execFarReply (k : Fin 8) (results : List FarResult) (s : State) : Host.Outcome State Fault Refusal :=
  match (s.window k).flight with
  | none => ran s s
  | some fr =>
    ran s (only s.coreOn (fun s =>
      let s := setWindow k { s.window k with flight := none } s
      if fr.dropped then s
      else
        (fr.ops.zip ((List.range fr.ops.length).map (fun i => results.getD i ⟨9, []⟩))).foldl
          (fun s p => farDone k p.1 p.2.code p.2.words s) (returnTag fr.tag s)) s)

/-! ## Far locks (R457, R458) -/

/-- A facet's write of BRG_WINk_LOCK, with its answer. -/
def winLockRow (f : Facet) (k : Fin 8) (v : W32) (s : State) : Host.Outcome State Fault Refusal :=
  ran s (only s.coreOn (fun s =>
    let (r, t) := writeAny (s.plain f) (A.brgWinLock k.val) v s
    answer r [] t) s)

/-- WINDOW_LOCK (R457). -/
def execWindowLock (f : Facet) (k : Fin 8) (s : State) : Host.Outcome State Fault Refusal := winLockRow f k 1 s

/-- WINDOW_UNLOCK (R458). -/
def execWindowUnlock (f : Facet) (k : Fin 8) (s : State) : Host.Outcome State Fault Refusal := winLockRow f k 0 s

/-- WINDOW_LOCK_FORCE (R458). -/
def execWindowLockForce (f : Facet) (k : Fin 8) (s : State) : Host.Outcome State Fault Refusal := winLockRow f k 0x100 s

/-- WINDOW_LOCK_RENEW (R457): 50 ms without a far operation to the locked page send LOCK with RENEW. -/
def execWindowLockRenew (k : Fin 8) (s : State) : Host.Outcome State Fault Refusal :=
  let w := s.window k
  ran s (only (s.coreOn && decide (w.lock = .granted) && decide (w.lastFar + 50000000 ≤ s.now)) (fun s =>
    farQueue k ⟨4, (s.reg (A.brgWinBase k.val)).toNat, [], .command, 1⟩ (setWindow k { w with lastFar := s.now } s)) s)

/-- WINDOW_LOCK_EXPIRY (R458): the near lease has run out. -/
def execWindowLockExpiry (k : Fin 8) (s : State) : Host.Outcome State Fault Refusal :=
  match s.lockOf (518 + k.val) with
  | none => ran s s
  | some l => ran s (only (s.coreOn && decide (l.deadline ≤ s.now)) (farLockAborted k 1) s)

end Sys2Proof.Machine
end

