-- ==== Sys2Proof/Machine/Control.lean ====
section
/-! DEFINITION. The operations of OCT frames (R428–R431), ARP (R426), page locks and facet leases (R439–R441), the facet reset
(R442–R444) and the event window (R447). -/

namespace Sys2Proof.Machine

/-! ## Operations (R429) -/

/-- The request that a frame makes (R416, R425, R463). -/
def OctExec.req (x : OctExec) : Req := ⟨x.facet, x.sid, x.peer, x.rank, x.epoch⟩

/-- The operation of a frame that is next. -/
def OctExec.next (x : OctExec) : Option OctOp := x.ops[x.done.length]?

/-- An operation has its result. A write of SYS_FACET_RESET by which a facet resets itself ends its frame: the later operations are marked
NOT_EXECUTED, and the session stays open for the reply (R444). A device reset that the operation asked for waits for the reply (R579). -/
def opEnds (x : OctExec) (before : State) (r : OctRes) (s : State) : State :=
  let due := s.power.resetDue && !before.power.resetDue
  let s : State := if due then { s with power := { s.power with resetDue := false } } else s
  let x := { x with resets := x.resets || due }
  match before.facetReset, s.facetReset with
  | none, some fr =>
    if fr.facet = x.facet then
      let res := x.done ++ [r]
      finishOct { x with done := res ++ List.replicate (x.ops.length - res.length) ⟨.notExecuted, []⟩ }
        { s with facetReset := some { fr with keep := some x.sess } }
    else opDone x r s
  | _, _ => opDone x r s

/-- Reads words at consecutive addresses; the result is the first that is not OK. -/
def readWords (q : Req) (addr : Nat) : Nat → State → Rsp × List W32 × State
  | 0, s => (.ok, [], s)
  | n + 1, s =>
    let (r, w, s) := readReg q addr s
    let (r', ws, s) := readWords q (addr + 4) n s
    (if r = .ok then r' else r, w :: ws, s)

/-- Writes words at consecutive addresses in ascending order; the result is the first that is not OK. -/
def writeWords (q : Req) (addr : Nat) : List W32 → State → Rsp × State
  | [], s => (.ok, s)
  | v :: l, s =>
    let (r, s) := writeAny q addr v s
    let (r', s) := writeWords q (addr + 4) l s
    (if r = .ok then r' else r, s)

/-- Why a span of `n` words cannot be accessed (R6, R430): it is not word-aligned, lies outside every page or crosses a page. -/
def badSpan (addr n : Nat) : Option Rsp :=
  if addr % 4 ≠ 0 then some .align
  else if (pageOf addr).isNone ∨ 0x1000 < addr % 0x1000 + 4 * n then some .unmapped
  else none

/-- Words of a span that lie below the window of an aperture page. -/
def nearPart (addr n : Nat) : Nat := min n ((0x40 - addr % 0x1000) / 4)

/-- READ (R429). -/
def opRead (x : OctExec) (o : OctOp) (s : State) : State :=
  match badSpan o.addr o.n with
  | some r => opDone x ⟨r, []⟩ s
  | none =>
    match farWindow (o.addr + 4 * (o.n - 1)) with
    | none =>
      let (r, ws, t) := readWords x.req o.addr o.n s
      opEnds x s ⟨r, ws⟩ t
    | some k =>
      let m := nearPart o.addr o.n
      let (r, ws, t) := readWords x.req o.addr m s
      if r ≠ .ok then opDone x ⟨r, ws⟩ t
      else if !s.mayUseWindow x.req k then opDone x ⟨.rights, ws⟩ t
      else
        let y := { x with held := true }
        farRead x.req k (o.addr % 0x1000 + 4 * m) (o.n - m) ws (.frame x.id) (setOct y t)

/-- WRITE (R429). -/
def opWrite (x : OctExec) (o : OctOp) (s : State) : State :=
  match badSpan o.addr o.n with
  | some r => opDone x ⟨r, []⟩ s
  | none =>
    match farWindow (o.addr + 4 * (o.n - 1)) with
    | none =>
      let (r, t) := writeWords x.req o.addr o.words s
      opEnds x s ⟨r, []⟩ t
    | some k =>
      let m := nearPart o.addr o.n
      let (r, t) := writeWords x.req o.addr (o.words.take m) s
      let (r', t) := farWrite x.req k 2 (o.addr % 0x1000 + 4 * m) (o.words.drop m) t
      opDone x ⟨if r = .ok then r' else r, []⟩ t

/-- The old value that MWRITE merges into (R429): the staged value of RWS fields, the live value of RW fields, 0 for W1C. -/
def State.oldWord (s : State) (q : Req) (addr : Nat) : W32 :=
  match pageOf addr with
  | none => 0
  | some p =>
    let off := addr % 0x1000
    if off = 0x10 then 0
    else if off < 0x40 then s.header p q.facet off s.staging
    else
      match regRow addr with
      | none => 0
      | some r =>
        let key := s.keyAt p q.facet addr
        match r.acc with
        | .rws => s.stg key
        | .rw => (s.computed q p off).getD (s.reg key)
        | _ => 0

/-- The word that MWRITE writes (R429). -/
def merged (old mask value : W32) : W32 := (old &&& ~~~mask) ||| (value &&& mask)

/-- A masked write of a register as one access; an aperture takes it as a far MWRITE. -/
def maskedWrite (q : Req) (addr : Nat) (mask value : W32) (s : State) : Rsp × State :=
  match badSpan addr 1, farWindow addr with
  | some r, _ => (r, s)
  | none, some k => farWrite q k 3 (addr % 0x1000) [mask, value] s
  | none, none => writeAny q addr (merged (s.oldWord q addr) mask value) s

/-- MWRITE (R429). -/
def opMwrite (x : OctExec) (o : OctOp) (s : State) : State :=
  let (r, t) := maskedWrite x.req o.addr (o.words.getD 0 0) (o.words.getD 1 0) s
  opEnds x s ⟨r, []⟩ t

/-- Why LOCK or UNLOCK cannot act on the page of an address (R439, R636): no page, an aperture page, or no right to write it. -/
def State.badLock (s : State) (q : Req) (addr : Nat) : Option Rsp :=
  match badSpan addr 1, pageOf addr with
  | some r, _ => some r
  | none, none => some .unmapped
  | none, some p => if p.kind = .aperture ∨ !s.mayWrite q p 0x3C then some .rights else none

/-- LOCK (R429, R439): takes the lock or renews it; with RENEW a lock that the requester does not hold is LOST. -/
def opLock (x : OctExec) (o : OctOp) (s : State) : State :=
  match s.badLock x.req o.addr with
  | some r => opDone x ⟨r, []⟩ s
  | none =>
    let k := o.addr / 0x1000
    if o.flags % 2 = 1 ∧ !s.holds k x.facet then opDone x ⟨.lost, [s.lockReg k]⟩ s
    else
      let (r, t) := lockWritten k x.facet 0x10 .locked s
      opDone x ⟨r, [t.lockReg k]⟩ t

/-- UNLOCK (R429, R439, R458): ABORT ends the lock with cause 3. -/
def opUnlock (x : OctExec) (o : OctOp) (s : State) : State :=
  match s.badLock x.req o.addr with
  | some r => opDone x ⟨r, []⟩ s
  | none =>
    let k := o.addr / 0x1000
    match s.lockOf k with
    | none => opDone x ⟨.ok, []⟩ s
    | some l =>
      if l.holder ≠ x.facet then opDone x ⟨.locked, []⟩ s
      else opDone x ⟨.ok, []⟩ (endLock k (if 2 ≤ o.flags then 3 else 0) s)

/-- The command port whose OP register an address is (R429). -/
def opPort (addr : Nat) : Option Nat :=
  match (List.range 4).find? (fun p => A.tblCmdOp p = addr) with
  | some p => some p
  | none => ((List.range 2).find? (fun p => A.brgRcmdOp p = addr)).map (4 + ·)

/-- The register after the one that an operation wrote: STATUS of its port, or SYS_EPOCH_STATUS. -/
def statusAfter (x : OctExec) (o : OctOp) (s : State) : W32 := (readReg x.req (o.addr + 4) s).2.1

/-- TABLE (R429): writes the word, and is held until the command has completed. -/
def opTable (x : OctExec) (o : OctOp) (s : State) : State :=
  match opPort o.addr with
  | none => opDone x ⟨.badOp, []⟩ s
  | some p =>
    if x.held then (if (s.cmd p).isSome then s else opDone x ⟨.ok, [statusAfter x o s]⟩ s)
    else
      let (r, t) := writeAny x.req o.addr (o.words.getD 0 0) s
      if r = .ok ∧ (t.cmd p).isSome then setOct { x with held := true } t else opEnds x s ⟨r, [statusAfter x o t]⟩ t

/-- COMMIT (R429): writes SYS_EPOCH_CTRL, and is held until validation has ended. -/
def opCommit (x : OctExec) (o : OctOp) (s : State) : State :=
  if o.addr ≠ A.sysEpochCtrl then opDone x ⟨.badOp, []⟩ s
  else if x.held then (if s.epoch.st = .validating then s else opDone x ⟨.ok, [statusAfter x o s]⟩ s)
  else
    let (r, t) := writeAny x.req o.addr (o.words.getD 0 0) s
    if r = .ok ∧ t.epoch.st = .validating then setOct { x with held := true } t else opEnds x s ⟨r, [statusAfter x o t]⟩ t

/-- Whether the window of an access takes it now (R455). -/
def State.opRoom (s : State) (o : OctOp) : Bool :=
  match farWindow (o.addr + 4 * (o.n - 1)) with
  | none => true
  | some k => s.windowRoom k

/-- The tags that an operation of a frame has taken are the frame's, for the sweep of its epoch (R54). -/
def markTags (id : Nat) (before : List Nat) (s : State) : State :=
  let new := (s.tags.map (·.1)).filter (fun t => !before.contains t)
  new.foldl (fun s t => { s with tagFrames := SMap.put none s.tagFrames t (some id) }) s

/-- Executes the next operation of a frame when it is of the code asked for: frames of a facet that is being reset have stopped (R443),
and a far read that is held waits for its reply. -/
def octOpRow (code id : Nat) (f : OctExec → OctOp → State → State) (s : State) : Host.Outcome State Fault Refusal :=
  match s.octRun.find? (fun x => x.id = id) with
  | none => ran s s
  | some x =>
    match x.next with
    | none => ran s s
    | some o =>
      let stopped := match s.facetReset with
        | none => false
        | some r => decide (r.facet = x.facet)
      ran s (only (s.coreOn && decide (o.code = code) && !stopped && (!x.held || decide (6 ≤ code)) && (decide (3 < code) || s.opRoom o))
        (fun s => markTags id (s.tags.map (·.1)) (f x o s)) s)

/-- OCT_READ (R429). -/
def execOctRead (id : Nat) (s : State) : Host.Outcome State Fault Refusal := octOpRow 1 id opRead s
/-- OCT_WRITE (R429). -/
def execOctWrite (id : Nat) (s : State) : Host.Outcome State Fault Refusal := octOpRow 2 id opWrite s
/-- OCT_MWRITE (R429). -/
def execOctMwrite (id : Nat) (s : State) : Host.Outcome State Fault Refusal := octOpRow 3 id opMwrite s
/-- OCT_LOCK (R429). -/
def execOctLock (id : Nat) (s : State) : Host.Outcome State Fault Refusal := octOpRow 4 id opLock s
/-- OCT_UNLOCK (R429). -/
def execOctUnlock (id : Nat) (s : State) : Host.Outcome State Fault Refusal := octOpRow 5 id opUnlock s
/-- OCT_TABLE (R429). -/
def execOctTable (id : Nat) (s : State) : Host.Outcome State Fault Refusal := octOpRow 6 id opTable s
/-- OCT_COMMIT (R429). -/
def execOctCommit (id : Nat) (s : State) : Host.Outcome State Fault Refusal := octOpRow 7 id opCommit s

/-! ## ARP (R426) -/

/-- Whether an item taken by the control path is an ARP request. -/
def isArp (i : Item) : Bool := decide (beAt i.data (ctlOff i.data) 2 = 0x0806)

/-- The answer to an ARP request: the station of the vertex has the address asked for. -/
def State.arpReply (s : State) (i : Item) : List Byte :=
  let o := ctlOff i.data
  let st := s.station i.vertex
  let tci : Option W16 := if o = 16 then some (BitVec.ofNat 16 (beAt i.data 14 2)) else none
  ethFrame (slice i.data 6 6) st tci 0x0806
    (slice i.data (o + 2) 6 ++ beBytes 2 2 ++ st ++ slice i.data (o + 26) 4 ++ slice i.data (o + 10) 10)

/-- ARP_REQUEST (R426): the oldest ARP request for SYS_OCT_IPV4 is answered on the vertex where it came. -/
def execArpRequest (s : State) : Host.Outcome State Fault Refusal :=
  ran s (only s.mpOn (fun s =>
    match takeCtl isArp s with
    | none => s
    | some (i, s) => sendMessage 96 i.vertex s.octTc (s.arpReply i) s) s)

/-! ## Page locks and facet leases (R439–R441) -/

/-- A facet's write of a register as a command of its own: the answer is kept, and a device reset that the write asked for follows. -/
def rowWrite (f : Facet) (addr : Nat) (v : W32) (s : State) : Host.Outcome State Fault Refusal :=
  ran s (only s.coreOn (fun s =>
    let (r, t) := writeAny (s.plain f) addr v s
    resetIfDue (answer r [] t)) s)

/-- PAGE_LOCK_TAKE (R439). -/
def execPageLockTake (f : Facet) (page : PageNo) (s : State) : Host.Outcome State Fault Refusal :=
  rowWrite f (0x1000 * page.val + 0x3C) 0x10 s
/-- PAGE_LOCK_RELEASE (R439). -/
def execPageLockRelease (f : Facet) (page : PageNo) (s : State) : Host.Outcome State Fault Refusal :=
  rowWrite f (0x1000 * page.val + 0x3C) 0 s
/-- PAGE_LOCK_FORCE (R439). -/
def execPageLockForce (f : Facet) (page : PageNo) (s : State) : Host.Outcome State Fault Refusal :=
  rowWrite f (0x1000 * page.val + 0x3C) 0x100 s

/-- PAGE_LOCK_EXPIRY (R440): a lease of 100 ms has run out. -/
def execPageLockExpiry (page : PageNo) (s : State) : Host.Outcome State Fault Refusal :=
  ran s (only s.coreOn (expireLock page) s)

/-- Whether a facet's lease has run out (R441): it is enabled, a session is open, and it has not restarted for its time. -/
def State.leaseOut (s : State) (f : Nat) : Bool :=
  let ms := fld (s.cfg (A.sysFlease f)) 0 7
  match SMap.get none s.fleases f with
  | none => false
  | some t => decide (0 < ms) && (s.facetSessions f).any (fun k => (s.session k).isOpen) && decide (t + ms * 1000000 ≤ s.now)

/-- FACET_LEASE_EXPIRY (R441): event 1, and the facet is reset; while another facet's reset runs it waits. -/
def execFacetLeaseExpiry (f : Facet) (s : State) : Host.Outcome State Fault Refusal :=
  ran s (only (s.coreOn && s.facetReset.isNone && s.leaseOut f)
    (fun s => raise 1 { s with facetReset := some ⟨f, s.now, 0, none⟩ }) s)

/-! ## Facet reset (R442–R444) -/

/-- FACET_RESET (R442). -/
def execFacetReset (f : Facet) (v : W32) (s : State) : Host.Outcome State Fault Refusal := rowWrite f A.sysFacetReset v s

/-- Step 1: the frames of the facet have stopped, without a reply. -/
def stopFrames (f : Nat) (s : State) : State :=
  let gone := s.octRun.filter (fun x => decide (x.facet = f))
  gone.foldl (fun s x => endRec x s) { s with octRun := s.octRun.filter (fun x => decide (x.facet ≠ f)) }

/-- Step 2: every lock of the facet ends with cause 2, and its far locks are aborted (R458). -/
def endLocks (f : Nat) (s : State) : State :=
  let s := s.locks.foldl (fun s p => if p.1 < 518 ∧ s.holds p.1 f then endLock p.1 2 s else s) s
  (List.range 8).foldl (fun s k => if s.winFacet k = f ∨ s.holds (518 + k) f then farLockAborted k 2 s else s) s

/-- Reads that a facet reset takes from their far frame or queue are answered FAR_ERROR with 0xFFFF_FFFF, where what made them still waits
(DESIGN CHOICE: log entry 71). -/
def endReads (ops : List FarOp) (s : State) : State :=
  (ops.filter (fun o => o.code = 1)).foldl (fun s o => nearAnswer o .farError (o.words ++ List.replicate o.flags 0xFFFFFFFF) s) s

/-- Step 3 at a window (R53, R459): the far frame in flight is left behind when its tag is charged to the facet or the window is the facet's; its
tag returns, and its reply will be discarded. -/
def leaveFlight (f k : Nat) (s : State) : State :=
  match (s.window k).flight with
  | none => s
  | some fr =>
    if fr.dropped ∨ ¬(s.winFacet k = f ∨ SMap.get none s.tags fr.tag = some f) then s else endReads fr.ops (dropFlight (fun _ => true) k s)

/-- Step 4 at a window (R459): its operations not yet sent are discarded and counted, but for the UNLOCK that step 2 queued. -/
def dropQueue (k : Nat) (s : State) : State :=
  let w := s.window k
  let gone := w.queue.filter (fun o => o.code ≠ 5)
  endReads gone (addSat (A.brgWinDataErr k) gone.length (setWindow k { w with queue := w.queue.filter (fun o => o.code = 5) } s))

/-- Step 3: the tag sweep and the cell sweep (R53, R126). A copy in transmission is left to complete. -/
def sweepFacet (f : Nat) (s : State) : State :=
  let s := sweep (fun i _ _ => decide (i.facet = f)) 8 s
  let s := sweepControl (fun i => i.facet = f) 8 s
  (List.range 8).foldl (fun s k => leaveFlight f k s) s

/-- Steps 4 and 5: the window operations, the cipher requests, the event ring. -/
def emptyFacet (f : Nat) (s : State) : State :=
  let s := (List.range 8).foldl (fun s k => if s.winFacet k = f then dropQueue k s else s) s
  let s := cipReset f s
  let r := s.ring f
  { s with rings := SMap.put EvRing.reset s.rings f { r with entries := [], ovf := [], episode := false } }

/-- Step 6: the sessions close; the one that carried the reset keeps the entry of its frame (R444). -/
def closeSessions (f : Nat) (keep : Option Nat) (s : State) : State :=
  (s.facetSessions f).foldl (fun s k =>
    if keep = some k then
      let c := s.session k
      setSession k { c with cache := c.cache.drop (c.cache.length - 1) } s
    else closeSession k s) s

/-- Copies of a facet that the sweeps discard (R391), those of its jobs to vertex 97 among them. -/
def State.copiesOf (s : State) (f : Nat) : Nat := (s.waiting.filter (fun p => decide (p.2.facet = f))).length

/-- FACET_RESET_COMPLETE (R53, R443): the steps of the reset in order. The sweeps end only with the last copy of the facet in transmission; then the
facet's staging view and keep bit are cleared too (R542, R634), and the record and event 0 follow. -/
def facetResetDone (r : FacetReset) (s : State) : State :=
  let f := r.facet
  let s := endLocks f (stopFrames f s)
  let n := r.discarded + s.copiesOf f
  let s := sweepFacet f s
  if s.flying.any (fun p => p.2.item.facet = f) then { s with facetReset := some { r with discarded := n } }
  else
    let s := closeSessions f r.keep (emptyFacet f s)
    let s := clearKeep f (setReg (selKey A.sysStageView f) 0 s)
    let s : State := { s with facetReset := none, fleases := SMap.put none s.fleases f none }
    raise 0 (adminRec 3 f 0 (sat32 n) s)

/-- FACET_RESET_COMPLETE. -/
def execFacetResetComplete (s : State) : Host.Outcome State Fault Refusal :=
  match s.facetReset with
  | none => ran s s
  | some r => ran s (only s.coreOn (facetResetDone r) s)

/-! ## The event window (R447) -/

/-- EVENT_POP (R447). -/
def execEventPop (f : Facet) (v : W32) (s : State) : Host.Outcome State Fault Refusal := rowWrite f A.sysEvPop v s

end Sys2Proof.Machine
end

