-- ==== Sys2Proof/Machine/Accord.lean ====
section
/-! DEFINITION. Accord groups (R460–R468): the messages a module sends and receives, the state of its peers, the senior, the common
level, and the configuration digest. -/

namespace Sys2Proof.Machine

/-- Accord is enabled (R471). -/
def State.accordOn (s : State) : Bool := tst (s.cfg A.brgAccCtrl) 0

/-- The own accord rank. -/
def State.ownRank (s : State) : Nat := fld (s.cfg A.brgAccCtrl) 1 3

/-- Changes a peer; every change of its state raises event 252 (R462). -/
def setPeer (r : Nat) (p : PeerSt) (s : State) : State :=
  let old := (s.peer r).state
  let s : State := { s with accord := { s.accord with peers := SMap.put PeerSt.reset s.accord.peers r p } }
  if p.state = old then s else raise 252 s

/-! ## The senior, the level, mismatch and keepers (R464, R466–R468) -/

/-- Ranks that are UP. -/
def State.upRanks (s : State) : List Nat := (List.range 8).filter (fun r => decide ((s.peer r).state = 1))

/-- The senior (R464): the lowest rank among the module and its UP peers, ranks in CONFLICT left out. -/
def State.newSenior (s : State) : Nat :=
  let own := s.ownRank
  let ranks := (List.range 8).filter (fun r => decide ((s.peer r).state ≠ 3) && (decide (r = own) || decide ((s.peer r).state = 1)))
  ranks.headD own

/-- The common feature level (R467). -/
def State.newLevel (s : State) : Nat :=
  (s.upRanks.filter (fun r => r ≠ s.ownRank)).foldl (fun a r => min a (s.peer r).feature) (s.bank s.fw.runImage).feature

/-- What follows from a change of the peers or digests: a new senior raises event 253, a new level, mismatch or keeper set event 254.
`before` is the state before the change. -/
def accordUpdate (before s : State) : State :=
  if !s.accordOn then s
  else
    let senior := s.newSenior
    let s' : State := { s with accord := { s.accord with senior := senior, level := s.newLevel } }
    let agrees := !s'.mismatched
    let s' : State := { s' with accord := { s'.accord with match_ := agrees } }
    let s'' := if senior = before.accord.senior then s' else raise 253 s'
    if s'.accord.level = before.accord.level ∧ agrees = before.accord.match_ ∧ s.peersKeeping = before.peersKeeping then s''
    else raise 254 s''

/-! ## Sending (R460, R466, R532) -/

/-- Whether the module holds commits under R466. -/
def State.commitHeld (s : State) : Bool := tst (s.cfg A.brgAccCtrl) 8 && s.mismatched

/-- POWER of the accord message (R532). -/
def State.accordPower (s : State) : Nat :=
  if s.wake.req ∧ (s.wake.phase = .groupWait ∨ s.wake.phase = .preparing ∨ s.wake.phase = .dark) then 2
  else if s.wake.mode = .doze then 1 else 0

/-- KEEPER of the accord message (R532). -/
def State.accordKeeper (s : State) : Bool := s.wake.hadKeeper || decide (s.reg A.wakFacetKeep ≠ 0)

/-- The payload of the accord message (R460). -/
def State.accordPayload (s : State) : List Byte :=
  let b := s.bank s.fw.runImage
  beBytes 1 0x41 ++ beBytes 1 1 ++ beBytes 1 (s.ownRank + bit s.accordKeeper * 8 + s.accordPower * 16)
    ++ beBytes 1 (bit s.commitHeld + bit s.accord.digestValid * 2) ++ beBytes 4 (s.cfg A.brgAccGroup).toNat ++ beBytes 8 s.peerId
    ++ beBytes 4 s.epoch.live.toNat ++ (padTo 16 s.accord.digest).take 16 ++ beBytes 4 b.version.toNat ++ beBytes 2 b.feature
    ++ beBytes 2 s.accord.msgSeq ++ beBytes 8 (secOf s.ns) ++ beBytes 4 (nsOf s.ns)

/-- Sends the accord message on every accord vertex, as items of vertex 96 (R19). -/
def accordSend (s : State) : State :=
  let payload := s.accordPayload
  let vs := (List.range 8).filter (fun v => tst (s.cfg A.brgAccVertices) v)
  let s := vs.foldl (fun s v =>
    sendMessage 96 v s.octTc (ethFrame (List.replicate 6 0xFF) (s.station v) none 0x88B5 payload) s) s
  let t : State := { s with accord := { s.accord with msgSeq := (s.accord.msgSeq + 1) % 65536, lastSent := s.now } }
  accordUpdate s t

/-- ACCORD_MESSAGE_SEND (R460, R462): 10 ms have passed since the last message; the management processor sends it. -/
def execAccordMessageSend (s : State) : Host.Outcome State Fault Refusal :=
  ran s (only (s.mpOn && s.accordOn && decide (s.accord.lastSent + 10000000 ≤ s.now)) accordSend s)

/-! ## Receiving (R462) -/

/-- Whether an item taken by the control path is an accord message. -/
def isAccord (i : Item) : Bool :=
  let o := ctlOff i.data
  decide (beAt i.data o 2 = 0x88B5 ∧ byteAt i.data (o + 2) = 0x41)

/-- A peer as its message shows it (R460, R462, R471). -/
def heardPeer (p : PeerSt) (i : Item) (d : List Byte) (now : Nat) : PeerSt :=
  let power := byteAt d 2 / 16 % 4
  let keeper := decide (byteAt d 2 / 8 % 2 = 1)
  { p with state := 1, id := BitVec.ofNat 64 (beAt d 8 8), epoch := w32 (beAt d 16 4), version := w32 (beAt d 36 4), power := power,
           keeper := keeper, digest := slice d 20 16, digestValid := decide (byteAt d 3 / 2 % 2 = 1), vertex := i.vertex,
           offset := satI32 ((timeOf (beAt d 44 8) (beAt d 52 4) : Int) - (i.stamp : Int)), feature := beAt d 40 2, heard := now,
           mac := slice i.data 6 6, rival := none, quietCount := if power = 2 ∧ !keeper then p.quietCount + 1 else 0,
           opened := decide (p.state = 1) && p.opened }

/-- A valid message of a rank (R462): a second claimant puts the rank into CONFLICT, and its messages are disregarded while that lasts. -/
def peerHeard (r : Nat) (i : Item) (d : List Byte) (s : State) : State :=
  let id : BitVec 64 := BitVec.ofNat 64 (beAt d 8 8)
  let p := s.peer r
  if r = s.ownRank then
    if id.toNat = s.peerId then s else setPeer r { p with state := 3, rival := some (id, s.now) } s
  else if p.state = 3 then
    if id = p.id then setPeer r { p with heard := s.now } s else setPeer r { p with rival := some (id, s.now) } s
  else if p.state = 1 ∧ id ≠ p.id then setPeer r { p with state := 3, rival := some (id, s.now) } s
  else setPeer r (heardPeer p i d s.now) s

/-- ACCORD_MESSAGE_RECEIVE (R461, R462): the oldest accord message that the control path has taken. One of another group is counted; one
of another layout version says nothing, nor does any while accord is disabled (R5). -/
def execAccordMessageReceive (s : State) : Host.Outcome State Fault Refusal :=
  ran s (only s.mpOn (fun s =>
    match takeCtl isAccord s with
    | none => s
    | some (i, s) =>
      let d := i.data.drop (ctlOff i.data + 2)
      if !s.accordOn ∨ byteAt d 1 ≠ 1 ∨ d.length < 56 then s
      else if w32 (beAt d 4 4) ≠ s.cfg A.brgAccGroup then bump A.brgAccForeign s
      else accordUpdate s (peerHeard (byteAt d 2 % 8) i d s)) s)

/-- PEER_LOST (R462): 50 ms have passed without a valid message of an UP peer. -/
def execPeerLost (r : Fin 8) (s : State) : Host.Outcome State Fault Refusal :=
  let p := s.peer r
  ran s (only (s.coreOn && decide (p.state = 1) && decide (p.heard + 50000000 ≤ s.now))
    (fun s => accordUpdate s (setPeer r { p with state := 2, opened := false } s)) s)

/-- A rank after its conflict (R462): the claimant that was UP is UP again while it is still heard; another one is ABSENT until its next
message. -/
def afterConflict (r : Nat) (p : PeerSt) (s : State) : PeerSt :=
  let q := { p with rival := none, opened := false }
  if r = s.ownRank then { q with state := 0 }
  else if s.now < p.heard + 50000000 then { q with state := 1 }
  else { q with state := 0, keeper := false }

/-- CONFLICT_CLEAR (R462): 50 ms have passed with at most one claimant of a rank. -/
def execConflictClear (r : Fin 8) (s : State) : Host.Outcome State Fault Refusal :=
  let p := s.peer r
  let rivalGone := match p.rival with
    | none => true
    | some (_, t) => decide (t + 50000000 ≤ s.now)
  let firstGone := decide (r.val ≠ s.ownRank) && decide (p.heard + 50000000 ≤ s.now)
  ran s (only (s.coreOn && decide (p.state = 3) && (rivalGone || firstGone))
    (fun s => accordUpdate s (setPeer r (afterConflict r p s) s)) s)

/-! ## The digest (R465) -/

/-- DIGEST_RECOMPUTE (R465): after a commit the digest is computed anew; without a key in its slot it is not valid. -/
def execDigestRecompute (s : State) : Host.Outcome State Fault Refusal :=
  ran s (only (s.mpOn && s.accord.digestDue) (fun s =>
    let d := s.digestOf s.live
    let t : State := { s with accord := { s.accord with digest := d.getD [], digestValid := d.isSome, digestDue := false } }
    accordUpdate s t) s)

end Sys2Proof.Machine
end

