-- ==== Sys2Proof/Machine/Rows.lean ====
section
/-! DEFINITION. The commands that are accesses to registers: each is a read or write by a facet of the register that its rule names,
through the one access path of Access and Window. -/

namespace Sys2Proof.Machine

/-! ## Commits (R31, R34–R38) -/

/-- COMMIT (R34): a write of COMMIT. -/
def execCommit (f : Facet) (s : State) : Host.Outcome State Fault Refusal :=
  rowWrite f A.sysEpochCtrl 1 s

/-- COMMIT_AT_TIME (R37): a write of COMMIT and AT_TIME. -/
def execCommitAtTime (f : Facet) (s : State) : Host.Outcome State Fault Refusal :=
  rowWrite f A.sysEpochCtrl 3 s

/-- CANCEL (R38): a write of CANCEL. -/
def execCancel (f : Facet) (s : State) : Host.Outcome State Fault Refusal :=
  rowWrite f A.sysEpochCtrl 4 s

/-! ## Register access in general (R6, R9–R12, R369, R630, R631, R634) -/

/-- A facet's read of a register as a command of its own: the answer is kept. -/
def rowRead (f : Facet) (addr : Nat) (s : State) : Host.Outcome State Fault Refusal :=
  ran s (only s.coreOn (fun s =>
    let (r, w, t) := readReg (s.plain f) addr s
    answer r [w] t) s)

/-- How an address is one half of a register pair. -/
def pairAt (addr : Nat) : PairHalf :=
  match regRow addr with
  | none => .none
  | some r => r.pair

/-- Whether an address is the _LO half of an RC counter (R369). -/
def counterAt (addr : Nat) : Bool :=
  match regRow addr with
  | none => false
  | some r => decide (r.acc = .rc) && decide (r.pair = .lo)

/-- REGISTER_WRITE (R12): a write of any register; one that goes through an aperture waits while its window has no room (R455). -/
def execRegisterWrite (f : Facet) (addr v : W32) (s : State) : Host.Outcome State Fault Refusal :=
  let room := match farWindow addr.toNat with
    | none => true
    | some k => s.windowRoom k
  if room then rowWrite f addr.toNat v s else ran s s

/-- PAIR_LO_READ (R9). -/
def execPairLoRead (f : Facet) (addr : W32) (s : State) : Host.Outcome State Fault Refusal :=
  if pairAt addr.toNat = .lo then rowRead f addr.toNat s else ran s s

/-- PAIR_LO_WRITE (R10). -/
def execPairLoWrite (f : Facet) (addr v : W32) (s : State) : Host.Outcome State Fault Refusal :=
  if pairAt addr.toNat = .lo then rowWrite f addr.toNat v s else ran s s

/-- PAIR_HI_WRITE (R10). -/
def execPairHiWrite (f : Facet) (addr v : W32) (s : State) : Host.Outcome State Fault Refusal :=
  if pairAt addr.toNat = .hi then rowWrite f addr.toNat v s else ran s s

/-- COUNTER_READ (R369). -/
def execCounterRead (f : Facet) (addr : W32) (s : State) : Host.Outcome State Fault Refusal :=
  if counterAt addr.toNat then rowRead f addr.toNat s else ran s s

/-- FAULT_CODE_READ (R631). -/
def execFaultCodeRead (f : Facet) (page : PageNo) (s : State) : Host.Outcome State Fault Refusal :=
  rowRead f (0x1000 * page.val + 0x20) s

/-- EV_RAW_CLEAR (R630). -/
def execEvRawClear (f : Facet) (page : PageNo) (v : W32) (s : State) : Host.Outcome State Fault Refusal :=
  rowWrite f (0x1000 * page.val + 0x10) v s

/-- STAGE_VIEW_WRITE (R634). -/
def execStageViewWrite (f : Facet) (v : W32) (s : State) : Host.Outcome State Fault Refusal :=
  rowWrite f A.sysStageView v s

/-! ## Locus, stamps and captures (R65, R68, R72, R75, R90–R92) -/

/-- LOC_RATE_WRITE (R68). -/
def execLocRateWrite (f : Facet) (v : W32) (s : State) : Host.Outcome State Fault Refusal :=
  rowWrite f A.locRate v s

/-- PHASE_ADJUST (R72). -/
def execPhaseAdjust (f : Facet) (v : W32) (s : State) : Host.Outcome State Fault Refusal :=
  rowWrite f A.locAdjNs v s

/-- DEV_EPOCH_WRITE (R65). -/
def execDevEpochWrite (f : Facet) (hi : Bool) (v : W32) (s : State) : Host.Outcome State Fault Refusal :=
  rowWrite f (if hi then A.locDevEpochHi else A.locDevEpochLo) v s

/-- FORCE_HOLD (R75). -/
def execForceHold (f : Facet) (v : W32) (s : State) : Host.Outcome State Fault Refusal :=
  rowWrite f A.locCtrl v s

/-- TXQ_SEL_WRITE (R90). -/
def execTxqSelWrite (f : Facet) (n : Facet) (v : W32) (s : State) : Host.Outcome State Fault Refusal :=
  rowWrite f (A.locTxqSel n.val) v s

/-- TXQ_POP (R91). -/
def execTxqPop (f : Facet) (n : Facet) (v : W32) (s : State) : Host.Outcome State Fault Refusal :=
  rowWrite f (A.locTxqPop n.val) v s

/-- CAPTURE_POP (R92). -/
def execCapturePop (f : Facet) (n : Fin 8) (v : W32) (s : State) : Host.Outcome State Fault Refusal :=
  rowWrite f (A.locCapPop n.val) v s

/-! ## Planes (R136, R137) -/

/-- PLANE_MOVE (R136). -/
def execPlaneMove (f : Facet) (v : W32) (s : State) : Host.Outcome State Fault Refusal :=
  rowWrite f A.plnMove v s

/-- PLANE_FORCE_RETIRE (R137). -/
def execPlaneForceRetire (f : Facet) (v : W32) (s : State) : Host.Outcome State Fault Refusal :=
  rowWrite f A.plnForceRetire v s

/-! ## Tables (R179, R196, R206, R215) -/

/-- HASH_SEED_WRITE (R179). -/
def execHashSeedWrite (f : Facet) (v : W32) (s : State) : Host.Outcome State Fault Refusal :=
  rowWrite f A.tblHashSeed v s

/-- The word of TBL_CMDp_OP or BRG_RCMDp_OP (R214, R326): CODE, BANK, and TABLE or KIND. -/
def opWord (code : Nat) (second live : Bool) : W32 := w32 (code + bit live * 16 + bit second * 32)

/-- SEARCH (R215): the command is started on a port that the facet holds. -/
def execTblSearch (f : Facet) (p : Fin 4) (hash live : Bool) (s : State) : Host.Outcome State Fault Refusal :=
  rowWrite f (A.tblCmdOp p.val) (opWord 1 hash live) s

/-- INSERT (R215): the command is started on a port that the facet holds. -/
def execTblInsert (f : Facet) (p : Fin 4) (hash live : Bool) (s : State) : Host.Outcome State Fault Refusal :=
  rowWrite f (A.tblCmdOp p.val) (opWord 2 hash live) s

/-- UPDATE (R215): the command is started on a port that the facet holds. -/
def execTblUpdate (f : Facet) (p : Fin 4) (hash live : Bool) (s : State) : Host.Outcome State Fault Refusal :=
  rowWrite f (A.tblCmdOp p.val) (opWord 3 hash live) s

/-- DELETE (R215): the command is started on a port that the facet holds. -/
def execTblDelete (f : Facet) (p : Fin 4) (hash live : Bool) (s : State) : Host.Outcome State Fault Refusal :=
  rowWrite f (A.tblCmdOp p.val) (opWord 4 hash live) s

/-- NEXT (R215): the command is started on a port that the facet holds. -/
def execTblNext (f : Facet) (p : Fin 4) (hash live : Bool) (s : State) : Host.Outcome State Fault Refusal :=
  rowWrite f (A.tblCmdOp p.val) (opWord 5 hash live) s

/-- TABLE_READ (R215): the command is started on a port that the facet holds. -/
def execTblRead (f : Facet) (p : Fin 4) (hash live : Bool) (s : State) : Host.Outcome State Fault Refusal :=
  rowWrite f (A.tblCmdOp p.val) (opWord 6 hash live) s

/-- FLUSH_VERTEX (R215): the command is started on a port that the facet holds. -/
def execTblFlushVertex (f : Facet) (p : Fin 4) (hash live : Bool) (s : State) : Host.Outcome State Fault Refusal :=
  rowWrite f (A.tblCmdOp p.val) (opWord 7 hash live) s

/-- CLEAR_REQ (R215): the command is started on a port that the facet holds. -/
def execTblClearReq (f : Facet) (p : Fin 4) (hash live : Bool) (s : State) : Host.Outcome State Fault Refusal :=
  rowWrite f (A.tblCmdOp p.val) (opWord 8 hash live) s

/-- CMD_PORT_LOCK (R206). -/
def execCmdPortLock (f : Facet) (p : Fin 4) (s : State) : Host.Outcome State Fault Refusal :=
  rowWrite f (A.tblCmdLock p.val) 0x10 s

/-- CMD_PORT_RELEASE (R206). -/
def execCmdPortRelease (f : Facet) (p : Fin 4) (s : State) : Host.Outcome State Fault Refusal :=
  rowWrite f (A.tblCmdLock p.val) 0 s

/-- CMD_PORT_FORCE (R206). -/
def execCmdPortForce (f : Facet) (p : Fin 4) (s : State) : Host.Outcome State Fault Refusal :=
  rowWrite f (A.tblCmdLock p.val) 0x100 s

/-- SF_UNBLOCK (R196). -/
def execSfUnblock (f : Facet) (v : W32) (s : State) : Host.Outcome State Fault Refusal :=
  rowWrite f A.tblSfUnblock v s

/-! ## Lattice (R225, R255, R257, R264) -/

/-- LAT_FORCE_RETIRE (R255). -/
def execLatForceRetire (f : Facet) (v : W32) (s : State) : Host.Outcome State Fault Refusal :=
  rowWrite f A.latForceRetire v s

/-- SEGMENT_OPEN (R257). -/
def execSegmentOpen (f : Facet) (s : State) : Host.Outcome State Fault Refusal :=
  rowWrite f A.latSegCtrl 1 s

/-- SEAL (R257). -/
def execSeal (f : Facet) (s : State) : Host.Outcome State Fault Refusal :=
  rowWrite f A.latSegCtrl 2 s

/-- SEGMENT_FREE (R257). -/
def execSegmentFree (f : Facet) (s : State) : Host.Outcome State Fault Refusal :=
  rowWrite f A.latSegCtrl 3 s

/-- PS_DATA_WRITE (R264). -/
def execPsDataWrite (f : Facet) (v : W32) (s : State) : Host.Outcome State Fault Refusal :=
  rowWrite f A.latPsData v s

/-- ADMISSION_QUEUE_WAIT (R225): the facet's admission queue has held a job for 5 µs, and the highest pace level is requested. -/
def execAdmissionQueueWait (f : Facet) (s : State) : Host.Outcome State Fault Refusal :=
  ran s (only (s.coreOn && (SMap.get [] s.admission f.val).any (fun j => decide (j.since + 5000 ≤ s.now))) latPace s)

/-! ## Field buses and the bridge (R283, R297, R305, R325, R326) -/

/-- CAN_RECOVER (R283). -/
def execCanRecover (f : Facet) (ch : CanCh) (s : State) : Host.Outcome State Fault Refusal :=
  rowWrite f (A.canCmd ch.val) 1 s

/-- TT_RESTART (R297). -/
def execTtRestart (f : Facet) (ch : CanCh) (s : State) : Host.Outcome State Fault Refusal :=
  rowWrite f (A.canCmd ch.val) 2 s

/-- LIN_SCHED_SEL_WRITE (R305). -/
def execLinSchedSelWrite (f : Facet) (j : LinCh) (v : W32) (s : State) : Host.Outcome State Fault Refusal :=
  rowWrite f (A.linSchedSel j.val) v s

/-- RULE_READ (R326): the command is started on a port that the facet holds. -/
def execRuleRead (f : Facet) (p : Fin 2) (tangent live : Bool) (s : State) : Host.Outcome State Fault Refusal :=
  rowWrite f (A.brgRcmdOp p.val) (opWord 1 tangent live) s

/-- RULE_WRITE (R326): the command is started on a port that the facet holds. -/
def execRuleWrite (f : Facet) (p : Fin 2) (tangent live : Bool) (s : State) : Host.Outcome State Fault Refusal :=
  rowWrite f (A.brgRcmdOp p.val) (opWord 2 tangent live) s

/-- RULE_CLEAR (R326): the command is started on a port that the facet holds. -/
def execRuleClear (f : Facet) (p : Fin 2) (tangent live : Bool) (s : State) : Host.Outcome State Fault Refusal :=
  rowWrite f (A.brgRcmdOp p.val) (opWord 3 tangent live) s

/-- RULE_PORT_LOCK (R325). -/
def execRulePortLock (f : Facet) (p : Fin 2) (s : State) : Host.Outcome State Fault Refusal :=
  rowWrite f (A.brgRcmdLock p.val) 0x10 s

/-- RULE_PORT_RELEASE (R325). -/
def execRulePortRelease (f : Facet) (p : Fin 2) (s : State) : Host.Outcome State Fault Refusal :=
  rowWrite f (A.brgRcmdLock p.val) 0 s

/-- RULE_PORT_FORCE (R325). -/
def execRulePortForce (f : Facet) (p : Fin 2) (s : State) : Host.Outcome State Fault Refusal :=
  rowWrite f (A.brgRcmdLock p.val) 0x100 s

/-! ## MACsec, journal, capture and injection (R378, R397, R398, R405, R408–R412) -/

/-- SEC_TX_AN_WRITE (R378). -/
def execSecTxAnWrite (f : Facet) (v : EthV) (an : W32) (s : State) : Host.Outcome State Fault Refusal :=
  rowWrite f (A.ethSecTxAn v.val) an s

/-- POLICY_WRITE (R397). -/
def execPolicyWrite (f : Facet) (v : W32) (s : State) : Host.Outcome State Fault Refusal :=
  rowWrite f A.jrnCtrl v s

/-- JOURNAL_READ_REQUEST (R398). -/
def execJournalReadRequest (f : Facet) (v : W32) (s : State) : Host.Outcome State Fault Refusal :=
  rowWrite f A.jrnRdReq v s

/-- CAP_TAIL_WRITE (R405). -/
def execCapTailWrite (f : Facet) (r : Fin 8) (v : W32) (s : State) : Host.Outcome State Fault Refusal :=
  rowWrite f (A.capTail r.val) v s

/-- INJECT_DATA (R408). -/
def execInjectData (f : Facet) (k : Fin 4) (v : W32) (s : State) : Host.Outcome State Fault Refusal :=
  rowWrite f (A.injData k.val) v s

/-- INJECT_END (R409). -/
def execInjectEnd (f : Facet) (k : Fin 4) (v : W32) (s : State) : Host.Outcome State Fault Refusal :=
  rowWrite f (A.injEnd k.val) v s

/-- INJECT_SWAP (R410). -/
def execInjectSwap (f : Facet) (k : Fin 4) (valid : Fin 8) (s : State) : Host.Outcome State Fault Refusal :=
  rowWrite f (A.injCmd k.val) (w32 (2 + 4 * valid.val)) s

/-- INJECT_FLUSH (R412). -/
def execInjectFlush (f : Facet) (k : Fin 4) (s : State) : Host.Outcome State Fault Refusal :=
  rowWrite f (A.injCmd k.val) 1 s

/-! ## Cipher engine and check units (R487, R495, R502, R511, R513) -/

/-- CIP_SUBMIT (R495). -/
def execCipSubmit (f : Facet) (n : Facet) (v : W32) (s : State) : Host.Outcome State Fault Refusal :=
  rowWrite f (A.cipRqSubmit n.val) v s

/-- CQ_POP (R502). -/
def execCqPop (f : Facet) (n : Facet) (v : W32) (s : State) : Host.Outcome State Fault Refusal :=
  rowWrite f (A.cipCqPop n.val) v s

/-- PROMOTE (R487). -/
def execPromote (f : Facet) (n : Facet) (s : State) : Host.Outcome State Fault Refusal :=
  rowWrite f (A.cipKsCmd n.val) 1 s

/-- ERASE_NEXT (R487). -/
def execEraseNext (f : Facet) (n : Facet) (s : State) : Host.Outcome State Fault Refusal :=
  rowWrite f (A.cipKsCmd n.val) 2 s

/-- ERASE_ALL (R487). -/
def execEraseAll (f : Facet) (n : Facet) (s : State) : Host.Outcome State Fault Refusal :=
  rowWrite f (A.cipKsCmd n.val) 3 s

/-- CHECK_RUN_WRITE (R511). -/
def execCheckRunWrite (f : Facet) (u : Fin 8) (hi : Bool) (v : W32) (s : State) : Host.Outcome State Fault Refusal :=
  rowWrite f (if hi then A.chkURunHi u.val else A.chkURunLo u.val) v s

/-- CHECK_SCAN (R513). -/
def execCheckScan (f : Facet) (u : Fin 8) (v : W32) (s : State) : Host.Outcome State Fault Refusal :=
  rowWrite f (A.chkUScanCmd u.val) v s

/-! ## Sleep, reset and page control (R521, R524, R529, R534, R542, R576–R579, R622, R625) -/

/-- WAK_RUN (R521). -/
def execWakRun (f : Facet) (s : State) : Host.Outcome State Fault Refusal :=
  rowWrite f A.wakCmd 1 s

/-- WAK_DOZE (R524). -/
def execWakDoze (f : Facet) (s : State) : Host.Outcome State Fault Refusal :=
  rowWrite f A.wakCmd 2 s

/-- WAK_SLEEP (R529). -/
def execWakSleep (f : Facet) (s : State) : Host.Outcome State Fault Refusal :=
  rowWrite f A.wakCmd 3 s

/-- WAK_CANCEL (R534). -/
def execWakCancel (f : Facet) (s : State) : Host.Outcome State Fault Refusal :=
  rowWrite f A.wakCmd 16 s

/-- FACET_KEEP_WRITE (R542). -/
def execFacetKeepWrite (f : Facet) (v : W32) (s : State) : Host.Outcome State Fault Refusal :=
  rowWrite f A.wakFacetKeep v s

/-- RESET_COMMAND (R579): the device reset follows the answer. -/
def execResetCommand (f : Facet) (v : W32) (s : State) : Host.Outcome State Fault Refusal :=
  rowWrite f A.pwrResetCmd v s

/-- Base of the page of a vertex with SOFT_RESET (R576): 72–77 are the pages of the LIN pairs. -/
def pageVertexBase (v : Nat) : Nat := if v < 72 then vertexPage v else 0x119000 + 0x1000 * (v - 72)

/-- PAGE_CTRL with the ENABLE and QUIESCE that the page has now, and what else a write asks for: ENABLE is the staged value, so that the
write leaves it (R622). -/
def State.pageCtrlNow (s : State) (base : Nat) (quiesce : Bool) (extra : Nat) : W32 :=
  w32 (bit (tst (s.stg (base + 8)) 0) + bit quiesce * 2 + extra)

/-- VERTEX_SOFT_RESET (R576). -/
def execVertexSoftReset (f : Facet) (v : PageVertex) (s : State) : Host.Outcome State Fault Refusal :=
  let base := pageVertexBase v.val
  rowWrite f (base + 8) (s.pageCtrlNow base (tst (s.reg (base + 8)) 1) 4) s

/-- CELL_SOFT_RESET (R577). -/
def execCellSoftReset (f : Facet) (k : Fin 36) (s : State) : Host.Outcome State Fault Refusal :=
  let base := 0x82000 + 0x1000 * k.val
  rowWrite f (base + 8) (s.pageCtrlNow base (tst (s.reg (base + 8)) 1) 4) s

/-- QUIESCE (R625, R626). -/
def execQuiesce (f : Facet) (page : PageNo) (hold : Bool) (s : State) : Host.Outcome State Fault Refusal :=
  let base := 0x1000 * page.val
  rowWrite f (base + 8) (s.pageCtrlNow base hold 0) s

/-- PAGE_ENABLE_WRITE (R622). -/
def execPageEnableWrite (f : Facet) (page : PageNo) (v : W32) (s : State) : Host.Outcome State Fault Refusal :=
  rowWrite f (0x1000 * page.val + 8) v s

/-! ## Update and life cycle (R594–R599, R603), and the monitor's lock (R610) -/

/-- UPD_OPEN (R594). -/
def execUpdOpen (f : Facet) (s : State) : Host.Outcome State Fault Refusal :=
  rowWrite f A.updCmd 1 s

/-- UPD_VERIFY (R594). -/
def execUpdVerify (f : Facet) (s : State) : Host.Outcome State Fault Refusal :=
  rowWrite f A.updCmd 2 s

/-- ACTIVATE (R594). -/
def execUpdActivate (f : Facet) (s : State) : Host.Outcome State Fault Refusal :=
  rowWrite f A.updCmd 3 s

/-- CONFIRM (R595). -/
def execUpdConfirm (f : Facet) (s : State) : Host.Outcome State Fault Refusal :=
  rowWrite f A.updCmd 4 s

/-- FALLBACK (R596). -/
def execUpdFallback (f : Facet) (s : State) : Host.Outcome State Fault Refusal :=
  rowWrite f A.updCmd 5 s

/-- SAVE (R599). -/
def execUpdSave (f : Facet) (s : State) : Host.Outcome State Fault Refusal :=
  rowWrite f A.updCmd 6 s

/-- UPD_ABORT (R594). -/
def execUpdAbort (f : Facet) (s : State) : Host.Outcome State Fault Refusal :=
  rowWrite f A.updCmd 7 s

/-- UPD_WRITE_DATA (R594). -/
def execUpdWriteData (f : Facet) (v : W32) (s : State) : Host.Outcome State Fault Refusal :=
  rowWrite f A.updWrData v s

/-- LC_REQUEST (R603): a write of UPD_LC_REQ; `sigOk` says whether UPD_SIG_WIN holds a signature by the key that authorises the
request. -/
def execLcRequest (f : Facet) (v : W32) (sigOk : Bool) (s : State) : Host.Outcome State Fault Refusal :=
  ran s (only s.coreOn (fun s =>
    let q := s.plain f
    if !s.mayWrite q updPage 0xB0 then answer .rights [] s
    else if s.lockedOut q updPage 0xB0 v then answer .locked [] s
    else answer .ok [] (lcReqWritten v sigOk (renewAccess q updPage 0xB0 s))) s)

/-- FORCE_LOCK (R610). -/
def execForceLock (f : Facet) (v : W32) (s : State) : Host.Outcome State Fault Refusal :=
  rowWrite f A.svcForceLock v s

end Sys2Proof.Machine
end

