-- ==== Sys2Proof/Machine/Monitor.lean ====
section
/-! DEFINITION. The Flenagil monitor (R601, R603, R606–R611): the commands of its lines. How a line is written beyond what R607 shows is the
model's: words apart by spaces, commands in capitals, addresses and register words in hexadecimal, counts and rates in decimal, banks A
and B, stages by number, ECHO ON and OFF. -/

namespace Sys2Proof.Machine

/-! ## Lines -/

/-- A monitor command (R607). -/
inductive MonCmd where
  | ident | help | status | baud | echo | chal | unlock | lock | flog | rd | wr | mw | reset | bank | load | activate | confirm | recover | stage
  deriving DecidableEq, Repr

/-- The name of a command in ASCII. -/
def MonCmd.text : MonCmd → List Byte
  | .ident => [0x49, 0x44, 0x45, 0x4E, 0x54]
  | .help => [0x48, 0x45, 0x4C, 0x50]
  | .status => [0x53, 0x54, 0x41, 0x54, 0x55, 0x53]
  | .baud => [0x42, 0x41, 0x55, 0x44]
  | .echo => [0x45, 0x43, 0x48, 0x4F]
  | .chal => [0x43, 0x48, 0x41, 0x4C]
  | .unlock => [0x55, 0x4E, 0x4C, 0x4F, 0x43, 0x4B]
  | .lock => [0x4C, 0x4F, 0x43, 0x4B]
  | .flog => [0x46, 0x4C, 0x4F, 0x47]
  | .rd => [0x52, 0x44]
  | .wr => [0x57, 0x52]
  | .mw => [0x4D, 0x57]
  | .reset => [0x52, 0x45, 0x53, 0x45, 0x54]
  | .bank => [0x42, 0x41, 0x4E, 0x4B]
  | .load => [0x4C, 0x4F, 0x41, 0x44]
  | .activate => [0x41, 0x43, 0x54, 0x49, 0x56, 0x41, 0x54, 0x45]
  | .confirm => [0x43, 0x4F, 0x4E, 0x46, 0x49, 0x52, 0x4D]
  | .recover => [0x52, 0x45, 0x43, 0x4F, 0x56, 0x45, 0x52]
  | .stage => [0x53, 0x54, 0x41, 0x47, 0x45]

/-- All commands. -/
def monCmds : List MonCmd := [.ident, .help, .status, .baud, .echo, .chal, .unlock, .lock, .flog, .rd, .wr, .mw, .reset, .bank, .load, .activate, .confirm, .recover, .stage]

/-- The words of a line: apart by spaces, CR and LF. -/
def lineWords : List Byte → List Byte → List (List Byte)
  | [], w => if w = [] then [] else [w.reverse]
  | b :: l, w =>
    if b = 0x20 ∨ b = 0x0D ∨ b = 0x0A then (if w = [] then lineWords l [] else w.reverse :: lineWords l []) else lineWords l (b :: w)

/-- The command that a line names, and the words after it. -/
def monLine (text : List Byte) : Option (MonCmd × List (List Byte)) :=
  match lineWords text [] with
  | [] => none
  | w :: l => (monCmds.find? (fun c => c.text = w)).map (fun c => (c, l))

/-- A hexadecimal digit. -/
def hexDigit (b : Byte) : Option Nat :=
  let n := b.toNat
  if 48 ≤ n ∧ n < 58 then some (n - 48) else if 65 ≤ n ∧ n < 71 then some (n - 55) else if 97 ≤ n ∧ n < 103 then some (n - 87) else none

/-- A number in a base, from its digits. -/
def number (base : Nat) (w : List Byte) : Option Nat :=
  if w = [] then none
  else w.foldl (fun a b => match a, hexDigit b with
    | some a, some d => if d < base then some (a * base + d) else none
    | _, _ => none) (some 0)

/-- A hexadecimal word of at most 32 bits, with or without 0x. -/
def hexArg (w : List Byte) : Option W32 :=
  let w := if w.take 2 = [0x30, 0x78] then w.drop 2 else w
  match number 16 w with
  | none => none
  | some n => if n < 2 ^ 32 then some (w32 n) else none

/-- A decimal number. -/
def decArg (w : List Byte) : Option Nat := number 10 w

/-- A bank: A or B. -/
def bankArg (w : List Byte) : Option Nat := if w = [0x41] then some 0 else if w = [0x42] then some 1 else none

/-! ## Rights (R601, R607) -/

/-- Whether a command is permitted in a stage under an unlock (R607): 0 locked, 1 OWNER, 2 VENDOR. -/
def MonCmd.permitted (c : MonCmd) (stage unlock : Nat) : Bool :=
  match c with
  | .ident | .flog => true
  | .help | .status | .baud | .echo | .chal | .unlock | .lock | .stage => decide (stage < 4)
  | .rd => decide (stage < 3) || (decide (stage = 3) && decide (unlock = 2))
  | .wr | .mw | .reset | .bank | .load | .activate | .confirm | .recover =>
    decide (stage = 0) || (decide (stage < 3) && decide (1 ≤ unlock)) || (decide (stage = 3) && decide (unlock = 2))

/-- The commands that the ROM accepts in recovery (R601). -/
def MonCmd.inRecovery : MonCmd → Bool
  | .ident | .baud | .flog | .load | .activate | .reset => true
  | _ => false

/-- Whether a command is permitted now. -/
def State.monMay (s : State) (c : MonCmd) : Bool :=
  c.permitted s.stage s.svc.unlock && (decide (s.fw.step ≠ .recovery) || c.inRecovery)

/-- The monitor runs: the management processor does, or the ROM serves the port in recovery or in stage VOID (R601, R604). -/
def State.monOn (s : State) : Bool :=
  s.coreOn && (decide (s.fw.step = .recovery ∨ s.fw.step = .voidMonitor) || decide (s.mp = .running))

/-- Lines at the front that name no command are answered ER LINE. -/
def skipUnknown : Nat → State → State
  | 0, s => s
  | n + 1, s =>
    match s.svc.lines with
    | [] => s
    | i :: l =>
      if (monLine i.data).isSome then s
      else skipUnknown n (say ["ER LINE"] (consume i.uid { s with svc := { s.svc with lines := l } }))

/-- A command of the monitor: executes the line at the front when it names that command. Without the right to it the line is answered ER
RIGHTS and has no effect (R607). -/
def monRow (c : MonCmd) (f : List (List Byte) → State → State) (s : State) : Host.Outcome State Fault Refusal :=
  ran s (only (s.monOn && !s.svc.held && s.svc.load.isNone) (fun s =>
    let s := skipUnknown s.svc.lines.length s
    match s.svc.lines with
    | [] => s
    | i :: _ =>
      match monLine i.data with
      | none => s
      | some (d, args) => if d ≠ c then s else if s.monMay c then f args s else monEnds 0 .rights [] s) s)

/-- Answers OK with data lines. -/
def monOk (out : List String) (s : State) : State := monEnds 0 .ok out s

/-- A line whose words are not what its command asks for is answered ER LINE. -/
def monBad (s : State) : State :=
  match s.svc.lines with
  | [] => s
  | i :: l => say ["ER LINE"] (consume i.uid { s with svc := { s.svc with lines := l } })

/-- The request of a line: an operation of F15 under the epoch of its item (R419). -/
def State.monReq (s : State) : Req := ⟨15, 0, false, 0, (s.svc.lines.map (·.epoch)).headD s.epoch.live⟩

/-! ## Information and port settings (R606, R607) -/

/-- IDENT (R607): product, serial, hardware revision, stage, bank versions. -/
def execMonIdent (s : State) : Host.Outcome State Fault Refusal :=
  monRow .ident (fun _ s => monOk (([s.reg A.sysId, s.reg A.sysSerialHi, s.reg A.sysSerialLo, s.reg A.sysHwRev, w32 s.stage,
    (s.bank 0).version, (s.bank 1).version] : List W32).map hexWord) s) s

/-- HELP (R607): the names of the commands. -/
def execMonHelp (s : State) : Host.Outcome State Fault Refusal :=
  monRow .help (fun _ s => monOk (monCmds.map (fun c => String.ofList (c.text.map (fun b => Char.ofNat b.toNat)))) s) s

/-- STATUS (R607): SVC_STATUS. -/
def execMonStatus (s : State) : Host.Outcome State Fault Refusal :=
  monRow .status (fun _ s => monOk [hexWord s.svcStatus] s) s

/-- The rates of R613. -/
def baudRates : List Nat := [9600, 19200, 38400, 57600, 115200, 230400, 460800, 921600]

/-- BAUD (R606): the rate changes after its OK; without a valid line at the new rate it goes back after 10 s. -/
def execMonBaud (s : State) : Host.Outcome State Fault Refusal :=
  monRow .baud (fun args s =>
    match args.map decArg with
    | [some r] =>
      if baudRates.contains r then
        let s := monOk [] s
        { s with svc := { s.svc with oldRate := s.svc.rate, rate := baudRates.findIdx (fun x => x = r), rateAt := some s.now } }
      else monEnds 0 .range [] s
    | _ => monBad s) s

/-- BAUD_REVERT (R606). -/
def execBaudRevert (s : State) : Host.Outcome State Fault Refusal :=
  match s.svc.rateAt with
  | none => ran s s
  | some t => ran s (only (s.monOn && decide (t + 10000000000 ≤ s.now))
      (fun s => raise 316 { s with svc := { s.svc with rate := s.svc.oldRate, rateAt := none } }) s)

/-- ECHO (R607). -/
def execMonEcho (s : State) : Host.Outcome State Fault Refusal :=
  monRow .echo (fun args s =>
    match args with
    | [w] =>
      if w = [0x4F, 0x4E] then monOk [] { s with svc := { s.svc with echo := true } }
      else if w = [0x4F, 0x46, 0x46] then monOk [] { s with svc := { s.svc with echo := false } }
      else monBad s
    | _ => monBad s) s

/-! ## Unlock (R608–R610) -/

/-- CHAL (R608): a new challenge of 16 free bytes. -/
def execMonChal (s : State) : Host.Outcome State Fault Refusal :=
  monRow .chal (fun _ s =>
    let c := s.freeBytes
    monOk ((beWords c).map hexWord) { s with svc := { s.svc with challenge := some c }, fresh := s.fresh + 4 }) s

/-- A failed unlock (R609): counted, event 313; from the third in a row on UNLOCK is refused, for 60 s and twice as long each further
time. -/
def unlockFailed (s : State) : State :=
  let n := s.svc.failsRow + 1
  let wait := if n < 3 then 0 else min 3600 (60 * 2 ^ min (n - 3) 6)
  let svc := { s.svc with failsRow := n, refuseUntil := if n < 3 then s.svc.refuseUntil else s.now + wait * 1000000000 }
  monEnds 0 .rights [] (raise 313 (bump A.svcUnlockFails { s with svc := svc }))

/-- UNLOCK (R608, R609); `sigOk` says whether the signature in the line is one over the challenge by the key of the level asked for. -/
def execMonUnlock (sigOk : Bool) (s : State) : Host.Outcome State Fault Refusal :=
  monRow .unlock (fun args s =>
    match args with
    | [w, _] =>
      let level := if w = [0x4F] then 1 else if w = [0x56] then 2 else 0
      if level = 0 then monBad s
      else if s.now < s.svc.refuseUntil then monEnds 0 .rights [] s
      else if sigOk ∧ s.svc.challenge.isSome then
        let svc := { s.svc with unlock := level, failsRow := 0, refuseUntil := 0, challenge := none }
        monOk [] (raise 312 { s with svc := svc })
      else unlockFailed s
    | _ => monBad s) s

/-- LOCK (R610). -/
def execMonLock (s : State) : Host.Outcome State Fault Refusal :=
  monRow .lock (fun _ s => monOk [] { s with svc := { s.svc with unlock := 0 } }) s

/-- UNLOCK_IDLE_EXPIRY (R610): SVC_UNLOCK_IDLE seconds without a line. -/
def execUnlockIdleExpiry (s : State) : Host.Outcome State Fault Refusal :=
  let idle := fld (s.cfg A.svcUnlockIdle) 0 16
  ran s (only (s.monOn && decide (s.svc.unlock ≠ 0) && decide (s.svc.lastLine + idle * 1000000000 ≤ s.now))
    (fun s => raise 314 { s with svc := { s.svc with unlock := 0 } }) s)

/-! ## Register commands and the fault log (R607, R611) -/

/-- FLOG (R611): the newest entries, one unless the line says how many. -/
def execMonFlog (s : State) : Host.Outcome State Fault Refusal :=
  monRow .flog (fun args s =>
    let show_ (n : Nat) : State :=
      monOk (((s.fw.flog.take n).map (fun r => [r.w0, r.w1, r.w2, r.w3, r.w4, r.w5, r.w6, r.w7].map hexWord)).flatten) s
    match args.map decArg with
    | [] => show_ 1
    | [some n] => show_ n
    | _ => monBad s) s

/-- A READ by the monitor of `n` words (R607); a far read holds the line (R455). -/
def monRead (addr n : Nat) (s : State) : State :=
  let q := s.monReq
  match badSpan addr n with
  | some r => monEnds 1 r [] s
  | none =>
    match farWindow (addr + 4 * (n - 1)) with
    | none =>
      let (r, ws, t) := readWords q addr n s
      monEnds 1 r (ws.map hexWord) t
    | some k =>
      let m := nearPart addr n
      let (r, ws, t) := readWords q addr m s
      if r ≠ .ok then monEnds 1 r [] t
      else if !s.mayUseWindow q k then monEnds 1 .rights [] t
      else if !s.windowRoom k then s
      else farRead q k (addr % 0x1000 + 4 * m) (n - m) ws .monitor { t with svc := { t.svc with held := true } }

/-- RD (R607). -/
def execMonRd (s : State) : Host.Outcome State Fault Refusal :=
  monRow .rd (fun args s =>
    match args with
    | [a] => (match hexArg a with
      | some a => monRead a.toNat 1 s
      | none => monBad s)
    | [a, n] => (match hexArg a, decArg n with
      | some a, some n => if 1 ≤ n ∧ n ≤ 16 then monRead a.toNat n s else monBad s
      | _, _ => monBad s)
    | _ => monBad s) s

/-- A register write by the monitor has ended: the line is answered, and a device reset that the write asked for follows (R579). -/
def monWrote (r : Rsp) (s : State) : State := resetIfDue (monEnds 1 r [] s)

/-- Whether the window of an access by the monitor takes it now. -/
def State.monRoom (s : State) (addr : Nat) : Bool :=
  match farWindow addr with
  | none => true
  | some k => s.windowRoom k

/-- WR (R607). -/
def execMonWr (s : State) : Host.Outcome State Fault Refusal :=
  monRow .wr (fun args s =>
    match args.map hexArg with
    | [some a, some v] =>
      if !s.monRoom a.toNat then s
      else
        let (r, t) := writeAny s.monReq a.toNat v s
        monWrote r t
    | _ => monBad s) s

/-- MW (R607). -/
def execMonMw (s : State) : Host.Outcome State Fault Refusal :=
  monRow .mw (fun args s =>
    match args.map hexArg with
    | [some a, some m, some v] =>
      if !s.monRoom a.toNat then s
      else
        let (r, t) := maskedWrite s.monReq a.toNat m v s
        monWrote r t
    | _ => monBad s) s

/-- RESET (R579, R607): the device is reset after the answer. -/
def execMonReset (s : State) : Host.Outcome State Fault Refusal :=
  monRow .reset (fun _ s => deviceReset 4 (monOk [] s)) s

/-! ## Banks, recovery, life cycle (R594, R595, R601, R603) -/

/-- BANK (R607): the states of the banks. -/
def execMonBank (s : State) : Host.Outcome State Fault Refusal :=
  monRow .bank (fun _ s => monOk (([s.updBank 0, s.updBank 1, s.updSet 0, s.updSet 1] : List W32).map hexWord) s) s

/-- Answers with the RESULT of an update command: OK, or ER with STATE, BUSY or TRIAL (R612). -/
def monUpd (s : State) : State :=
  let r := s.fw.cmdResult
  match s.svc.lines with
  | [] => s
  | _ :: _ =>
    if r = 0 then monOk [] s
    else
      let s := monEnds 0 .conflict [] s
      let name := if r = 1 then "ER STATE" else if r = 2 then "ER BUSY" else if r = 3 then "ER TRIAL" else "ER FLASH_ERROR"
      { s with svc := { s.svc with output := s.svc.output.dropLast ++ [name] } }

/-- LOAD (R601): an XMODEM-1K load into a bank begins; while an image runs, into the free bank alone (R594). -/
def execMonLoad (s : State) : Host.Outcome State Fault Refusal :=
  monRow .load (fun args s =>
    match args.map bankArg with
    | [some b] =>
      let rom := decide (s.fw.step = .recovery)
      if !rom ∧ s.fw.rec_.trial.isSome then monUpd (updResult 3 s)
      else if s.fw.busy.isSome then monUpd (updResult 2 s)
      else if !rom ∧ s.freeBank ≠ some b then monUpd (updResult 1 s)
      else
        let s := monOk [] (updResult 0 (setBankImg b ⟨1, 0, []⟩ s))
        { s with fw := { s.fw with xmodem := true }, svc := { s.svc with load := some (b, 0) } }
    | _ => monBad s) s

/-- The words of a block in flash: most significant byte first (R589). -/
def putBlock (b off : Nat) (data : List Byte) (s : State) : State :=
  let x := s.bank b
  let words := (List.range (data.length / 4)).foldl (fun m i =>
    if off + 4 * i < 0x4000000 then SMap.put erasedWord m (off / 4 + i) (w32 (beAt data (4 * i) 4)) else m) x.words
  setBankImg b { x with words := words } s

/-- XMODEM_BLOCK (R601): a block of 1,024 or 128 bytes with a good CRC-16 is written and acknowledged, another one is refused; after the
last the image is judged as a whole, with event 317. -/
def execXmodemBlock (data : List Byte) (crcOk last sigOk hashOk : Bool) (s : State) : Host.Outcome State Fault Refusal :=
  match s.svc.load with
  | none => ran s s
  | some (b, off) => ran s (only s.monOn (fun s =>
      if !crcOk ∨ (data.length ≠ 1024 ∧ data.length ≠ 128) then emit 84 [0x15] false s.ns s
      else
        let s := emit 84 [0x06] false s.ns (putBlock b off data s)
        if !last then { s with svc := { s.svc with load := some (b, off + data.length) } }
        else
          let s : State := { s with fw := { s.fw with xmodem := false }, svc := { s.svc with load := none } }
          raise 317 (judgeBank b sigOk hashOk s).2) s)

/-- ACTIVATE in recovery (R601): a READY bank becomes the proven image on the settings bank it was last paired with. -/
def romActivate (b : Nat) (s : State) : State :=
  if (s.bank b).st ≠ 2 then updResult 1 s
  else
    let r := s.fw.rec_
    let settings := if b = r.image then r.settings else
      match r.trial with
      | some (t, x) => if t = b then x else 1 - r.settings
      | none => 1 - r.settings
    let o := 1 - b
    let s := if (s.bank o).st = 3 ∨ (s.bank o).st = 6 then setBankImg o { s.bank o with st := 4 } s else s
    let s := setBankImg b { s.bank b with st := 3 } s
    updResult 0 (writeRec { r with image := b, settings := settings, trial := none, left := 0, fallback := false, unproven := false } s)

/-- ACTIVATE (R594, R601). -/
def execMonActivate (s : State) : Host.Outcome State Fault Refusal :=
  monRow .activate (fun args s =>
    match args.map bankArg with
    | [some b] =>
      if s.fw.step = .recovery then monUpd (romActivate b s)
      else if s.freeIn [2] = some b then monUpd (updActivate s)
      else monUpd (updResult 1 s)
    | _ => monBad s) s

/-- CONFIRM (R595, R607). -/
def execMonConfirm (s : State) : Host.Outcome State Fault Refusal :=
  monRow .confirm (fun _ s => monUpd (updConfirm s)) s

/-- RECOVER (R601): leaves a recovery request and resets the device. -/
def execMonRecover (s : State) : Host.Outcome State Fault Refusal :=
  monRow .recover (fun _ s => deviceReset 4 (monOk [] (writeRec { s.fw.rec_ with recover := true } s))) s

/-- STAGE (R603): records a life-cycle request; `sigOk` says whether its signature is one by a key that authorises it. -/
def execMonStage (sigOk : Bool) (s : State) : Host.Outcome State Fault Refusal :=
  monRow .stage (fun args s =>
    match args with
    | [t, _] => (match decArg t with
      | some t => if t < 5 then monOk [] (lcRequest t sigOk s) else monBad s
      | none => monBad s)
    | _ => monBad s) s

end Sys2Proof.Machine
end

