-- ==== Sys2Proof/Machine/Dispatch.lean ====
section
/-! DEFINITION. The effect of every command: one arm per constructor of Instr, each one direct call of its meaning. -/

namespace Sys2Proof.Machine

open Sys2Proof

/-- The effect of a command on everything but the queue of waiting commands. -/
def exec (i : Instr) (s : State) : Host.Outcome State Fault Refusal :=
  match i with
  | .frameReceive v bytes sof ph => Sys2Proof.Machine.execFrameReceive v bytes sof ph s
  | .learn => Sys2Proof.Machine.execLearn s
  | .planeTransfer p ph => Sys2Proof.Machine.execPlaneTransfer p ph s
  | .egressTransmit v => Sys2Proof.Machine.execEgressTransmit v s
  | .gateEntryAdvance v => Sys2Proof.Machine.execGateEntryAdvance v s
  | .preemptVerify v ok => Sys2Proof.Machine.execPreemptVerify v ok s
  | .agedDiscard uid => Sys2Proof.Machine.execAgedDiscard uid s
  | .commit f => Sys2Proof.Machine.execCommit f s
  | .commitAtTime f => Sys2Proof.Machine.execCommitAtTime f s
  | .cancel f => Sys2Proof.Machine.execCancel f s
  | .validation => Sys2Proof.Machine.execValidation s
  | .commitTakesEffect => Sys2Proof.Machine.execCommitTakesEffect s
  | .epochRetire => Sys2Proof.Machine.execEpochRetire s
  | .epochDiscard => Sys2Proof.Machine.execEpochDiscard s
  | .copyForwardComplete which => Sys2Proof.Machine.execCopyForwardComplete which s
  | .lockstepMismatch => Sys2Proof.Machine.execLockstepMismatch s
  | .mpRestartComplete => Sys2Proof.Machine.execMpRestartComplete s
  | .eccScrub u found => Sys2Proof.Machine.execEccScrub u found s
  | .registerWrite f addr v => Sys2Proof.Machine.execRegisterWrite f addr v s
  | .pairLoRead f addr => Sys2Proof.Machine.execPairLoRead f addr s
  | .pairLoWrite f addr v => Sys2Proof.Machine.execPairLoWrite f addr v s
  | .pairHiWrite f addr v => Sys2Proof.Machine.execPairHiWrite f addr v s
  | .counterRead f addr => Sys2Proof.Machine.execCounterRead f addr s
  | .faultCodeRead f page => Sys2Proof.Machine.execFaultCodeRead f page s
  | .evRawClear f page v => Sys2Proof.Machine.execEvRawClear f page v s
  | .stageViewWrite f v => Sys2Proof.Machine.execStageViewWrite f v s
  | .locRateWrite f v => Sys2Proof.Machine.execLocRateWrite f v s
  | .phaseAdjust f v => Sys2Proof.Machine.execPhaseAdjust f v s
  | .devEpochWrite f hi v => Sys2Proof.Machine.execDevEpochWrite f hi v s
  | .forceHold f v => Sys2Proof.Machine.execForceHold f v s
  | .syncReceive d offset m => Sys2Proof.Machine.execSyncReceive d offset m s
  | .slewEnd => Sys2Proof.Machine.execSlewEnd s
  | .announceReceive d v a => Sys2Proof.Machine.execAnnounceReceive d v a s
  | .announceReceiptTimeout d => Sys2Proof.Machine.execAnnounceReceiptTimeout d s
  | .pdelayReceive v m => Sys2Proof.Machine.execPdelayReceive v m s
  | .ptpMessageTransmit d v kind => Sys2Proof.Machine.execPtpMessageTransmit d v kind s
  | .txqSelWrite f n v => Sys2Proof.Machine.execTxqSelWrite f n v s
  | .txqPop f n v => Sys2Proof.Machine.execTxqPop f n v s
  | .syncOutputAssert n => Sys2Proof.Machine.execSyncOutputAssert n s
  | .syncOutputRelease n => Sys2Proof.Machine.execSyncOutputRelease n s
  | .captureEdge n rising wakePin width => Sys2Proof.Machine.execCaptureEdge n rising wakePin width s
  | .capturePop f n v => Sys2Proof.Machine.execCapturePop f n v s
  | .planeFault p parity => Sys2Proof.Machine.execPlaneFault p parity s
  | .planeMove f v => Sys2Proof.Machine.execPlaneMove f v s
  | .planeForceRetire f v => Sys2Proof.Machine.execPlaneForceRetire f v s
  | .quiesceMarkerAck bucket => Sys2Proof.Machine.execQuiesceMarkerAck bucket s
  | .markerTimeout bucket => Sys2Proof.Machine.execMarkerTimeout bucket s
  | .hashSeedWrite f v => Sys2Proof.Machine.execHashSeedWrite f v s
  | .rebuildComplete => Sys2Proof.Machine.execRebuildComplete s
  | .tblSearch f p hash live => Sys2Proof.Machine.execTblSearch f p hash live s
  | .tblInsert f p hash live => Sys2Proof.Machine.execTblInsert f p hash live s
  | .tblUpdate f p hash live => Sys2Proof.Machine.execTblUpdate f p hash live s
  | .tblDelete f p hash live => Sys2Proof.Machine.execTblDelete f p hash live s
  | .tblNext f p hash live => Sys2Proof.Machine.execTblNext f p hash live s
  | .tblRead f p hash live => Sys2Proof.Machine.execTblRead f p hash live s
  | .tblFlushVertex f p hash live => Sys2Proof.Machine.execTblFlushVertex f p hash live s
  | .tblClearReq f p hash live => Sys2Proof.Machine.execTblClearReq f p hash live s
  | .tableCommandComplete p => Sys2Proof.Machine.execTableCommandComplete p s
  | .cmdPortLock f p => Sys2Proof.Machine.execCmdPortLock f p s
  | .cmdPortRelease f p => Sys2Proof.Machine.execCmdPortRelease f p s
  | .cmdPortForce f p => Sys2Proof.Machine.execCmdPortForce f p s
  | .cmdPortLeaseExpiry p => Sys2Proof.Machine.execCmdPortLeaseExpiry p s
  | .ageingScan => Sys2Proof.Machine.execAgeingScan s
  | .shadowCompare k idx found => Sys2Proof.Machine.execShadowCompare k idx found s
  | .entryRepair k idx f found => Sys2Proof.Machine.execEntryRepair k idx f found s
  | .sfUnblock f v => Sys2Proof.Machine.execSfUnblock f v s
  | .jobAdmit => Sys2Proof.Machine.execJobAdmit s
  | .latAdd c x => Sys2Proof.Machine.execLatAdd c x s
  | .latSub c x => Sys2Proof.Machine.execLatSub c x s
  | .latAnd c x => Sys2Proof.Machine.execLatAnd c x s
  | .latOr c x => Sys2Proof.Machine.execLatOr c x s
  | .latXor c x => Sys2Proof.Machine.execLatXor c x s
  | .latShl c x => Sys2Proof.Machine.execLatShl c x s
  | .latShr c x => Sys2Proof.Machine.execLatShr c x s
  | .latSar c x => Sys2Proof.Machine.execLatSar c x s
  | .latMul c x => Sys2Proof.Machine.execLatMul c x s
  | .latCmp c x => Sys2Proof.Machine.execLatCmp c x s
  | .latSel c x => Sys2Proof.Machine.execLatSel c x s
  | .latBswap c x => Sys2Proof.Machine.execLatBswap c x s
  | .latAddi c x => Sys2Proof.Machine.execLatAddi c x s
  | .latAndi c x => Sys2Proof.Machine.execLatAndi c x s
  | .latOri c x => Sys2Proof.Machine.execLatOri c x s
  | .latXori c x => Sys2Proof.Machine.execLatXori c x s
  | .latShli c x => Sys2Proof.Machine.execLatShli c x s
  | .latShri c x => Sys2Proof.Machine.execLatShri c x s
  | .latSari c x => Sys2Proof.Machine.execLatSari c x s
  | .latCmpi c x => Sys2Proof.Machine.execLatCmpi c x s
  | .latMovi c x => Sys2Proof.Machine.execLatMovi c x s
  | .latLui c x => Sys2Proof.Machine.execLatLui c x s
  | .latExt c x => Sys2Proof.Machine.execLatExt c x s
  | .latIns c x => Sys2Proof.Machine.execLatIns c x s
  | .latClz c x => Sys2Proof.Machine.execLatClz c x s
  | .latWset c x => Sys2Proof.Machine.execLatWset c x s
  | .latWget c x => Sys2Proof.Machine.execLatWget c x s
  | .latLdw c x => Sys2Proof.Machine.execLatLdw c x s
  | .latSto c x => Sys2Proof.Machine.execLatSto c x s
  | .latLdo c x => Sys2Proof.Machine.execLatLdo c x s
  | .latCpy c x => Sys2Proof.Machine.execLatCpy c x s
  | .latLd c x => Sys2Proof.Machine.execLatLd c x s
  | .latSt c x => Sys2Proof.Machine.execLatSt c x s
  | .latLdc c x => Sys2Proof.Machine.execLatLdc c x s
  | .latSrd c x => Sys2Proof.Machine.execLatSrd c x s
  | .latSskip c x => Sys2Proof.Machine.execLatSskip c x s
  | .latSseek c x => Sys2Proof.Machine.execLatSseek c x s
  | .latSpos c x => Sys2Proof.Machine.execLatSpos c x s
  | .latEmit c x => Sys2Proof.Machine.execLatEmit c x s
  | .latDone c x => Sys2Proof.Machine.execLatDone c x s
  | .latDrop c x => Sys2Proof.Machine.execLatDrop c x s
  | .latAbort c x => Sys2Proof.Machine.execLatAbort c x s
  | .latB c x => Sys2Proof.Machine.execLatB c x s
  | .latCall c x => Sys2Proof.Machine.execLatCall c x s
  | .latRet c x => Sys2Proof.Machine.execLatRet c x s
  | .latJr c x => Sys2Proof.Machine.execLatJr c x s
  | .latDbnz c x => Sys2Proof.Machine.execLatDbnz c x s
  | .latXreq c x => Sys2Proof.Machine.execLatXreq c x s
  | .latXwait c x => Sys2Proof.Machine.execLatXwait c x s
  | .latMeta c x => Sys2Proof.Machine.execLatMeta c x s
  | .latRule c x => Sys2Proof.Machine.execLatRule c x s
  | .latCnt c x => Sys2Proof.Machine.execLatCnt c x s
  | .lookasideComplete c x idx => Sys2Proof.Machine.execLookasideComplete c x idx s
  | .codeCacheFill c x parity => Sys2Proof.Machine.execCodeCacheFill c x parity s
  | .orderLaneRelease v lane => Sys2Proof.Machine.execOrderLaneRelease v lane s
  | .cellFault c kind => Sys2Proof.Machine.execCellFault c kind s
  | .periodicSelfCheck => Sys2Proof.Machine.execPeriodicSelfCheck s
  | .selfCheckDrainTimeout c => Sys2Proof.Machine.execSelfCheckDrainTimeout c s
  | .selfCheckComplete c pass => Sys2Proof.Machine.execSelfCheckComplete c pass s
  | .latForceRetire f v => Sys2Proof.Machine.execLatForceRetire f v s
  | .segmentOpen f => Sys2Proof.Machine.execSegmentOpen f s
  | .seal f => Sys2Proof.Machine.execSeal f s
  | .sealComplete k => Sys2Proof.Machine.execSealComplete k s
  | .segmentFree f => Sys2Proof.Machine.execSegmentFree f s
  | .psDataWrite f v => Sys2Proof.Machine.execPsDataWrite f v s
  | .segmentReloadComplete k ok => Sys2Proof.Machine.execSegmentReloadComplete k ok s
  | .canReceive ch m sof => Sys2Proof.Machine.execCanReceive ch m sof s
  | .canBusError ch e => Sys2Proof.Machine.execCanBusError ch e s
  | .boffDelayExpiry ch => Sys2Proof.Machine.execBoffDelayExpiry ch s
  | .canRecover f ch => Sys2Proof.Machine.execCanRecover f ch s
  | .busOffRecoveryComplete ch => Sys2Proof.Machine.execBusOffRecoveryComplete ch s
  | .ttRestart f ch => Sys2Proof.Machine.execTtRestart f ch s
  | .rateDwellExpiry ch => Sys2Proof.Machine.execRateDwellExpiry ch s
  | .bitTimingChange ch => Sys2Proof.Machine.execBitTimingChange ch s
  | .canTakeCopy ch => Sys2Proof.Machine.execCanTakeCopy ch s
  | .canArbitration o => Sys2Proof.Machine.execCanArbitration o s
  | .canTransmitEnd ch o => Sys2Proof.Machine.execCanTransmitEnd ch o s
  | .ttReferenceDue ch => Sys2Proof.Machine.execTtReferenceDue ch s
  | .ttWindowStart ch k => Sys2Proof.Machine.execTtWindowStart ch k s
  | .linSlotStart j => Sys2Proof.Machine.execLinSlotStart j s
  | .linHeaderReceive j h => Sys2Proof.Machine.execLinHeaderReceive j h s
  | .linFrameReceive j o sof => Sys2Proof.Machine.execLinFrameReceive j o sof s
  | .linPublishUpdate j => Sys2Proof.Machine.execLinPublishUpdate j s
  | .linSchedSelWrite f j v => Sys2Proof.Machine.execLinSchedSelWrite f j v s
  | .bridgeBusMatch => Sys2Proof.Machine.execBridgeBusMatch s
  | .bridgeNetMatch => Sys2Proof.Machine.execBridgeNetMatch s
  | .ruleRead f p tangent live => Sys2Proof.Machine.execRuleRead f p tangent live s
  | .ruleWrite f p tangent live => Sys2Proof.Machine.execRuleWrite f p tangent live s
  | .ruleClear f p tangent live => Sys2Proof.Machine.execRuleClear f p tangent live s
  | .ruleCommandComplete p => Sys2Proof.Machine.execRuleCommandComplete p s
  | .rulePortLock f p => Sys2Proof.Machine.execRulePortLock f p s
  | .rulePortRelease f p => Sys2Proof.Machine.execRulePortRelease f p s
  | .rulePortForce f p => Sys2Proof.Machine.execRulePortForce f p s
  | .rulePortLeaseExpiry p => Sys2Proof.Machine.execRulePortLeaseExpiry p s
  | .laneTraining l done => Sys2Proof.Machine.execLaneTraining l done s
  | .laneTrainingTimeout l => Sys2Proof.Machine.execLaneTrainingTimeout l s
  | .laneSilenceEnd l => Sys2Proof.Machine.execLaneSilenceEnd l s
  | .codewordReceive l w => Sys2Proof.Machine.execCodewordReceive l w s
  | .degradeWindow l => Sys2Proof.Machine.execDegradeWindow l s
  | .phyLinkAttemptFail v => Sys2Proof.Machine.execPhyLinkAttemptFail v s
  | .linkUp v rate master sqi polInv => Sys2Proof.Machine.execLinkUp v rate master sqi polInv s
  | .linkDown v => Sys2Proof.Machine.execLinkDown v s
  | .plcaBeacon v => Sys2Proof.Machine.execPlcaBeacon v s
  | .plcaBeaconTimeout v => Sys2Proof.Machine.execPlcaBeaconTimeout v s
  | .plcaTransmitOpportunity v => Sys2Proof.Machine.execPlcaTransmitOpportunity v s
  | .collision v late slots => Sys2Proof.Machine.execCollision v late slots s
  | .backoffExpiry v => Sys2Proof.Machine.execBackoffExpiry v s
  | .pauseFrameReceive v pfc quanta => Sys2Proof.Machine.execPauseFrameReceive v pfc quanta s
  | .pauseExpiry v c => Sys2Proof.Machine.execPauseExpiry v c s
  | .pauseWatchdog v c => Sys2Proof.Machine.execPauseWatchdog v c s
  | .pauseReleaseEnd v c => Sys2Proof.Machine.execPauseReleaseEnd v c s
  | .pauseFrameSend v => Sys2Proof.Machine.execPauseFrameSend v s
  | .pauseRefresh v => Sys2Proof.Machine.execPauseRefresh v s
  | .secTxAnWrite f v an => Sys2Proof.Machine.execSecTxAnWrite f v an s
  | .journalWrite => Sys2Proof.Machine.execJournalWrite s
  | .eventLaneDrain => Sys2Proof.Machine.execEventLaneDrain s
  | .policyWrite f v => Sys2Proof.Machine.execPolicyWrite f v s
  | .journalReadRequest f v => Sys2Proof.Machine.execJournalReadRequest f v s
  | .exportRead => Sys2Proof.Machine.execExportRead s
  | .exportRelease => Sys2Proof.Machine.execExportRelease s
  | .exportFrameSend => Sys2Proof.Machine.execExportFrameSend s
  | .exportFlushTimeout => Sys2Proof.Machine.execExportFlushTimeout s
  | .captureRingReceive r => Sys2Proof.Machine.execCaptureRingReceive r s
  | .capTailWrite f r v => Sys2Proof.Machine.execCapTailWrite f r v s
  | .injectData f k v => Sys2Proof.Machine.execInjectData f k v s
  | .injectEnd f k v => Sys2Proof.Machine.execInjectEnd f k v s
  | .injectSwap f k valid => Sys2Proof.Machine.execInjectSwap f k valid s
  | .injectFlush f k => Sys2Proof.Machine.execInjectFlush f k s
  | .injectAdmit k => Sys2Proof.Machine.execInjectAdmit k s
  | .injectIdleTimeout k => Sys2Proof.Machine.execInjectIdleTimeout k s
  | .producerStallTimeout v => Sys2Proof.Machine.execProducerStallTimeout v s
  | .crossingResync v => Sys2Proof.Machine.execCrossingResync v s
  | .crossingWakeTimeout v => Sys2Proof.Machine.execCrossingWakeTimeout v s
  | .octFrame => Sys2Proof.Machine.execOctFrame s
  | .octRead id => Sys2Proof.Machine.execOctRead id s
  | .octWrite id => Sys2Proof.Machine.execOctWrite id s
  | .octMwrite id => Sys2Proof.Machine.execOctMwrite id s
  | .octLock id => Sys2Proof.Machine.execOctLock id s
  | .octUnlock id => Sys2Proof.Machine.execOctUnlock id s
  | .octTable id => Sys2Proof.Machine.execOctTable id s
  | .octCommit id => Sys2Proof.Machine.execOctCommit id s
  | .arpRequest => Sys2Proof.Machine.execArpRequest s
  | .pageLockTake f page => Sys2Proof.Machine.execPageLockTake f page s
  | .pageLockRelease f page => Sys2Proof.Machine.execPageLockRelease f page s
  | .pageLockForce f page => Sys2Proof.Machine.execPageLockForce f page s
  | .pageLockExpiry page => Sys2Proof.Machine.execPageLockExpiry page s
  | .facetLeaseExpiry f => Sys2Proof.Machine.execFacetLeaseExpiry f s
  | .facetReset f v => Sys2Proof.Machine.execFacetReset f v s
  | .facetResetComplete => Sys2Proof.Machine.execFacetResetComplete s
  | .eventPop f v => Sys2Proof.Machine.execEventPop f v s
  | .windowAccess f k off write v => Sys2Proof.Machine.execWindowAccess f k off write v s
  | .farFrameSend k => Sys2Proof.Machine.execFarFrameSend k s
  | .farRetry k => Sys2Proof.Machine.execFarRetry k s
  | .farReply k results => Sys2Proof.Machine.execFarReply k results s
  | .windowLock f k => Sys2Proof.Machine.execWindowLock f k s
  | .windowUnlock f k => Sys2Proof.Machine.execWindowUnlock f k s
  | .windowLockForce f k => Sys2Proof.Machine.execWindowLockForce f k s
  | .windowLockRenew k => Sys2Proof.Machine.execWindowLockRenew k s
  | .windowLockExpiry k => Sys2Proof.Machine.execWindowLockExpiry k s
  | .accordMessageSend => Sys2Proof.Machine.execAccordMessageSend s
  | .accordMessageReceive => Sys2Proof.Machine.execAccordMessageReceive s
  | .peerLost r => Sys2Proof.Machine.execPeerLost r s
  | .conflictClear r => Sys2Proof.Machine.execConflictClear r s
  | .digestRecompute => Sys2Proof.Machine.execDigestRecompute s
  | .cipSubmit f n v => Sys2Proof.Machine.execCipSubmit f n v s
  | .gcmEnc n => Sys2Proof.Machine.execGcmEnc n s
  | .gcmDec n => Sys2Proof.Machine.execGcmDec n s
  | .cmacGen n => Sys2Proof.Machine.execCmacGen n s
  | .cmacVer n => Sys2Proof.Machine.execCmacVer n s
  | .xtsEnc n => Sys2Proof.Machine.execXtsEnc n s
  | .xtsDec n => Sys2Proof.Machine.execXtsDec n s
  | .cipUnwrap n => Sys2Proof.Machine.execCipUnwrap n s
  | .cipCheck n => Sys2Proof.Machine.execCipCheck n s
  | .cipComplete n dataError => Sys2Proof.Machine.execCipComplete n dataError s
  | .cqPop f n v => Sys2Proof.Machine.execCqPop f n v s
  | .promote f n => Sys2Proof.Machine.execPromote f n s
  | .eraseNext f n => Sys2Proof.Machine.execEraseNext f n s
  | .eraseAll f n => Sys2Proof.Machine.execEraseAll f n s
  | .knownAnswerTest p pass => Sys2Proof.Machine.execKnownAnswerTest p pass s
  | .checkRunWrite f u hi v => Sys2Proof.Machine.execCheckRunWrite f u hi v s
  | .checkScan f u v => Sys2Proof.Machine.execCheckScan f u v s
  | .scanComplete u => Sys2Proof.Machine.execScanComplete u s
  | .wakRun f => Sys2Proof.Machine.execWakRun f s
  | .wakDoze f => Sys2Proof.Machine.execWakDoze f s
  | .wakSleep f => Sys2Proof.Machine.execWakSleep f s
  | .wakCancel f => Sys2Proof.Machine.execWakCancel f s
  | .tc10SleepAnswer v accept => Sys2Proof.Machine.execTc10SleepAnswer v accept s
  | .tc10SleepTimeout v => Sys2Proof.Machine.execTc10SleepTimeout v s
  | .roundStart => Sys2Proof.Machine.execRoundStart s
  | .perimeterAnswer => Sys2Proof.Machine.execPerimeterAnswer s
  | .perimeterTimeout => Sys2Proof.Machine.execPerimeterTimeout s
  | .groupWaitTimeout => Sys2Proof.Machine.execGroupWaitTimeout s
  | .sleepEntry => Sys2Proof.Machine.execSleepEntry s
  | .sleepDrainEnd => Sys2Proof.Machine.execSleepDrainEnd s
  | .sleepPointOfNoReturn => Sys2Proof.Machine.execSleepPointOfNoReturn s
  | .facetKeepWrite f v => Sys2Proof.Machine.execFacetKeepWrite f v s
  | .wakePin k rising width => Sys2Proof.Machine.execWakePin k rising width s
  | .wakeFrameDecode ch d => Sys2Proof.Machine.execWakeFrameDecode ch d s
  | .canWakeUpPattern ch => Sys2Proof.Machine.execCanWakeUpPattern ch s
  | .linWake j us => Sys2Proof.Machine.execLinWake j us s
  | .tc10Wake v => Sys2Proof.Machine.execTc10Wake v s
  | .wakeTimer => Sys2Proof.Machine.execWakeTimer s
  | .serviceWake => Sys2Proof.Machine.execServiceWake s
  | .aonMeasure corr => Sys2Proof.Machine.execAonMeasure corr s
  | .wakeStart elapsed => Sys2Proof.Machine.execWakeStart elapsed s
  | .supplyInRange b dc => Sys2Proof.Machine.execSupplyInRange b dc s
  | .supplyLost b => Sys2Proof.Machine.execSupplyLost b s
  | .holdupExpiry => Sys2Proof.Machine.execHoldupExpiry s
  | .coreResume => Sys2Proof.Machine.execCoreResume s
  | .reserveExpiry => Sys2Proof.Machine.execReserveExpiry s
  | .railFault rail => Sys2Proof.Machine.execRailFault rail s
  | .xoAccepted => Sys2Proof.Machine.execXoAccepted s
  | .xoRestart => Sys2Proof.Machine.execXoRestart s
  | .xoLost => Sys2Proof.Machine.execXoLost s
  | .pllUnlock p => Sys2Proof.Machine.execPllUnlock p s
  | .paceMeasure plane lattice => Sys2Proof.Machine.execPaceMeasure plane lattice s
  | .paceRequestHoldExpiry => Sys2Proof.Machine.execPaceRequestHoldExpiry s
  | .paceStep => Sys2Proof.Machine.execPaceStep s
  | .dividerStep => Sys2Proof.Machine.execDividerStep s
  | .powerOnReset => Sys2Proof.Machine.execPowerOnReset s
  | .resetPin lowNs => Sys2Proof.Machine.execResetPin lowNs s
  | .resetCommand f v => Sys2Proof.Machine.execResetCommand f v s
  | .watchdogService => Sys2Proof.Machine.execWatchdogService s
  | .watchdogHalf => Sys2Proof.Machine.execWatchdogHalf s
  | .watchdogTimeout => Sys2Proof.Machine.execWatchdogTimeout s
  | .vertexSoftReset f v => Sys2Proof.Machine.execVertexSoftReset f v s
  | .cellSoftReset f k => Sys2Proof.Machine.execCellSoftReset f k s
  | .softResetComplete page => Sys2Proof.Machine.execSoftResetComplete page s
  | .quiesce f page hold => Sys2Proof.Machine.execQuiesce f page hold s
  | .pageEnableWrite f page v => Sys2Proof.Machine.execPageEnableWrite f page v s
  | .romBoot b => Sys2Proof.Machine.execRomBoot b s
  | .imageStart sectionsOk => Sys2Proof.Machine.execImageStart sectionsOk s
  | .phyFirmwareLoaded ok => Sys2Proof.Machine.execPhyFirmwareLoaded ok s
  | .settingsLoaded => Sys2Proof.Machine.execSettingsLoaded s
  | .channelsJoin => Sys2Proof.Machine.execChannelsJoin s
  | .serdesFirmwareLoaded ok => Sys2Proof.Machine.execSerdesFirmwareLoaded ok s
  | .migration ok => Sys2Proof.Machine.execMigration ok s
  | .updOpen f => Sys2Proof.Machine.execUpdOpen f s
  | .bankEraseComplete => Sys2Proof.Machine.execBankEraseComplete s
  | .updWriteData f v => Sys2Proof.Machine.execUpdWriteData f v s
  | .updVerify f => Sys2Proof.Machine.execUpdVerify f s
  | .verifyComplete sigOk hashOk => Sys2Proof.Machine.execVerifyComplete sigOk hashOk s
  | .updActivate f => Sys2Proof.Machine.execUpdActivate f s
  | .updConfirm f => Sys2Proof.Machine.execUpdConfirm f s
  | .proveAutoExpiry => Sys2Proof.Machine.execProveAutoExpiry s
  | .updFallback f => Sys2Proof.Machine.execUpdFallback f s
  | .updSave f => Sys2Proof.Machine.execUpdSave f s
  | .saveComplete => Sys2Proof.Machine.execSaveComplete s
  | .updAbort f => Sys2Proof.Machine.execUpdAbort f s
  | .lcRequest f v sigOk => Sys2Proof.Machine.execLcRequest f v sigOk s
  | .monitorLine text a => Sys2Proof.Machine.execMonitorLine text a s
  | .monIdent => Sys2Proof.Machine.execMonIdent s
  | .monHelp => Sys2Proof.Machine.execMonHelp s
  | .monStatus => Sys2Proof.Machine.execMonStatus s
  | .monBaud => Sys2Proof.Machine.execMonBaud s
  | .baudRevert => Sys2Proof.Machine.execBaudRevert s
  | .monEcho => Sys2Proof.Machine.execMonEcho s
  | .monChal => Sys2Proof.Machine.execMonChal s
  | .monUnlock sigOk => Sys2Proof.Machine.execMonUnlock sigOk s
  | .monLock => Sys2Proof.Machine.execMonLock s
  | .unlockIdleExpiry => Sys2Proof.Machine.execUnlockIdleExpiry s
  | .forceLock f v => Sys2Proof.Machine.execForceLock f v s
  | .monFlog => Sys2Proof.Machine.execMonFlog s
  | .monRd => Sys2Proof.Machine.execMonRd s
  | .monWr => Sys2Proof.Machine.execMonWr s
  | .monMw => Sys2Proof.Machine.execMonMw s
  | .monReset => Sys2Proof.Machine.execMonReset s
  | .monBank => Sys2Proof.Machine.execMonBank s
  | .monLoad => Sys2Proof.Machine.execMonLoad s
  | .xmodemBlock data crcOk last sigOk hashOk => Sys2Proof.Machine.execXmodemBlock data crcOk last sigOk hashOk s
  | .monActivate => Sys2Proof.Machine.execMonActivate s
  | .monConfirm => Sys2Proof.Machine.execMonConfirm s
  | .monRecover => Sys2Proof.Machine.execMonRecover s
  | .monStage sigOk => Sys2Proof.Machine.execMonStage sigOk s
  | .baseplateOvertemp => Sys2Proof.Machine.execBaseplateOvertemp s
  | .baseplateCritical => Sys2Proof.Machine.execBaseplateCritical s
  | .supplyBCrank below => Sys2Proof.Machine.execSupplyBCrank below s
  | .transceiverFault v present => Sys2Proof.Machine.execTransceiverFault v present s
  | .linResponseTimeout j => Sys2Proof.Machine.execLinResponseTimeout j s
  | .pipelineParityFault p => Sys2Proof.Machine.execPipelineParityFault p s
  | .wakeLineOutputRelease k => Sys2Proof.Machine.execWakeLineOutputRelease k s
  | .admissionQueueWait f => Sys2Proof.Machine.execAdmissionQueueWait f s
  | .baseplateCooled => Sys2Proof.Machine.execBaseplateCooled s

end Sys2Proof.Machine
end

