-- ==== Sys2Proof/Machine/Tick.lean ====
section
/-! DEFINITION. What happens while no command waits (DESIGN CHOICE: log entry 5): one nanosecond of real time passes, the locus advances by its rate and
slew (R64, R68, R69), and the frames whose last bit has left are sent; a codeword
time that ends lets the backbone lanes send theirs (R337). -/

namespace Sys2Proof.Machine

/-- One nanosecond without a command. A die that does not work keeps nothing but real time (R520, R560, R578). -/
def tick (s : State) : State :=
  let s : State := { s with now := s.now + 1 }
  if s.on then laneTick (finishAll (locTick s)) else s

end Sys2Proof.Machine
end

