-- ==== Sys2Proof/Machine/Pins.lean ====
section
/-! DEFINITION. What the output pins of the module show in a state: the sync and wake-line outputs (R93, R104, R106, R109, R547), the ALERT
outputs (R59, R451, R646) and the pins outside RUN and DOZE (R644). -/

namespace Sys2Proof.Machine

/-- What an output pin shows. For an open-drain output `low` is a drain that is on, `highZ` one that is released. -/
inductive PinLevel where
  | low | high | highZ
  deriving DecidableEq, Repr

/-- What a bus pin shows (R644): in use, standby, sleep with its wake detector, no load. -/
inductive BusPin where
  | inUse | standby | asleep | highZ
  deriving DecidableEq, Repr

/-- The module is OFF: no rail works (R560). -/
def State.isOff (s : State) : Bool := s.power.collapsed || s.wake.mode = .off

/-- The module sleeps (R533). -/
def State.isAsleep (s : State) : Bool := !s.isOff && s.wake.mode = .sleep

/-- The settings are loaded, and the pins follow the configuration (R582, R644). -/
def State.pinsLive (s : State) : Bool :=
  s.on && decide (s.fw.step = .settings ∨ s.fw.step = .joined ∨ s.fw.step = .backbone)

/-- The channels have joined their buses (R582). -/
def State.busesLive (s : State) : Bool := s.on && decide (s.fw.step = .joined ∨ s.fw.step = .backbone)

/-! ## ALERT outputs -/

/-- The level of ALERTk that its registers ask for (R451): EN, and an unread entry or an overflow bit in the ring of FACET. While the management
processor is held halted every output of F0 is active (R59). -/
def State.alertActive (s : State) (k : Nat) : Bool :=
  let c := s.cfg (A.sysAlert k)
  let r := s.ring (fld c 0 4)
  tst c 4 && (decide (r.entries ≠ []) || decide (r.ovf ≠ []) || (decide (s.mp = .halted) && decide (fld c 0 4 = 0)))

/-- The pin of ALERTk (R644, R646): its drain is on at the active level under POLARITY 0, and off at it under POLARITY 1; during start-up, in
SLEEP and in OFF it is released. -/
def State.alertPin (s : State) (k : Nat) : PinLevel :=
  if s.pinsLive ∧ s.alertActive k ≠ tst (s.cfg (A.sysAlert k)) 5 then .low else .highZ

/-! ## Sync and wake-line outputs -/

/-- The level of an output of which the active level is high or low. -/
def levelOf (activeHigh active : Bool) : PinLevel := if active = activeHigh then .high else .low

/-- The pin of TOn as a sync output (R93, R109): the active level that POLARITY names while a pulse lasts, else the inactive level. -/
def State.syncPin (s : State) (n : Nat) : PinLevel :=
  levelOf (!tst (s.cfg (A.locSoCtrl n)) 2) (SMap.get SyncOut.reset s.syncs n).active

/-- The pin of TO(12 + k) as a wake-line output (R547, R644): its pulse after a wake start, else the inactive level where it is enabled. POLARITY
0 is active high, as of a sync output (DESIGN CHOICE: log entry 72). -/
def State.wakeLinePin (s : State) (k : Nat) : PinLevel :=
  match SMap.get none s.wake.wlo k with
  | some p => levelOf p.2 true
  | none => if tst (s.cfg (A.wakWlo k)) 0 then levelOf (!tst (s.cfg (A.wakWlo k)) 1) false else .highZ

/-- The pin of TOn (R104, R106, R644). A pulse of a wake-line output takes its pin from the wake start on; but for it the pins are driven low
until the settings are loaded (DESIGN CHOICE: log entry 72). -/
def State.toPin (s : State) (n : Nat) : PinLevel :=
  let line := decide (12 ≤ n)
  if s.isOff then .highZ
  else if s.isAsleep then (if line then s.wakeLinePin (n - 12) else .highZ)
  else if line && (SMap.get none s.wake.wlo (n - 12)).isSome then s.wakeLinePin (n - 12)
  else if !s.pinsLive then .low
  else if line && (s.yields || tst (s.cfg (A.wakWlo (n - 12))) 0) then s.wakeLinePin (n - 12)
  else s.syncPin n

/-! ## Buses and the service port (R644) -/

/-- The pins of a CAN or LIN channel. -/
def State.busPin (s : State) : BusPin := if s.isOff then .highZ else if s.isAsleep then .asleep else if s.busesLive then .inUse else .standby

/-- The slope of a LIN channel's transceiver (R651). -/
inductive LinSlope where
  | lowSlope | normalSlope
  deriving DecidableEq, Repr

/-- A rate of 10,400 bit/s or less selects the low slope, a higher one the normal slope (R651); the rate is that of the slot, so the slope
changes with it at a slot boundary. -/
def linSlope (rate : Nat) : LinSlope := if rate ≤ 10400 then .lowSlope else .normalSlope

/-- The pull-up of a LIN channel in ohms (R651): 1 kΩ for a master, else 30 kΩ. -/
def State.linPullUp (s : State) (j : Nat) : Nat := if s.linMode j = 1 then 1000 else 30000

/-- Current drawn from supply B at 13.5 V in SLEEP, in µA (R643): the base and a term for each decoder that an enabling bit sets. -/
def State.sleepCurrent (s : State) : Nat :=
  let count (n : Nat) (p : Nat → Bool) : Nat := ((List.range n).filter p).length
  1060 + 70 * count 24 (fun c => tst (s.cfg (A.wakCanCtrl c)) 0 || tst (s.cfg (A.wakCanCtrl c)) 10)
    + 20 * count 12 (fun j => tst (s.cfg A.wakLinCtrl) j)
    + 15 * count 32 (fun i => tst (s.cfg (A.ethPhyCtrl (8 + i))) 12)
    + 10 * count 4 (fun k => tst (s.cfg (A.wakPin k)) 0)

/-- Whether the debug access to the processor is open in the module's stage (R604). -/
def State.debugOpen (s : State) : Bool := decide (s.stage ≤ 1)

/-- SVC_TXD while no character is sent: the mark level, but for OFF. -/
def State.svcTxd (s : State) : PinLevel := if s.isOff then .highZ else .low

end Sys2Proof.Machine
end

