-- ==== Sys2Proof/WellFormed.lean ====
section
/-! DEFINITION. Which commands are well formed: what the medium or the report of a row can carry at all. The types of the operands
already bound every number that selects something; these checks bound contents. A command that is not well formed names nothing that
can happen to the module (DEDUCED: log entry 17). -/

namespace Sys2Proof

/-- Whether a CAN message is one that R268 can store: its FORMAT is not 0b11, an identifier of 11 bits for a base identifier and for XL,
and the data bytes of its kind (CC 0–8, FD the sizes up to 64, XL 1–2,048). -/
def CanMsg.wellFormed (m : CanMsg) : Bool :=
  let n := m.data.length
  m.format != 3 && (m.format == 1 || decide (m.id.toNat < 2 ^ 11))
    && (if m.format = 2 then decide (1 ≤ n ∧ n ≤ 2048) && !m.rtr && !m.fdf
        else if m.fdf then [0, 1, 2, 3, 4, 5, 6, 7, 8, 12, 16, 20, 24, 32, 48, 64].contains n && !m.rtr
        else decide (n ≤ 8))

/-- Whether the end of a LIN response is one that R268 can store: a good response has 1–8 data bytes. -/
def LinOutcome.wellFormed : LinOutcome → Bool
  | .good data => decide (1 ≤ data.length ∧ data.length ≤ 8)
  | .bitError => true
  | .framing => true
  | .parity => true
  | .checksum => true
  | .collision => true
  | .sent => true

/-- Whether what a wake decoder saw is a message that R268 can store. -/
def WakeDecode.wellFormed : WakeDecode → Bool
  | .good m _ => m.wellFormed
  | .error => true
  | .tolerated => true

/-- Whether the quanta of a pause frame (R370) fit it: 16 bits each, one for a pause frame, up to eight for a PFC frame. -/
def pauseQuanta (pfc : Bool) (quanta : List (Option Nat)) : Bool :=
  decide (quanta.length = if pfc then 8 else 1) && quanta.all (fun q => match q with
    | none => pfc
    | some n => decide (n < 65536))

/-- The rates in Mbit/s that a link can come up at (R336, R349). -/
def macRates : List Nat := [10, 100, 1000, 2500, 5000, 10000, 25000, 100000, 200000, 400000]

/-- Whether a command is well formed. -/
def Instr.wellFormed : Instr → Bool
  | .frameReceive .. => true
  | .learn => true
  | .planeTransfer .. => true
  | .egressTransmit .. => true
  | .gateEntryAdvance .. => true
  | .preemptVerify .. => true
  | .agedDiscard .. => true
  | .commit .. => true
  | .commitAtTime .. => true
  | .cancel .. => true
  | .validation => true
  | .commitTakesEffect => true
  | .epochRetire => true
  | .epochDiscard => true
  | .copyForwardComplete .. => true
  | .lockstepMismatch => true
  | .mpRestartComplete => true
  | .eccScrub .. => true
  | .registerWrite .. => true
  | .pairLoRead .. => true
  | .pairLoWrite .. => true
  | .pairHiWrite .. => true
  | .counterRead .. => true
  | .faultCodeRead .. => true
  | .evRawClear .. => true
  | .stageViewWrite .. => true
  | .locRateWrite .. => true
  | .phaseAdjust .. => true
  | .devEpochWrite .. => true
  | .forceHold .. => true
  | .syncReceive .. => true
  | .slewEnd => true
  | .announceReceive .. => true
  | .announceReceiptTimeout .. => true
  | .pdelayReceive .. => true
  | .ptpMessageTransmit .. => true
  | .txqSelWrite .. => true
  | .txqPop .. => true
  | .syncOutputAssert .. => true
  | .syncOutputRelease .. => true
  | .captureEdge .. => true
  | .capturePop .. => true
  | .planeFault .. => true
  | .planeMove .. => true
  | .planeForceRetire .. => true
  | .quiesceMarkerAck .. => true
  | .markerTimeout .. => true
  | .hashSeedWrite .. => true
  | .rebuildComplete => true
  | .tblSearch .. => true
  | .tblInsert .. => true
  | .tblUpdate .. => true
  | .tblDelete .. => true
  | .tblNext .. => true
  | .tblRead .. => true
  | .tblFlushVertex .. => true
  | .tblClearReq .. => true
  | .tableCommandComplete .. => true
  | .cmdPortLock .. => true
  | .cmdPortRelease .. => true
  | .cmdPortForce .. => true
  | .cmdPortLeaseExpiry .. => true
  | .ageingScan => true
  | .shadowCompare .. => true
  | .entryRepair .. => true
  | .sfUnblock .. => true
  | .jobAdmit => true
  | .latAdd .. => true
  | .latSub .. => true
  | .latAnd .. => true
  | .latOr .. => true
  | .latXor .. => true
  | .latShl .. => true
  | .latShr .. => true
  | .latSar .. => true
  | .latMul .. => true
  | .latCmp .. => true
  | .latSel .. => true
  | .latBswap .. => true
  | .latAddi .. => true
  | .latAndi .. => true
  | .latOri .. => true
  | .latXori .. => true
  | .latShli .. => true
  | .latShri .. => true
  | .latSari .. => true
  | .latCmpi .. => true
  | .latMovi .. => true
  | .latLui .. => true
  | .latExt .. => true
  | .latIns .. => true
  | .latClz .. => true
  | .latWset .. => true
  | .latWget .. => true
  | .latLdw .. => true
  | .latSto .. => true
  | .latLdo .. => true
  | .latCpy .. => true
  | .latLd .. => true
  | .latSt .. => true
  | .latLdc .. => true
  | .latSrd .. => true
  | .latSskip .. => true
  | .latSseek .. => true
  | .latSpos .. => true
  | .latEmit .. => true
  | .latDone .. => true
  | .latDrop .. => true
  | .latAbort .. => true
  | .latB .. => true
  | .latCall .. => true
  | .latRet .. => true
  | .latJr .. => true
  | .latDbnz .. => true
  | .latXreq .. => true
  | .latXwait .. => true
  | .latMeta .. => true
  | .latRule .. => true
  | .latCnt .. => true
  | .lookasideComplete .. => true
  | .codeCacheFill .. => true
  | .orderLaneRelease .. => true
  | .cellFault .. => true
  | .periodicSelfCheck => true
  | .selfCheckDrainTimeout .. => true
  | .selfCheckComplete .. => true
  | .latForceRetire .. => true
  | .segmentOpen .. => true
  | .seal .. => true
  | .sealComplete .. => true
  | .segmentFree .. => true
  | .psDataWrite .. => true
  | .segmentReloadComplete .. => true
  | .canReceive _ m _ => m.wellFormed
  | .canBusError .. => true
  | .boffDelayExpiry .. => true
  | .canRecover .. => true
  | .busOffRecoveryComplete .. => true
  | .ttRestart .. => true
  | .rateDwellExpiry .. => true
  | .bitTimingChange .. => true
  | .canTakeCopy .. => true
  | .canArbitration .. => true
  | .canTransmitEnd .. => true
  | .ttReferenceDue .. => true
  | .ttWindowStart .. => true
  | .linSlotStart .. => true
  | .linHeaderReceive .. => true
  | .linFrameReceive _ o _ => o.wellFormed
  | .linPublishUpdate .. => true
  | .linSchedSelWrite .. => true
  | .bridgeBusMatch => true
  | .bridgeNetMatch => true
  | .ruleRead .. => true
  | .ruleWrite .. => true
  | .ruleClear .. => true
  | .ruleCommandComplete .. => true
  | .rulePortLock .. => true
  | .rulePortRelease .. => true
  | .rulePortForce .. => true
  | .rulePortLeaseExpiry .. => true
  | .laneTraining .. => true
  | .laneTrainingTimeout .. => true
  | .laneSilenceEnd .. => true
  | .codewordReceive _ w => decide (w.lcb.length = 32)
  | .degradeWindow .. => true
  | .phyLinkAttemptFail .. => true
  | .linkUp _ rate _ _ _ => macRates.contains rate
  | .linkDown .. => true
  | .plcaBeacon .. => true
  | .plcaBeaconTimeout .. => true
  | .plcaTransmitOpportunity .. => true
  | .collision .. => true
  | .backoffExpiry .. => true
  | .pauseFrameReceive _ pfc quanta => pauseQuanta pfc quanta
  | .pauseExpiry .. => true
  | .pauseWatchdog .. => true
  | .pauseReleaseEnd .. => true
  | .pauseFrameSend .. => true
  | .pauseRefresh .. => true
  | .secTxAnWrite .. => true
  | .journalWrite => true
  | .eventLaneDrain => true
  | .policyWrite .. => true
  | .journalReadRequest .. => true
  | .exportRead => true
  | .exportRelease => true
  | .exportFrameSend => true
  | .exportFlushTimeout => true
  | .captureRingReceive .. => true
  | .capTailWrite .. => true
  | .injectData .. => true
  | .injectEnd .. => true
  | .injectSwap .. => true
  | .injectFlush .. => true
  | .injectAdmit .. => true
  | .injectIdleTimeout .. => true
  | .producerStallTimeout .. => true
  | .crossingResync .. => true
  | .crossingWakeTimeout .. => true
  | .octFrame => true
  | .octRead .. => true
  | .octWrite .. => true
  | .octMwrite .. => true
  | .octLock .. => true
  | .octUnlock .. => true
  | .octTable .. => true
  | .octCommit .. => true
  | .arpRequest => true
  | .pageLockTake .. => true
  | .pageLockRelease .. => true
  | .pageLockForce .. => true
  | .pageLockExpiry .. => true
  | .facetLeaseExpiry .. => true
  | .facetReset .. => true
  | .facetResetComplete => true
  | .eventPop .. => true
  | .windowAccess .. => true
  | .farFrameSend .. => true
  | .farRetry .. => true
  | .farReply _ results => decide (results.length ≤ 64) && results.all (fun r => decide (r.words.length ≤ 16))
  | .windowLock .. => true
  | .windowUnlock .. => true
  | .windowLockForce .. => true
  | .windowLockRenew .. => true
  | .windowLockExpiry .. => true
  | .accordMessageSend => true
  | .accordMessageReceive => true
  | .peerLost .. => true
  | .conflictClear .. => true
  | .digestRecompute => true
  | .cipSubmit .. => true
  | .gcmEnc .. => true
  | .gcmDec .. => true
  | .cmacGen .. => true
  | .cmacVer .. => true
  | .xtsEnc .. => true
  | .xtsDec .. => true
  | .cipUnwrap .. => true
  | .cipCheck .. => true
  | .cipComplete .. => true
  | .cqPop .. => true
  | .promote .. => true
  | .eraseNext .. => true
  | .eraseAll .. => true
  | .knownAnswerTest .. => true
  | .checkRunWrite .. => true
  | .checkScan .. => true
  | .scanComplete .. => true
  | .wakRun .. => true
  | .wakDoze .. => true
  | .wakSleep .. => true
  | .wakCancel .. => true
  | .tc10SleepAnswer .. => true
  | .tc10SleepTimeout .. => true
  | .roundStart => true
  | .perimeterAnswer => true
  | .perimeterTimeout => true
  | .groupWaitTimeout => true
  | .sleepEntry => true
  | .sleepDrainEnd => true
  | .sleepPointOfNoReturn => true
  | .facetKeepWrite .. => true
  | .wakePin .. => true
  | .wakeFrameDecode _ d => d.wellFormed
  | .canWakeUpPattern .. => true
  | .linWake .. => true
  | .tc10Wake .. => true
  | .wakeTimer => true
  | .serviceWake => true
  | .aonMeasure .. => true
  | .wakeStart .. => true
  | .supplyInRange .. => true
  | .supplyLost .. => true
  | .holdupExpiry => true
  | .coreResume => true
  | .reserveExpiry => true
  | .railFault .. => true
  | .xoAccepted => true
  | .xoRestart => true
  | .xoLost => true
  | .pllUnlock .. => true
  | .paceMeasure .. => true
  | .paceRequestHoldExpiry => true
  | .paceStep => true
  | .dividerStep => true
  | .powerOnReset => true
  | .resetPin .. => true
  | .resetCommand .. => true
  | .watchdogService => true
  | .watchdogHalf => true
  | .watchdogTimeout => true
  | .vertexSoftReset .. => true
  | .cellSoftReset .. => true
  | .softResetComplete .. => true
  | .quiesce .. => true
  | .pageEnableWrite .. => true
  | .romBoot .. => true
  | .imageStart .. => true
  | .phyFirmwareLoaded .. => true
  | .settingsLoaded => true
  | .channelsJoin => true
  | .serdesFirmwareLoaded .. => true
  | .migration .. => true
  | .updOpen .. => true
  | .bankEraseComplete => true
  | .updWriteData .. => true
  | .updVerify .. => true
  | .verifyComplete .. => true
  | .updActivate .. => true
  | .updConfirm .. => true
  | .proveAutoExpiry => true
  | .updFallback .. => true
  | .updSave .. => true
  | .saveComplete => true
  | .updAbort .. => true
  | .lcRequest .. => true
  | .monitorLine .. => true
  | .monIdent => true
  | .monHelp => true
  | .monStatus => true
  | .monBaud => true
  | .baudRevert => true
  | .monEcho => true
  | .monChal => true
  | .monUnlock .. => true
  | .monLock => true
  | .unlockIdleExpiry => true
  | .forceLock .. => true
  | .monFlog => true
  | .monRd => true
  | .monWr => true
  | .monMw => true
  | .monReset => true
  | .monBank => true
  | .monLoad => true
  | .xmodemBlock data _ _ _ _ => decide (data.length = 128 ∨ data.length = 1024)
  | .monActivate => true
  | .monConfirm => true
  | .monRecover => true
  | .monStage .. => true
  | .baseplateOvertemp => true
  | .baseplateCritical => true
  | .supplyBCrank .. => true
  | .transceiverFault .. => true
  | .linResponseTimeout .. => true
  | .pipelineParityFault .. => true
  | .wakeLineOutputRelease .. => true
  | .admissionQueueWait .. => true
  | .baseplateCooled => true

end Sys2Proof
end

