-- ==== Sys2Proof/Safety.lean ====
section
/-! DEFINITION. The terms in which statements speak of runs: completing with a property, a granted register access, the canonical form
of the addressed memories, fuses that only ever burn. -/

namespace Sys2Proof.Machine

/-- The outcome is a next state that has a property. -/
def Completes (o : Host.Outcome State Fault Refusal) (P : State → Prop) : Prop := ∃ t, o = .next t ∧ P t

/-- A write of `v` to the register at an address, by a facet on its own, is taken: the core works, no device reset waits for a reply, the
address is that of a page, the facet has the right to write it (R421), and no other facet's lock refuses it (R439). -/
def State.granted (s : State) (f addr : Nat) (v : W32) : Bool :=
  s.coreOn && !s.power.resetDue &&
    match pageOf addr with
    | none => false
    | some p => s.mayWrite (s.plain f) p (addr % 0x1000) && !s.lockedOut (s.plain f) p (addr % 0x1000) v

/-- A read of the register at an address by a facet on its own is taken (R422, R423). -/
def State.readable (s : State) (f addr : Nat) : Bool :=
  s.coreOn &&
    match pageOf addr with
    | none => false
    | some p => s.mayRead (s.plain f) p (addr % 0x1000)

/-- Page kinds whose block registers do nothing when they are written but hold the word. -/
def PageKind.storesOnly (k : PageKind) : Bool :=
  decide (k = .buf ∨ k = .ethCommon ∨ k = .fieldBus ∨ k = .accord ∨ k = .wakCan)

/-- The canonical form of the addressed memories: the ring region of DRAM (R388), the data areas of the cipher request pages (R494) and the
program store (R223): addresses strictly rising, and no entry equal to what an unlisted address reads as. -/
def State.memWf (s : State) : Bool :=
  SMap.canonical (fun _ => 0) s.dram && SMap.canonical (fun _ => 0) s.cip.data && SMap.canonical (fun _ => 0) s.ps

/-- Every fuse that was burned in one copy list is burned in the other: fuses only ever burn (R602, R605). -/
def burned {n : Nat} (a b : List (BitVec n)) : Prop :=
  ∀ (i k : Nat), (a.getD i 0).getLsbD k = true → (b.getD i 0).getLsbD k = true

/-- Life-cycle fuses and rollback floor of a state keep what another had burned. -/
def State.fusesKept (s t : State) : Prop := burned s.fw.fuses t.fw.fuses ∧ burned s.fw.floor t.fw.floor

/-- The item of a frame that arrives at an Ethernet vertex without MACsec (R17, R30, R189, R359). -/
def State.frameItem (s : State) (v : Nat) (bytes : List Byte) (sof : Nat) : Item :=
  let a := stampItem v sof bytes (bytes.length + 4) s
  dressed (a.2.bankOf a.1.epoch) a.1 bytes false

/-- A frame passes every step of the receive path up to its classification (R121, R358–R364, R370, R533, R558): the vertex receives, the frame is
whole, no MAC control frame, of a legal length, not claimed by the control path and not filtered; MACsec is off, and no stream filter holds
its stream. -/
def State.takesFrame (s : State) (v : Nat) (bytes : List Byte) (sof : Nat) (ph : PhyFinding) : Bool :=
  let a := stampItem v sof bytes (bytes.length + 4) s
  let b := a.2.bankOf a.1.epoch
  s.on && decide (v < 48) && s.macOn v && (s.ethSt v).linkUp && !ph.collided && !ph.badFcs && decide (beAt bytes 12 2 ≠ 0x8808)
    && (a.2.arrivalLost ph.fifoRoom).isNone && (a.2.inputRefused a.1).isNone && decide (60 ≤ bytes.length ∧ bytes.length + 4 ≤ b.maxFrame v)
    && decide (a.2.claim v a.1.epoch bytes = .none) && b.addrOk v bytes && !tst (b.regs.read (A.ethSecCtrl v)) 1 && b.vlanOk v bytes
    && (b.hashFind (streamKey (s.frameItem v bytes sof))).isNone

/-- The item of a CAN or LIN message that arrives: its stored form with the ORIGIN of its stamp (R268, R269). -/
def State.busItem (s : State) (v : Nat) (bytes : List Byte) (sof : Nat) : Item :=
  let i := (stampItem v sof bytes bytes.length s).1
  let dev := pair (s.reg A.locDevEpochLo) (s.reg A.locDevEpochHi)
  let d := bytes.take 12 ++ beBytes 4 (beAt bytes 12 4 % 2 ^ 31) ++ beBytes 8 (i.stamp + dev * 1000000000) ++ bytes.drop 24
  { i with data := d, flow := flowBus v d }

/-- A CAN or LIN vertex takes a message in its stored form (R121, R268, R533, R558). -/
def State.takesMessage (s : State) (v : Nat) (bytes : List Byte) (sof : Nat) (ph : PhyFinding) : Bool :=
  let a := stampItem v sof bytes bytes.length s
  s.on && decide (48 ≤ v ∧ v < 84) && s.vertexOn v && decide (24 ≤ bytes.length) && (a.2.arrivalLost ph.fifoRoom).isNone
    && (a.2.inputRefused (s.busItem v bytes sof)).isNone

/-- The next instruction of the job in context `x` of cell `c` is a well-formed one of an opcode, and it issues (R224, R237, R239, R240): the cell
works, the context has the issue turn with its line in the code cache, the job's segment is SEALED and holds no library program, the index and
the budget allow it, and its unused fields are zero. -/
def State.issues (s : State) (c x op mask : Nat) (j : Job) : Bool :=
  let e := s.deOf j.req
  s.coreOn && decide ((s.cell c).st = .inService) && decide (s.jobAt c x = some j) && s.hasTurn c x && s.loaded e && (s.libOf e).isNone &&
    decide (j.pc < e.len) && decide (j.executed + 1 ≤ e.budget) && decide (opOf (s.nextWord j) = op) &&
    decide (Nat.land (fld (s.nextWord j) 0 26) (0x3FFFFFF - mask) = 0)

/-- A job that has spent one instruction of its budget. -/
def Job.spent (j : Job) : Job := { j with executed := j.executed + 1 }

/-- A job after an instruction that writes one register. -/
def Job.wrote (j : Job) (rd : Nat) (v : W32) : Job := (j.spent.setReg rd v).next

/-- A cell has issued one instruction of a job that goes on as `j`: nothing else has changed but the cell's ISSUED counter (R265), the issue
turn, which passes to the next context (R224), and the time of the last issue. -/
def issued (c x : Nat) (j : Job) (s : State) : State :=
  setJob c x (some j) (addPair (A.latCIssuedLo c) (A.latCIssuedHi c) 1
    { s with issueTurn := SMap.put 0 s.issueTurn c ((x + 1) % 16), lastIssue := some s.now })

/-- The EV_RAW bit of an event source is set (R445). -/
def State.raised (s : State) (src : Nat) : Bool := tst (s.reg ((srcPage src).1 + 0x10)) (srcPage src).2

/-- A trial pair has become the proven one (R595). -/
def State.provenAs (t : State) (image settings : Nat) : Prop :=
  t.fw.rec_.image = image ∧ t.fw.rec_.settings = settings ∧ t.fw.rec_.trial = none ∧ t.fw.trialRun = false ∧ (t.bank image).st = 3 ∧
    t.raised 307 = true

/-- A trial image has failed (R596): the boot record asks for fallback and the device was reset with cause COMMAND. -/
def State.trialFailed (t : State) : Prop :=
  t.fw.rec_.fallback = true ∧ t.fw.rec_.unproven = true ∧ t.power.cause = 4 ∧ t.fw.step = .rom ∧ t.mp = .boot

/-- The line at the front names a command of the monitor and its arguments, and the monitor executes it now: it runs, waits for nothing,
and the stage and the unlock permit the command (R607). -/
def State.monReady (s : State) (c : MonCmd) (args : List (List Byte)) : Bool :=
  s.monOn && !s.svc.held && s.svc.load.isNone && s.monMay c && decide ((s.svc.lines.head?.bind fun i => monLine i.data) = some (c, args))

/-- The line at the front has been answered. -/
def State.said (s t : State) (l : List String) : Prop := t.svc.output = s.svc.output ++ l ∧ t.svc.lines = s.svc.lines.tail

end Sys2Proof.Machine

namespace Sys2Proof

/-- Commands of what the module does by itself, and of the monitor's own lines, that reach no register, table, session or window. -/
def Instr.keepsConfiguration : Instr → Bool
  | .planeTransfer .. | .egressTransmit .. | .gateEntryAdvance .. | .preemptVerify .. | .agedDiscard .. | .copyForwardComplete ..
  | .lockstepMismatch .. | .mpRestartComplete .. | .pairLoRead .. | .counterRead .. | .faultCodeRead .. | .syncReceive .. | .slewEnd ..
  | .announceReceive .. | .announceReceiptTimeout .. | .pdelayReceive .. | .ptpMessageTransmit .. | .syncOutputAssert .. | .syncOutputRelease ..
  | .captureEdge .. | .planeFault .. | .quiesceMarkerAck .. | .markerTimeout ..
  | .jobAdmit .. | .latAdd .. | .latSub .. | .latAnd .. | .latOr .. | .latXor .. | .latShl .. | .latShr .. | .latSar .. | .latMul ..
  | .latCmp .. | .latSel .. | .latBswap .. | .latAddi .. | .latAndi .. | .latOri .. | .latXori .. | .latShli .. | .latShri .. | .latSari ..
  | .latCmpi .. | .latMovi .. | .latLui .. | .latExt .. | .latIns .. | .latClz .. | .latWset .. | .latWget .. | .latLdw .. | .latSto ..
  | .latLdo .. | .latCpy .. | .latLd .. | .latSt .. | .latLdc .. | .latSrd .. | .latSskip .. | .latSseek .. | .latSpos .. | .latEmit ..
  | .latDone .. | .latDrop .. | .latAbort .. | .latB .. | .latCall .. | .latRet .. | .latJr .. | .latDbnz .. | .latXreq .. | .latXwait ..
  | .latMeta .. | .latRule .. | .latCnt .. | .lookasideComplete .. | .codeCacheFill .. | .orderLaneRelease .. | .cellFault ..
  | .periodicSelfCheck .. | .selfCheckDrainTimeout .. | .selfCheckComplete .. | .canBusError .. | .boffDelayExpiry ..
  | .busOffRecoveryComplete .. | .rateDwellExpiry .. | .bitTimingChange .. | .canTakeCopy .. | .canArbitration .. | .canTransmitEnd ..
  | .ttReferenceDue .. | .ttWindowStart .. | .linSlotStart .. | .linHeaderReceive .. | .linPublishUpdate .. | .bridgeBusMatch ..
  | .bridgeNetMatch .. | .laneTraining .. | .laneTrainingTimeout .. | .laneSilenceEnd ..
  | .degradeWindow .. | .phyLinkAttemptFail .. | .linkUp .. | .plcaBeacon .. | .plcaBeaconTimeout .. | .plcaTransmitOpportunity ..
  | .collision .. | .backoffExpiry .. | .pauseFrameReceive .. | .pauseExpiry .. | .pauseWatchdog .. | .pauseReleaseEnd .. | .pauseFrameSend ..
  | .pauseRefresh .. | .journalWrite .. | .eventLaneDrain .. | .exportRead .. | .exportRelease .. | .exportFrameSend .. | .exportFlushTimeout ..
  | .captureRingReceive .. | .injectAdmit .. | .injectIdleTimeout .. | .producerStallTimeout .. | .crossingResync .. | .crossingWakeTimeout ..
  | .arpRequest .. | .pageLockExpiry .. | .accordMessageSend .. | .accordMessageReceive .. | .peerLost .. | .conflictClear ..
  | .digestRecompute .. | .gcmEnc .. | .gcmDec .. | .cmacGen .. | .cmacVer .. | .xtsEnc .. | .xtsDec .. | .cipUnwrap .. | .cipCheck ..
  | .cipComplete .. | .knownAnswerTest .. | .scanComplete .. | .tc10SleepTimeout .. | .roundStart .. | .perimeterAnswer ..
  | .perimeterTimeout .. | .groupWaitTimeout .. | .sleepEntry .. | .wakePin .. | .wakeFrameDecode .. | .canWakeUpPattern .. | .linWake ..
  | .tc10Wake .. | .wakeTimer .. | .serviceWake .. | .aonMeasure .. | .supplyInRange .. | .holdupExpiry .. | .coreResume .. | .xoAccepted ..
  | .xoRestart .. | .xoLost .. | .pllUnlock .. | .paceMeasure .. | .paceRequestHoldExpiry .. | .paceStep .. | .dividerStep ..
  | .watchdogService .. | .watchdogHalf .. | .romBoot .. | .channelsJoin .. | .bankEraseComplete .. | .verifyComplete .. | .proveAutoExpiry ..
  | .saveComplete .. | .lcRequest .. | .monitorLine .. | .monIdent .. | .monHelp .. | .monStatus .. | .monBaud .. | .baudRevert .. | .monEcho ..
  | .monChal .. | .monUnlock .. | .monLock .. | .unlockIdleExpiry .. | .monFlog .. | .monBank .. | .monLoad .. | .xmodemBlock ..
  | .monActivate .. | .monConfirm .. | .monStage .. | .baseplateOvertemp .. | .supplyBCrank .. | .transceiverFault .. | .linResponseTimeout ..
  | .pipelineParityFault .. | .wakeLineOutputRelease .. | .admissionQueueWait .. | .baseplateCooled .. => true
  | _ => false

/-- The cell and context of a row of the instruction table of the lattice (R237). -/
def Instr.latAt : Instr → Option (CellNo × Ctx)
  | .latAdd c x | .latSub c x | .latAnd c x | .latOr c x | .latXor c x | .latShl c x | .latShr c x | .latSar c x | .latMul c x | .latCmp c x
  | .latSel c x | .latBswap c x | .latAddi c x | .latAndi c x | .latOri c x | .latXori c x | .latShli c x | .latShri c x | .latSari c x
  | .latCmpi c x | .latMovi c x | .latLui c x | .latExt c x | .latIns c x | .latClz c x | .latWset c x | .latWget c x | .latLdw c x
  | .latSto c x | .latLdo c x | .latCpy c x | .latLd c x | .latSt c x | .latLdc c x | .latSrd c x | .latSskip c x | .latSseek c x | .latSpos c x
  | .latEmit c x | .latDone c x | .latDrop c x | .latAbort c x | .latB c x | .latCall c x | .latRet c x | .latJr c x | .latDbnz c x
  | .latXreq c x | .latXwait c x | .latMeta c x | .latRule c x | .latCnt c x => some (c, x)
  | _ => none

/-- The rows that set flags (R236). -/
def Instr.setsFlags : Instr → Bool
  | .latCmp .. | .latCmpi .. | .latSrd .. | .latXwait .. => true
  | _ => false

end Sys2Proof
end

