-- ==== Sys2Proof/Certificates/Slice0/Obligations.lean ====
section
/-! DEFINITION. The statements for the provers. -/

open Sys2Proof Sys2Proof.Machine

/-! ## The machine as a whole -/

/-- Every command completes: whatever the state, exec answers a next state, and only the step takes from the queue and lets time pass (log entries 5 and
6). -/
def Obligations.EveryCommandCompletes : Prop :=
  ∀ (c : Instr) (s : State), Completes (exec c s) fun t => t.pending = s.pending ∧ t.now = s.now

/-- A step runs the command at the front of the queue on the state with the queue's rest. On an empty queue a nanosecond passes, and a die that does not
work keeps everything else (log entry 5: the model's choice). -/
def Obligations.StepRunsTheFrontCommand : Prop :=
  (∀ (c : Instr) (rest : List Instr) (s : State), s.pending = c :: rest → step s = exec c { s with pending := rest }) ∧
  (∀ s : State, s.pending = [] → Completes (step s) fun t =>
     t.pending = [] ∧ t.now = s.now + 1 ∧ (s.on = false → t = { s with now := s.now + 1 }))

/-- What reset leaves: the locus at 0 and FREE (R66), cells 0–63 in service and 64–71 spare (R223), the five planes in service (R134), no lock held
(R439), the epoch machinery idle, every register at its reset value, every memory in its canonical form. -/
def Obligations.ResetState : Prop :=
  State.reset.locus = 0 ∧ State.reset.loc.st = .free ∧ State.reset.memWf = true ∧
  (∀ c : CellNo, (State.reset.cell c).st = if c.val < 64 then .inService else .spare) ∧
  (∀ (c : CellNo) (x : Ctx), State.reset.jobAt c x = none) ∧
  State.reset.plane.inService = [0, 1, 2, 3, 4] ∧ (∀ k, State.reset.lockOf k = none) ∧ State.reset.epoch.st = .idle ∧
  (∀ a, State.reset.reg a = resetOf a ∧ State.reset.cfg a = resetOf a ∧ State.reset.stg a = resetOf a)

/-- No step clears a fuse: neither the life-cycle fuses nor those of the rollback floor (R602, R605: burning only adds bits, and every reset keeps
them). So the stage and the floor never go back. -/
def Obligations.NoStepClearsFuse : Prop := ∀ s t : State, step s = .next t → s.fusesKept t

/-- Every step keeps the addressed memories (the DRAM ring region, the cipher data areas, the program store) in their canonical form. -/
def Obligations.StepKeepsMemory : Prop := ∀ s t : State, s.memWf = true → step s = .next t → t.memWf = true

/-- The locus never decreases (R67): no step that leaves the module powered and makes no start (a reset or a wake, R66, R547) moves it backward. -/
def Obligations.LocusNeverDecreases : Prop :=
  ∀ s t : State, step s = .next t → t.fw.starts = s.fw.starts → t.power.collapsed = false → s.locus ≤ t.locus

/-- What the module does by itself (R30, R32, R33: only register accesses, commits, table and rule commands, learning and start-up change the
configuration): none of the commands of traffic, jobs, buses, journal, cipher, clocks and the monitor's own lines changes the live or the staging
configuration, the segments and the program store, held pair halves, soft and facet resets in progress, the sessions or the window bridges; of them
only a capture ring writes the ring region and only the completion of a cipher request the data areas. -/
def Obligations.EventsKeepTheConfiguration : Prop :=
  ∀ (c : Instr) (s t : State), c.keepsConfiguration = true → exec c s = .next t →
    t.live = s.live ∧ t.staging = s.staging ∧ t.segs = s.segs ∧ t.ps = s.ps ∧ t.psBad = s.psBad ∧ t.loHeld = s.loHeld ∧
      t.softReset = s.softReset ∧ t.facetReset = s.facetReset ∧ t.sessions = s.sessions ∧ t.windows = s.windows ∧
      ((∀ r, c ≠ .captureRingReceive r) → t.dram = s.dram) ∧ ((∀ n e, c ≠ .cipComplete n e) → t.cip.data = s.cip.data)

/-! ## Register access (chapters 01, 09 and 14) -/

/-- Writes that are refused change nothing but the answer: an unaligned one with ALIGN (R6), one to no page with UNMAPPED (R617), one without the right
with RIGHTS (R421), one to a page that another facet has locked with LOCKED (R439). While a commit request is pending, a staged write of a block
register is refused with ARMED, and neither the staging copy, the live one nor any other register changes (R38). -/
def Obligations.RefusedWritesChangeNothing : Prop :=
  (∀ (f : Facet) (addr v : W32) (s : State), s.coreOn = true → s.power.resetDue = false → farWindow addr.toNat = none →
     (addr.toNat % 4 ≠ 0 → exec (.registerWrite f addr v) s = .next { s with resp := ⟨.align, []⟩ }) ∧
     (addr.toNat % 4 = 0 → pageOf addr.toNat = none → exec (.registerWrite f addr v) s = .next { s with resp := ⟨.unmapped, []⟩ }) ∧
     (∀ p, addr.toNat % 4 = 0 → pageOf addr.toNat = some p →
       (s.mayWrite (s.plain f) p (addr.toNat % 0x1000) = false →
         exec (.registerWrite f addr v) s = .next { s with resp := ⟨.rights, []⟩ }) ∧
       (s.mayWrite (s.plain f) p (addr.toNat % 0x1000) = true → p.kind ≠ .aperture →
         s.lockedOut (s.plain f) p (addr.toNat % 0x1000) v = true →
         exec (.registerWrite f addr v) s = .next { s with resp := ⟨.locked, []⟩ }))) ∧
  (∀ (f : Facet) (addr v : W32) (s : State) (r : RegRow), s.granted f addr.toNat v = true → addr.toNat % 4 = 0 →
     farWindow addr.toNat = none → 0x40 ≤ addr.toNat % 0x1000 → regRow addr.toNat = some r → r.acc = .rws → s.epoch.st ≠ .idle →
     Completes (exec (.registerWrite f addr v) s) fun t =>
       t.resp = ⟨.armed, []⟩ ∧ t.staging = s.staging ∧ t.live = s.live ∧ t.regs = s.regs)

/-- Access codes (R12): a write takes effect in an RW register at once; in an RWS register it lands in the staging copy and leaves the live one; RO and
RC registers ignore it. Nothing else changes but the answer and the leases. Pairs (R10): a write of _LO is held and changes no register; the write
of _HI commits both halves together, _LO with the value held or, without one, as it is. -/
def Obligations.WritesTakeEffect : Prop :=
  (∀ (f : Facet) (addr v : W32) (s : State) (p : PageRef) (r : RegRow), s.granted f addr.toNat v = true → addr.toNat % 4 = 0 →
     pageOf addr.toNat = some p → p.kind.storesOnly = true → 0x40 ≤ addr.toNat % 0x1000 → regRow addr.toNat = some r →
     r.pair = .none → s.epoch.st = .idle →
     Completes (exec (.registerWrite f addr v) s) fun t =>
       let key := s.keyAt p f addr.toNat
       t = { s with resp := ⟨.ok, []⟩, locks := t.locks, regs := t.regs, staging := { s.staging with regs := t.staging.regs } } ∧
       (∀ a, a ≠ key → t.reg a = s.reg a ∧ t.stg a = s.stg a) ∧
       (r.acc = .rw ∨ r.acc = .wo → t.reg key = r.fit v ∧ t.stg key = s.stg key) ∧
       (r.acc = .rws → t.stg key = r.fit v ∧ t.reg key = s.reg key) ∧
       (r.acc = .ro ∨ r.acc = .rc → t.regs = s.regs ∧ t.staging = s.staging)) ∧
  ((∀ (f : Facet) (addr v : W32) (s : State) (p : PageRef) (r : RegRow), s.granted f addr.toNat v = true → addr.toNat % 4 = 0 →
     pageOf addr.toNat = some p → p.kind.storesOnly = true → 0x40 ≤ addr.toNat % 0x1000 → regRow addr.toNat = some r →
     r.pair = .lo → r.acc = .rw ∨ r.acc = .rws → s.epoch.st = .idle →
     Completes (exec (.pairLoWrite f addr v) s) fun t =>
       t.resp = ⟨.ok, []⟩ ∧ SMap.get none t.loHeld (halfKey addr.toNat f) = some v ∧ t.regs = s.regs ∧ t.staging = s.staging ∧
       t.live = s.live) ∧
   (∀ (f : Facet) (addr v : W32) (s : State) (p : PageRef) (r lo : RegRow), s.granted f addr.toNat v = true → addr.toNat % 4 = 0 →
     pageOf addr.toNat = some p → p.kind.storesOnly = true → 0x40 ≤ addr.toNat % 0x1000 → regRow addr.toNat = some r →
     r.pair = .hi → regRow (addr.toNat - 4) = some lo → lo.acc = r.acc → r.acc = .rw ∨ r.acc = .rws → s.epoch.st = .idle →
     s.keyAt p f (addr.toNat - 4) ≠ s.keyAt p f addr.toNat →
     Completes (exec (.pairHiWrite f addr v) s) fun t =>
       let key := s.keyAt p f addr.toNat
       let loKey := s.keyAt p f (addr.toNat - 4)
       let held := SMap.get none s.loHeld (halfKey (addr.toNat - 4) f)
       t.resp = ⟨.ok, []⟩ ∧ SMap.get none t.loHeld (halfKey (addr.toNat - 4) f) = none ∧ t.live = s.live ∧
       (r.acc = .rw → t.reg key = r.fit v ∧ t.reg loKey = lo.fit (held.getD (s.reg loKey)) ∧ t.staging = s.staging) ∧
       (r.acc = .rws → t.stg key = r.fit v ∧ t.stg loKey = lo.fit (held.getD (s.stg loKey)) ∧ t.regs = s.regs)))

/-- A read of _LO (R9) latches _HI, and a read that is not permitted returns 0 with RIGHTS and changes nothing else (R422). A read of _HI returns the
value that the read of _LO latched for the facet (R9). -/
def Obligations.PairReadsLatch : Prop :=
  (∀ (f : Facet) (addr : W32) (s : State) (p : PageRef) (r : RegRow), s.coreOn = true → addr.toNat % 4 = 0 → pageOf addr.toNat = some p →
     p.kind ≠ .aperture → p.kind ≠ .rng → regRow addr.toNat = some r → r.pair = .lo →
     (s.mayRead (s.plain f) p (addr.toNat % 0x1000) = false →
       exec (.pairLoRead f addr) s = .next { s with resp := ⟨.rights, [0]⟩ }) ∧
     (s.mayRead (s.plain f) p (addr.toNat % 0x1000) = true → addr.toNat % 0x1000 ≠ 0x20 →
       Completes (exec (.pairLoRead f addr) s) fun t =>
         t.resp.rsp = .ok ∧ t.resp.data.length = 1 ∧ (SMap.get none t.hiLatch (halfKey (addr.toNat + 4) f)).isSome = true ∧
         t.live = s.live ∧ t.staging = s.staging)) ∧
  (∀ (f : Facet) (addr : W32) (s : State) (p : PageRef) (r : RegRow) (w : W32), s.readable f addr.toNat = true → addr.toNat % 4 = 0 →
     pageOf addr.toNat = some p → p.kind ≠ .aperture → addr.toNat % 0x1000 < 0x800 ∨ p.kind ≠ .rng → addr.toNat % 0x1000 ≠ 0x20 →
     regRow addr.toNat = some r → r.pair = .hi → SMap.get none s.hiLatch (halfKey addr.toNat f) = some w →
     ∃ t, readReg (s.plain f) addr.toNat s = (.ok, w, t) ∧ t.hiLatch = s.hiLatch ∧ t.live = s.live ∧ t.staging = s.staging)

/-- Counters of code RC (R369): a read of _LO returns the total less the baseline of the reader, which moves to the total; it latches _HI; the total and
the other baseline do not move. F0 has one baseline and the bound facet the other. The header registers: a read of FAULT_CODE by F0 latches
FAULT_ADDR and the stamp (R631); F0's write of EV_RAW clears the bits written with 1 (R630); SYS_STAGE_VIEW sets the view of its facet alone (R634).
PAGE_ID, PAGE_CAPS, OWNER and LOCK are readable by every facet (R621). -/
def Obligations.CountersAndHeaders : Prop :=
  (∀ (f : Facet) (addr : W32) (s : State) (p : PageRef), s.readable f addr.toNat = true → addr.toNat % 4 = 0 → counterAt addr.toNat = true →
     pageOf addr.toNat = some p → p.kind = .eth →
     Completes (exec (.counterRead f addr) s) fun t =>
       let key := addr.toNat + 2 ^ 24 * (if f = 0 then 0 else 1)
       let total := SMap.get 0 s.counters addr.toNat
       let d := total - SMap.get 0 s.baseline key
       t.resp = ⟨.ok, [loW d]⟩ ∧ SMap.get none t.hiLatch (halfKey (addr.toNat + 4) f) = some (hiW d) ∧
       SMap.get 0 t.baseline key = total ∧ (∀ k, k ≠ key → SMap.get 0 t.baseline k = SMap.get 0 s.baseline k) ∧ t.counters = s.counters) ∧
  ((∀ (page : PageNo) (s : State) (p : PageRef), s.readable 0 (0x1000 * page.val + 0x20) = true →
     pageOf (0x1000 * page.val + 0x20) = some p → p.kind ≠ .aperture →
     Completes (exec (.faultCodeRead 0 page) s) fun t =>
       t.resp.rsp = .ok ∧
       SMap.get [] t.faultLatch p.base = [s.reg (p.base + 0x24), s.reg (p.base + 0x28), s.reg (p.base + 0x2C)] ∧ t.regs = s.regs) ∧
   (∀ (page : PageNo) (v : W32) (s : State) (p : PageRef), s.granted 0 (0x1000 * page.val + 0x10) v = true →
     pageOf (0x1000 * page.val + 0x10) = some p → p.kind ≠ .aperture →
     Completes (exec (.evRawClear 0 page v) s) fun t =>
       t.resp = ⟨.ok, []⟩ ∧ t.reg (p.base + 0x10) = s.reg (p.base + 0x10) &&& ~~~v ∧
       (∀ a, a ≠ p.base + 0x10 → t.reg a = s.reg a) ∧ t.staging = s.staging ∧ t.live = s.live) ∧
   (∀ (f : Facet) (v : W32) (s : State), s.granted f A.sysStageView v = true →
     Completes (exec (.stageViewWrite f v) s) fun t =>
       t.resp = ⟨.ok, []⟩ ∧ tst (t.reg (selKey A.sysStageView f)) 0 = tst v 0 ∧
       (∀ g : Facet, g ≠ f → t.reg (selKey A.sysStageView g) = s.reg (selKey A.sysStageView g)))) ∧
  (∀ (q : Req) (page : PageNo) (k : Fin 4) (s : State) (p : PageRef),
     let addr := 0x1000 * page.val + [0x00, 0x04, 0x30, 0x3C].getD k.val 0
     pageOf addr = some p →
     ∃ w t, readReg q addr s = (.ok, w, t) ∧ t.regs = s.regs ∧ t.live = s.live ∧ t.staging = s.staging)

/-- Every row of the table that is a write of one register is exactly that register write: the address and the word are those that the register map and
the chapter of the row give, and rights, locks, the pending commit and the answer are those of any write. -/
def Obligations.RowsAreRegisterWrites : Prop :=
  (∀ (f : Facet) (s : State),
    (exec (.commit f) s = exec (.registerWrite f (w32 A.sysEpochCtrl) 1) s) ∧
    (exec (.commitAtTime f) s = exec (.registerWrite f (w32 A.sysEpochCtrl) 3) s) ∧
    (exec (.cancel f) s = exec (.registerWrite f (w32 A.sysEpochCtrl) 4) s) ∧
    (exec (.segmentOpen f) s = exec (.registerWrite f (w32 A.latSegCtrl) 1) s) ∧
    (exec (.seal f) s = exec (.registerWrite f (w32 A.latSegCtrl) 2) s) ∧
    (exec (.segmentFree f) s = exec (.registerWrite f (w32 A.latSegCtrl) 3) s) ∧
    (exec (.wakRun f) s = exec (.registerWrite f (w32 A.wakCmd) 1) s) ∧
    (exec (.wakDoze f) s = exec (.registerWrite f (w32 A.wakCmd) 2) s) ∧
    (exec (.wakSleep f) s = exec (.registerWrite f (w32 A.wakCmd) 3) s) ∧
    (exec (.wakCancel f) s = exec (.registerWrite f (w32 A.wakCmd) 16) s) ∧
    (exec (.updOpen f) s = exec (.registerWrite f (w32 A.updCmd) 1) s) ∧
    (exec (.updVerify f) s = exec (.registerWrite f (w32 A.updCmd) 2) s) ∧
    (exec (.updActivate f) s = exec (.registerWrite f (w32 A.updCmd) 3) s) ∧
    (exec (.updConfirm f) s = exec (.registerWrite f (w32 A.updCmd) 4) s) ∧
    (exec (.updFallback f) s = exec (.registerWrite f (w32 A.updCmd) 5) s) ∧
    (exec (.updSave f) s = exec (.registerWrite f (w32 A.updCmd) 6) s) ∧
    (exec (.updAbort f) s = exec (.registerWrite f (w32 A.updCmd) 7) s)) ∧
  (∀ (f : Facet) (page : PageNo) (v : W32) (s : State),
    (exec (.evRawClear f page v) s = exec (.registerWrite f (w32 (0x1000 * page.val + 0x10)) v) s) ∧
    (exec (.pageEnableWrite f page v) s = exec (.registerWrite f (w32 (0x1000 * page.val + 8)) v) s)) ∧
  (∀ (f : Facet) (v : W32) (s : State),
    (exec (.stageViewWrite f v) s = exec (.registerWrite f (w32 A.sysStageView) v) s) ∧
    (exec (.locRateWrite f v) s = exec (.registerWrite f (w32 A.locRate) v) s) ∧
    (exec (.phaseAdjust f v) s = exec (.registerWrite f (w32 A.locAdjNs) v) s) ∧
    (exec (.forceHold f v) s = exec (.registerWrite f (w32 A.locCtrl) v) s) ∧
    (exec (.planeMove f v) s = exec (.registerWrite f (w32 A.plnMove) v) s) ∧
    (exec (.planeForceRetire f v) s = exec (.registerWrite f (w32 A.plnForceRetire) v) s) ∧
    (exec (.hashSeedWrite f v) s = exec (.registerWrite f (w32 A.tblHashSeed) v) s) ∧
    (exec (.sfUnblock f v) s = exec (.registerWrite f (w32 A.tblSfUnblock) v) s) ∧
    (exec (.latForceRetire f v) s = exec (.registerWrite f (w32 A.latForceRetire) v) s) ∧
    (exec (.psDataWrite f v) s = exec (.registerWrite f (w32 A.latPsData) v) s) ∧
    (exec (.policyWrite f v) s = exec (.registerWrite f (w32 A.jrnCtrl) v) s) ∧
    (exec (.journalReadRequest f v) s = exec (.registerWrite f (w32 A.jrnRdReq) v) s) ∧
    (exec (.facetKeepWrite f v) s = exec (.registerWrite f (w32 A.wakFacetKeep) v) s) ∧
    (exec (.resetCommand f v) s = exec (.registerWrite f (w32 A.pwrResetCmd) v) s) ∧
    (exec (.updWriteData f v) s = exec (.registerWrite f (w32 A.updWrData) v) s) ∧
    (exec (.forceLock f v) s = exec (.registerWrite f (w32 A.svcForceLock) v) s) ∧
    (exec (.facetReset f v) s = exec (.registerWrite f (w32 A.sysFacetReset) v) s) ∧
    (exec (.eventPop f v) s = exec (.registerWrite f (w32 A.sysEvPop) v) s)) ∧
  (∀ (f : Facet) (hi : Bool) (v : W32) (s : State),
    (exec (.devEpochWrite f hi v) s = exec (.registerWrite f (w32 (if hi then A.locDevEpochHi else A.locDevEpochLo)) v) s)) ∧
  (∀ (f : Facet) (n : Facet) (v : W32) (s : State),
    (exec (.txqSelWrite f n v) s = exec (.registerWrite f (w32 (A.locTxqSel n.val)) v) s) ∧
    (exec (.txqPop f n v) s = exec (.registerWrite f (w32 (A.locTxqPop n.val)) v) s) ∧
    (exec (.cipSubmit f n v) s = exec (.registerWrite f (w32 (A.cipRqSubmit n.val)) v) s) ∧
    (exec (.cqPop f n v) s = exec (.registerWrite f (w32 (A.cipCqPop n.val)) v) s)) ∧
  (∀ (f : Facet) (n : Fin 8) (v : W32) (s : State),
    (exec (.capturePop f n v) s = exec (.registerWrite f (w32 (A.locCapPop n.val)) v) s)) ∧
  (∀ (f : Facet) (p : Fin 4) (hash live : Bool) (s : State),
    (exec (.tblSearch f p hash live) s = exec (.registerWrite f (w32 (A.tblCmdOp p.val)) (opWord 1 hash live)) s) ∧
    (exec (.tblInsert f p hash live) s = exec (.registerWrite f (w32 (A.tblCmdOp p.val)) (opWord 2 hash live)) s) ∧
    (exec (.tblUpdate f p hash live) s = exec (.registerWrite f (w32 (A.tblCmdOp p.val)) (opWord 3 hash live)) s) ∧
    (exec (.tblDelete f p hash live) s = exec (.registerWrite f (w32 (A.tblCmdOp p.val)) (opWord 4 hash live)) s) ∧
    (exec (.tblNext f p hash live) s = exec (.registerWrite f (w32 (A.tblCmdOp p.val)) (opWord 5 hash live)) s) ∧
    (exec (.tblRead f p hash live) s = exec (.registerWrite f (w32 (A.tblCmdOp p.val)) (opWord 6 hash live)) s) ∧
    (exec (.tblFlushVertex f p hash live) s = exec (.registerWrite f (w32 (A.tblCmdOp p.val)) (opWord 7 hash live)) s) ∧
    (exec (.tblClearReq f p hash live) s = exec (.registerWrite f (w32 (A.tblCmdOp p.val)) (opWord 8 hash live)) s)) ∧
  (∀ (f : Facet) (p : Fin 4) (s : State),
    (exec (.cmdPortLock f p) s = exec (.registerWrite f (w32 (A.tblCmdLock p.val)) 0x10) s) ∧
    (exec (.cmdPortRelease f p) s = exec (.registerWrite f (w32 (A.tblCmdLock p.val)) 0) s) ∧
    (exec (.cmdPortForce f p) s = exec (.registerWrite f (w32 (A.tblCmdLock p.val)) 0x100) s)) ∧
  (∀ (f : Facet) (ch : CanCh) (s : State),
    (exec (.canRecover f ch) s = exec (.registerWrite f (w32 (A.canCmd ch.val)) 1) s) ∧
    (exec (.ttRestart f ch) s = exec (.registerWrite f (w32 (A.canCmd ch.val)) 2) s)) ∧
  (∀ (f : Facet) (j : LinCh) (v : W32) (s : State),
    (exec (.linSchedSelWrite f j v) s = exec (.registerWrite f (w32 (A.linSchedSel j.val)) v) s)) ∧
  (∀ (f : Facet) (p : Fin 2) (tangent live : Bool) (s : State),
    (exec (.ruleRead f p tangent live) s = exec (.registerWrite f (w32 (A.brgRcmdOp p.val)) (opWord 1 tangent live)) s) ∧
    (exec (.ruleWrite f p tangent live) s = exec (.registerWrite f (w32 (A.brgRcmdOp p.val)) (opWord 2 tangent live)) s) ∧
    (exec (.ruleClear f p tangent live) s = exec (.registerWrite f (w32 (A.brgRcmdOp p.val)) (opWord 3 tangent live)) s)) ∧
  (∀ (f : Facet) (p : Fin 2) (s : State),
    (exec (.rulePortLock f p) s = exec (.registerWrite f (w32 (A.brgRcmdLock p.val)) 0x10) s) ∧
    (exec (.rulePortRelease f p) s = exec (.registerWrite f (w32 (A.brgRcmdLock p.val)) 0) s) ∧
    (exec (.rulePortForce f p) s = exec (.registerWrite f (w32 (A.brgRcmdLock p.val)) 0x100) s)) ∧
  (∀ (f : Facet) (v : EthV) (an : W32) (s : State),
    (exec (.secTxAnWrite f v an) s = exec (.registerWrite f (w32 (A.ethSecTxAn v.val)) an) s)) ∧
  (∀ (f : Facet) (r : Fin 8) (v : W32) (s : State),
    (exec (.capTailWrite f r v) s = exec (.registerWrite f (w32 (A.capTail r.val)) v) s)) ∧
  (∀ (f : Facet) (k : Fin 4) (v : W32) (s : State),
    (exec (.injectData f k v) s = exec (.registerWrite f (w32 (A.injData k.val)) v) s) ∧
    (exec (.injectEnd f k v) s = exec (.registerWrite f (w32 (A.injEnd k.val)) v) s)) ∧
  (∀ (f : Facet) (k : Fin 4) (valid : Fin 8) (s : State),
    (exec (.injectSwap f k valid) s = exec (.registerWrite f (w32 (A.injCmd k.val)) (w32 (2 + 4 * valid.val))) s)) ∧
  (∀ (f : Facet) (k : Fin 4) (s : State),
    (exec (.injectFlush f k) s = exec (.registerWrite f (w32 (A.injCmd k.val)) 1) s)) ∧
  (∀ (f : Facet) (n : Facet) (s : State),
    (exec (.promote f n) s = exec (.registerWrite f (w32 (A.cipKsCmd n.val)) 1) s) ∧
    (exec (.eraseNext f n) s = exec (.registerWrite f (w32 (A.cipKsCmd n.val)) 2) s) ∧
    (exec (.eraseAll f n) s = exec (.registerWrite f (w32 (A.cipKsCmd n.val)) 3) s)) ∧
  (∀ (f : Facet) (u : Fin 8) (hi : Bool) (v : W32) (s : State),
    (exec (.checkRunWrite f u hi v) s = exec (.registerWrite f (w32 (if hi then A.chkURunHi u.val else A.chkURunLo u.val)) v) s)) ∧
  (∀ (f : Facet) (u : Fin 8) (v : W32) (s : State),
    (exec (.checkScan f u v) s = exec (.registerWrite f (w32 (A.chkUScanCmd u.val)) v) s)) ∧
  (∀ (f : Facet) (page : PageNo) (s : State),
    (exec (.pageLockTake f page) s = exec (.registerWrite f (w32 (0x1000 * page.val + 0x3C)) 0x10) s) ∧
    (exec (.pageLockRelease f page) s = exec (.registerWrite f (w32 (0x1000 * page.val + 0x3C)) 0) s) ∧
    (exec (.pageLockForce f page) s = exec (.registerWrite f (w32 (0x1000 * page.val + 0x3C)) 0x100) s))

/-- PAGE_CTRL (R622, R625, R626): ENABLE lands in the staging copy, and is refused with ARMED when it would change while a commit is pending; QUIESCE
takes effect at once. Soft resets (R576, R577, R627): the reset of a vertex page starts at every vertex of its scope, that of a cell page takes its
cells out of dispatch and checks its spares; it ends when what was in transmission has ended, or the cells are checked, and the vertices begin anew. -/
def Obligations.PagesAreControlled : Prop :=
  ((∀ (f : Facet) (page : PageNo) (v : W32) (s : State) (p : PageRef), s.granted f (0x1000 * page.val + 8) v = true →
     pageOf (0x1000 * page.val + 8) = some p → p.kind.gate = true → tst v 2 = false →
     (s.epoch.st = .idle → Completes (exec (.pageEnableWrite f page v) s) fun t =>
       t.resp = ⟨.ok, []⟩ ∧ tst (t.stg (p.base + 8)) 0 = tst v 0 ∧ t.live = s.live) ∧
     (s.epoch.st ≠ .idle → tst v 0 ≠ tst (s.stg (p.base + 8)) 0 → Completes (exec (.pageEnableWrite f page v) s) fun t =>
       t.resp = ⟨.armed, []⟩ ∧ t.staging = s.staging ∧ t.live = s.live)) ∧
   (∀ (f : Facet) (page : PageNo) (hold : Bool) (s : State) (p : PageRef),
     s.granted f (0x1000 * page.val + 8) (s.pageCtrlNow (0x1000 * page.val) hold 0) = true →
     pageOf (0x1000 * page.val + 8) = some p → p.kind.quiesce = true →
     Completes (exec (.quiesce f page hold) s) fun t =>
       t.resp = ⟨.ok, []⟩ ∧ tst (t.reg (p.base + 8)) 1 = hold ∧ t.live = s.live ∧ t.softReset = s.softReset)) ∧
  ((∀ (f : Facet) (v : PageVertex) (s : State) (p : PageRef), let base := pageVertexBase v.val
     s.granted f (base + 8) (s.pageCtrlNow base (tst (s.reg (base + 8)) 1) 4) = true → pageOf (base + 8) = some p → s.softReset = [] →
     Completes (exec (.vertexSoftReset f v) s) fun t =>
       t.resp = ⟨.ok, []⟩ ∧ (∀ w ∈ s.resetScope p, t.softReset.contains (vertexPage w) = true) ∧
       (s.resetScope p = [] → t.softReset = []) ∧ (8 ≤ v.val → v.val < 72 → SMap.get 0 t.seqs v.val = 0)) ∧
   (∀ (f : Facet) (k : Fin 36) (s : State), let base := 0x82000 + 0x1000 * k.val
     s.granted f (base + 8) (s.pageCtrlNow base (tst (s.reg (base + 8)) 1) 4) = true → s.softReset = [] →
     Completes (exec (.cellSoftReset f k) s) fun t =>
       t.resp = ⟨.ok, []⟩ ∧
       (∀ c ∈ cellsOfPage k, ((s.cell c).st = .spare → (t.cell c).st = .checking) ∧ ((s.cell c).st = .inService → (t.cell c).noDispatch = true) ∧
         ((s.cell c).st ≠ .retired → t.softReset = [base]))) ∧
   (∀ (page : PageNo) (s : State) (p : PageRef), let base := 0x1000 * page.val
     s.on = true → s.softReset.contains base = true → pageOf base = some p →
     (p.kind = .latCell → (∀ c ∈ cellsOfPage p.inst, (s.cell c).st ≠ .checking ∧ (s.cell c).noDispatch = false) →
       exec (.softResetComplete page) s = .next { s with softReset := dropFrom s.softReset base }) ∧
     (∀ (x : CanSource) (m : CanPending), p.kind = .can → (s.canSt p.inst).sending = some x → (s.canSt p.inst).msg x = some m →
       Completes (exec (.softResetComplete page) s) fun t => t.softReset = s.softReset ∧ t.canSt p.inst = s.canSt p.inst) ∧
     (p.kind = .eth → (∀ q ∈ s.flying, q.1 ≠ p.inst) → Completes (exec (.softResetComplete page) s) fun t =>
       t.softReset = dropFrom s.softReset base ∧ (t.ethSt p.inst).linkUp = false ∧ (t.ethSt p.inst).contending = none ∧
       (t.ethSt p.inst).anInUse = (s.ethSt p.inst).anInUse) ∧
     (p.kind = .can → (∀ q ∈ s.flying, q.1 ≠ 48 + p.inst) → Completes (exec (.softResetComplete page) s) fun t =>
       t.softReset = dropFrom s.softReset base ∧ (t.canSt p.inst).ctrl = s.cfg (A.canCtrl p.inst) ∧ (t.canSt p.inst).tec = CanSt.reset.tec ∧
       (t.canSt p.inst).ttArmed = tst (s.cfg (A.canTtCtrl p.inst)) 0) ∧
     (p.kind = .lin → (∀ q ∈ s.flying, q.1 ≠ 72 + 2 * p.inst ∧ q.1 ≠ 73 + 2 * p.inst) →
       Completes (exec (.softResetComplete page) s) fun t =>
         t.softReset = dropFrom s.softReset base ∧ t.linSt (2 * p.inst) = { LinSt.reset with trxFault := (s.linSt (2 * p.inst)).trxFault } ∧
         t.linSt (2 * p.inst + 1) = { LinSt.reset with trxFault := (s.linSt (2 * p.inst + 1)).trxFault })))

/-! ## Epochs and the management processor (chapter 01) -/

/-- Commit requests: F0's write of COMMIT (R34), with AT_TIME (R37), enters VALIDATING; CANCEL disarms an ARMED or DEFERRED request and keeps the
staging copy (R38); a second request is refused with ARMED. Only F0 commits (R31): a write of SYS_EPOCH_CTRL by another facet requests, cancels and
arms nothing, is answered RIGHTS, shows RIGHTS in RESULT and raises event 8. Validation (R34, R37): a conflict ends the request with result 1 and
names the register in conflict, and the staging copy stays; without one the number is logged. An at-time request whose instant lies 100 µs or more
ahead is ARMED for it, one whose instant is nearer ends with PAST; a request at once takes effect under the number logged, or is DEFERRED while an
older epoch drains (R36, R42). -/
def Obligations.CommitsAreRequestedAndJudged : Prop :=
  ((∀ s : State, s.granted 0 A.sysEpochCtrl 1 = true → s.epoch.st = .idle → s.highestEpoch ≠ 0xFFFFFFFF →
     Completes (exec (.commit 0) s) fun t =>
       t.resp = ⟨.ok, []⟩ ∧ t.epoch.st = .validating ∧ t.epoch.atTime = none ∧ t.epoch.reqNo = s.epoch.reqNo + 1 ∧
       t.staging = s.staging ∧ t.live = s.live) ∧
   (∀ s : State, s.granted 0 A.sysEpochCtrl 3 = true → s.epoch.st = .idle → s.highestEpoch ≠ 0xFFFFFFFF →
     Completes (exec (.commitAtTime 0) s) fun t =>
       t.resp = ⟨.ok, []⟩ ∧ t.epoch.st = .validating ∧ t.epoch.atTime = some s.atTime ∧ t.epoch.reqNo = s.epoch.reqNo + 1 ∧
       t.staging = s.staging ∧ t.live = s.live) ∧
   (∀ s : State, s.granted 0 A.sysEpochCtrl 4 = true → s.epoch.st = .armed ∨ s.epoch.st = .deferred →
     Completes (exec (.cancel 0) s) fun t =>
       t.resp = ⟨.ok, []⟩ ∧ t.epoch = { s.epoch with st := .idle, result := 6 } ∧ t.staging = s.staging ∧ t.live = s.live) ∧
   (∀ s : State, s.granted 0 A.sysEpochCtrl 1 = true → s.epoch.st ≠ .idle →
     Completes (exec (.commit 0) s) fun t => t.resp = ⟨.armed, []⟩ ∧ t.epoch = { s.epoch with result := 4 } ∧ t.staging = s.staging)) ∧
  (∀ (f : Facet) (v : W32) (s : State), f ≠ 0 → s.granted f A.sysEpochCtrl v = true →
     Completes (exec (.registerWrite f (w32 A.sysEpochCtrl) v) s) fun t =>
       t.resp = ⟨.rights, []⟩ ∧ t.epoch = { s.epoch with result := 2 } ∧ t.raised 8 = true ∧ t.live = s.live ∧ t.staging = s.staging) ∧
  ((∀ (s : State) (c : Conflict), s.mpOn = true → s.mayValidate = true → s.conflict = some c →
     Completes (exec .validation s) fun t =>
       t.epoch = { s.epoch with st := .idle, atTime := none, result := 1 } ∧ t.reg A.sysEpochConflict = w32 c.addr ∧
       t.reg A.sysEpochConflictIndex = w32 c.word ∧ t.highestEpoch = s.highestEpoch ∧ t.staging = s.staging ∧ t.live = s.live) ∧
   (∀ (s : State) (due : Nat), s.mpOn = true → s.mayValidate = true → s.conflict = none → s.epoch.atTime = some due →
     Completes (exec .validation s) fun t =>
       t.staging = s.staging ∧ t.live = s.live ∧ t.epoch.live = s.epoch.live ∧ (s.highestEpoch ≠ 0xFFFFFFFF → t.highestEpoch = s.nextEpoch) ∧
       (s.locus + 100000 * 65536 ≤ due * 65536 → t.epoch.st = .armed ∧ t.epoch.due = due * 65536) ∧
       (due * 65536 < s.locus + 100000 * 65536 → t.epoch.st = .idle ∧ t.epoch.atTime = none ∧ t.epoch.result = 3)) ∧
   (∀ s : State, s.mpOn = true → s.mayValidate = true → s.conflict = none → s.epoch.atTime = none →
     Completes (exec .validation s) fun t =>
       if s.epoch.draining.isSome then t.epoch.st = .deferred ∧ t.epoch.live = s.epoch.live ∧ t.staging = s.staging ∧ t.live = s.live
       else t.epoch.st = .idle ∧ t.epoch.live = s.nextEpoch ∧ t.epoch.draining = some s.epoch.live ∧ t.live.regs = s.staging.regs ∧
         t.drain = s.live))

/-- A commit that is due takes effect (R36, R40, R176): the staging copy is live under the number logged for it, the bank that was live drains, the
staging registers stay, the SWITCH registers show the instant that was due (R44), and the machinery is idle with the result of the last request;
while an older epoch still drains the request is DEFERRED (R42). The older epoch retires when its last item has left (R40), or 10 ms after the
switch its items are discarded (R41): none waits in the control path any more. A copy-forward that completes opens its store (R177, R231, R316). -/
def Obligations.CommitsSwitchEpochs : Prop :=
  ((∀ s : State, s.on = true → s.epoch.st = .armed → s.epoch.due ≤ s.locus → s.epoch.draining = none →
     Completes (exec .commitTakesEffect s) fun t =>
       t.epoch.live = s.highestEpoch ∧ t.epoch.draining = some s.epoch.live ∧ t.epoch.drainStart = s.now ∧ t.epoch.st = .idle ∧
       t.epoch.result = s.epoch.result ∧ t.reg A.sysEpochSwitchNs = w32 (nsOf (s.epoch.due / 65536)) ∧
       t.live.regs = s.staging.regs ∧ t.drain = s.live ∧ t.epoch.copyTbl = true ∧ t.accord.digestDue = true) ∧
   (∀ (s : State) (e : W32), s.on = true → s.epoch.st = .armed → s.epoch.due ≤ s.locus → s.epoch.draining = some e →
     exec .commitTakesEffect s = .next { s with epoch := { s.epoch with st := .deferred } })) ∧
  ((∀ (s : State) (e : W32), s.on = true → s.epoch.draining = some e → s.itemsOf e = 0 → s.epoch.st ≠ .deferred →
     Completes (exec .epochRetire s) fun t => t.epoch = { s.epoch with draining := none } ∧ t.live = s.live ∧ t.staging = s.staging) ∧
   (∀ (s : State) (e : W32), s.on = true → s.epoch.draining = some e → s.epoch.drainStart + 10000000 ≤ s.now →
     s.epoch.st ≠ .deferred →
     Completes (exec .epochDiscard s) fun t =>
       (∀ p ∈ t.octIn, p.1.epoch ≠ e) ∧ (∀ x ∈ t.octRun, x.epoch ≠ e) ∧ (∀ i ∈ t.ctlIn, i.epoch ≠ e) ∧ t.epoch.live = s.epoch.live) ∧
   (∀ s : State, s.coreOn = true →
     exec (.copyForwardComplete 0) s = .next { s with epoch := { s.epoch with copyTbl := false } } ∧
     exec (.copyForwardComplete 1) s = .next { s with epoch := { s.epoch with copyDe := false } } ∧
     exec (.copyForwardComplete 2) s = .next { s with epoch := { s.epoch with copyRules := false } }))

/-- The management processor (R55, R59, R63): a lockstep mismatch restarts it, the third within 60 s halts it, and a restart that completes has it
running. A scrub that corrects an error counts a fault of the page of its unit and shows the word; a key-store slot whose next key cannot be
corrected loses it and no other (R55, R476, R632). -/
def Obligations.ProcessorRestarts : Prop :=
  (∀ s : State, s.mpOn = true →
    let l := (s.mpRestarts.filter (fun x => s.now < x + 60000000000)) ++ [s.now]
    Completes (exec .lockstepMismatch s) fun t =>
      t.mpRestarts = l ∧ t.ctlIn = [] ∧ t.wake.token = none ∧ t.mp = if 3 ≤ l.length then .halted else .restarting) ∧
  (∀ s : State, s.coreOn = true → s.mp = .restarting →
    exec .mpRestartComplete s = .next { s with mp := if 2 ≤ s.fw.step.rank then .running else .boot }) ∧
  (∀ (s : State) (word : W32), s.on = true →
    Completes (exec (.eccScrub .power ⟨word, false⟩) s) fun t =>
      t.reg (pwrPage.base + 0x20) = w32 (pwrPage.kind.blockType * 2 ^ 16 + 0x101) ∧ t.reg (pwrPage.base + 0x24) = word ∧
      fld (t.reg (pwrPage.base + 0x0C)) 8 8 = min (fld (s.reg (pwrPage.base + 0x0C)) 8 8 + 1) 255) ∧
  (∀ (s : State) (slot : Fin 512) (word : W32), s.coreOn = true →
    Completes (exec (.eccScrub (.keyStore slot true) ⟨word, true⟩) s) fun t =>
      t.keyOf slot 0 = s.keyOf slot 0 ∧ t.keyOf slot 1 = none ∧ t.reg (cipPage.base + 0x24) = w32 slot.val)

/-! ## The locus, domains, sync outputs and captures (chapter 02) -/

/-- Control of the locus: LOC_RATE takes effect unless the servo drives it, and in HOLDOVER the rate of entry stays in force (R68, R74); a phase
adjustment within the limits is slewed (R69, R72); LOC_DEV_EPOCH is refused unless the locus is FREE (R65); FORCE_HOLD puts a locked locus in
HOLDOVER with cause 4 (R75). HOLD_CAUSE of LOC_STATUS reads as zero for every facet other than F0 (R76). Time domains: a Sync gives every slave
instance its offset and rate and is kept with its correction for the Syncs the module relays (R75, R84); an Announce of a new best master makes the
instance its slave (R85); the receipt timeout drops the master, and the locus that followed it enters HOLDOVER with cause LOST (R73); the four times
of a path-delay exchange give the mean link delay of the vertex, or the mean path delay of a 1588 instance, with the asymmetry (R79, R82); a message
is sent at its interval by a master, and a delay request by every 802.1AS instance (R82, R86); a slew that has applied its correction ends (R69). -/
def Obligations.LocusFollowsItsMaster : Prop :=
  ((∀ (f : Facet) (v : W32) (s : State), s.granted f A.locRate v = true → tst (s.reg A.locCtrl) 0 = false →
     Completes (exec (.locRateWrite f v) s) fun t =>
       t.resp = ⟨.ok, []⟩ ∧ t.reg A.locRate = v ∧ t.loc.rate = (if s.loc.st = .holdover then s.loc.rate else v) ∧ t.locus = s.locus) ∧
   (∀ (v : W32) (s : State), s.granted 0 A.locAdjNs v = true → tst (s.reg A.locCtrl) 0 = false →
     sx 32 v.toNat ≤ 999999999 → -999999999 ≤ sx 32 v.toNat →
     let d := (sx 32 (s.reg A.locAdjSec).toNat * 1000000000 + sx 32 v.toNat) * 65536
     (s.judge d).1 = .slewed →
     Completes (exec (.phaseAdjust 0 v) s) fun t =>
       t.resp = ⟨.ok, []⟩ ∧ t.loc.slew = s.loc.slew + d ∧ t.locus = s.locus ∧ t.reg A.locAdjNs = v) ∧
   (∀ (f : Facet) (v : W32) (s : State), s.granted f A.locDevEpochHi v = true → s.loc.st = .free →
     Completes (exec (.devEpochWrite f true v) s) fun t =>
       t.resp = ⟨.ok, []⟩ ∧ SMap.get none t.loHeld (halfKey A.locDevEpochLo f) = none ∧
       t.reg A.locDevEpochLo = (SMap.get none s.loHeld (halfKey A.locDevEpochLo f)).getD (s.reg A.locDevEpochLo)) ∧
   (∀ (f : Facet) (v : W32) (s : State) (hi : Bool), s.granted f (if hi then A.locDevEpochHi else A.locDevEpochLo) v = true →
     s.loc.st ≠ .free →
     Completes (exec (.devEpochWrite f hi v) s) fun t => t.resp = ⟨.conflict, []⟩ ∧ t.regs = s.regs ∧ t.loHeld = s.loHeld) ∧
   (∀ (f : Facet) (v : W32) (s : State), s.granted f A.locCtrl v = true → tst v 1 = true → s.loc.st = .locking ∨ s.loc.st = .locked →
     Completes (exec (.forceHold f v) s) fun t =>
       t.resp = ⟨.ok, []⟩ ∧ t.loc.st = .holdover ∧ t.loc.cause = 4 ∧ t.loc.holdStart = s.now ∧ t.reg A.locCtrl = v &&& 3)) ∧
  (∀ (f : Facet) (s : State), f ≠ 0 → s.readable f A.locStatus = true →
     ∃ v t, readReg (s.plain f) A.locStatus s = (.ok, v, t) ∧ fld v 4 4 = 0 ∧ fld v 0 3 = s.loc.st.code) ∧
  ((∀ (d : Fin 4) (offset ratio corr : Int) (origin sof : Nat) (s : State), s.mpOn = true → s.domOn d = true → (s.dom d).role = 2 →
     Completes (exec (.syncReceive d offset ⟨ratio, corr, origin, sof⟩) s) fun t =>
       (t.dom d).offset = offset ∧ (t.dom d).ratio = ratio ∧ (t.dom d).lastSync = s.now ∧ (t.dom d).syncCorr = corr ∧
       (t.dom d).syncOrigin = origin ∧ (t.dom d).syncSof = sof ∧
       (d.val = s.locDom → t.reg A.locOffset = satI32 offset)) ∧
   (∀ (d : Fin 4) (v : EthV) (a : Announce) (s : State), s.mpOn = true → s.domOn d = true → s.domPort d v = true →
     (s.dom d).best = none → tst (s.cfg (A.locDomCtrl d)) 2 = false →
     Completes (exec (.announceReceive d v a) s) fun t =>
       (t.dom d).gm = a.gm ∧ (t.dom d).steps = a.steps.val + 1 ∧ (t.dom d).slaveVertex = v.val ∧ (t.dom d).role = 2) ∧
   (∀ (d : Fin 4) (b : AnnounceSet) (s : State), s.mpOn = true → s.domOn d = true → (s.dom d).best = some b →
     s.announceDue d b.at_ = true →
     Completes (exec (.announceReceiptTimeout d) s) fun t =>
       (t.dom d).best = none ∧ (t.dom d).role = 1 ∧
       (d.val = s.locDom → s.loc.st = .locked → t.loc.st = .holdover ∧ t.loc.cause = 1)) ∧
   (∀ (v : EthV) (t1 t2 t3 t4 : Int) (s : State), s.mpOn = true →
     Completes (exec (.pdelayReceive v (.response t1 t2 t3 t4)) s) fun t =>
       SMap.get 0 t.linkDelay v.val = ((t4 - t1) - (t3 - t2)) / 2 + sx 32 (s.cfg (A.locAsym v)).toNat ∧ t.domains = s.domains) ∧
   (∀ (d : Fin 4) (v : EthV) (t1 t2 t3 t4 : Int) (s : State), s.mpOn = true → s.domOn d = true → s.domPort d v = true →
     s.dom1588 d = true →
     Completes (exec (.pdelayReceive v (.delayResp d t1 t2 t3 t4)) s) fun t =>
       SMap.get 0 (t.dom d).meanDelay v.val = ((t4 - t1) - (t3 - t2)) / 2 + sx 32 (s.cfg (A.locAsym v)).toNat ∧
       t.linkDelay = s.linkDelay) ∧
   (∀ (d : Fin 4) (v : EthV) (kind : Fin 3) (s : State), s.mpOn = true → s.domOn d = true → s.domPort d v = true →
     let x := s.dom d
     let key := v.val * 4 + kind.val
     SMap.get 0 x.tx key + logInterval (fld (s.cfg (A.locDomIntervals d)) (8 * kind.val) 8) ≤ s.now →
     kind.val < 2 ∧ x.role = 3 ∨ kind.val = 2 ∧ s.dom1588 d = false →
     Completes (exec (.ptpMessageTransmit d v kind) s) fun t => t.dom d = { x with tx := SMap.put 0 x.tx key s.now } ∧ s.nextId < t.nextId) ∧
   (∀ s : State, s.loc.slewing = true → s.loc.slew = 0 →
     exec .slewEnd s = .next { s with loc := { s.loc with slewing := false, slewFrac := 0 } }))

/-- Transmit stamps (R90–R92): a port selects the queue of a vertex bound to its facet and of no other; POP takes the head entry, or sets UNDERRUN on an
empty queue. Capture FIFOs (R92, R107) pop in the same way. Sync outputs and captures: at a grid instant a periodic output that is not quiet asserts
its pulse and releases it WIDTH later (R93, R98, R106); an edge that its unit selects is stamped with the locus and queued, or counted as overrun
when sixteen stamps wait (R100–R103). A capture that finds sixteen stamps (R101): its stamp is discarded, OVERRUN and event 79 show it, it is
journalled all the same, and event 78 is not raised. -/
def Obligations.StampsAndPulses : Prop :=
  ((∀ (n : Facet) (v : W32) (s : State), s.granted n (A.locTxqSel n) v = true → s.live.bound (fld v 0 7) = n.val →
     Completes (exec (.txqSelWrite n n v) s) fun t => t.resp = ⟨.ok, []⟩ ∧ fld (t.reg (A.locTxqSel n)) 0 7 = fld v 0 7) ∧
   (∀ (f n : Facet) (v : W32) (s : State), s.granted f (A.locTxqSel n) v = true → n.val ≠ 0 → s.live.bound (fld v 0 7) ≠ n.val →
     Completes (exec (.txqSelWrite f n v) s) fun t => t.resp = ⟨.rights, []⟩ ∧ t.regs = s.regs) ∧
   (∀ (f n : Facet) (v : W32) (e : TxStamp) (l : List TxStamp) (s : State), s.granted f (A.locTxqPop n) v = true → tst v 0 = true →
     (s.txQueue (fld (s.reg (A.locTxqSel n)) 0 7)).entries = e :: l →
     Completes (exec (.txqPop f n v) s) fun t =>
       let q := t.txQueue (fld (s.reg (A.locTxqSel n)) 0 7)
       t.resp = ⟨.ok, []⟩ ∧ q.entries = l ∧ q.last = e ∧ t.reg (A.locTxqStatus n) = 0) ∧
   (∀ (f n : Facet) (v : W32) (s : State), s.granted f (A.locTxqPop n) v = true → tst v 0 = true →
     (s.txQueue (fld (s.reg (A.locTxqSel n)) 0 7)).entries = [] →
     Completes (exec (.txqPop f n v) s) fun t => t.resp = ⟨.ok, []⟩ ∧ t.txq = s.txq ∧ t.reg (A.locTxqStatus n) = 0x100) ∧
   (∀ (f : Facet) (n : Fin 8) (v : W32) (c : CapStamp) (l : List CapStamp) (s : State), s.granted f (A.locCapPop n) v = true →
     tst v 0 = true → (s.cap n).fifo = c :: l →
     Completes (exec (.capturePop f n v) s) fun t =>
       t.resp = ⟨.ok, []⟩ ∧ (t.cap n).fifo = l ∧ (t.cap n).last = c ∧ (t.cap n).under = false) ∧
   (∀ (f : Facet) (n : Fin 8) (v : W32) (s : State), s.granted f (A.locCapPop n) v = true → tst v 0 = true → (s.cap n).fifo = [] →
     Completes (exec (.capturePop f n v) s) fun t => t.resp = ⟨.ok, []⟩ ∧ (t.cap n).fifo = [] ∧ (t.cap n).under = true)) ∧
  ((∀ (n : Fin 16) (s : State), s.on = true →
     let c := s.live.syncCfg n
     let o := SMap.get SyncOut.reset s.syncs n
     c.mode = 1 → o.active = false → c.start + o.next * c.period ≤ s.locus → s.quieted c = false → n.val < 12 ∨ s.yields = false →
     Completes (exec (.syncOutputAssert n) s) fun t =>
       let p := SMap.get SyncOut.reset t.syncs n
       p.active = true ∧ p.release = c.start + o.next * c.period + c.width ∧ p.next = o.next + 1) ∧
   (∀ (n : Fin 16) (s : State), s.on = true →
     let o := SMap.get SyncOut.reset s.syncs n
     o.active = true → o.release ≤ s.locus →
     Completes (exec (.syncOutputRelease n) s) fun t => (SMap.get SyncOut.reset t.syncs n) = { o with active := false }) ∧
   (∀ (n : Fin 8) (rising : Bool) (width : Nat) (s : State), s.on = true →
     let c := s.cfg (A.locCapCtrl n)
     tst c 0 = true → tst c (if rising then 1 else 2) = true → tst c 7 = false → fld c 3 4 * 10 ≤ width → (s.cap n).fifo.length < 16 →
     s.loc.st ≠ .apex →
     Completes (exec (.captureEdge n rising false width) s) fun t =>
       (t.cap n).fifo = (s.cap n).fifo ++ [⟨s.stampOf 96, rising⟩] ∧ (t.cap n).overruns = (s.cap n).overruns)) ∧
  (∀ (n : Fin 8) (rising : Bool) (width : Nat) (s : State), s.on = true →
     let c := s.cfg (A.locCapCtrl n)
     tst c 0 = true → tst c (if rising then 1 else 2) = true → tst c 7 = false → fld c 3 4 * 10 ≤ width → 16 ≤ (s.cap n).fifo.length →
     s.loc.st ≠ .apex → s.jrn.lostStaging = 0 → entryCount s.jrn.staging + 8 ≤ 8192 →
     Completes (exec (.captureEdge n rising false width) s) fun t =>
       (t.cap n).fifo = (s.cap n).fifo ∧ (t.cap n).overruns = min ((s.cap n).overruns + 1) 0xFFFF ∧ t.raised 79 = true ∧ t.raised 78 = s.raised 78 ∧
       ∃ e l, t.jrn.staging = l ++ [e] ∧ fld e.rec_.w4 8 4 = 9 ∧ e.rec_.w6 = w32 (n.val + bit rising * 2 ^ 8))

/-! ## Planes, ingress and egress (chapter 03) -/

/-- A copy crosses its plane: it leaves the plane input, joins its class queue behind those that wait there (R111, R143), its cells at the input side
are let go (R116), and the transfers are counted (R168). A quiesce marker that is acknowledged, or times out, maps its bucket to the new plane
(R130, R131). Planes retire and buckets move: a fault, or F0's PLN_FORCE_RETIRE, starts the retirement of the plane with every one of its buckets
held (R133, R137); while a move runs a second fault waits with its detection stamp (R61, R135); PLN_MOVE moves one bucket (R136), and is F0's alone
(R421). Crossings (R411, R412, R573): a resynchronised crossing is in its native mode again; an unanswered wake raises event 43 and waits on; a
stalled producer's item is discarded. -/
def Obligations.PlanesCarryAndRetire : Prop :=
  ((∀ (p : Fin 5) (c : Copy) (rest : List Copy) (s : State), s.coreOn = true → s.plane.inService.contains p.val = true →
     nextCopy (s.planeIn p) = some (c, rest) → c.cut = false → c.stomp ≠ .orDrop → s.merges c.item.epoch c.egress = false →
     (∀ x ∈ s.cellDue, x.1 ≠ c.src) →
     Completes (exec (.planeTransfer p .good) s) fun t =>
       t.planeIn p = rest ∧ t.lastXfer = SMap.put none s.lastXfer p (some s.now) ∧
       ∃ k, t.queue c.egress c.tc = s.queue c.egress c.tc ++ [k] ∧ k.item = c.item ∧ k.data = c.data ∧ k.reserved = c.reserved) ∧
   (∀ (b : Fin 1024) (target : Nat) (s : State), s.coreOn = true → s.moveTarget b = some target →
     (∀ p < 5, ∀ c ∈ s.planeIn p, c.held = false → bucketOf c.item.flow c.egress ≠ b.val) →
     Completes (exec (.quiesceMarkerAck b) s) fun t => t.planeOf b = target) ∧
   (∀ (b : Fin 1024) (target : Nat) (m : PlaneMove) (s : State), s.coreOn = true → s.plane.move = some m → m.since + 8000 ≤ s.now →
     s.moveTarget b = some target →
     Completes (exec (.markerTimeout b) s) fun t => t.planeOf b = target)) ∧
  ((∀ (p : Fin 5) (parity : Bool) (s : State), s.coreOn = true → s.planeGoing p = false → s.plane.move = none →
     s.bucketsOn p ≠ [] → (∃ q < 5, q ≠ p.val ∧ s.plane.inService.contains q = true) →
     Completes (exec (.planeFault p parity) s) fun t =>
       ∃ m, t.plane.move = some m ∧ m.retiring = true ∧ m.plane = p.val ∧ m.since = s.now ∧ m.buckets.map (·.1) = s.bucketsOn p ∧
         (∀ x ∈ m.buckets, x.2 ≠ p.val ∧ s.plane.inService.contains x.2 = true)) ∧
   (∀ (p : Fin 5) (parity : Bool) (s : State), s.coreOn = true → s.planeGoing p = false → s.plane.move.isSome = true →
     Completes (exec (.planeFault p parity) s) fun t =>
       t.plane.pendingRetire = s.plane.pendingRetire ++ [⟨p, if parity then 0x104 else 0x103, s.ns⟩] ∧ t.plane.move = s.plane.move) ∧
   (∀ (v : W32) (s : State), s.granted 0 A.plnForceRetire v = true → tst v 8 = true → s.plane.retired = [] → s.plane.move = none →
     s.planeGoing (fld v 0 3) = false → s.bucketsOn (fld v 0 3) ≠ [] →
     (∃ q < 5, q ≠ fld v 0 3 ∧ s.plane.inService.contains q = true) →
     Completes (exec (.planeForceRetire 0 v) s) fun t =>
       t.resp = ⟨.ok, []⟩ ∧ ∃ m, t.plane.move = some m ∧ m.retiring = true ∧ m.plane = fld v 0 3) ∧
   (∀ (v : W32) (s : State), s.granted 0 A.plnMove v = true → tst v 16 = true → s.plane.move = none →
     s.plane.inService.contains (fld v 12 3) = true →
     Completes (exec (.planeMove 0 v) s) fun t =>
       t.resp = ⟨.ok, []⟩ ∧ t.plane.result = 0 ∧
       t.plane.move = some ⟨false, s.planeOf (fld v 0 10), [(fld v 0 10, fld v 12 3)], s.now, s.ns, 0⟩) ∧
   (∀ (f : Facet) (v : W32) (s : State), s.granted f A.plnMove v = true → f ≠ 0 → tst v 16 = true →
     Completes (exec (.planeMove f v) s) fun t => t.resp = ⟨.rights, []⟩ ∧ t.plane = { s.plane with result := 3 })) ∧
  (∀ (v : Vertex) (s : State),
     (s.on = true → (s.crossing v).gray = true →
       Completes (exec (.crossingResync v) s) fun t => t.crossing v = Crossing.reset ∧ t.queues = s.queues ∧ t.regs = s.regs) ∧
     (∀ c, s.coreOn = true → s.offers v = some c → (s.crossing v).waking = none →
       Completes (exec (.crossingWakeTimeout v) s) fun t =>
         t.crossing v = { s.crossing v with waking := some s.now } ∧ t.raised 43 = true ∧ t.queues = s.queues) ∧
     (∀ (c : Nat) (k : Copy) (l : List Copy), s.coreOn = true → s.offers v = some c → s.queue v c = k :: l →
       Completes (exec (.producerStallTimeout v) s) fun t =>
         t.queue v c = l ∧ (t.crossing v).waking = none ∧ t.raised 287 = true))

/-- Arrivals. A frame that an Ethernet vertex takes is an item with the stamp and sequence number of its arrival and enters its order lane with a copy
for each vertex that its classification names, or waits for the lattice (R20, R138, R190, R226, R229, R359); a CAN or LIN message does so in its
stored form with its ORIGIN (R268, R269). A frame that the input side refuses, or that fails its first check, and a MAC control frame become no item
of the switch (R121, R359, R370). A line of the service port waits for the monitor with the stamp of its first character (R78, R606). -/
def Obligations.FramesArrive : Prop :=
  (∀ (v : ExtV) (bytes : List Byte) (sof : Nat) (ph : PhyFinding) (s : State) (vs : List Nat), s.takesFrame v bytes sof ph = true →
    let i := s.frameItem v bytes sof
    let b := (stampItem v sof bytes (bytes.length + 4) s).2.bankOf i.epoch
    let f := b.classify i
    ph.badDynamic = false → resAction f.res = 0 → b.dests (resGroup f.res) (resDest f.res) v = some vs → vs ≠ [] →
    Completes (exec (.frameReceive v bytes sof ph) s) fun t =>
      t.admission = s.admission ∧
      ∃ e ∈ SMap.get [] t.lanes (laneKey i), e.item.stamp = max (SMap.get 0 s.lastStamp v) (min sof s.ns) ∧ e.item.seq = s.seqOf v ∧
        e.item.data = bytes ∧ e.item.res = f.res ∧ e.item.tc = b.classOf i f.res ∧ e.pend = 0 ∧ e.ready.map (·.egress) = vs) ∧
  (∀ (v : ExtV) (bytes : List Byte) (sof : Nat) (ph : PhyFinding) (s : State), s.takesFrame v bytes sof ph = true →
    let i := s.frameItem v bytes sof
    let b := (stampItem v sof bytes (bytes.length + 4) s).2.bankOf i.epoch
    let f := b.classify i
    ph.badDynamic = false → resAction f.res = 2 →
    Completes (exec (.frameReceive v bytes sof ph) s) fun t =>
      ∃ j, SMap.get [] t.admission i.facet = SMap.get [] s.admission i.facet ++ [j] ∧ j.item.stamp = i.stamp ∧ j.item.seq = s.seqOf v ∧
        j.item.data = bytes ∧ j.de = resJob f.res ∧ j.since = s.now) ∧
  (∀ (v : ExtV) (bytes : List Byte) (sof : Nat) (ph : PhyFinding) (s : State), s.on = true → v.val < 48 → s.macOn v = true →
    (s.ethSt v).linkUp = true → ph.collided = false → beAt bytes 12 2 ≠ 0x8808 →
    let a := stampItem v sof bytes (bytes.length + 4) s
    a.2.arrivalLost ph.fifoRoom = none → (a.2.inputRefused a.1).isSome = true ∨ bytes.length + 4 < 64 →
    Completes (exec (.frameReceive v bytes sof ph) s) fun t =>
      t.queues = s.queues ∧ t.inputs = s.inputs ∧ t.lanes = s.lanes ∧ t.admission = s.admission) ∧
  (∀ (v : ExtV) (bytes : List Byte) (sof : Nat) (ph : PhyFinding) (s : State), s.on = true → v.val < 48 → s.macOn v = true →
    (s.ethSt v).linkUp = true → ph.badFcs = false → 60 ≤ bytes.length → bytes.length + 4 ≤ s.live.maxFrame v → beAt bytes 12 2 = 0x8808 →
    Completes (exec (.frameReceive v bytes sof ph) s) fun t =>
      t.queues = s.queues ∧ t.inputs = s.inputs ∧ t.lanes = s.lanes ∧ t.admission = s.admission) ∧
  (∀ (v : ExtV) (bytes : List Byte) (sof : Nat) (ph : PhyFinding) (s : State) (vs : List Nat), s.takesMessage v bytes sof ph = true →
    let i := s.busItem v bytes sof
    let b := (stampItem v sof bytes bytes.length s).2.bankOf i.epoch
    let f := b.classify i
    ph.badDynamic = false → resAction f.res = 0 → b.dests (resGroup f.res) (resDest f.res) v = some vs → vs ≠ [] →
    Completes (exec (.frameReceive v bytes sof ph) s) fun t =>
      ∃ e ∈ SMap.get [] t.lanes (laneKey i), e.item.stamp = max (SMap.get 0 s.lastStamp v) (min sof s.ns) ∧ e.item.seq = s.seqOf v ∧
        e.item.data.take 12 = bytes.take 12 ∧
        beAt e.item.data 16 8 = (e.item.stamp + pair (s.reg A.locDevEpochLo) (s.reg A.locDevEpochHi) * 1000000000) % 2 ^ 64 ∧
        e.pend = 0 ∧ e.ready.map (·.egress) = vs) ∧
  (∀ (bytes : List Byte) (sof : Nat) (ph : PhyFinding) (s : State), s.on = true → ph.badFcs = false → bytes.length ≤ 320 →
    s.lineBytes + bytes.length ≤ 2048 →
    let a := stampItem 84 sof bytes bytes.length s
    a.2.inputRefused a.1 = none →
    Completes (exec (.frameReceive 84 bytes sof ph) s) fun t =>
      ∃ i, t.svc.lines = s.svc.lines ++ [i] ∧ i.data = bytes ∧ i.vertex = 84 ∧ i.facet = (s.bankOf i.epoch).bound 84 ∧
        i.stamp = max (SMap.get 0 s.lastStamp 84) (min sof s.ns))

/-- Egress: an internal vertex takes the head copy of its highest class (R144); an Ethernet vertex on a transmission opportunity starts the head copy of
the highest class that waits (R143); the gate list stands where the locus names (R147); the verify protocol ends as it found (R156); a copy past its
ceiling waits in no class queue after the discard of its item (R164). -/
def Obligations.EgressActs : Prop :=
  (∀ (v : Vertex) (c : Nat) (k : Copy) (l : List Copy) (s : State), s.coreOn = true → 96 ≤ v.val → v.val ≤ 98 → c < 8 →
    s.queue v c = k :: l → (∀ d < 8, c < d → s.queue v d = []) →
    Completes (exec (.egressTransmit v) s) fun t => t.queue v c = l ∧ ∀ d < 8, d ≠ c → t.queue v d = s.queue v d) ∧
  (∀ (v : Vertex) (c : Nat) (k : Copy) (l : List Copy) (s : State), s.coreOn = true → v.val < 40 → (s.out v).tx = none →
    (s.out v).suspended = none → (s.out v).merge = [] → s.mayStart v = true → s.quiescing v = false → c < 8 → s.queue v c = k :: l →
    (∀ d < 8, c < d → s.queue v d = []) → k.outIdx = none → (∀ o ∈ s.ptpOut, o.uid ≠ k.item.uid) → s.paused v c = false →
    let b := s.bankOf k.item.epoch
    b.gated v = false → b.shapes v c = false → tst (b.regs.read (selKey A.qMode v)) 3 = false → s.merges k.item.epoch v = false →
    tst (b.regs.read (A.ethPortVlan v)) 19 = false → tst (b.regs.read (A.ethSecCtrl v)) 0 = false →
    Completes (exec (.egressTransmit v) s) fun t =>
      t.queue v c = l ∧
      ∃ f, (t.out v).tx = some f ∧ f.copy.item = k.item ∧ f.bytes = s.egressBytes k ∧ f.sof = s.ns + wireTime 8 (s.macRate v) ∧
        f.began = s.now ∧ f.endAt = s.now + wireTime ((s.egressBytes k).length + 12) (s.macRate v)) ∧
  (∀ (v : EthV) (s : State), s.coreOn = true → s.live.gated v = true →
    Completes (exec (.gateEntryAdvance v) s) fun t =>
      (t.out v).gate = ⟨(s.live.gateAt v s.ns).1, s.live.gatesAt v s.ns, s.live.macHeld v s.ns⟩ ∧ (t.out v).tx = (s.out v).tx ∧
      t.queues = s.queues) ∧
  (∀ (v : EthV) (ok : Bool) (s : State), s.on = true → v.val < 24 → tst (s.cfg (selKey A.qMode v)) 3 = true →
    tst (s.cfg (selKey A.qMode v)) 4 = false → (s.ethSt v).linkUp = true →
    Completes (exec (.preemptVerify v ok) s) fun t =>
      (t.out v).preempt = (if ok then .succeeded else .failed) ∧ t.queues = s.queues ∧ (ok = false → t.raised 95 = true)) ∧
  (∀ (uid : Nat) (s : State), s.coreOn = true →
    Completes (exec (.agedDiscard uid) s) fun t =>
      ∀ v c, ∀ k ∈ t.queue v c, ¬ (k.item.uid = uid ∧ s.aged k.item k.egress k.tc = true))

/-! ## Tables (chapter 04) -/

/-- Table commands that find: SEARCH, NEXT and READ leave both banks alone and hold the entry found, to show it when they complete (R215). Table
commands that change write the staging bank and never the live one (R211, R215); FLUSH_VERTEX of F0 or of the vertex's facet runs until its entries
go as it completes (R205, R215); CLEAR_REQ of F0 clears REQ. A running table command completes: the port is free, its tag is returned, STATUS shows
its count and result (R216). A flush leaves no dynamic entry of its vertex in the live or staging bank and counts those that went (R205, R215). The
seed write starts the rebuild of the staging store (R179); its end leaves the bank rebuilt. -/
def Obligations.TableCommandsRun : Prop :=
  (∀ (f : Facet) (p : Fin 4) (live : Bool) (s : State), s.holds (portLock p) f = true → s.cmd p = none → s.tagOk f = true →
     (s.granted f (A.tblCmdOp p) (opWord 1 true live) = true → (live = true ∨ s.rebuilding = false) → hashKeyOk (s.portHash p) = true →
       ∀ h e, (s.cmdBank live).hashFind (s.portHash p) = some (h, e) → sees f (resOwner e.res) = true →
       Completes (exec (.tblSearch f p true live) s) fun t =>
         t.resp = ⟨.ok, []⟩ ∧ t.live = s.live ∧ t.staging = s.staging ∧
         ∃ c, t.cmd p = some c ∧ c.facet = f.val ∧ c.tag = s.nextTag ∧ c.result = 0 ∧ c.index = some h ∧ c.res = some e.res) ∧
     (s.granted f (A.tblCmdOp p) (opWord 6 false live) = true → ∀ i e, fld (s.reg (A.tblCmdIndex p)) 0 18 = i → i < 32768 →
       (s.cmdBank live).camAt i = some e → sees f (resOwner e.res) = true →
       Completes (exec (.tblRead f p false live) s) fun t =>
         t.resp = ⟨.ok, []⟩ ∧ t.live = s.live ∧ t.staging = s.staging ∧
         ∃ c, t.cmd p = some c ∧ c.result = 0 ∧ c.index = some i ∧ c.res = some e.res ∧ c.key = some (keyWords e.key.toNat)) ∧
     (s.granted f (A.tblCmdOp p) (opWord 5 false live) = true → (s.cmdBank live).cam = [] →
       Completes (exec (.tblNext f p false live) s) fun t =>
         t.resp = ⟨.ok, []⟩ ∧ t.live = s.live ∧ t.staging = s.staging ∧ ∃ c, t.cmd p = some c ∧ c.result = 0x0C) ∧
     (s.granted f (A.tblCmdOp p) (opWord 5 false live) = true → ∀ j e l, (s.cmdBank live).cam = (j, some e) :: l →
       fld (s.reg (A.tblCmdIndex p)) 0 18 ≤ j → sees f (resOwner e.res) = true →
       Completes (exec (.tblNext f p false live) s) fun t =>
         t.resp = ⟨.ok, []⟩ ∧ t.live = s.live ∧ t.staging = s.staging ∧
         ∃ c, t.cmd p = some c ∧ c.result = 0 ∧ c.index = some j ∧ c.res = some e.res)) ∧
  (∀ (f : Facet) (p : Fin 4) (s : State), s.holds (portLock p) f = true → s.cmd p = none → s.tagOk f = true → s.epoch.st = .idle →
     s.rebuilding = false →
     (s.granted f (A.tblCmdOp p) (opWord 2 true false) = true → resAction (s.portRes p) ≤ 4 → hashKeyOk (s.portHash p) = true →
       s.hashMine f (s.portHash p) = true → s.staging.hashFind (s.portHash p) = none →
       ∀ h b, s.staging.placeStatic ⟨s.portHash p, resStored (s.portRes p) f, p⟩ = some (h, b) →
       Completes (exec (.tblInsert f p true false) s) fun t =>
         t.resp = ⟨.ok, []⟩ ∧ t.staging = b ∧ t.live = s.live ∧ ∃ c, t.cmd p = some c ∧ c.result = 0 ∧ c.index = some h) ∧
     (s.granted f (A.tblCmdOp p) (opWord 3 true false) = true → resAction (s.portRes p) ≤ 4 → hashKeyOk (s.portHash p) = true →
       ∀ h e, s.staging.hashFind (s.portHash p) = some (h, e) → sees f (resOwner e.res) = true → s.hashMine f (s.portHash p) = true →
       Completes (exec (.tblUpdate f p true false) s) fun t =>
         t.resp = ⟨.ok, []⟩ ∧ t.staging.hashAt h = some { e with res := resUpdated (s.portRes p) e.res, port := p.val } ∧ t.live = s.live) ∧
     (s.granted f (A.tblCmdOp p) (opWord 4 true false) = true → hashKeyOk (s.portHash p) = true →
       ∀ h e, s.staging.hashFind (s.portHash p) = some (h, e) → sees f (resOwner e.res) = true → s.hashMine f (s.portHash p) = true →
       Completes (exec (.tblDelete f p true false) s) fun t =>
         t.resp = ⟨.ok, []⟩ ∧ t.staging.hashAt h = none ∧ t.live = s.live) ∧
     (s.granted f (A.tblCmdOp p) (opWord 7 true false) = true →
       let v := fld (s.reg (A.tblCmdAux p)) 0 7
       f = 0 ∨ s.bound v = f.val →
       Completes (exec (.tblFlushVertex f p true false) s) fun t =>
         t.resp = ⟨.ok, []⟩ ∧ t.live = s.live ∧ t.staging = s.staging ∧ ∃ c, t.cmd p = some c ∧ c.result = 0 ∧ c.flush = some v) ∧
     (s.granted f (A.tblCmdOp p) (opWord 8 true false) = true → f = 0 →
       Completes (exec (.tblClearReq f p true false) s) fun t => t.resp = ⟨.ok, []⟩ ∧ t.reqRehash = false ∧ ∃ c, t.cmd p = some c ∧ c.result = 0)) ∧
  ((∀ (p : Fin 4) (c : PortCmd) (s : State), s.coreOn = true → s.cmd p = some c → c.flush = none →
     Completes (exec (.tableCommandComplete p) s) fun t =>
       t.cmd p = none ∧ SMap.get none t.tags c.tag = none ∧ t.live = s.live ∧
       t.reg (A.tblCmdStatus p) = w32 (min c.count 65535 * 2 ^ 16 + c.result * 2 ^ 8)) ∧
   (∀ (p : Fin 4) (c : PortCmd) (v : Nat) (s : State), s.coreOn = true → s.cmd p = some c → c.flush = some v →
     Completes (exec (.tableCommandComplete p) s) fun t =>
       t.cmd p = none ∧ SMap.get none t.tags c.tag = none ∧
       t.reg (A.tblCmdStatus p) = w32 (min (s.flushCount v) 65535 * 2 ^ 16 + c.result * 2 ^ 8) ∧
       (∀ h e, (h, some e) ∈ t.live.hash ∨ (h, some e) ∈ t.staging.hash → e.dyn = true → resDest e.res ≠ v) ∧
       ∀ x, x ∈ t.live.hash → x ∈ s.live.hash) ∧
   (∀ (f : Facet) (v : W32) (s : State), s.granted f A.tblHashSeed v = true → s.epoch.st = .idle →
     Completes (exec (.hashSeedWrite f v) s) fun t => t.resp = ⟨.ok, []⟩ ∧ t.rebuilding = true ∧ t.stg A.tblHashSeed = v ∧ t.live = s.live) ∧
   (∀ s : State, s.coreOn = true → s.rebuilding = true →
     Completes (exec .rebuildComplete s) fun t =>
       t.rebuilding = false ∧ t.staging = (rebuild s.staging s.unplaced).1 ∧ t.unplaced = (rebuild s.staging s.unplaced).2 ∧ t.live = s.live))

/-- Learning and care of the tables: an unknown station is learned into the live bank (R197); the ageing scan runs over the dynamic entries of the live
bank (R203); an entry that has lost its shadow word is invalidated and one that differs rewritten from it, by the compare or by a lookup of an item
of the live or the draining epoch (R217–R219); a dynamic entry in error is removed (R220); SF_UNBLOCK unblocks its filter (R196). A vertex that
loses its link (R205): when its bit in TBL_FLUSH_DOWN is set, no dynamic entry with that DEST remains in either bank. -/
def Obligations.TablesAreKept : Prop :=
  ((∀ (r : LearnReq) (l : List LearnReq) (b : Bank) (s : State), s.coreOn = true → s.learnQ = r :: l →
     let i := r.item
     let k := bridgeKey r.fid (slice i.data 6 6)
     s.live.hashFind k = none → s.learnUse (s.bound i.vertex) < fld (s.cfg (A.tblLearnCap (s.bound i.vertex))) 0 18 →
     s.live.placeDyn ⟨k, BitVec.ofNat 64 (i.vertex % 128 * 2 ^ 47 + 2 ^ 10), 255⟩ = some b →
     Completes (exec .learn s) fun t => t.learnQ = l ∧ t.live = b) ∧
   (∀ s : State, s.coreOn = true → s.ageDue = true → (∀ p ∈ s.live.hash, ∀ e, p.2 = some e → e.dyn = false) →
     Completes (exec .ageingScan s) fun t => t.live = s.live ∧ t.staging = s.staging) ∧
   (∀ (h : Nat) (e : HashEntry) (s : State), s.coreOn = true → s.ageDue = true → s.live.hash = [(h, some e)] →
     e.dyn = true → resHit e.res = false → s.live.hashFind e.key = some (h, e) →
     Completes (exec .ageingScan s) fun t => t.live.hash = [] ∧ t.ageAt = s.now) ∧
   (∀ (i : Nat) (s : State), s.coreOn = true → s.live.shadowed .cam i = true → s.shadow.shadowed .cam i = true →
     Completes (exec (.shadowCompare .cam i .shadowLost) s) fun t =>
       t.live.camAt i = none ∧ t.shadow.camAt i = none ∧ (s.staging.sameEntry s.live .cam i = true → t.staging.camAt i = none) ∧ t.reg A.tblShadowLost = sat32 ((s.reg A.tblShadowLost).toNat + 1)) ∧
   (∀ (k : StoreKind) (i : Nat) (s : State), s.coreOn = true → s.live.shadowed k i = true → s.shadow.shadowed k i = true →
     Completes (exec (.shadowCompare k i .differs) s) fun t =>
       t.live = s.live.restored s.shadow k i ∧ t.staging = s.staging ∧
       (k = .cam → t.live.camAt i = s.shadow.camAt i ∧ t.reg A.tblRepairs = sat32 ((s.reg A.tblRepairs).toNat + 1))) ∧
   (∀ (k : StoreKind) (i : Nat) (f : Facet) (s : State), s.coreOn = true → s.epoch.draining.isSome = true → s.drain.shadowed k i = true →
     s.drainShadow.shadowed k i = true →
     Completes (exec (.entryRepair k i f ⟨true, false⟩) s) fun t =>
       t.drain = s.drain.restored s.drainShadow k i ∧ t.live = s.live ∧
       t.reg (A.sysSvcDelay f) = sat32 ((s.reg (A.sysSvcDelay f)).toNat + 1)) ∧
   (∀ (i : Nat) (f : Facet) (e : HashEntry) (s : State), s.coreOn = true → s.live.hashAt i = some e → e.dyn = true →
     Completes (exec (.entryRepair .hash i f ⟨false, false⟩) s) fun t =>
       t.live = s.live.dropDyn e.key ∧ t.reg A.tblDynDrop = sat32 ((s.reg A.tblDynDrop).toNat + 1)) ∧
   (∀ (f : Facet) (v : W32) (s : State), s.granted f A.tblSfUnblock v = true → tst v 0 = true →
     Completes (exec (.sfUnblock f v) s) fun t =>
       t.resp = ⟨.ok, []⟩ ∧ fld (s.reg A.tblSfIndex) 0 10 ∉ t.blocked ∧ ∀ k, k ≠ fld (s.reg A.tblSfIndex) 0 10 → (k ∈ t.blocked ↔ k ∈ s.blocked))) ∧
  ((∀ (v : Nat) (medium : Bool) (s : State), v < 48 → (s.ethSt v).linkUp = true → (pair (s.cfg A.tblFlushDownLo) (s.cfg A.tblFlushDownHi)) / 2 ^ v % 2 = 1 →
     ∀ h e, (h, some e) ∈ (linkLost v medium s).live.hash ∨ (h, some e) ∈ (linkLost v medium s).staging.hash → e.dyn = true → resDest e.res ≠ v) ∧
   (∀ (v : EthV) (s : State), s.on = true → (s.ethSt v).linkUp = true → (pair (s.cfg A.tblFlushDownLo) (s.cfg A.tblFlushDownHi)) / 2 ^ v.val % 2 = 1 →
     Completes (exec (.linkDown v) s) fun t =>
       ∀ h e, (h, some e) ∈ t.live.hash ∨ (h, some e) ∈ t.staging.hash → e.dyn = true → resDest e.res ≠ v))

/-- Command ports and page locks are leases of 100 ms (R206, R325, R439, R440): a free one is taken, the holder releases it, F0 forces it, and it ends
when its time is out. -/
def Obligations.LocksAreLeases : Prop :=
  (∀ (f : Facet) (p : Fin 4) (s : State), s.granted f (A.tblCmdLock p) 0x10 = true → s.lockOf (portLock p) = none →
    Completes (exec (.cmdPortLock f p) s) fun t => t.resp = ⟨.ok, []⟩ ∧ t.lockOf (portLock p) = some ⟨f, s.now + 100000000⟩) ∧
  (∀ (f : Facet) (p : Fin 4) (s : State), s.granted f (A.tblCmdLock p) 0 = true → s.holds (portLock p) f = true →
    Completes (exec (.cmdPortRelease f p) s) fun t => t.resp = ⟨.ok, []⟩ ∧ t.lockOf (portLock p) = none) ∧
  (∀ (p : Fin 4) (s : State), s.granted 0 (A.tblCmdLock p) 0x100 = true →
    Completes (exec (.cmdPortForce 0 p) s) fun t => t.resp = ⟨.ok, []⟩ ∧ t.lockOf (portLock p) = none) ∧
  (∀ (p : Fin 4) (l : Lease) (s : State), s.on = true → s.lockOf (portLock p) = some l → l.deadline ≤ s.now →
    Completes (exec (.cmdPortLeaseExpiry p) s) fun t => t.lockOf (portLock p) = none ∧ t.cmd p = none) ∧
  (∀ (f : Facet) (p : Fin 2) (s : State), s.granted f (A.brgRcmdLock p) 0x10 = true → s.lockOf (portLock (4 + p.val)) = none →
    Completes (exec (.rulePortLock f p) s) fun t => t.resp = ⟨.ok, []⟩ ∧ t.lockOf (portLock (4 + p.val)) = some ⟨f, s.now + 100000000⟩) ∧
  (∀ (f : Facet) (p : Fin 2) (s : State), s.granted f (A.brgRcmdLock p) 0 = true → s.holds (portLock (4 + p.val)) f = true →
    Completes (exec (.rulePortRelease f p) s) fun t => t.resp = ⟨.ok, []⟩ ∧ t.lockOf (portLock (4 + p.val)) = none) ∧
  (∀ (p : Fin 2) (s : State), s.granted 0 (A.brgRcmdLock p) 0x100 = true →
    Completes (exec (.rulePortForce 0 p) s) fun t => t.resp = ⟨.ok, []⟩ ∧ t.lockOf (portLock (4 + p.val)) = none) ∧
  (∀ (p : Fin 2) (l : Lease) (s : State), s.on = true → s.lockOf (portLock (4 + p.val)) = some l → l.deadline ≤ s.now →
    Completes (exec (.rulePortLeaseExpiry p) s) fun t => t.lockOf (portLock (4 + p.val)) = none ∧ t.cmd (4 + p.val) = none) ∧
  (∀ (f : Facet) (page : PageNo) (p : PageRef) (s : State), pageOf (0x1000 * page.val + 0x3C) = some p → p.kind ≠ .aperture →
    s.granted f (0x1000 * page.val + 0x3C) 0x10 = true → s.lockOf page = none →
    Completes (exec (.pageLockTake f page) s) fun t => t.resp = ⟨.ok, []⟩ ∧ t.lockOf page = some ⟨f, s.now + 100000000⟩) ∧
  (∀ (f : Facet) (page : PageNo) (p : PageRef) (s : State), pageOf (0x1000 * page.val + 0x3C) = some p → p.kind ≠ .aperture →
    s.granted f (0x1000 * page.val + 0x3C) 0 = true → s.holds page f = true →
    Completes (exec (.pageLockRelease f page) s) fun t => t.resp = ⟨.ok, []⟩ ∧ t.lockOf page = none) ∧
  (∀ (page : PageNo) (p : PageRef) (s : State), pageOf (0x1000 * page.val + 0x3C) = some p → p.kind ≠ .aperture →
    s.granted 0 (0x1000 * page.val + 0x3C) 0x100 = true →
    Completes (exec (.pageLockForce 0 page) s) fun t => t.resp = ⟨.ok, []⟩ ∧ t.lockOf page = none) ∧
  (∀ (page : PageNo) (l : Lease) (s : State), s.coreOn = true → s.lockOf page = some l → l.deadline ≤ s.now →
    Completes (exec (.pageLockExpiry page) s) fun t => t.lockOf page = none)

/-! ## The engine lattice (chapter 05) -/

/-- The register arithmetic of R237: an instruction that issues writes rd with the result of its row's operation on ra and rb, and nothing changes but
the job's registers, its index and budget, and the cell's ISSUED counter. The immediate arithmetic of R237, and the rows that read a window pointer
or the stream position: rd takes the result of the row's operation, and nothing else changes but the job's index and budget and the cell's ISSUED
counter. -/
def Obligations.LatticeComputes : Prop :=
  (∀ (c : CellNo) (x : Ctx) (s : State) (j : Job),
     let w := s.nextWord j
     let a := j.reg (fRa w)
     let b := j.reg (fRb w)
     (s.issues c x 0x00 (mRd + mRa + mRb) j = true → exec (.latAdd c x) s = .next (issued c x (j.wrote (fRd w) (a + b)) s)) ∧
     (s.issues c x 0x01 (mRd + mRa + mRb) j = true → exec (.latSub c x) s = .next (issued c x (j.wrote (fRd w) (a - b)) s)) ∧
     (s.issues c x 0x02 (mRd + mRa + mRb) j = true → exec (.latAnd c x) s = .next (issued c x (j.wrote (fRd w) (a &&& b)) s)) ∧
     (s.issues c x 0x03 (mRd + mRa + mRb) j = true → exec (.latOr c x) s = .next (issued c x (j.wrote (fRd w) (a ||| b)) s)) ∧
     (s.issues c x 0x04 (mRd + mRa + mRb) j = true → exec (.latXor c x) s = .next (issued c x (j.wrote (fRd w) (a ^^^ b)) s)) ∧
     (s.issues c x 0x05 (mRd + mRa + mRb) j = true → exec (.latShl c x) s = .next (issued c x (j.wrote (fRd w) (a <<< (b.toNat % 32))) s)) ∧
     (s.issues c x 0x06 (mRd + mRa + mRb) j = true → exec (.latShr c x) s = .next (issued c x (j.wrote (fRd w) (a >>> (b.toNat % 32))) s)) ∧
     (s.issues c x 0x07 (mRd + mRa + mRb) j = true → exec (.latSar c x) s = .next (issued c x (j.wrote (fRd w) (a.sshiftRight (b.toNat % 32))) s)) ∧
     (s.issues c x 0x08 (mRd + mRa + mRb) j = true → exec (.latMul c x) s = .next (issued c x (j.wrote (fRd w) (a * b)) s))) ∧
  (∀ (c : CellNo) (x : Ctx) (s : State) (j : Job),
     let w := s.nextWord j
     let a := j.reg (fRa w)
     (s.issues c x 0x0C (mRd + mRa + mImm) j = true → exec (.latAddi c x) s = .next (issued c x (j.wrote (fRd w) (a + (w.extractLsb' 0 18).signExtend 32)) s)) ∧
     (s.issues c x 0x0D (mRd + mRa + mImm) j = true → exec (.latAndi c x) s = .next (issued c x (j.wrote (fRd w) (a &&& (w.extractLsb' 0 18).setWidth 32)) s)) ∧
     (s.issues c x 0x0E (mRd + mRa + mImm) j = true → exec (.latOri c x) s = .next (issued c x (j.wrote (fRd w) (a ||| (w.extractLsb' 0 18).setWidth 32)) s)) ∧
     (s.issues c x 0x0F (mRd + mRa + mImm) j = true → exec (.latXori c x) s = .next (issued c x (j.wrote (fRd w) (a ^^^ (w.extractLsb' 0 18).setWidth 32)) s)) ∧
     (s.issues c x 0x10 (mRd + mRa + 0x1F) j = true → exec (.latShli c x) s = .next (issued c x (j.wrote (fRd w) (a <<< (w.toNat % 32))) s)) ∧
     (s.issues c x 0x11 (mRd + mRa + 0x1F) j = true → exec (.latShri c x) s = .next (issued c x (j.wrote (fRd w) (a >>> (w.toNat % 32))) s)) ∧
     (s.issues c x 0x12 (mRd + mRa + 0x1F) j = true → exec (.latSari c x) s = .next (issued c x (j.wrote (fRd w) (a.sshiftRight (w.toNat % 32))) s)) ∧
     (s.issues c x 0x14 (mRd + mImm) j = true → exec (.latMovi c x) s = .next (issued c x (j.wrote (fRd w) ((w.extractLsb' 0 18).signExtend 32)) s)) ∧
     (s.issues c x 0x15 (mRd + mImm) j = true → exec (.latLui c x) s = .next (issued c x (j.wrote (fRd w) (w.extractLsb' 0 18 ++ 0#14)) s)) ∧
     (s.issues c x 0x0B (mRd + mRa) j = true → exec (.latBswap c x) s = .next (issued c x (j.wrote (fRd w) (a.extractLsb' 0 8 ++ a.extractLsb' 8 8 ++ a.extractLsb' 16 8 ++ a.extractLsb' 24 8)) s)) ∧
     (s.issues c x 0x25 (mRd) j = true → exec (.latSpos c x) s = .next (issued c x (j.wrote (fRd w) (w32 j.pos)) s)) ∧
     (s.issues c x 0x1A (mRd + mWn) j = true → exec (.latWget c x) s = .next (issued c x (j.wrote (fRd w) (w32 (j.wptr[w.toNat / 2 ^ 19 % 8]!))) s)))

/-- CMP and CMPI set Z, N, C and V from ra − rb or ra − imm (R236); no register changes. The condition codes of R236. SRD sets S when the stream has
ended and clears it otherwise, XWAIT sets X when a request of the job failed and clears it otherwise (R236). The flags of a job change by nothing
but CMP, CMPI, SRD and XWAIT (R236). -/
def Obligations.LatticeFlags : Prop :=
  (∀ (c : CellNo) (x : Ctx) (s : State) (j : Job),
     let w := s.nextWord j
     let a := j.reg (fRa w)
     let fl (b : W32) : LatFlags :=
       { j.flags with
         z := decide (a = b), n := (a - b).getLsbD 31, c := decide (a < b),
         v := decide (a.toInt - b.toInt < -2147483648 ∨ 2147483647 < a.toInt - b.toInt) }
     (s.issues c x 0x09 (mRa + mRb) j = true →
       exec (.latCmp c x) s = .next (issued c x { j.spent with pc := j.pc + 1, flags := fl (j.reg (fRb w)) } s)) ∧
     (s.issues c x 0x13 (mRa + mImm) j = true →
       exec (.latCmpi c x) s = .next (issued c x { j.spent with pc := j.pc + 1, flags := fl ((w.extractLsb' 0 18).signExtend 32) } s))) ∧
  (∀ f : LatFlags,
     condOf f 0 = some true ∧ condOf f 1 = some f.z ∧ condOf f 2 = some (!f.z) ∧ condOf f 3 = some f.c ∧ condOf f 4 = some (!f.c) ∧
     condOf f 5 = some (decide (f.n ≠ f.v)) ∧ condOf f 6 = some (f.z || decide (f.n ≠ f.v)) ∧ condOf f 7 = some (!f.z && decide (f.n = f.v)) ∧
     condOf f 8 = some f.n ∧ condOf f 9 = some (!f.n) ∧ condOf f 10 = some f.s ∧ condOf f 11 = some (!f.s) ∧ condOf f 12 = some f.x ∧
     condOf f 13 = some (!f.x) ∧ ∀ k, 13 < k → condOf f k = none) ∧
  (∀ (c : CellNo) (x : Ctx) (s : State) (j : Job),
     let w := s.nextWord j
     (s.issues c x 0x22 (mRd + mSize) j = true → fSize w < 3 → Completes (exec (.latSrd c x) s) fun t =>
       ∃ k, t.jobAt c x = some k ∧ k.flags = { j.flags with s := decide (j.req.item.len < j.pos + 2 ^ fSize w) }) ∧
     (s.issues c x 0x30 0 j = true → (∀ l ∈ j.looks, l.done = true) → Completes (exec (.latXwait c x) s) fun t =>
       ∃ k, t.jobAt c x = some k ∧ k.flags = { j.flags with x := j.looks.any (·.error) })) ∧
  (∀ (i : Instr) (c : CellNo) (x : Ctx) (s t : State) (j k : Job), i.latAt = some (c, x) → i.setsFlags = false →
     s.jobAt c x = some j → exec i s = .next t → t.jobAt c x = some k → k.flags = j.flags)

/-- Bit fields, selection and metadata (R236–R238): EXT and INS within the word, CLZ, SEL by its condition, WSET of a window pointer up to 255, META of
an assigned selector. The memories of a job (R233, R237): loads and stores of the window, the output header buffer, local data and the constants,
the copy from the window, and the stream, of which SSEEK has to wait for its first bytes (R261). Values are big-endian (R232), and nothing changes
but the job and the cell's ISSUED counter. -/
def Obligations.LatticeReachesMemory : Prop :=
  (∀ (c : CellNo) (x : Ctx) (s : State) (j : Job),
     let w := s.nextWord j
     let a := j.reg (fRa w)
     let pos := w.toNat / 2 ^ 13 % 32
     let len := w.toNat / 2 ^ 8 % 32 + 1
     (s.issues c x 0x16 (mRd + mRa + mField) j = true → pos + len ≤ 32 →
       ∃ v : W32, exec (.latExt c x) s = .next (issued c x (j.wrote (fRd w) v) s) ∧
         ∀ i, v.getLsbD i = (decide (i < len) && a.getLsbD (pos + i))) ∧
     (s.issues c x 0x17 (mRd + mRa + mField) j = true → pos + len ≤ 32 →
       ∃ v : W32, exec (.latIns c x) s = .next (issued c x (j.wrote (fRd w) v) s) ∧
         ∀ i, v.getLsbD i = if pos ≤ i ∧ i < pos + len then a.getLsbD (i - pos) else (j.reg (fRd w)).getLsbD i) ∧
     (s.issues c x 0x18 (mRd + mRa) j = true →
       ∃ k ≤ 32, exec (.latClz c x) s = .next (issued c x (j.wrote (fRd w) (w32 k)) s) ∧
         (∀ i < k, a.getLsbD (31 - i) = false) ∧ (k < 32 → a.getLsbD (31 - k) = true)) ∧
     (∀ b : Bool, s.issues c x 0x0A (mRd + mRa + mRb + 0xF) j = true → condOf j.flags (fld w 0 4) = some b →
       exec (.latSel c x) s = .next (issued c x (j.wrote (fRd w) (if b then a else j.reg (fRb w))) s)) ∧
     (s.issues c x 0x19 (7 * 2 ^ 22 + mRa + mImm) j = true → a + (w.extractLsb' 0 18).signExtend 32 ≤ 255 →
       exec (.latWset c x) s = .next (issued c x
         { j.spent with pc := j.pc + 1, wptr := j.wptr.set! (w.toNat / 2 ^ 22 % 8) (a + (w.extractLsb' 0 18).signExtend 32).toNat } s)) ∧
     (∀ v : W32, s.issues c x 0x31 (mRd + mImm) j = true → metaOf j (w.toNat % 2 ^ 18) = some v →
       exec (.latMeta c x) s = .next (issued c x (j.wrote (fRd w) v) s))) ∧
  (∀ (c : CellNo) (x : Ctx) (s : State) (j : Job),
     let w := s.nextWord j
     let a := (j.reg (fRa w) + (w.extractLsb' 0 16).signExtend 32).toNat
     let n := 2 ^ fSize w
     let v := j.reg (fRd w)
     let e := s.deOf j.req
     (s.issues c x 0x1B (mRd + mWn + mSize + 0xFF) j = true → fSize w < 3 → j.wptr[fld w 19 3]! + w.toNat % 256 + n ≤ min 256 j.req.item.len →
       exec (.latLdw c x) s = .next (issued c x (j.wrote (fRd w) (w32 (beAt j.bytes (j.wptr[fld w 19 3]! + w.toNat % 256) n))) s)) ∧
     (s.issues c x 0x1D (mRd + mRa + mSize + mOff) j = true → fSize w < 3 → a + n ≤ 512 →
       exec (.latLdo c x) s = .next (issued c x (j.wrote (fRd w) (w32 (beAt (j.ohbAt a n) 0 n))) s)) ∧
     (s.issues c x 0x1F (mRd + mRa + mSize + mOff) j = true → fSize w < 3 → a + n ≤ 2048 → a % n = 0 →
       exec (.latLd c x) s = .next (issued c x (j.wrote (fRd w) (w32 (beAt (j.localAt a n) 0 n))) s)) ∧
     (s.issues c x 0x1C (mRd + mRa + mSize + mOff) j = true → fSize w < 3 → a + n ≤ 512 →
       ∃ k, exec (.latSto c x) s = .next (issued c x { j.spent with pc := j.pc + 1, ohb := k } s) ∧
         ∀ i, SMap.get 0 k i = if a ≤ i ∧ i < a + n then v.extractLsb' (8 * (n - 1 - (i - a))) 8 else SMap.get 0 j.ohb i) ∧
     (s.issues c x 0x20 (mRd + mRa + mSize + mOff) j = true → fSize w < 3 → a + n ≤ 2048 → a % n = 0 →
       ∃ k, exec (.latSt c x) s = .next (issued c x { j.spent with pc := j.pc + 1, local_ := k } s) ∧
         ∀ i, SMap.get 0 k i = if a ≤ i ∧ i < a + n then v.extractLsb' (8 * (n - 1 - (i - a))) 8 else SMap.get 0 j.local_ i) ∧
     (s.issues c x 0x21 (mRd + mRa + mSize + mOff) j = true → fSize w = 2 → a % 4 = 0 → a + 4 ≤ e.constLen →
       exec (.latLdc c x) s = .next (issued c x (j.wrote (fRd w) (SMap.get 0 s.ps ((e.const + a / 4) % 524288))) s)) ∧
     (s.issues c x 0x1E (mRd + mRa + mRb) j = true → (j.reg (fRa w)).toNat + (j.reg (fRb w)).toNat ≤ min 256 j.req.item.len →
       v.toNat + (j.reg (fRb w)).toNat ≤ 512 →
       ∃ k, exec (.latCpy c x) s = .next (issued c x { j.spent with pc := j.pc + 1, ohb := k } s) ∧
         ∀ i, (i < v.toNat ∨ v.toNat + (j.reg (fRb w)).toNat ≤ i) → SMap.get 0 k i = SMap.get 0 j.ohb i) ∧
     (s.issues c x 0x22 (mRd + mSize) j = true → fSize w < 3 →
       exec (.latSrd c x) s = .next (issued c x
         (if j.pos + n ≤ j.req.item.len then
           { (j.wrote (fRd w) (w32 (beAt j.bytes j.pos n))) with pos := j.pos + n, cold := false, flags := { j.flags with s := false } }
         else { (j.wrote (fRd w) 0) with cold := false, flags := { j.flags with s := true } }) s)) ∧
     (s.issues c x 0x23 mRa j = true → j.pos + (j.reg (fRa w)).toNat ≤ j.req.item.len →
       exec (.latSskip c x) s = .next (issued c x { j.spent with pc := j.pc + 1, pos := j.pos + (j.reg (fRa w)).toNat } s)) ∧
     (s.issues c x 0x24 mRa j = true → (j.reg (fRa w)).toNat ≤ j.req.item.len →
       exec (.latSseek c x) s = .next (issued c x { j.spent with pc := j.pc + 1, pos := (j.reg (fRa w)).toNat, cold := true } s)))

/-- Control flow (R237, R239): branches count from the instruction after them, CALL pushes its successor and RET pops it, DBNZ counts down, and every
target is within 0 to LEN − 1. Rules, counters and the look-aside engine (R245–R247, R504): RULE copies a VALID record of the job's epoch, CNT notes
an addition for the commit, XREQ enters its request and the engine keeps its answer, XWAIT ends when every request is complete, and a completion
writes the status and the output to local data. -/
def Obligations.LatticeBranchesAndAsks : Prop :=
  (∀ (c : CellNo) (x : Ctx) (s : State) (j : Job) (k : Nat),
     let w := s.nextWord j
     let target : Int := (j.pc : Int) + 1 + (w.extractLsb' 0 19).toInt
     let inCode := k < (s.deOf j.req).len
     (s.issues c x 0x2A (mRd + mBoff) j = true → condOf j.flags (fRd w) = some true → target = k → inCode →
       exec (.latB c x) s = .next (issued c x { j.spent with pc := k } s)) ∧
     (s.issues c x 0x2A (mRd + mBoff) j = true → condOf j.flags (fRd w) = some false →
       exec (.latB c x) s = .next (issued c x { j.spent with pc := j.pc + 1 } s)) ∧
     (s.issues c x 0x2B mBoff j = true → j.stack.length < 8 → target = k → inCode →
       exec (.latCall c x) s = .next (issued c x { j.spent with pc := k, stack := (j.pc + 1) :: j.stack } s)) ∧
     (∀ l, s.issues c x 0x2C 0 j = true → j.stack = k :: l → inCode →
       exec (.latRet c x) s = .next (issued c x { j.spent with pc := k, stack := l } s)) ∧
     (s.issues c x 0x2D mRa j = true → (j.reg (fRa w)).toNat = k → inCode →
       exec (.latJr c x) s = .next (issued c x { j.spent with pc := k } s)) ∧
     (s.issues c x 0x2E (mRd + mBoff) j = true → j.reg (fRd w) = 1 →
       exec (.latDbnz c x) s = .next (issued c x (j.wrote (fRd w) 0) s)) ∧
     (s.issues c x 0x2E (mRd + mBoff) j = true → j.reg (fRd w) ≠ 1 → target = k → inCode →
       exec (.latDbnz c x) s = .next (issued c x { (j.wrote (fRd w) (j.reg (fRd w) - 1)) with pc := k } s))) ∧
  (∀ (c : CellNo) (x : Ctx) (s : State) (j : Job),
     let w := s.nextWord j
     let a := (j.reg (fRa w)).toNat
     (∀ r : RuleRec, s.issues c x 0x32 (mRd + mRa + 1) j = true → (s.bankOf j.req.item.epoch).rule a (tst w 0) = some r → r.valid = true →
       a < (if tst w 0 then 4096 else 8192) → (j.reg (fRd w)).toNat + 32 ≤ 2048 → (j.reg (fRd w)).toNat % 4 = 0 →
       ∃ k, exec (.latRule c x) s = .next (issued c x { j.spent with pc := j.pc + 1, local_ := k } s) ∧
         ∀ i, (i < (j.reg (fRd w)).toNat ∨ (j.reg (fRd w)).toNat + 32 ≤ i) → SMap.get 0 k i = SMap.get 0 j.local_ i) ∧
     (s.issues c x 0x33 (mRa + 0xF) j = true →
       exec (.latCnt c x) s = .next (issued c x { j.spent with pc := j.pc + 1, cnts := j.cnts ++ [(w.toNat % 16, j.reg (fRa w))] } s)) ∧
     (s.issues c x 0x2F mRa j = true → a + 16 ≤ 2048 → a % 4 = 0 → (j.looks.filter (fun l => !l.done)).length < 4 →
       Completes (exec (.latXreq c x) s) fun t =>
         (∃ l : LookReq, l.idx = j.lookCount ∧ l.done = false ∧ l.desc.length = 4 ∧
           t.jobAt c x = some { j.spent with pc := j.pc + 1, looks := j.looks ++ [l], lookCount := j.lookCount + 1 }) ∧
         t.cip.answers.any (fun y => y.tag = j.tag ∧ y.idx = j.lookCount) = true) ∧
     (s.issues c x 0x30 0 j = true → (∀ l ∈ j.looks, l.done = true) →
       exec (.latXwait c x) s = .next (issued c x { j.spent with
         pc := j.pc + 1, flags := { j.flags with x := j.looks.any (·.error) } } s)) ∧
     (s.issues c x 0x30 0 j = true → (∃ l ∈ j.looks, l.done = false) → exec (.latXwait c x) s = .next s) ∧
     (∀ (idx : Nat) (l : LookReq) (y : LookAnswer), s.coreOn = true → s.jobAt c x = some j →
       j.looks.find? (fun l => l.idx = idx ∧ l.done = false) = some l → s.cip.answers.find? (fun y => y.tag = j.tag ∧ y.idx = idx) = some y →
       ∃ k, exec (.lookasideComplete c x idx) s = .next (setJob c x (some { j with
           local_ := k
           looks := j.looks.map (fun z => if z.idx = idx then { z with done := true, error := decide (y.status % 256 ≠ 0) } else z) }) s) ∧
         ∀ i, (i < fld (l.desc.getD 2 0) 0 16 ∨ fld (l.desc.getD 2 0) 0 16 + 4 + y.out.length ≤ i) → SMap.get 0 k i = SMap.get 0 j.local_ i))

/-- How a job ends (R239, R243, R244): EMIT records a legal output; DONE counts the job and its instructions; DROP and ABORT discard the item; a jump
out of the program faults and leaves its code and index in the dispatch entry. The context is free and the engine keeps no answer for the tag. A row
issues nothing where the next instruction is another one (R240): no instruction of the table runs out of the order of its program. The dispatcher
(R226, R227, R229, R248): JOB_ADMIT takes the head job of the facet in turn when tag, contexts and cells allow it and puts it fresh into a context
of the cell chosen; a lane whose first job has not ended releases nothing; a line that the code cache lacks, or that has a parity error, is filled
and counts a miss, and one that is there is not fetched. -/
def Obligations.JobsRunAndEnd : Prop :=
  (∀ (c : CellNo) (x : Ctx) (s : State) (j : Job),
     let w := s.nextWord j
     let a := (j.reg (fRa w)).toNat
     let de := j.req.de
     let e := s.deOf j.req
     let gone (t : State) : Prop := t.jobAt c x = none ∧ ∀ y ∈ t.cip.answers, y.tag ≠ j.tag
     (let w0 := w32 (beAt (j.localAt a 16) 0 4)
       let w1 := w32 (beAt (j.localAt a 16) 4 4)
       let start := beAt (j.localAt a 16) 8 4
       let plen := beAt (j.localAt a 16) 12 4
       let hlen := fld w1 0 10
       let b := s.bankOf j.req.item.epoch
       s.issues c x 0x26 mRa j = true → a + 16 ≤ 2048 → a % 4 = 0 → j.outs.length < e.outMax → fld w0 30 2 = 0 → fld w0 0 11 = 0 → fld w1 10 6 = 0 →
       (tst w0 29 = false → b.outVertex (fld w0 16 7) = true) →
       (tst w0 29 = true → ∃ vs, b.dests true (fld w0 16 13) j.req.item.vertex = some vs) →
       hlen ≤ 512 → start + plen ≤ j.req.item.len → 0 < hlen + plen → hlen + plen ≤ e.outBytes →
       exec (.latEmit c x) s = .next (issued c x
         { j.spent with pc := j.pc + 1, outs := j.outs ++ [⟨w0, w1, start, plen, j.ohbAt 0 hlen⟩] } s)) ∧
     (s.issues c x 0x27 0 j = true → (∀ p ∈ j.cnts, p.1 < 16) →
       Completes (exec (.latDone c x) s) fun t =>
         gone t ∧ t.reg (deKey A.latDeDone de) = sat32 ((s.reg (deKey A.latDeDone de)).toNat + 1) ∧
         t.reg (deKey A.latDeInsnMax de) = w32 (max (s.reg (deKey A.latDeInsnMax de)).toNat (j.executed + 1))) ∧
     (s.issues c x 0x28 0 j = true →
       Completes (exec (.latDrop c x) s) fun t =>
         gone t ∧ t.reg (deKey A.latDeDropped de) = sat32 ((s.reg (deKey A.latDeDropped de)).toNat + 1)) ∧
     (s.issues c x 0x29 0xFF j = true →
       Completes (exec (.latAbort c x) s) fun t =>
         gone t ∧ t.reg (deKey A.latDeDropped de) = sat32 ((s.reg (deKey A.latDeDropped de)).toNat + 1) ∧
         t.raised 138 = true) ∧
     (s.issues c x 0x2A (mRd + mBoff) j = true → condOf j.flags (fRd w) = some true →
       ¬ (0 ≤ (j.pc : Int) + 1 + (w.extractLsb' 0 19).toInt ∧ (j.pc : Int) + 1 + (w.extractLsb' 0 19).toInt < e.len) →
       Completes (exec (.latB c x) s) fun t =>
         gone t ∧ t.reg (deKey A.latDeLastFault de) = w32 (7 + j.pc % 2 ^ 19 * 2 ^ 8) ∧ t.raised 137 = true ∧
         t.reg (deKey A.latDeFaults de) = sat32 ((s.reg (deKey A.latDeFaults de)).toNat + 1))) ∧
  (∀ (c : CellNo) (x : Ctx) (s : State) (j : Job),
     s.coreOn = true → (s.cell c).st = .inService → s.jobAt c x = some j → s.loaded (s.deOf j.req) = true → s.libOf (s.deOf j.req) = none →
     j.pc < (s.deOf j.req).len → j.executed + 1 ≤ (s.deOf j.req).budget → opOf (s.nextWord j) ≤ 0x33 →
     (opOf (s.nextWord j) ≠ 0x00 → exec (.latAdd c x) s = .next s) ∧ (opOf (s.nextWord j) ≠ 0x27 → exec (.latDone c x) s = .next s) ∧
     (opOf (s.nextWord j) ≠ 0x26 → exec (.latEmit c x) s = .next s) ∧ (opOf (s.nextWord j) ≠ 0x2A → exec (.latB c x) s = .next s)) ∧
  ((∀ (s : State) (f : Fin 16) (q : JobReq) (l : List JobReq), s.coreOn = true → s.hopeless = [] → s.replayQ = [] → s.admitTurn = f.val →
     SMap.get [] s.admission f = q :: l → s.admits q = true →
     Completes (exec .jobAdmit s) fun t =>
       (∃ c x, s.bestCell = some c ∧ s.jobAt c x = none ∧ t.jobAt c x = some (Job.fresh q s.nextTag (s.deOf q).reserve 0)) ∧
       SMap.get [] t.admission f = l ∧ t.admitTurn = (f.val + 1) % 16) ∧
   (∀ (s : State) (v : Vertex) (lane : Fin 64) (e : LaneEntry) (l : List LaneEntry), s.coreOn = true →
     SMap.get [] s.lanes (v.val * 64 + lane.val) = e :: l → e.pend ≠ 0 →
     Completes (exec (.orderLaneRelease v lane) s) fun t =>
       t = { s with lanes := t.lanes } ∧ ∀ k, SMap.get [] t.lanes k = SMap.get [] s.lanes k) ∧
   (∀ (s : State) (v : Vertex) (lane : Fin 64) (e : LaneEntry), s.coreOn = true →
     SMap.get [] s.lanes (v.val * 64 + lane.val) = [e] → e.pend = 0 →
     Completes (exec (.orderLaneRelease v lane) s) fun t => SMap.get [] t.lanes (v.val * 64 + lane.val) = []) ∧
   (∀ (s : State) (f : Facet) (q : JobReq), s.coreOn = true → q ∈ SMap.get [] s.admission f → q.since + 5000 ≤ s.now → s.power.latReq = false →
     Completes (exec (.admissionQueueWait f) s) fun t => t.power.latReq = true ∧ t.raised 140 = true) ∧
   (∀ (s : State) (c : CellNo) (x : Ctx) (j : Job) (parity : Bool), s.coreOn = true → s.jobAt c x = some j →
     (s.lines c).contains (s.nextLine j) = false ∨ parity = true →
     Completes (exec (.codeCacheFill c x parity) s) fun t =>
       s.nextLine j ∈ t.lines c ∧ t.reg (A.latCCacheMiss c) = sat32 ((s.reg (A.latCCacheMiss c)).toNat + 1) ∧
       t.reg (A.latCEccCorr c) = (if parity then sat32 ((s.reg (A.latCEccCorr c)).toNat + 1) else s.reg (A.latCEccCorr c)) ∧
       t.jobAt c x = some j) ∧
   (∀ (s : State) (c : CellNo) (x : Ctx) (j : Job), s.coreOn = true → s.jobAt c x = some j → (s.lines c).contains (s.nextLine j) = true →
     exec (.codeCacheFill c x false) s = .next s))

/-- Lattice cells (R249–R255): a cell fault empties the cell, counts in its FAULTS and sends it to a check, a failed self-check retires it; F0's
LAT_FORCE_RETIRE does the same; the periodic check takes a cell out of dispatch and begins when it has drained or after 50 µs; a cell that passes
out of place becomes a spare, and one that fails is retired. Program segments (R257, R258, R260, R264): OPEN takes a FREE segment over a free range,
SEAL checks the words against the CRC and seals it or leaves it OPEN, FREE gives it back, LAT_PS_DATA writes the word that LAT_PS_ADDR names and
moves on, and a LOST segment written again is SEALED. -/
def Obligations.CellsAndSegments : Prop :=
  ((∀ (s : State) (c : CellNo) (k : CellFaultKind), s.coreOn = true → (s.cell c).st = .inService →
     Completes (exec (.cellFault c k) s) fun t =>
       (t.cell c).st = (if k = .selfCheck then .retired else .checking) ∧ (∀ x < 16, t.jobAt c x = none) ∧
       t.reg (A.latCFaults c) = sat32 ((s.reg (A.latCFaults c)).toNat + 1)) ∧
   (∀ (s : State) (c : CellNo) (v : W32), s.granted 0 A.latForceRetire v = true → fld v 0 7 = c.val → tst v 8 = true → (s.cell c).st ≠ .retired →
     Completes (exec (.latForceRetire 0 v) s) fun t => t.resp = ⟨.ok, []⟩ ∧ (t.cell c).st = .retired ∧ ∀ x < 16, t.jobAt c x = none) ∧
   (∀ (s : State) (c : CellNo), s.coreOn = true →
     s.checkAt + fld (s.reg A.latCheckPeriod) 0 16 * 1000000 / max 1 (s.cellsIn .inService).length ≤ s.now → s.checkTurn = c.val →
     (s.cell c).st = .inService → (s.cell c).noDispatch = false →
     Completes (exec .periodicSelfCheck s) fun t =>
       (t.cell c).st = .inService ∧ (t.cell c).noDispatch = true ∧ (t.cell c).periodic = true ∧ (t.cell c).since = s.now ∧
       t.checkTurn = (c.val + 1) % 72 ∧ t.checkAt = s.now) ∧
   (∀ (s : State) (c : CellNo), s.coreOn = true → (s.cell c).st = .inService → (s.cell c).noDispatch = true → (s.cell c).periodic = true →
     (∀ x < 16, s.jobAt c x = none) ∨ (s.cell c).since + 50000 ≤ s.now →
     Completes (exec (.selfCheckDrainTimeout c) s) fun t =>
       (t.cell c).st = .checking ∧ (t.cell c).since = s.now ∧ ∀ x < 16, t.jobAt c x = none) ∧
   (∀ (s : State) (c : CellNo), s.coreOn = true → (s.cell c).st = .checking → (s.cell c).inPlace = false → 64 ≤ (s.cellsIn .inService).length →
     Completes (exec (.selfCheckComplete c true) s) fun t =>
       (t.cell c).st = .spare ∧ t.reg (A.latCChecks c) = sat32 ((s.reg (A.latCChecks c)).toNat + 1)) ∧
   (∀ (s : State) (c : CellNo), s.coreOn = true → (s.cell c).st = .checking → (s.cell c).inPlace = true →
     Completes (exec (.selfCheckComplete c true) s) fun t => (t.cell c).st = .inService ∧ (t.cell c).noDispatch = false) ∧
   (∀ (s : State) (c : CellNo), s.coreOn = true → (s.cell c).st = .checking →
     Completes (exec (.selfCheckComplete c false) s) fun t => (t.cell c).st = .retired ∧ t.raised 128 = true)) ∧
  ((∀ (s : State) (f : Facet) (i : Fin 64), s.granted f A.latSegCtrl 1 = true → fld (s.reg A.latSegIndex) 0 6 = i.val → (s.seg i).busy = false →
     (s.seg i).st = 0 →
     let start := fld (s.reg (selKey A.latSegStart i)) 0 19
     let len := fld (s.reg (selKey A.latSegLen i)) 0 20
     0 < len → start + len ≤ 524288 → (∀ k < 64, (s.seg k).st = 0 ∨ start + len ≤ (s.seg k).start ∨ (s.seg k).start + (s.seg k).len ≤ start) →
     Completes (exec (.segmentOpen f) s) fun t =>
       t.resp = ⟨.ok, []⟩ ∧ t.seg i = { s.seg i with st := 1, start := start, len := len, result := 0 }) ∧
   (∀ (s : State) (f : Facet) (i : Fin 64), s.granted f A.latSegCtrl 2 = true → fld (s.reg A.latSegIndex) 0 6 = i.val → (s.seg i).busy = false →
     (s.seg i).st = 1 →
     Completes (exec (.seal f) s) fun t => t.resp = ⟨.ok, []⟩ ∧ t.seg i = { s.seg i with busy := true } ∧ t.ps = s.ps) ∧
   (∀ (s : State) (i : Fin 64), s.coreOn = true → (s.seg i).busy = true →
     Completes (exec (.sealComplete i) s) fun t =>
       t.ps = s.ps ∧
       if s.segCheck (s.seg i) = (s.reg (selKey A.latSegCrc i)).toNat then
         t.seg i = { s.seg i with st := 2, busy := false, result := 0 } ∧ t.raised 141 = true
       else t.seg i = { s.seg i with busy := false, result := 3 } ∧ t.raised 142 = true) ∧
   (∀ (s : State) (f : Facet) (i : Fin 64), s.granted f A.latSegCtrl 3 = true → fld (s.reg A.latSegIndex) 0 6 = i.val → (s.seg i).busy = false →
     (s.seg i).st ≠ 0 → i.val ≠ 63 →
     Completes (exec (.segmentFree f) s) fun t =>
       t.resp = ⟨.ok, []⟩ ∧
       t.seg i = if s.segNamed (s.seg i) then { s.seg i with result := 2 } else { s.seg i with st := 0, result := 0 }) ∧
   (∀ (s : State) (f : Facet) (v : W32) (i : Nat), s.granted f A.latPsData v = true → s.segAt (fld (s.reg A.latPsAddr) 0 19) = some i →
     (s.seg i).st = 1 →
     Completes (exec (.psDataWrite f v) s) fun t =>
       t.resp = ⟨.ok, []⟩ ∧ t.reg A.latPsAddr = w32 ((fld (s.reg A.latPsAddr) 0 19 + 1) % 524288) ∧
       ∀ a, SMap.get 0 t.ps a = if a = fld (s.reg A.latPsAddr) 0 19 then v else SMap.get 0 s.ps a) ∧
   (∀ (s : State) (i : Fin 64), s.mpOn = true → (s.seg i).st = 3 →
     Completes (exec (.segmentReloadComplete i true) s) fun t =>
       t.seg i = { s.seg i with st := 2, gone := false } ∧ t.raised 136 = true ∧ t.reg A.latPsReloads = sat32 ((s.reg A.latPsReloads).toNat + 1)))

/-! ## CAN and LIN channels and the bridge (chapter 06) -/

/-- Error confinement of a CAN channel (R280, R282, R283): the sender of a failed frame counts 8, but for ISO 11898-1's two exceptions, a receiver 1 or
8, and the counters give the error state; a channel that only listens counts errors but not on TEC and REC; bus-off has its delay, its 128 × 11 bits
and its F0 command. Bit timing and rate detection (R275–R277): a commit's settings take effect at the first idle instant, and detection then starts
anew only where MODE, CAN_RATE_CTRL or a candidate has changed; each dwell without a find moves to the next candidate, and after the last one to the
first, counted; enough good frames of one candidate are a find. -/
def Obligations.CanChannelsConfine : Prop :=
  (∀ (ch : CanCh) (s : State),
     let c := s.canSt ch
     (s.on = true → s.canMode ch ≠ 0 → c.err ≠ .busOff → c.selective = false → ∀ e : CanErr,
       Completes (exec (.canBusError ch e) s) fun t =>
         t.reg (A.canRxErrors ch) = sat32 ((s.reg (A.canRxErrors ch)).toNat + 1) ∧
         (s.canMode ch = 2 → (t.canSt ch).tec = c.tec ∧ (t.canSt ch).rec_ = c.rec_ ∧ (t.canSt ch).err = c.err) ∧
         (s.canActive ch = true →
           match e with
           | .transmitter k spared =>
             (t.canSt ch).lastErr = canErrCode k ∧
             if spared = true ∧ (k = .stuff ∨ (k = .acknowledge ∧ c.err = .passive)) then
               (t.canSt ch).tec = c.tec ∧ (t.canSt ch).rec_ = c.rec_ ∧ (t.canSt ch).err = c.err
             else
               (t.canSt ch).tec = min (c.tec + 8) 256 ∧ (t.canSt ch).rec_ = min c.rec_ 255 ∧
               (t.canSt ch).err = if 256 ≤ c.tec + 8 then .busOff else if 128 ≤ c.tec + 8 ∨ 128 ≤ c.rec_ then .passive else .active
           | .receiver k heavy =>
             (t.canSt ch).lastErr = canErrCode k ∧
             (t.canSt ch).rec_ = min (c.rec_ + if heavy then 8 else 1) 255 ∧ (t.canSt ch).tec = min c.tec 256
           | .overload => (t.canSt ch).tec = c.tec ∧ (t.canSt ch).rec_ = c.rec_ ∧ (t.canSt ch).err = c.err)) ∧
     (s.on = true → s.canActive ch = true → c.err ≠ .busOff → c.selective = false → 248 ≤ c.tec →
       ∀ k : CanErrKind, Completes (exec (.canBusError ch (.transmitter k false)) s) fun t =>
         tst (t.reg ((canPage ch).base + 0x10)) 0 = true ∧ (t.canSt ch).boffAt = s.now ∧ (t.canSt ch).recovering = false ∧
         t.reg (A.canBusoffCount ch) = sat32 ((s.reg (A.canBusoffCount ch)).toNat + 1)) ∧
     (s.on = true → c.err = .busOff → c.recovering = false → tst c.ctrl 7 = true →
       c.boffAt + fld (s.cfg (A.canBoffDelay ch)) 0 16 * 1000000 ≤ s.now →
       Completes (exec (.boffDelayExpiry ch) s) fun t => t.canSt ch = { c with recovering := true } ∧ t.regs = s.regs) ∧
     (∀ f : Facet, s.granted f (A.canCmd ch) 1 = true → c.err = .busOff →
       Completes (exec (.canRecover f ch) s) fun t => t.resp = ⟨.ok, []⟩ ∧ t.canSt ch = { c with recovering := true }) ∧
     (s.on = true → c.err = .busOff → c.recovering = true →
       Completes (exec (.busOffRecoveryComplete ch) s) fun t =>
         (t.canSt ch).tec = 0 ∧ (t.canSt ch).rec_ = 0 ∧ (t.canSt ch).err = .active ∧ tst (t.reg ((canPage ch).base + 0x10)) 1 = true)) ∧
  (∀ (ch : CanCh) (s : State), s.on = true →
     let c := s.canSt ch
     let r := s.cfg (A.canRateCtrl ch)
     (c.timingPending = true → c.sending = none →
       Completes (exec (.bitTimingChange ch) s) fun t =>
         (t.canSt ch).ctrl = s.cfg (A.canCtrl ch) ∧ (t.canSt ch).xbt = s.cfg (A.canXbt ch) ∧ (t.canSt ch).xpwm = s.cfg (A.canXpwm ch) ∧
         (t.canSt ch).timingPending = false ∧ (t.canSt ch).effEpoch = s.epoch.live ∧
         (t.canSt ch).detectPending = false ∧
         if fld (s.cfg (A.canCtrl ch)) 0 2 = 3 then
           if c.detectPending = true ∨ fld c.ctrl 0 2 ≠ 3 then
             (t.canSt ch).nbt = s.cfg (A.canCandNbt ch 0) ∧ (t.canSt ch).dbt = s.cfg (A.canCandDbt ch 0) ∧ (t.canSt ch).cand = 0 ∧
             (t.canSt ch).found = false ∧ (t.canSt ch).dwellStart = s.now
           else
             (t.canSt ch).nbt = c.nbt ∧ (t.canSt ch).dbt = c.dbt ∧ (t.canSt ch).cand = c.cand ∧ (t.canSt ch).found = c.found ∧
             (t.canSt ch).dwellStart = c.dwellStart
         else (t.canSt ch).nbt = s.cfg (A.canNbt ch) ∧ (t.canSt ch).dbt = s.cfg (A.canDbt ch)) ∧
     (s.canMode ch = 3 → c.found = false → c.dwellStart + fld r 16 16 * 1000000 ≤ s.now →
       Completes (exec (.rateDwellExpiry ch) s) fun t =>
         (t.canSt ch).goodFrames = 0 ∧ (t.canSt ch).dwellStart = s.now ∧ (t.canSt ch).found = false ∧
         if c.cand < fld r 4 3 then
           (t.canSt ch).cand = c.cand + 1 ∧ (t.canSt ch).nbt = s.cfg (A.canCandNbt ch (c.cand + 1)) ∧ t.reg (A.canRateStatus ch) = s.reg (A.canRateStatus ch)
         else
           (t.canSt ch).cand = 0 ∧ tst (t.reg ((canPage ch).base + 0x10)) 4 = true ∧
           fld (t.reg (A.canRateStatus ch)) 16 16 = min (fld (s.reg (A.canRateStatus ch)) 16 16 + 1) 65535) ∧
     (∀ (m : CanMsg) (sof : Nat), s.canMode ch ≠ 0 → c.err ≠ .busOff → c.selective = false → m.fdf = false → m.format ≠ 2 → m.format ≠ 3 →
       Completes (exec (.canReceive ch m sof) s) fun t =>
         t.reg (A.canRxOk ch) = sat32 ((s.reg (A.canRxOk ch)).toNat + 1) ∧
         (s.canMode ch = 3 → c.found = false →
           (t.canSt ch).goodFrames = c.goodFrames + 1 ∧ (t.canSt ch).found = decide (fld r 0 4 ≤ c.goodFrames + 1)) ∧
         (s.canMode ch = 1 → c.rec_ ≤ 127 → (t.canSt ch).rec_ = c.rec_ - 1)))

/-- What a CAN channel sends (R270, R284–R289): the head copy of the highest class that has a place goes to the FIFO or its mailbox; an idle bus sees
the message with the lowest arbitration field; success frees the message and takes one off TEC; an error leaves it until RETRY is spent; a lost
arbitration starts no attempt and changes no message. The time master of a CAN channel (R292, R294, R297, R299): the reference is due at BASE + k ×
CYCLE, an active trigger opens its window at its mark, another node's reference message ends the schedule, and after TT_RESTART it starts anew at
the next due instant. -/
def Obligations.CanChannelsSend : Prop :=
  (∀ (ch : CanCh) (s : State),
     let c := s.canSt ch
     let v := 48 + ch.val
     (∀ (cls : Nat) (k : Copy) (l : List Copy), s.coreOn = true → s.canActive ch = true → cls < 8 → s.queue v cls = k :: l →
       (∀ n < 8, cls < n → s.queue v n = []) → formatReason c.ctrl k.data = none →
       (s.canPlace ch cls k = some none →
         Completes (exec (.canTakeCopy ch) s) fun t =>
           t.queue v cls = l ∧ (t.canSt ch) = { c with fifo := c.fifo ++ [⟨k, 0, none, none⟩] }) ∧
       (∀ m, s.canPlace ch cls k = some (some m) → c.sending ≠ some (.mailbox m) →
         Completes (exec (.canTakeCopy ch) s) fun t =>
           t.queue v cls = l ∧ (t.canSt ch).mb m = some ⟨k, 0, none, none⟩ ∧ (t.canSt ch).fifo = c.fifo)) ∧
     (s.on = true → s.canSends ch = true → c.sending = none → c.ttActive = false →
       ∀ won : Bool, Completes (exec (.canArbitration ⟨ch, won⟩) s) fun t =>
         (t.canSt ch).offer = s.canOffer ch ∧
         (if won then (t.canSt ch).sending = s.canOffer ch ∧ (t.canSt ch).sofAt = s.ns
          else (t.canSt ch).sending = none ∧ (t.canSt ch).busBusy = (s.canOffer ch).isSome ∧
            (t.canSt ch).fifo = c.fifo ∧ (t.canSt ch).mbox = c.mbox ∧ (t.canSt ch).mboxNext = c.mboxNext ∧ (t.canSt ch).tec = c.tec) ∧
         ∀ (x y : CanSource) (p q : CanPending), (t.canSt ch).offer = some x → x ≠ .reference → c.msg x = some p → y ∈ s.canEligible ch →
           c.msg y = some q → arbField p.copy.data ≤ arbField q.copy.data) ∧
     (∀ (p : CanPending) (l : List CanPending), s.on = true → s.canActive ch = true → c.err ≠ .busOff → c.sending = some .fifo → c.fifo = p :: l →
       Completes (exec (.canTransmitEnd ch .success) s) fun t =>
         (t.canSt ch).fifo = l ∧ (t.canSt ch).sending = none ∧ (t.canSt ch).tec = min (c.tec - 1) 256 ∧
         t.reg (A.canTxOk ch) = sat32 ((s.reg (A.canTxOk ch)).toNat + 1)) ∧
     (∀ (p : CanPending) (l : List CanPending), s.on = true → c.sending = some .fifo → c.fifo = p :: l → c.ttActive = false →
       fld (s.cfg (A.canTxCtrl ch)) 0 5 = 0x1F ∨ p.errors < fld (s.cfg (A.canTxCtrl ch)) 0 5 →
       ∀ (k : CanErrKind) (spared : Bool), Completes (exec (.canTransmitEnd ch (.error k spared)) s) fun t =>
         (t.canSt ch).fifo = { p with errors := p.errors + 1, window := none } :: l ∧ (t.canSt ch).sending = none) ∧
     (∀ (p : CanPending) (l : List CanPending), s.on = true → c.sending = some .fifo → c.fifo = p :: l →
       fld (s.cfg (A.canTxCtrl ch)) 0 5 ≠ 0x1F → fld (s.cfg (A.canTxCtrl ch)) 0 5 ≤ p.errors →
       ∀ (k : CanErrKind) (spared : Bool), Completes (exec (.canTransmitEnd ch (.error k spared)) s) fun t =>
         (t.canSt ch).fifo = l ∧ (t.canSt ch).sending = none ∧ t.reg (A.canTxAbandoned ch) = sat32 ((s.reg (A.canTxAbandoned ch)).toNat + 1))) ∧
  (∀ (ch : CanCh) (s : State),
     let c := s.canSt ch
     (s.on = true → c.ttActive = true ∨ c.ttArmed = true → s.canMode ch = 1 → c.ttRefDue < (s.ttDue ch).1 →
       Completes (exec (.ttReferenceDue ch) s) fun t =>
         t.canSt ch = { c with ttActive := true, ttArmed := false, ttRefPending := true, ttRefDue := (s.ttDue ch).1, ttK := (s.ttDue ch).2 } ∧
         t.canOffer ch = some .reference) ∧
     (s.ttBase ch ≤ s.ns → 0 < s.ttCycle ch → (s.ttDue ch).1 = s.ttBase ch + (s.ns - s.ttBase ch) / s.ttCycle ch * s.ttCycle ch) ∧
     (∀ (i : Fin 64) (t0 : Nat) (g : TtTrig), s.on = true → c.ttActive = true → c.ttRefStart = some t0 → s.ttTrig ch i = some g →
       t0 + g.mark ≤ s.ns → s.ns < t0 + g.mark + g.len →
       Completes (exec (.ttWindowStart ch i) s) fun t =>
         i.val ∈ (t.canSt ch).ttWindows ∧ { t.canSt ch with ttWindows := c.ttWindows } = c) ∧
     (∀ (m : CanMsg) (sof : Nat), s.on = true → s.canMode ch = 1 → c.err ≠ .busOff → c.selective = false → m.fdf = false →
       c.ttActive = true ∨ c.ttArmed = true → m.format.toNat = (if tst (s.cfg (A.canTtCtrl ch)) 4 then 1 else 0) →
       m.id.toNat = fld (s.cfg (A.canTtRefId ch)) 0 29 →
       Completes (exec (.canReceive ch m sof) s) fun t =>
         (t.canSt ch).ttConflict = true ∧ (t.canSt ch).ttActive = false ∧ (t.canSt ch).ttArmed = false ∧
         (t.canSt ch).ttRefPending = false ∧ t.ttWindow ch = none) ∧
     (∀ f : Facet, s.granted f (A.canCmd ch) 2 = true → c.ttConflict = true →
       Completes (exec (.ttRestart f ch) s) fun t =>
         t.resp = ⟨.ok, []⟩ ∧ (t.canSt ch).ttConflict = false ∧ (t.canSt ch).ttActive = false ∧
         (t.canSt ch).ttArmed = tst (s.cfg (A.canTtCtrl ch)) 0 ∧ (t.canSt ch).ttRefDue = (s.ttDue ch).1 ∧ (t.canSt ch).ttRefStart = none))

/-- LIN schedules and headers (R303, R305, R307): a slot starts where the one before it ended and lasts its entry's DELAY; LIN_SCHED_SEL names the table
for the next slot; a header of a subscribed or filled published identifier is followed by its response, one never published is counted, and so is
one that fails its parity. LIN responses and transceivers (R270, R301, R302, R304, R308, R335): a response of the right length is counted and
enters, a wrong one is counted by its kind; a sent buffer's copy leaves; a collision in an event slot starts its resolution; no response in time is
counted; a copy replaces its identifier's buffer; a transceiver's fault shows. -/
def Obligations.LinChannelsServe : Prop :=
  (∀ (j : LinCh) (s : State),
     let c := s.linSt j
     (s.on = true → s.linMode j = 1 → c.running = true → c.slotEnd ≤ s.ns →
       let n := s.linNext j
       let w := s.linEntry j n.1 n.2.1
       Completes (exec (.linSlotStart j) s) fun t =>
         (t.linSt j).table = n.1 ∧ (t.linSt j).entry = n.2.1 ∧ (t.linSt j).pendingTable = none ∧ (t.linSt j).slotStart = c.slotEnd ∧
         (t.linSt j).slotEnd = c.slotEnd + fld w 16 16 * 100000 ∧ (t.linSt j).running = decide (fld w 0 3 ≠ 0)) ∧
     (∀ (f : Facet) (v : W32), s.granted f (A.linSchedSel j) v = true →
       Completes (exec (.linSchedSelWrite f j v) s) fun t => t.resp = ⟨.ok, []⟩ ∧ t.linSt j = { c with pendingTable := some (v.toNat % 8) }) ∧
     (∀ id : Fin 64, s.on = true → s.linMode j = 2 →
       Completes (exec (.linHeaderReceive j ⟨id, true⟩) s) fun t =>
         (t.linSt j).synced = true ∧
         ((s.linDir j id = 2 ∨ (s.linDir j id = 1 ∧ (s.linBuf j id).filled = true)) →
           (t.linSt j).expecting = some id.val ∧ (t.linSt j).headerAt = s.ns) ∧
         (s.linDir j id = 1 → (s.linBuf j id).filled = false →
           (t.linSt j).expecting = none ∧ t.reg (A.linNoData j) = sat32 ((s.reg (A.linNoData j)).toNat + 1)) ∧
         (s.linDir j id = 0 ∨ s.linDir j id = 3 → (t.linSt j).expecting = none)) ∧
     (∀ id : Fin 64, s.on = true → s.linMode j = 2 →
       Completes (exec (.linHeaderReceive j ⟨id, false⟩) s) fun t =>
         (t.linSt j).expecting = none ∧ fld (t.reg (A.linErr j)) 24 8 = min (fld (s.reg (A.linErr j)) 24 8 + 1) 255)) ∧
  (∀ (j : LinCh) (s : State),
     let c := s.linSt j
     (∀ (id sof : Nat) (o : LinOutcome), s.on = true → s.linMode j ≠ 0 → c.expecting = some id →
       Completes (exec (.linFrameReceive j o sof) s) fun t =>
         (t.linSt j).expecting = none ∧
         (∀ d, o = .good d → s.linDir j id ≠ 1 → d.length = fld (s.cfg (A.linId j id)) 3 4 →
           t.reg (A.linRxOk j) = sat32 ((s.reg (A.linRxOk j)).toNat + 1)) ∧
         (o = .sent → s.linDir j id = 1 →
           t.reg (A.linTxOk j) = sat32 ((s.reg (A.linTxOk j)).toNat + 1) ∧ (t.linBuf j id).fresh = none ∧ (t.linBuf j id).data = (s.linBuf j id).data) ∧
         (o = .checksum → fld (t.reg (A.linErr j)) 8 8 = min (fld (s.reg (A.linErr j)) 8 8 + 1) 255) ∧
         (o = .framing ∨ o = .parity → fld (t.reg (A.linErr j)) 24 8 = min (fld (s.reg (A.linErr j)) 24 8 + 1) 255) ∧
         (o = .bitError → fld (t.reg (A.linErr j)) 0 8 = min (fld (s.reg (A.linErr j)) 0 8 + 1) 255) ∧
         (o = .collision → s.linMode j = 1 → fld (s.linEntry j c.table c.entry) 0 3 = 2 → c.resolving = none →
           (t.linSt j).resolving = some (c.table, c.entry + 1, 0))) ∧
     (∀ id, s.on = true → c.expecting = some id →
       Completes (exec (.linResponseTimeout j) s) fun t =>
         (t.linSt j).expecting = none ∧ fld (t.reg (A.linErr j)) 16 8 = min (fld (s.reg (A.linErr j)) 16 8 + 1) 255) ∧
     (∀ (cls : Nat) (k : Copy) (l : List Copy), s.coreOn = true → s.linMode j ≠ 0 → cls < 8 → s.queue (72 + j.val) cls = k :: l →
       (∀ n < 8, cls < n → s.queue (72 + j.val) n = []) → byteAt k.data 0 / 64 < 2 → tst (w32 (beAt k.data 4 4)) 31 = false →
       0 < fld (w32 (beAt k.data 4 4)) 0 12 → fld (w32 (beAt k.data 4 4)) 0 12 ≤ 8 →
       Completes (exec (.linPublishUpdate j) s) fun t =>
         t.queue (72 + j.val) cls = l ∧ t.linBuf j (byteAt k.data 3 % 64) = ⟨k.data.drop 32, true, some k⟩ ∧
         ((s.linBuf j (byteAt k.data 3 % 64)).fresh ≠ none → t.reg (A.linReplaced j) = sat32 ((s.reg (A.linReplaced j)).toNat + 1))) ∧
     (∀ v : BusVertex, s.on = true → 24 ≤ v.val → v.val - 24 = j.val → c.trxFault = false →
       Completes (exec (.transceiverFault v true) s) fun t =>
         t.linSt j = { c with trxFault := true } ∧ tst (t.reg ((linPage j).base + 0x10)) (8 * (j.val % 2) + 5) = true))

/-- The bridge matches (R310–R314): a BUS item of no rule is dropped and counted; one of a chord rule submits the rule's job when its share allows, and
waits otherwise; a NET item that is no tunnel frame is dropped as malformed, and one of a matching tangent submits its job. Rule commands
(R325–R328): READ shows a rule that the facet may see, WRITE stores a legal record under its writer in the staging bank with SEQ zero, CLEAR removes
it, and a completion shows the status; the live bank never changes. -/
def Obligations.BridgeRulesWork : Prop :=
  (∀ (s : State) (cls : Nat) (k : Copy), s.coreOn = true →
     let b := s.bankOf k.item.epoch
     let i := k.item
     (s.bridgeHead 0 = some (cls, k) → firstRule b.chords (fun r => r.busMatch i) = none →
       firstRule b.tangents (fun r => r.busMatch i && !r.unwraps) = none →
       Completes (exec .bridgeBusMatch s) fun t =>
         t.reg A.brgNoRule = sat32 ((s.reg A.brgNoRule).toNat + 1) ∧ t.raised 244 = true ∧ t.admission = s.admission) ∧
     (∀ (n : Nat) (r : RuleRec), s.bridgeHead 0 = some (cls, k) → k.errs ≠ 1 → firstRule b.chords (fun r => r.busMatch i) = some (n, r) →
       (s.bridgeRoom 0 i.facet = false → exec .bridgeBusMatch s = .next s) ∧
       (s.bridgeRoom 0 i.facet = true →
         Completes (exec .bridgeBusMatch s) fun t =>
           ∃ (q : JobReq) (l : List JobReq), SMap.get [] t.admission i.facet = SMap.get [] s.admission i.facet ++ q :: l ∧
             q.item = i ∧ q.de = fld (r.words.getD 2 0) 0 12 ∧ q.rule = some (n, false) ∧ q.bridge = some 0)) ∧
     (s.bridgeHead 1 = some (cls, k) → tunnelOf i = none →
       Completes (exec .bridgeNetMatch s) fun t => t.reg A.brgMalformed = sat32 ((s.reg A.brgMalformed).toNat + 1) ∧ t.raised 245 = true) ∧
     (∀ (w : Tunnel) (n : Nat) (r : RuleRec), s.bridgeHead 1 = some (cls, k) → tunnelOf i = some w →
       firstRule b.tangents (fun r => r.netMatch i.vertex w) = some (n, r) → s.bridgeRoom 1 i.facet = true →
       Completes (exec .bridgeNetMatch s) fun t =>
         (∃ q : JobReq, SMap.get [] t.admission i.facet = SMap.get [] s.admission i.facet ++ [q] ∧
           q.item = i ∧ q.de = fld (r.words.getD 2 0) 0 12 ∧ q.rule = some (n, true) ∧ q.bridge = some 1) ∧
         SMap.get none t.bridge.rxSeq n = some w.seq ∧
         SMap.get 0 t.bridge.tFrames n = min (SMap.get 0 s.bridge.tFrames n + 1) 0xFFFFFFFF)) ∧
  ((∀ (p : Fin 2) (c : PortCmd) (s : State), s.coreOn = true → s.cmd (4 + p.val) = some c →
     Completes (exec (.ruleCommandComplete p) s) fun t => t.cmd (4 + p.val) = none ∧ SMap.get none t.tags c.tag = none) ∧
   ∀ (f : Facet) (p : Fin 2) (tangent live : Bool) (s : State), s.holds (portLock (4 + p.val)) f = true → s.cmd (4 + p.val) = none → s.tagOk f = true →
     let n := fld (s.reg (A.brgRcmdIndex p)) 0 13
     let w := s.portRule p
     n < (if tangent then 4096 else 8192) →
     (s.granted f (A.brgRcmdOp p) (opWord 1 tangent live) = true → ∀ r, SMap.get none ((s.cmdBank live).rules tangent) n = some r →
       f = 0 ∨ r.owner = f →
       Completes (exec (.ruleRead f p tangent live) s) fun t =>
         t.resp = ⟨.ok, []⟩ ∧ t.live = s.live ∧ t.staging = s.staging ∧ ∃ c, t.cmd (4 + p.val) = some c ∧ c.result = 0 ∧ c.key = some r.words) ∧
     (s.granted f (A.brgRcmdOp p) (opWord 2 tangent false) = true → s.epoch.st = .idle → ruleOk tangent w = true →
       SMap.get none (s.staging.rules tangent) n = none → f = 0 ∨ (tst (w.getD 2 0) 30 = false ∧ s.bound (fld (w.getD 2 0) 23 7) = f) →
       Completes (exec (.ruleWrite f p tangent false) s) fun t =>
         t.resp = ⟨.ok, []⟩ ∧ t.live = s.live ∧
         ((∃ x ∈ (ruleStored f p tangent w).words, x ≠ 0) →
           SMap.get none (t.staging.rules tangent) n = some (ruleStored f p tangent w) ∧ (ruleStored f p tangent w).owner = f.val)) ∧
     (s.granted f (A.brgRcmdOp p) (opWord 3 tangent false) = true → s.epoch.st = .idle →
       (∀ r, SMap.get none (s.staging.rules tangent) n = some r → f = 0 ∨ r.owner = f) →
       Completes (exec (.ruleClear f p tangent false) s) fun t =>
         t.resp = ⟨.ok, []⟩ ∧ t.live = s.live ∧ SMap.get none (t.staging.rules tangent) n = none))

/-! ## Ethernet vertices (chapter 07) -/

/-- Backbone lanes (R339, R340, R344, R346): training follows a signal, gives up after 100 ms and rests for 10 ms; four codewords in order lock a lane,
eight uncorrectable ones in a row lose it and with it its port; every codeword is counted, and the error window marks a lane DEGRADED. Links (R344,
R349, R357): a port whose lanes agree is UP at its width, a PHY at the rate it finds; a link that is lost ends its transmission and its pauses;
attempts without a link step the rate down where DOWNSHIFT says so. -/
def Obligations.LinksTrainAndFall : Prop :=
  (∀ (l : LaneNo) (s : State), s.on = true →
     let x := s.lane l
     let cnt (t : State) (k : Nat) : Nat := SMap.get 0 t.counters (A.ethFecLo l k)
     (s.laneOn l = true → x.st = .down → x.silent = false →
       Completes (exec (.laneTraining l false) s) fun t => t.lane l = { x with st := .training, since := s.now } ∧ t.egress = s.egress) ∧
     (s.laneOn l = true → x.st = .training →
       Completes (exec (.laneTraining l true) s) fun t =>
         t.lane l = { x with st := .locking, good := 0, bad := 0, cwcMiss := 0, lastCwc := none } ∧ t.framing l = true) ∧
     (x.st = .training → x.since + 100000000 ≤ s.now →
       Completes (exec (.laneTrainingTimeout l) s) fun t =>
         t.lane l = { x with st := .down, silent := true, since := s.now, attempts := min (x.attempts + 1) 255 } ∧
         tst (t.reg ((ethPage l).base + 0x10)) 2 = true) ∧
     (s.laneOn l = true → x.silent = true → x.since + 10000000 ≤ s.now →
       Completes (exec (.laneSilenceEnd l) s) fun t => t.lane l = { x with st := .training, silent := false, since := s.now }) ∧
     (∀ w : Codeword, s.laneOn l = true → x.st = .locking → w.uncorrectable = false → x.lastCwc = some ((Lcb.ofBytes w.lcb).cwc - 1) → x.good = 3 →
       Completes (exec (.codewordReceive l w) s) fun t =>
         (t.lane l).st = .up ∧ (t.lane l).peerId = (Lcb.ofBytes w.lcb).peerId ∧ (t.lane l).lastCwc = some (Lcb.ofBytes w.lcb).cwc ∧
         (t.lane l).localFault = (Lcb.ofBytes w.lcb).localFault ∧ (t.lane l).remoteFault = (Lcb.ofBytes w.lcb).remoteFault ∧
         cnt t 0 = cnt s 0 + 1) ∧
     (∀ w : Codeword, s.laneOn l = true → x.st = .up → w.uncorrectable = true →
       Completes (exec (.codewordReceive l w) s) fun t =>
         cnt t 0 = cnt s 0 + 1 ∧ cnt t 2 = cnt s 2 + 1 ∧
         if x.bad + 1 < 8 then (t.lane l).st = .up ∧ (t.lane l).bad = x.bad + 1
         else (t.lane l).st = .locking ∧ (t.ethSt (s.live.portOf l)).linkUp = false) ∧
     (s.laneOn l = true → x.winStart + 10000000 ≤ s.now → (s.reg (A.ethLaneDegThresh l)).toNat < x.corrWin →
       Completes (exec (.degradeWindow l) s) fun t => t.lane l = { x with degraded := true, corrWin := 0, winStart := s.now }) ∧
     (s.laneOn l = true → x.winStart + 10000000 ≤ s.now → 2 * x.corrWin < (s.reg (A.ethLaneDegThresh l)).toNat →
       Completes (exec (.degradeWindow l) s) fun t => t.lane l = { x with degraded := false, corrWin := 0, winStart := s.now })) ∧
  (∀ (v : EthV) (s : State), s.on = true →
     let e := s.ethSt v
     (∀ (rate : Nat) (ma pol : Bool) (q : Fin 8), v.val < 8 → e.linkUp = false → s.vertexOn v = true → s.live.member v = false → s.portReady v = true →
       Completes (exec (.linkUp v rate ma q pol) s) fun t => (t.ethSt v).linkUp = true ∧ (t.ethSt v).rate = 100000 * s.live.portWidth v) ∧
     (∀ (b rate : Nat) (l : List Nat) (ma pol : Bool) (q : Fin 8), 8 ≤ v.val → v.val < 40 → e.linkUp = false → s.phyOn v = true →
       s.phyTries v = b :: l → rateOf b = rate →
       Completes (exec (.linkUp v rate ma q pol) s) fun t =>
         (t.ethSt v).linkUp = true ∧ (t.ethSt v).rate = rate ∧ (t.ethSt v).phy = .up ∧ (t.ethSt v).phyRate = b ∧ (t.ethSt v).sqi = q.val) ∧
     (e.linkUp = true →
       Completes (exec (.linkDown v) s) fun t =>
         (t.ethSt v).linkUp = false ∧ (t.ethSt v).rate = 0 ∧ (t.ethSt v).pauseUntil = [] ∧ (t.out v).tx = none ∧
         (8 ≤ v.val → (t.ethSt v).phy = .down) ∧ (v.val < 8 → (t.lane v).st = .down)) ∧
     (8 ≤ v.val → v.val < 40 → s.phyOn v = true → e.linkUp = false →
       let d := fld (s.cfg (A.ethPhyCtrl v)) 9 3
       Completes (exec (.phyLinkAttemptFail v) s) fun t =>
         (t.ethSt v).phy = .training ∧
         (d = 0 ∨ e.fails + 1 < d → (t.ethSt v).fails = e.fails + 1 ∧ (t.ethSt v).downshift = e.downshift) ∧
         (d ≠ 0 → d ≤ e.fails + 1 → e.downshift + 1 < (s.phyRates v).length → (t.ethSt v).fails = 0 ∧ (t.ethSt v).downshift = e.downshift + 1)))

/-- Lane framing (R337, R338, R347): a lane control block reads back from its bytes field by field; at each codeword time an unbonded lane that frames
sends the RS(544,514) codeword of its own control block, with its state and the number of the codeword time, and of scrambled blocks. The place of
CWC and PEER_ID's bytes and the start of CWC are the model's choice (log entry 69). -/
def Obligations.LanesSendCodewords : Prop :=
  (∀ b : Lcb, b.version < 256 → b.lane < 4 → b.width < 4 → Lcb.ofBytes b.bytes = b ∧ b.bytes.length = 32) ∧
  ∀ (l : LaneNo) (s : State), s.pending = [] → s.on = true → s.live.portWidth l = 1 →
    (∀ b ∈ (s.lane l).blocks, b.bytes.length = 8) → s.framing l = true → cwcAt (s.now + 1) ≠ cwcAt s.now →
    Completes (step s) fun t =>
      (t.lane l).st = (s.lane l).st ∧
      ∃ d : List Bool, d.length = 19 * 257 ∧ (t.lane l).line = lineOf (rsCodeword (false :: wireBits (t.lcb l).bytes ++ d)) ∧
        (t.lcb l).cwc = cwcAt (s.now + 1) ∧ (t.lcb l).remoteFault = (s.lane l).localFault ∧
        ((t.lcb l).localFault = true ↔ (s.lane l).st ≠ .up) ∧ (t.lcb l).degraded = (s.lane l).degraded

/-- 10BASE-T1S segments (R351–R356): a beacon puts PLCA to work and its loss falls back to CSMA/CD; a frame that collided goes out at its next
opportunity or after its back-off; a collision draws a back-off below 2^min(n, 10) slots, and the sixteenth drops the frame. Flow control
(R370–R372): a pause frame that RX_MODE accepts pauses the classes for its quanta, another pauses none; a pause ends with its time, the watchdog
disregards it for RELEASE; a vertex owes pause frames by its input cells and refreshes them. -/
def Obligations.MediaAreShared : Prop :=
  (∀ (v : EthV) (s : State), 40 ≤ v.val → s.coreOn = true →
     let e := s.ethSt v
     (s.plcaOn v = true →
       Completes (exec (.plcaBeacon v) s) fun t => t.ethSt v = { e with lastBeacon := s.now, plcaActive := true, fallback := false }) ∧
     (s.plcaOn v = true → fld (s.cfg (A.ethPlcaCtrl v)) 1 3 ≠ 0 → e.fallback = false → e.lastBeacon + 400000 ≤ s.now →
       Completes (exec (.plcaBeaconTimeout v) s) fun t =>
         t.ethSt v = { e with fallback := true, plcaActive := false } ∧ tst (t.reg ((ethPage v).base + 0x10)) 7 = true) ∧
     (∀ (c : Copy) (bytes : List Byte), s.mayStart v = true → (s.out v).tx = none → e.contending = some c → s.merges c.item.epoch v = false →
       s.oneStep c.item.uid v (s.ns + wireTime 8 (s.macRate v)) = none →
       tst ((s.bankOf c.item.epoch).regs.read (A.ethPortVlan v)) 19 = false → secTransmit (s.bankOf c.item.epoch) v (s.egressBytes c) s = (some bytes, s) →
       let sends (t : State) : Prop :=
         (t.out v).tx = some ⟨c, bytes, s.ns + wireTime 8 (s.macRate v), 0, bytes.length + 4, s.now,
           s.now + wireTime (bytes.length + 12) (s.macRate v)⟩ ∧ (t.ethSt v).contending = some c
       (e.plcaActive = true → Completes (exec (.plcaTransmitOpportunity v) s) sends) ∧
       (e.plcaActive = false → e.backoffUntil ≤ s.now → Completes (exec (.backoffExpiry v) s) sends)) ∧
     (∀ (late : Bool) (slots : Nat) (f : TxFrame), (s.out v).tx = some f →
       Completes (exec (.collision v late slots) s) fun t =>
         (t.out v).tx = none ∧
         if e.attempts + 1 < 16 then
           (t.ethSt v).attempts = e.attempts + 1 ∧ (t.ethSt v).contending = some f.copy ∧
           (t.ethSt v).backoffUntil = s.now + slots % 2 ^ min (e.attempts + 1) 10 * 51200
         else (t.ethSt v).attempts = 0 ∧ (t.ethSt v).contending = none)) ∧
  (∀ (v : EthV) (s : State),
     let e := s.ethSt v
     let mode := fld (s.cfg (A.ethFcCtrl v)) 0 2
     (∀ (q : Nat) (l : List (Option Nat)), s.on = true → s.macOn v = true → e.linkUp = true →
       Completes (exec (.pauseFrameReceive v false (some q :: l)) s) fun t =>
         ∀ c < 8, SMap.get 0 (t.ethSt v).pauseUntil c =
           if mode = 1 then (if q = 0 then 0 else s.now + ceilDiv (q * 512000) (max 1 (s.macRate v))) else SMap.get 0 e.pauseUntil c) ∧
     (∀ l : List (Option Nat), s.on = true → s.macOn v = true → e.linkUp = true →
       Completes (exec (.pauseFrameReceive v true l) s) fun t =>
         ∀ c < 8, SMap.get 0 (t.ethSt v).pauseUntil c =
           match l.getD c none with
           | none => SMap.get 0 e.pauseUntil c
           | some q =>
             if mode = 2 then (if q = 0 then 0 else s.now + ceilDiv (q * 512000) (max 1 (s.macRate v))) else SMap.get 0 e.pauseUntil c) ∧
     (∀ c : Fin 8, SMap.get 0 e.pauseUntil c ≠ 0 → SMap.get 0 e.pauseUntil c ≤ s.now →
       Completes (exec (.pauseExpiry v c) s) fun t => SMap.get 0 (t.ethSt v).pauseUntil c = 0 ∧ t.paused v c = false) ∧
     (∀ c : Fin 8, s.on = true → s.paused v c = true → SMap.get 0 e.pausedSince c + (s.wdogNs v).1 ≤ s.now →
       Completes (exec (.pauseWatchdog v c) s) fun t =>
         SMap.get 0 (t.ethSt v).releaseUntil c = s.now + (s.wdogNs v).2 ∧ tst (t.reg ((ethPage v).base + 0x10)) 6 = true) ∧
     (∀ c : Fin 8, SMap.get 0 e.releaseUntil c ≠ 0 → SMap.get 0 e.releaseUntil c ≤ s.now →
       Completes (exec (.pauseReleaseEnd v c) s) fun t =>
         SMap.get 0 (t.ethSt v).releaseUntil c = 0 ∧ (t.ethSt v).pauseUntil = e.pauseUntil ∧
         (s.now < SMap.get 0 e.pauseUntil c → t.paused v c = true ∧ SMap.get 0 (t.ethSt v).pausedSince c = s.now)) ∧
     (∀ on : Bool, s.coreOn = true → v.val < 40 → fld (s.cfg (A.ethFcCtrl v)) 2 2 ≠ 0 → s.macOn v = true → e.linkUp = true → s.pauseOwed v = some on →
       (s.out v).tx = none → (s.out v).busyUntil ≤ s.now →
       Completes (exec (.pauseFrameSend v) s) fun t =>
         t.outbox = s.outbox ++ [⟨v, s.pauseFrame v on, false, s.ns⟩] ∧ (t.ethSt v).xoff = on ∧ (t.ethSt v).xoffAt = s.now ∧
         (t.ethSt v).pausePend = none) ∧
     (s.coreOn = true → e.xoff = true → e.linkUp = true →
       e.xoffAt + fld (s.cfg (A.ethFcTimers v)) 0 16 * 256000 / max 1 (s.macRate v) ≤ s.now →
       fld (s.cfg (A.ethFcXon v)) 0 18 ≤ (s.reg (inUseKey v)).toNat →
       Completes (exec (.pauseRefresh v) s) fun t => t.ethSt v = { e with pausePend := some true } ∧ t.pauseOwed v = some true) ∧
     (∀ (f : Facet) (an : W32), s.granted f (A.ethSecTxAn v) an = true →
       Completes (exec (.secTxAnWrite f v an) s) fun t =>
         t.resp = ⟨.ok, []⟩ ∧ (t.ethSt v).anPend = some (an.toNat % 4) ∧ t.reg (A.ethSecTxAn v) = w32 (an.toNat % 4)))

/-! ## The journal and its queues (chapter 08) -/

/-- The journal's writer (R395–R398): the oldest staged entry goes to the next slots of the ring whole; under DROP_NEW one without room is dropped and
counted; counted events come out as COALESCED records; a read request copies present records into the window and moves the position. The export
(R400–R404): it reads record after record into its merge store, makes up with a GAP what the writer overtook, releases the lowest-keyed record once
no earlier one can come, and sends full frames and frames whose FLUSH has passed. -/
def Obligations.JournalRecords : Prop :=
  ((∀ (e : JEntry) (l : List JEntry) (s : State), s.coreOn = true → s.jrn.eventLane = [] → s.jrn.lostStaging = 0 → s.jrn.lostPolicy = 0 →
     s.jrn.staging = e :: l → tst (s.reg A.jrnCtrl) 0 = false →
     Completes (exec .journalWrite s) fun t =>
       t.jrn.wr = s.jrn.wr + e.records.length ∧ t.jrn.staging = l ∧ t.jrn.policy = false ∧
       SMap.get JRec.nil t.jrn.ring (s.jrn.wr % jrnCapacity) = e.rec_ ∧
       (∀ x, e.ext = some x → SMap.get JRec.nil t.jrn.ring ((s.jrn.wr + 1) % jrnCapacity) = x) ∧
       t.jrn.oldest = max s.jrn.oldest (s.jrn.wr + e.records.length - jrnCapacity)) ∧
   (∀ (e : JEntry) (l : List JEntry) (s : State), s.coreOn = true → s.jrn.eventLane = [] → s.jrn.lostStaging = 0 → s.jrn.lostPolicy = 0 →
     s.jrn.staging = e :: l → tst (s.reg A.jrnCtrl) 0 = true → jrnCapacity < s.jrn.wr - s.protect + e.records.length →
     Completes (exec .journalWrite s) fun t =>
       t.jrn.wr = s.jrn.wr ∧ t.jrn.ring = s.jrn.ring ∧ t.jrn.staging = l ∧ t.jrn.lostPolicy = e.records.length ∧
       t.reg A.jrnPolicyDrop = sat32 ((s.reg A.jrnPolicyDrop).toNat + e.records.length) ∧ t.raised 277 = true) ∧
   (∀ s : State, s.coreOn = true → s.jrn.coalesce ≠ [] → s.jrn.eventLane.length < 512 → s.jrn.lostStaging = 0 →
     entryCount s.jrn.staging + s.jrn.coalesce.length ≤ 8192 →
     Completes (exec .eventLaneDrain s) fun t =>
       t.jrn.coalesce = [] ∧ t.jrn.staging.length = s.jrn.staging.length + s.jrn.coalesce.length ∧
       (t.jrn.staging.drop s.jrn.staging.length).map (fun e => (fld e.rec_.w4 8 4, e.rec_.w6, e.rec_.w7)) =
         s.jrn.coalesce.map (fun p => (0xB, w32 p.1, w32 p.2))) ∧
   (∀ (f : Facet) (v : W32) (s : State), s.granted f A.jrnCtrl v = true →
     Completes (exec (.policyWrite f v) s) fun t => t.resp = ⟨.ok, []⟩ ∧ tst (t.reg A.jrnCtrl) 0 = tst v 0 ∧ t.jrn.policy = s.jrn.policy) ∧
   (∀ (f : Facet) (v : W32) (s : State), s.granted f A.jrnRdReq v = true → 0 < fld v 0 7 → fld v 0 7 ≤ 64 →
     let pos := pair (s.reg A.jrnRdPosLo) (s.reg A.jrnRdPosHi)
     s.jrn.oldest ≤ pos → pos + fld v 0 7 ≤ s.jrn.wr → s.jrn.wr < 2 ^ 63 → s.jrn.corruptSlots = [] →
     Completes (exec (.journalReadRequest f v) s) fun t =>
       t.resp = ⟨.ok, []⟩ ∧ t.jrn.rdGot = fld v 0 7 ∧ t.jrn.rdResult = 0 ∧
       pair (t.reg A.jrnRdPosLo) (t.reg A.jrnRdPosHi) = pos + fld v 0 7 ∧
       t.reg (A.jrnRdWin 0) = (SMap.get JRec.nil s.jrn.ring (pos % jrnCapacity)).w0 ∧ t.jrn.ring = s.jrn.ring)) ∧
  ((∀ s : State, s.coreOn = true → s.jrn.expOn = true → s.expFull = false → entryCount s.jrn.store < 32768 →
     (s.jrn.cursor < s.jrn.oldest →
       Completes (exec .exportRead s) fun t =>
         t.jrn.cursor = s.jrn.oldest ∧ t.raised 280 = true ∧
         t.reg A.jrnExpGap = sat32 ((s.reg A.jrnExpGap).toNat + (s.jrn.oldest - s.jrn.cursor))) ∧
     (s.jrn.oldest ≤ s.jrn.cursor → s.jrn.expReplay = false → s.jrn.wr ≤ s.jrn.cursor → exec .exportRead s = .next s) ∧
     (s.jrn.oldest ≤ s.jrn.cursor → s.jrn.expReplay = false → s.jrn.cursor + 1 = s.jrn.wr → s.jrn.corruptSlots = [] →
       let r := SMap.get JRec.nil s.jrn.ring (s.jrn.cursor % jrnCapacity)
       fld r.w4 8 4 ≠ 0xF →
       Completes (exec .exportRead s) fun t =>
         t.jrn.cursor = s.jrn.cursor + 1 ∧
         t.jrn.store = if tst (s.cfg A.jrnExpCtrl) (16 + fld r.w4 8 4) && tst (s.cfg A.jrnExpFacets) (fld r.w4 12 4)
           then insertBy entryBefore ⟨r, none⟩ s.jrn.store else s.jrn.store)) ∧
   (∀ (e : JEntry) (early : Bool) (s : State), s.coreOn = true → s.expFull = false → s.expDue = some (e, early) → s.jrn.expMax = none →
     Completes (exec .exportRelease s) fun t =>
       t.jrn.store = s.jrn.store.drop 1 ∧ t.jrn.expMax = some e.rec_.key ∧ t.jrn.frame = s.jrn.frame ++ e.records.map (s.expForm false) ∧
       (early = true → t.raised 282 = true)) ∧
   (∀ s : State, s.coreOn = true → s.jrn.frame ≠ [] → 0 < s.expRecs →
     s.ownFits 99 s.expDest (fld (s.cfg A.jrnExpCtrl) 4 3) (s.expBytes (s.jrn.frame.take s.expRecs)) = true →
     (s.expFull = true → Completes (exec .exportFrameSend s) fun t =>
       t.jrn.frame = s.jrn.frame.drop s.expRecs ∧ t.jrn.frameSeq = s.jrn.frameSeq + 1 ∧
       t.reg A.jrnExpFrames = sat32 ((s.reg A.jrnExpFrames).toNat + 1)) ∧
     (s.jrn.frameAt + fld (s.cfg A.jrnExpPack) 16 10 * 1000 ≤ s.ns → Completes (exec .exportFlushTimeout s) fun t =>
       t.jrn.frame = s.jrn.frame.drop s.expRecs ∧ t.jrn.frameSeq = s.jrn.frameSeq + 1 ∧ t.jrn.frameAt = s.ns)))

/-- Capture rings (R405, R406): a frame without a descriptor is abandoned and counted; one that fits its ring's first buffer is written there byte by
byte and its descriptor returned, and no other byte of the ring region but the descriptor's changes; CAP_TAIL gives descriptors. Injection
(R408–R410, R412): words collect, END and SWAP close a packet that fits and drop another; a full FIFO overruns and its packet is lost; FLUSH between
items empties it; the oldest closed packet becomes an item; 1 ms without a write poisons the packet in progress. -/
def Obligations.RingsReachMemory : Prop :=
  ((∀ (r : Fin 8) (c : Copy) (l : List Copy) (s : State), s.coreOn = true → s.queue 99 r = c :: l → s.capOwned r = 0 →
     Completes (exec (.captureRingReceive r) s) fun t =>
       t.queue 99 r = l ∧ t.raised 286 = true ∧ t.reg (A.capNobuf r) = sat32 ((s.reg (A.capNobuf r)).toNat + 1) ∧ t.dram = s.dram) ∧
   (∀ (r : Fin 8) (c : Copy) (l : List Copy) (s : State), s.coreOn = true → s.queue 99 r = c :: l → s.capOwned r ≠ 0 →
     let h := fld (s.reg (A.capHead r)) 0 16
     let a := s.descAddr r h
     let buf := pair (s.dramWord a) (w32 (fld (s.dramWord (a + 4)) 0 3))
     let size := fld (s.dramWord (a + 8)) 0 16
     inRing a 16 = true → inRing buf size = true → buf % 64 = 0 → c.data.length ≤ size → (a + 16 ≤ buf ∨ buf + size ≤ a) →
     Completes (exec (.captureRingReceive r) s) fun t =>
       t.queue 99 r = l ∧ t.reg (A.capHead r) = w32 ((h + 1) % s.capLen r) ∧
       t.reg (A.capFrames r) = sat32 ((s.reg (A.capFrames r)).toNat + 1) ∧
       (∀ i < c.data.length, t.dramByte (buf + i) = c.data.getD i 0) ∧
       t.dramWord (a + 8) = w32 (c.data.length + 0x30000 + c.item.vertex % 128 * 2 ^ 24) ∧ t.dramWord (a + 12) = c.item.seq ∧
       ∀ b, (b < buf ∨ buf + c.data.length ≤ b) → (b < a + 8 ∨ a + 16 ≤ b) → t.dramByte b = s.dramByte b) ∧
   (∀ (f : Facet) (r : Fin 8) (v : W32) (s : State), s.granted f (A.capTail r) v = true →
     Completes (exec (.capTailWrite f r v) s) fun t =>
       t.resp = ⟨.ok, []⟩ ∧ fld (t.reg (A.capTail r)) 0 16 = fld v 0 16 ∧ t.reg (A.capHead r) = s.reg (A.capHead r) ∧ t.dram = s.dram)) ∧
  (∀ (k : Fin 4) (s : State),
     let i := s.injSt k
     let en := tst (s.reg (A.injCtrl k)) 0 = true
     (∀ (f : Facet) (v : W32), s.granted f (A.injData k) v = true → en → i.bad = false →
       Completes (exec (.injectData f k v) s) fun t =>
         t.resp = ⟨.ok, []⟩ ∧
         if s.injFree k = 0 then t.injSt k = { i with words := [], bad := true, lastWrite := s.now } ∧ t.raised 290 = true
         else t.injSt k = { i with words := i.words ++ [v], lastWrite := s.now }) ∧
     (∀ (f : Facet) (v : W32), s.granted f (A.injEnd k) v = true → en → s.pingPong k = false → i.flush = false → i.bad = false →
       Completes (exec (.injectEnd f k v) s) fun t =>
         t.resp = ⟨.ok, []⟩ ∧ (t.injSt k).words = [] ∧
         if s.injFits k (fld v 0 3) (packetOf i.words (fld v 0 3)) then (t.injSt k).closed = i.closed ++ [packetOf i.words (fld v 0 3)]
         else (t.injSt k).closed = i.closed ∧ t.reg (A.injDropped k) = sat32 ((s.reg (A.injDropped k)).toNat + 1)) ∧
     (∀ (f : Facet) (n : Fin 8), s.granted f (A.injCmd k) (w32 (2 + 4 * n.val)) = true → en → s.pingPong k = true → i.halves.length < 2 →
       i.flush = false → i.bad = false → s.injFits k n (packetOf i.words n) = true →
       Completes (exec (.injectSwap f k n) s) fun t =>
         t.resp = ⟨.ok, []⟩ ∧ (t.injSt k).words = [] ∧ (t.injSt k).halves = i.halves ++ [packetOf i.words n]) ∧
     (∀ f : Facet, s.granted f (A.injCmd k) 1 = true → i.words = [] → i.bad = false →
       Completes (exec (.injectFlush f k) s) fun t => t.resp = ⟨.ok, []⟩ ∧ t.injSt k = { i with closed := [], halves := [] }) ∧
     (∀ (p : List Byte) (l : List (List Byte)), s.coreOn = true → i.closed = p :: l →
       s.ownFits 96 (fld (s.reg (A.injDest k)) 0 7) (fld (s.reg (A.injDest k)) 8 3) p = true →
       Completes (exec (.injectAdmit k) s) fun t => (t.injSt k).closed = l ∧ s.nextId < t.nextId) ∧
     (s.coreOn = true → i.words ≠ [] ∨ i.bad = true → i.lastWrite + 1000000 ≤ s.now →
       Completes (exec (.injectIdleTimeout k) s) fun t =>
         (t.injSt k).words = [] ∧ (t.injSt k).bad = false ∧ tst (t.reg (A.injFlags k)) 1 = true ∧ t.raised 287 = true))

/-! ## Facets and control (chapter 09) -/

/-- Arrival of OCT frames (R427, R434–R438): one of no known version is counted and starts nothing; a new request of an open session starts with its own
place behind those that run; one whose reply is kept counts as a duplicate and executes nothing again. Results of a frame (R427, R431, R435): the
next operation follows; under STOP those after a failing one are not executed; the last result ends the frame, and its reply is kept in its session. -/
def Obligations.OctFramesRun : Prop :=
  (∀ (i : Item) (p : OctPeer) (l : List (Item × OctPeer)) (s : State), s.coreOn = true → s.octIn = (i, p) :: l →
     (octRead i.data = .unknown →
       Completes (exec .octFrame s) fun t =>
         t.octIn = l ∧ t.octRun = s.octRun ∧ t.reg A.sysOctMalformed = sat32 ((s.reg A.sysOctMalformed).toNat + 1)) ∧
     (∀ r : OctReq, octRead i.data = .request r → r.peer = false → r.opens = false → replyFrame p r.ops ≤ (s.bankOf i.epoch).maxFrame i.vertex →
       let k := i.facet * 4 + r.sid
       let c := s.session k
       let crc := w32 (crc32c (i.data.take r.size))
       c.isOpen = true → s.octRun.find? (fun x => decide (x.sess = k) && !x.stale && decide (x.seqNo = r.seqNo)) = none →
       (c.cache.find? (fun e => e.seq = r.seqNo) = none → serialBefore c.high r.seqNo = true →
         (s.octRun.filter (fun x => decide (x.sess = k))).length < 8 →
         Completes (exec .octFrame s) fun t =>
           t.octIn = l ∧ (t.session k).high = r.seqNo ∧ SMap.get none t.fleases i.facet = some s.now ∧
           ∃ x, t.octRun = s.octRun ++ [x] ∧ x.id = s.nextId ∧ x.sess = k ∧ x.ops = r.ops ∧ x.done = [] ∧ x.facet = i.facet ∧ x.seqNo = r.seqNo) ∧
       (∀ e, c.cache.find? (fun e => e.seq = r.seqNo) = some e → e.crc = crc →
         Completes (exec .octFrame s) fun t => t.octIn = l ∧ t.octRun = s.octRun ∧ (t.session k).dups = c.dups + 1))) ∧
  (∀ (x : OctExec) (r : OctRes) (s : State),
     (x.done.length + 1 < x.ops.length → x.stop = false ∨ r.rsp = .ok → opDone x r s = setOct { x with done := x.done ++ [r], held := false } s) ∧
     (x.stale = false → x.resets = false →
       (x.done.length + 1 = x.ops.length →
         (∀ y ∈ (opDone x r s).octRun, y.id ≠ x.id) ∧
         ((opDone x r s).session x.sess).cache = (s.session x.sess).cache ++ [⟨x.seqNo, x.crc, { x with done := x.done ++ [r] }.reply⟩]) ∧
       (x.done.length + 1 < x.ops.length → x.stop = true → r.rsp ≠ .ok →
         ((opDone x r s).session x.sess).cache = (s.session x.sess).cache ++ [⟨x.seqNo, x.crc,
           { x with done := x.done ++ [r] ++ List.replicate (x.ops.length - (x.done.length + 1)) (⟨.notExecuted, []⟩ : OctRes) }.reply⟩])))

/-- The operations of a frame (R428, R429): READ and WRITE access consecutive words as one facet's accesses do, MWRITE merges under its mask, LOCK and
UNLOCK act on the page's lease, TABLE and COMMIT wait for what they started; and the result of each is the next one of its frame, of which the last
one, and under STOP a failing one, ends it with its reply kept. Nothing but the frame, and the tags that a command of it took, tells the operation
from the accesses of its facet. -/
def Obligations.OctOperationsExecute : Prop :=
  ∀ (id : Nat) (x : OctExec) (o : OctOp) (s : State), s.coreOn = true → s.octRun.find? (fun y => y.id = id) = some x → x.next = some o →
    s.facetReset = none → x.held = false →
    let frameIs (u : State) (y : OctExec) (t : State) : Prop :=
      t.octRun = u.octRun.map (fun z => if z.id = id then y else z) ∧
      { t with octRun := u.octRun, tagFrames := u.tagFrames } = { u with pending := s.pending, now := s.now }
    let gives (u : State) (r : Rsp) (ws : List W32) (t : State) : Prop :=
      if x.done.length + 1 < x.ops.length ∧ (x.stop = false ∨ r = .ok) then frameIs u { x with done := x.done ++ [⟨r, ws⟩], held := false } t
      else
        (∀ y ∈ t.octRun, y.id ≠ id) ∧
        (x.stale = false → x.resets = false → ∃ e ∈ (t.session x.sess).cache, e.seq = x.seqNo ∧ e.crc = x.crc)
    (o.code = 1 → farWindow (o.addr + 4 * (o.n - 1)) = none →
      let p := readWords x.req o.addr o.n s
      p.2.2.facetReset = none → p.2.2.power.resetDue = false →
      Completes (exec (.octRead id) s) fun t =>
        match badSpan o.addr o.n with
        | some r => gives s r [] t
        | none => gives p.2.2 p.1 p.2.1 t) ∧
    (o.code = 2 → farWindow (o.addr + 4 * (o.n - 1)) = none →
      let p := writeWords x.req o.addr o.words s
      p.2.facetReset = none → p.2.power.resetDue = false →
      Completes (exec (.octWrite id) s) fun t =>
        match badSpan o.addr o.n with
        | some r => gives s r [] t
        | none => gives p.2 p.1 [] t) ∧
    (o.code = 3 → farWindow o.addr = none → farWindow (o.addr + 4 * (o.n - 1)) = none → badSpan o.addr 1 = none →
      let p := writeAny x.req o.addr ((s.oldWord x.req o.addr &&& ~~~(o.words.getD 0 0)) ||| (o.words.getD 1 0 &&& o.words.getD 0 0)) s
      p.2.facetReset = none → p.2.power.resetDue = false →
      Completes (exec (.octMwrite id) s) fun t => gives p.2 p.1 [] t) ∧
    (o.code = 4 → s.badLock x.req o.addr = none →
      let k := o.addr / 0x1000
      Completes (exec (.octLock id) s) fun t =>
        (s.lockOf k = none → o.flags % 2 = 0 → gives (grantLock k x.facet s) .ok [w32 (x.facet % 16 + 16)] t) ∧
        (∀ l, s.lockOf k = some l → l.holder ≠ x.facet →
          gives s (if o.flags % 2 = 1 then .lost else .locked) [w32 (l.holder % 16 + 16)] t) ∧
        (s.holds k x.facet = true → gives (grantLock k x.facet s) .ok [w32 (x.facet % 16 + 16)] t)) ∧
    (o.code = 5 → s.badLock x.req o.addr = none →
      let k := o.addr / 0x1000
      Completes (exec (.octUnlock id) s) fun t =>
        (s.lockOf k = none → gives s .ok [] t) ∧ (∀ l, s.lockOf k = some l → l.holder ≠ x.facet → gives s .locked [] t) ∧
        (s.holds k x.facet = true → gives (endLock k (if 2 ≤ o.flags then 3 else 0) s) .ok [] t)) ∧
    (o.code = 6 →
      let p := writeAny x.req o.addr (o.words.getD 0 0) s
      Completes (exec (.octTable id) s) fun t =>
        (opPort o.addr = none → gives s .badOp [] t) ∧
        (∀ n, opPort o.addr = some n → p.1 = .ok → p.2.cmd n ≠ none →
          frameIs p.2 { x with held := true } t)) ∧
    (o.code = 7 →
      let p := writeAny x.req o.addr (o.words.getD 0 0) s
      Completes (exec (.octCommit id) s) fun t =>
        (o.addr ≠ A.sysEpochCtrl → gives s .badOp [] t) ∧
        (o.addr = A.sysEpochCtrl → p.1 = .ok → p.2.epoch.st = .validating →
          frameIs p.2 { x with held := true } t))

/-- Facets (R426, R441–R444, R447): an ARP request for the module is answered; a lease that runs out and a write of SYS_FACET_RESET start a facet's
reset, which waits for the facet's copies in transmission and ends its frames, locks and sessions; EV_POP takes the oldest entry of the facet's own
ring. -/
def Obligations.FacetsAreReset : Prop :=
  (∀ (s u : State) (i : Item), s.mpOn = true → takeCtl isArp s = some (i, u) →
    Completes (exec .arpRequest s) fun t => t.ctlIn = u.ctlIn ∧ s.nextId < t.nextId) ∧
  (∀ (s : State) (f : Facet), s.coreOn = true → s.facetReset = none → s.leaseOut f = true →
    Completes (exec (.facetLeaseExpiry f) s) fun t => t.facetReset = some ⟨f, s.now, 0, none⟩ ∧ t.raised 1 = true) ∧
  (∀ (s : State) (f : Facet) (v : W32), s.granted f A.sysFacetReset v = true → tst v 8 = true → s.facetReset = none →
    (f = 0 ∨ fld v 0 4 = f → Completes (exec (.facetReset f v) s) fun t =>
      t.resp = ⟨.ok, []⟩ ∧ t.facetReset = some ⟨fld v 0 4, s.now, 0, none⟩) ∧
    (f ≠ 0 → fld v 0 4 ≠ f → Completes (exec (.facetReset f v) s) fun t => t.resp = ⟨.rights, []⟩ ∧ t.facetReset = none)) ∧
  (∀ (s : State) (r : FacetReset) (v : Nat) (f : TxFrame), s.coreOn = true → s.facetReset = some r → (s.out v).tx = some f →
    f.copy.item.facet = r.facet → (∀ x ∈ s.octRun, x.resets = false) →
    Completes (exec .facetResetComplete s) fun t =>
      (∃ q, t.facetReset = some q ∧ q.facet = r.facet ∧ r.discarded ≤ q.discarded) ∧ (t.out v).tx = some f) ∧
  (∀ (s : State) (r : FacetReset), s.coreOn = true → s.facetReset = some r → (∀ p ∈ s.flying, p.2.item.facet ≠ r.facet) →
    (∀ x ∈ s.octRun, x.resets = false) →
    Completes (exec .facetResetComplete s) fun t =>
      t.facetReset = none ∧ t.raised 0 = true ∧ (∀ k ∈ s.facetSessions r.facet, r.keep ≠ some k → (t.session k).isOpen = false ∧ (t.session k).cache = []) ∧
      SMap.get none t.fleases r.facet = none) ∧
  (∀ (s : State) (f : Facet) (v : W32) (e : EvEntry) (l : List EvEntry), f ≠ 0 → s.granted f A.sysEvPop v = true → tst v 0 = true →
    (s.ring f).entries = e :: l →
    Completes (exec (.eventPop f v) s) fun t =>
      t.resp = ⟨.ok, []⟩ ∧ ((s.ring f).ovf = [] → (t.ring f).entries = l) ∧ (t.ring f).last = e ∧ ∀ g, g ≠ f.val → t.ring g = s.ring g)

/-- Window bridges (R452–R456, R459): an access to an aperture is queued as a far operation and a far write is answered OK at once; the queue leaves as
one frame of the next SEQ with a tag; a frame without a reply is sent again; a reply answers its operations; a peer that is not UP fails them. Far
locks (R457, R458): a write of HELD asks for the far lock and an OK grants it with a near lease; 50 ms without an access renew it; HELD = 0, FORCE
of F0 and the end of the near lease end it with an UNLOCK to the far side. -/
def Obligations.WindowsReachFar : Prop :=
  (∀ (k : Fin 8) (s : State), s.coreOn = true →
     let w := s.window k
     (∀ (f : Facet) (off : Fin 4096) (v : W32), s.windowUp k = true → w.queue.length < 64 → s.mayUseWindow (s.plain f) k = true → 0x40 ≤ off.val →
       off.val % 4 = 0 →
       (Completes (exec (.windowAccess f k off true v) s) fun t =>
         t.resp = ⟨.ok, []⟩ ∧ (t.window k).queue = w.queue ++ [⟨2, s.farAddr k off, [v], .command, 0⟩]) ∧
       (Completes (exec (.windowAccess f k off false v) s) fun t =>
         t.resp = s.resp ∧ (t.window k).queue = w.queue ++ [⟨1, s.farAddr k off, [], .command, 1⟩])) ∧
     (∀ (f : Facet) (off : Fin 4096) (v : W32), s.windowRoom k = true → s.mayUseWindow (s.plain f) k = false → 0x40 ≤ off.val → off.val % 4 = 0 →
       exec (.windowAccess f k off true v) s = .next { s with resp := ⟨.rights, []⟩ } ∧
       exec (.windowAccess f k off false v) s = .next { s with resp := ⟨.rights, [0]⟩ }) ∧
     (w.flight = none → w.queue ≠ [] → s.windowUp k = true → s.tagOk (s.winFacet k) = true →
       Completes (exec (.farFrameSend k) s) fun t =>
         ∃ (n : Nat) (fr : FarFrame), 0 < n ∧ n ≤ 64 ∧ (t.window k).flight = some fr ∧ fr.ops = w.queue.take n ∧ (t.window k).queue = w.queue.drop n ∧
           fr.seqNo = (s.peer (s.winPeer k)).seqOut ∧ fr.tries = 1 ∧ fr.tag = s.nextTag ∧
           (t.peer (s.winPeer k)).seqOut = (s.peer (s.winPeer k)).seqOut + 1) ∧
     (∀ fr, w.flight = some fr → fr.sentAt + fld (s.cfg A.brgWRetry) 0 16 * 1000 ≤ s.now → s.windowUp k = true → fr.tries < fld (s.cfg A.brgWRetry) 16 4 →
       Completes (exec (.farRetry k) s) fun t =>
         (t.window k).flight = some { fr with tries := fr.tries + 1, sentAt := s.now } ∧
         t.reg (A.brgWinRetries k) = sat32 ((s.reg (A.brgWinRetries k)).toNat + 1)) ∧
     (∀ (fr : FarFrame) (o : FarOp) (ws : List W32), w.flight = some fr → fr.dropped = false → fr.ops = [o] → o.code = 1 → o.waiter = .command →
       ws.length = o.flags →
       Completes (exec (.farReply k [⟨0, ws⟩]) s) fun t => (t.window k).flight = none ∧ t.resp = ⟨.ok, o.words ++ ws⟩ ∧ SMap.get none t.tags fr.tag = none)) ∧
  (∀ (k : Fin 8) (s : State), s.coreOn = true → s.windowUp k = true →
     let w := s.window k
     let base := (s.reg (A.brgWinBase k)).toNat
     (∀ f : Facet, s.granted f (A.brgWinLock k) 1 = true → w.lock = .none →
       Completes (exec (.windowLock f k) s) fun t =>
         t.resp = ⟨.ok, []⟩ ∧ (t.window k).lock = .requesting ∧ (t.window k).queue = w.queue ++ [⟨4, base, [], .command, 0⟩]) ∧
     (∀ (fr : FarFrame) (o : FarOp), w.flight = some fr → fr.dropped = false → fr.ops = [o] → o.code = 4 → o.flags % 2 = 0 → w.lock = .requesting →
       Completes (exec (.farReply k [⟨0, []⟩]) s) fun t =>
         (t.window k).lock = .granted ∧ t.lockOf (518 + k.val) = some ⟨s.winFacet k, s.now + 100000000⟩) ∧
     (∀ f : Facet, s.granted f (A.brgWinLock k) 0 = true → w.lock = .granted →
       Completes (exec (.windowUnlock f k) s) fun t =>
         t.resp = ⟨.ok, []⟩ ∧ (t.window k).lock = .none ∧ t.lockOf (518 + k.val) = none ∧ (t.window k).queue = w.queue ++ [⟨5, base, [], .command, 0⟩]) ∧
     (s.granted 0 (A.brgWinLock k) 0x100 = true → w.lock = .granted →
       Completes (exec (.windowLockForce 0 k) s) fun t =>
         t.resp = ⟨.ok, []⟩ ∧ (t.window k).lock = .none ∧ t.lockOf (518 + k.val) = none ∧ (t.window k).queue = w.queue ++ [⟨5, base, [], .command, 2⟩]) ∧
     (w.lock = .granted → w.lastFar + 50000000 ≤ s.now →
       Completes (exec (.windowLockRenew k) s) fun t =>
         (t.window k).lastFar = s.now ∧ (t.window k).lock = .granted ∧ (t.window k).queue = w.queue ++ [⟨4, base, [], .command, 1⟩]) ∧
     (∀ l, s.lockOf (518 + k.val) = some l → l.deadline ≤ s.now → w.lock = .granted →
       Completes (exec (.windowLockExpiry k) s) fun t =>
         (t.window k).lock = .none ∧ t.lockOf (518 + k.val) = none ∧ t.raised 255 = true ∧
         (t.window k).queue = w.queue ++ [⟨5, base, [], .command, 2⟩]))

/-- Accord (R460–R466): the message goes out every 10 ms; a valid message of a rank makes it UP, a second claimant puts it into CONFLICT, 50 ms of
silence lose it, and its conflict ends when one claimant is gone; another group's message is counted; the digest follows a commit. -/
def Obligations.AccordKeepsPeers : Prop :=
  (∀ s : State, s.mpOn = true → s.accordOn = true → s.accord.lastSent + 10000000 ≤ s.now →
    Completes (exec .accordMessageSend s) fun t => t.accord.lastSent = s.now ∧ t.accord.msgSeq = (s.accord.msgSeq + 1) % 65536) ∧
  (∀ (s u : State) (i : Item), s.mpOn = true → s.accordOn = true → takeCtl isAccord s = some (i, u) →
    let d := i.data.drop (ctlOff i.data + 2)
    let r := byteAt d 2 % 8
    let id : BitVec 64 := BitVec.ofNat 64 (beAt d 8 8)
    byteAt d 1 = 1 → 56 ≤ d.length →
    (w32 (beAt d 4 4) ≠ s.cfg A.brgAccGroup → Completes (exec .accordMessageReceive s) fun t =>
      t.accord = s.accord ∧ t.ctlIn = u.ctlIn ∧ t.reg A.brgAccForeign = sat32 ((s.reg A.brgAccForeign).toNat + 1)) ∧
    (w32 (beAt d 4 4) = s.cfg A.brgAccGroup → r ≠ s.ownRank → (s.peer r).state ≠ 3 → ((s.peer r).state = 1 → id = (s.peer r).id) →
      Completes (exec .accordMessageReceive s) fun t =>
        (t.peer r).state = 1 ∧ (t.peer r).id = id ∧ (t.peer r).heard = s.now ∧ (t.peer r).epoch = w32 (beAt d 16 4) ∧
        (t.peer r).mac = slice i.data 6 6) ∧
    (w32 (beAt d 4 4) = s.cfg A.brgAccGroup → r ≠ s.ownRank → (s.peer r).state = 1 → id ≠ (s.peer r).id →
      Completes (exec .accordMessageReceive s) fun t =>
        (t.peer r).state = 3 ∧ (t.peer r).id = (s.peer r).id ∧ (t.peer r).rival = some (id, s.now) ∧ t.raised 252 = true)) ∧
  (∀ (s : State) (r : Fin 8), s.coreOn = true → (s.peer r).state = 1 → (s.peer r).heard + 50000000 ≤ s.now →
    Completes (exec (.peerLost r) s) fun t => (t.peer r).state = 2 ∧ t.raised 252 = true) ∧
  (∀ (s : State) (r : Fin 8) (id : BitVec 64) (at_ : Nat), s.coreOn = true → (s.peer r).state = 3 → (s.peer r).rival = some (id, at_) →
    at_ + 50000000 ≤ s.now → r.val ≠ s.ownRank →
    Completes (exec (.conflictClear r) s) fun t =>
      (t.peer r).rival = none ∧ (t.peer r).state = if s.now < (s.peer r).heard + 50000000 then 1 else 0) ∧
  (∀ s : State, s.mpOn = true → s.accord.digestDue = true →
    Completes (exec .digestRecompute s) fun t =>
      t.accord.digestDue = false ∧ t.accord.digestValid = (s.digestOf s.live).isSome ∧ ∀ d, s.digestOf s.live = some d → t.accord.digest = d)

/-! ## The cipher engine and the check units (chapter 10) -/

/-- Requests (R495, R496, R502): SUBMIT queues a descriptor with a new ID, answers a repeated one from the window and refuses one above 256; POP takes
the oldest completion and sets UNDERRUN where there is none. Completion (R497, R499, R481, R506): the oldest running request of a facet posts its
status and value and writes its output into the data area; a data error writes none; an unwrapped key newer than its role's is installed with event
256. -/
def Obligations.CipherRequestsRun : Prop :=
  (∀ (f n : Facet) (v : W32) (s : State), tst v 0 = true →
     let c := s.cipFacet n
     let d := (List.range 8).map (fun k => s.reg (A.cipRqD n k))
     (s.granted f (A.cipRqSubmit n) v = true →
       (256 ≤ c.queue.length + (s.cipRunning n).length + c.comps.length →
         Completes (exec (.cipSubmit f n v) s) fun t =>
           t.resp = ⟨.ok, []⟩ ∧ t.cipFacet n = c ∧ t.reg (A.cipRqSubmitResult n) = 1 ∧ t.raised 263 = true) ∧
       (c.queue.length + (s.cipRunning n).length + c.comps.length < 256 → c.window.find? (fun p => p.1 = d.getD 0 0) = none →
         Completes (exec (.cipSubmit f n v) s) fun t =>
           t.resp = ⟨.ok, []⟩ ∧ (t.cipFacet n).queue = c.queue ++ [d] ∧ t.reg (A.cipRqSubmitResult n) = 0 ∧ t.cip.running = s.cip.running) ∧
       (∀ e, c.queue.length + (s.cipRunning n).length + c.comps.length < 256 → c.window.find? (fun p => p.1 = d.getD 0 0) = some (d.getD 0 0, some e) →
         Completes (exec (.cipSubmit f n v) s) fun t =>
           t.resp = ⟨.ok, []⟩ ∧ (t.cipFacet n).queue = c.queue ∧ (t.cipFacet n).comps = c.comps ++ [{ e with w1 := setBit e.w1 9 true }] ∧
           t.reg (A.cipRqSubmitResult n) = 2 ∧ t.raised 262 = true)) ∧
     (s.granted f (A.cipCqPop n) v = true →
       Completes (exec (.cqPop f n v) s) fun t =>
         t.resp = ⟨.ok, []⟩ ∧
         match c.comps with
         | [] => t.cipFacet n = { c with under := true }
         | e :: l => t.cipFacet n = { c with comps := l, last := e, under := false })) ∧
  (∀ (n : Facet) (r : CipRun) (l : List CipRun) (s : State), s.coreOn = true → s.cipRunning n = r :: l → r.unit = none →
     (r.blob = none →
       (∀ o, r.out = some o → fld (r.desc.getD 2 0) 16 16 + o.length ≤ 65536 →
         Completes (exec (.cipComplete n false) s) fun t =>
           t.area n (fld (r.desc.getD 2 0) 16 16) o.length = o ∧ (∀ y ∈ t.cip.running, y.id ≠ r.id) ∧ SMap.get none t.tags r.tag = none ∧
           ∃ e, (t.cipFacet n).comps = (s.cipFacet n).comps ++ [e] ∧ e.w0 = r.desc.getD 0 0 ∧ fld e.w1 0 8 = r.status % 256) ∧
       (Completes (exec (.cipComplete n true) s) fun t =>
         t.cip.data = s.cip.data ∧
         ∃ e, (t.cipFacet n).comps = (s.cipFacet n).comps ++ [e] ∧ e.w0 = r.desc.getD 0 0 ∧ fld e.w1 0 8 = 0x0F)) ∧
     (∀ b, r.blob = some b → s.cip.running = [r] → r.out = none → s.keyOf b.slot b.role = none → s.keyOf b.slot (1 - b.role) = none →
       Completes (exec (.cipComplete n false) s) fun t =>
         t.keyOf b.slot b.role = some b.key ∧ t.raised 256 = true ∧ ∃ e, (t.cipFacet n).comps = (s.cipFacet n).comps ++ [e] ∧ fld e.w1 0 8 = 0))

/-- The operations of R488 on the head request of the facet whose turn it is, with its tag (R497, R498): the result that the request's completion will
post is that of AES-GCM, AES-CMAC and AES-XTS under the key of the slot (R484, R485, R490–R493), an unwrapped blob (R479) or a check value (R511). -/
def Obligations.CipherOperationsRun : Prop :=
  ∀ (n : Facet) (d : List W32) (l : List (List W32)) (s : State), s.coreOn = true → (s.cipFacet n).queue = d :: l → s.cipTurn = some n.val →
    let op := descOp d
    let slot := fld (d.getD 1 0) 4 9
    let src := fld (d.getD 2 0) 0 16
    let dst := fld (d.getD 2 0) 16 16
    let len := fld (d.getD 3 0) 0 15
    let aadLen := fld (d.getD 3 0) 16 15
    let tl := (tagLenOf (fld (d.getD 1 0) 24 4)).getD 16
    let aad := s.area n src aadLen
    let data := s.area n (src + aadLen) len
    let tag := s.area n (src + aadLen + len) tl
    let sectorNo := (d.getD 4 0).toNat * 2 ^ 32 + (d.getD 5 0).toNat
    let sector := if tst (d.getD 1 0) 28 then 4096 else 512
    let nonce := beBytes 4 (d.getD 4 0).toNat ++ beBytes 4 (d.getD 5 0).toNat ++ beBytes 4 (d.getD 6 0).toNat
    let inLen := len + aadLen + (if op = 2 ∨ op = 4 then tl else 0)
    let outLen := if op = 1 then len + tl else if op = 2 ∨ op = 5 ∨ op = 6 then len else if op = 3 then tl else 0
    let runs (P : CipRun → State → Prop) (t : State) : Prop :=
      (t.cipFacet n).queue = l ∧ t.cip.turn = n.val ∧ SMap.get none t.tags s.nextTag = some n.val ∧ ∃ r, t.cip.running = s.cip.running ++ [r] ∧ r.facet = n.val ∧ r.tag = s.nextTag ∧ r.desc = d ∧ P r t
    descOk d = true → len ≤ 16384 → aadLen ≤ 16384 → rangesOk src inLen dst outLen = true →
    (op ≤ 6 → s.mayUse n slot = true → (tagLenOf (fld (d.getD 1 0) 24 4)).isSome = true → ∀ k, s.keyOf slot 0 = some k → s.keyOf slot 1 = none →
      (op = 1 → k.usage / 2 % 2 = 1 → k.exhausted = false → k.count ≠ 0xFFFFFFFFFFFFFFFF →
        let ct := gcmEnc k.key (beBytes 4 k.fixed.toNat ++ beBytes 8 k.count.toNat) aad data
        Completes (exec (.gcmEnc n) s) (runs fun r t =>
          r.status = 0 ∧ r.out = some (ct.1 ++ ct.2.take tl) ∧ r.value = k.count ∧ t.keyOf slot 0 = some { k with count := k.count + 1, exhausted := false })) ∧
      (op = 2 → k.usage / 2 % 2 = 1 →
        Completes (exec (.gcmDec n) s) (runs fun r _ =>
          if (gcmTag k.key nonce aad data).take tag.length = tag then r.status = 0 ∧ (0 < len → r.out = some (gctr k.key nonce 2 data))
          else r.status = 1 ∧ r.out = none)) ∧
      (op = 3 → k.usage / 4 % 2 = 1 → Completes (exec (.cmacGen n) s) (runs fun r _ => r.status = 0 ∧ r.out = some ((cmac k.key data).take tl))) ∧
      (op = 4 → k.usage / 4 % 2 = 1 →
        Completes (exec (.cmacVer n) s) (runs fun r _ => r.status = (if (cmac k.key data).take tag.length = tag then 0 else 1) ∧ r.out = none)) ∧
      (op = 5 → k.usage / 8 % 2 = 1 → 16 ≤ len → len % sector = 0 ∨ 16 ≤ len % sector →
        Completes (exec (.xtsEnc n) s) (runs fun r _ => r.status = 0 ∧ r.out = some (xts false k.key sectorNo sector data))) ∧
      (op = 6 → k.usage / 8 % 2 = 1 → 16 ≤ len → len % sector = 0 ∨ 16 ≤ len % sector →
        Completes (exec (.xtsDec n) s) (runs fun r _ => r.status = 0 ∧ r.out = some (xts true k.key sectorNo sector data)))) ∧
    (op = 7 → len = 48 ∨ len = 64 ∨ len = 96 →
      Completes (exec (.cipUnwrap n) s) (runs fun r t =>
        t.cip.keys = s.cip.keys ∧
        match runUnwrap n slot (tst (d.getD 1 0) 13) (fld (d.getD 1 0) 14 9) data s with
        | .ok (role, k) => r.status = 0 ∧ r.keyUsed = role ∧ r.blob = some ⟨fld (d.getD 1 0) 14 9, bit (tst (d.getD 1 0) 23), k⟩
        | .error e => r.status = e ∧ r.blob = none)) ∧
    (let u := fld (d.getD 1 0) 29 3
      let p := s.live.chk u
      op = 8 → (n = 0 ∨ p.facet = n) → (s.unit u).inUse = false → (s.unit u).scanning = none → p.cmp = false →
      let run := p.feed (if tst (d.getD 7 0) 0 then p.init else s.chkRun u) data
      Completes (exec (.cipCheck n) s) (runs fun r t =>
        r.status = 0 ∧ r.run = some run ∧ r.unit = some u ∧ r.value = BitVec.ofNat 64 (if tst (d.getD 7 0) 1 then p.final run else run) ∧
        (t.unit u).inUse = true))

/-- Key commands (R487): PROMOTE makes NEXT the CURRENT key, ERASE_NEXT and ERASE_ALL erase, each by a facet that loads the slot; another is shown
RIGHTS and changes no key. Pipelines and check units (R508, R511, R513): a pipeline that fails its test or its parity leaves for a spare, and its
requests restart on another; RUN takes a written pair while its unit is free; a scan starts on a free unit and ends with the value of the range. -/
def Obligations.KeysPipelinesAndScans : Prop :=
  (∀ (f n : Facet) (s : State),
     let slot := fld (s.reg (A.cipKsSel n)) 0 9
     (s.granted f (A.cipKsCmd n) 1 = true →
       Completes (exec (.promote f n) s) fun t =>
         t.resp = ⟨.ok, []⟩ ∧
         (s.mayLoad n slot = false → t.cip.keys = s.cip.keys ∧ t.reg (A.cipKsCmdResult n) = 4) ∧
         (∀ k, s.mayLoad n slot = true → s.keyOf slot 1 = some k →
           t.keyOf slot 0 = some { k with hits := 0 } ∧ t.keyOf slot 1 = none ∧ t.reg (A.cipKsCmdResult n) = 0)) ∧
     (s.granted f (A.cipKsCmd n) 2 = true → s.mayLoad n slot = true →
       Completes (exec (.eraseNext f n) s) fun t =>
         t.resp = ⟨.ok, []⟩ ∧ t.keyOf slot 1 = none ∧ t.keyOf slot 0 = s.keyOf slot 0 ∧ t.reg (A.cipKsCmdResult n) = 0) ∧
     (s.granted f (A.cipKsCmd n) 3 = true → s.mayLoad n slot = true →
       Completes (exec (.eraseAll f n) s) fun t =>
         t.resp = ⟨.ok, []⟩ ∧ t.keyOf slot 1 = none ∧ t.keyOf slot 0 = none ∧
         ∀ x role, x < 512 → x ≠ slot → role < 2 → t.keyOf x role = s.keyOf x role)) ∧
  ((∀ (p : Fin 6) (q : Nat) (m : List Nat) (s : State), s.coreOn = true → p.val ∈ s.cip.inService → s.cip.spares = q :: m → q ≠ p.val →
     let moved (t : State) : Prop :=
       t.cip.inService = dropFrom s.cip.inService p ++ [q] ∧ t.cip.spares = m ∧ (∀ r ∈ t.cip.running, r.pipe ≠ p.val) ∧ t.raised 264 = true ∧
       t.raised 265 = true
     (SMap.get 0 s.cip.katAt p + fld (s.reg A.cipKatPeriod) 0 16 * 1000000 ≤ s.now → Completes (exec (.knownAnswerTest p false) s) moved) ∧
     Completes (exec (.pipelineParityFault p) s) moved) ∧
   (∀ (p : Fin 6) (s : State), s.coreOn = true → p.val ∈ s.cip.inService ++ s.cip.spares →
     SMap.get 0 s.cip.katAt p + fld (s.reg A.cipKatPeriod) 0 16 * 1000000 ≤ s.now →
     Completes (exec (.knownAnswerTest p true) s) fun t =>
       t.cip.inService = s.cip.inService ∧ t.cip.spares = s.cip.spares ∧ t.cip.running = s.cip.running ∧ SMap.get 0 t.cip.katAt p = s.now) ∧
   (∀ (f : Facet) (u : Fin 8) (v : W32) (s : State), (s.unit u).inUse = false → (s.unit u).scanning = none →
     (s.granted f (A.chkURunLo u) v = true →
       Completes (exec (.checkRunWrite f u false v) s) fun t =>
         t.resp = ⟨.ok, []⟩ ∧ SMap.get none t.loHeld (halfKey (A.chkURunLo u) f) = some v ∧ t.chkRun u = s.chkRun u) ∧
     (s.granted f (A.chkURunHi u) v = true → SMap.get none s.loHeld (halfKey (A.chkURunLo u) f) = none → (s.live.chk u).width ≤ 64 →
       Completes (exec (.checkRunWrite f u true v) s) fun t =>
         t.resp = ⟨.ok, []⟩ ∧ t.chkRun u = pair (s.reg (A.chkURunLo u)) v % 2 ^ (s.live.chk u).width)) ∧
   (∀ (f : Facet) (u : Fin 8) (v : W32) (s : State), s.granted f (A.chkUScanCmd u) v = true → tst v 8 = true →
     let addr := pair (s.reg (A.chkUScanAddrLo u)) (s.reg (A.chkUScanAddrHi u)) % 2 ^ 35
     let len := (s.reg (A.chkUScanLen u)).toNat
     ((s.unit u).scanning ≠ none → Completes (exec (.checkScan f u v) s) fun t => t.resp = ⟨.ok, []⟩ ∧ t.unit u = { s.unit u with refused := true }) ∧
     ((s.unit u).inUse = false → (s.unit u).scanning = none → fld v 0 2 = 0 → addr + len ≤ 65536 → tst v 2 = false →
       Completes (exec (.checkScan f u v) s) fun t =>
         t.resp = ⟨.ok, []⟩ ∧ t.unit u = { s.unit u with scanning := some (0, addr, len, tst v 3), refused := false } ∧ t.chkRun u = s.chkRun u) ∧
     (f ≠ 0 → (s.unit u).inUse = false → (s.unit u).scanning = none → fld v 0 2 = 1 ∨ fld v 0 2 = 2 →
       Completes (exec (.checkScan f u v) s) fun t => t.resp = ⟨.ok, []⟩ ∧ t.unit u = { s.unit u with result := 6 })) ∧
   (∀ (u : Fin 8) (addr len : Nat) (fin : Bool) (s : State), s.coreOn = true → (s.unit u).scanning = some (0, addr, len, fin) →
     (s.live.chk u).cmp = false →
     let p := s.live.chk u
     let run := p.feed (s.chkRun u) (s.area p.facet addr len)
     Completes (exec (.scanComplete u) s) fun t =>
       (t.unit u).scanning = none ∧ (t.unit u).result = 0 ∧ t.reg (A.chkUScanDone u) = w32 len ∧ t.reg (A.chkURunLo u) = loW run ∧
       t.reg (A.chkUResultLo u) = loW (if fin then p.final run else run) ∧ t.reg (A.chkUResultHi u) = hiW (if fin then p.final run else run) ∧
       t.raised 270 = true))

/-! ## Sleep, wake and the perimeter (chapter 11) -/

/-- Power modes (R521, R522, R524, R534, R542): F0's RUN wakes what sleeps, DOZE puts the DOZE set to sleep, SLEEP starts a round and is refused while
one is requested or without supply B, CANCEL withdraws it; a partner's answer or its silence ends a TC10 request; a facet keeps by its own bit. The
reset of a facet clears its keep bit and no other (R542). The entry to SLEEP (R533): notices go out and ingress closes; when the queues have drained
every vertex is put to sleep; at the point of no return the always-on domain keeps the locus and everything that waited is gone. -/
def Obligations.PowerModesChange : Prop :=
  ((∀ s : State, s.granted 0 A.wakCmd 1 = true → s.wake.mode = .doze → s.wake.phase ≠ .dark →
     Completes (exec (.wakRun 0) s) fun t => t.resp = ⟨.ok, []⟩ ∧ t.wake.mode = .run ∧ t.wake.asleep = [] ∧ t.raised 292 = true) ∧
   (∀ s : State, s.granted 0 A.wakCmd 2 = true → s.wake.mode = .run → s.wake.phase ≠ .dark →
     Completes (exec (.wakDoze 0) s) fun t =>
       t.resp = ⟨.ok, []⟩ ∧ t.wake.mode = .doze ∧ ∀ v ∈ s.dozeSet, v ∈ t.wake.asleep ∨ (SMap.get none t.wake.tc10 v).isSome) ∧
   (∀ s : State, s.granted 0 A.wakCmd 3 = true →
     (s.wake.req = false → s.power.bOk = true → s.mp = .running → Completes (exec (.wakSleep 0) s) fun t =>
       t.resp = ⟨.ok, []⟩ ∧ t.wake.req = true ∧ t.wake.prev = s.wake.mode ∧ t.reg A.wakRound = s.reg A.wakRound + 1) ∧
     (s.wake.req = true → Completes (exec (.wakSleep 0) s) fun t => t.wake = { s.wake with result := 6 } ∧ t.raised 299 = true) ∧
     (s.wake.req = false → s.power.bOk = false →
       Completes (exec (.wakSleep 0) s) fun t => t.wake = { s.wake with result := 1 } ∧ t.raised 299 = true)) ∧
   (∀ s : State, s.granted 0 A.wakCmd 0x10 = true → s.wake.req = true →
     Completes (exec (.wakCancel 0) s) fun t =>
       t.resp = ⟨.ok, []⟩ ∧ t.wake.req = false ∧ t.wake.phase = .none ∧ t.wake.token = none ∧
       (s.entering = true → t.wake.mode = s.wake.prev ∧ t.wake.closed = false ∧ t.raised 301 = true)) ∧
   (∀ (v : EthV) (at_ : Nat) (s : State), 8 ≤ v.val → s.on = true → SMap.get none s.wake.tc10 v = some at_ →
     (Completes (exec (.tc10SleepAnswer v true) s) fun t => v.val ∈ t.wake.asleep ∧ SMap.get none t.wake.tc10 v = none ∧ (t.ethSt v).linkUp = false) ∧
     (Completes (exec (.tc10SleepAnswer v false) s) fun t =>
       t.wake.asleep = s.wake.asleep ∧ SMap.get none t.wake.tc10 v = none ∧ t.raised 298 = true) ∧
     (at_ + 16000000 ≤ s.now → Completes (exec (.tc10SleepTimeout v) s) fun t =>
       t.wake.asleep = s.wake.asleep ∧ SMap.get none t.wake.tc10 v = none ∧ t.raised 298 = true)) ∧
   (∀ (f : Facet) (v : W32) (s : State), f ≠ 0 → s.granted f A.wakFacetKeep v = true → s.entering = false →
     Completes (exec (.facetKeepWrite f v) s) fun t =>
       t.resp = ⟨.ok, []⟩ ∧ t.wake = s.wake ∧ ∀ g < 32, tst (t.reg A.wakFacetKeep) g = if g = f.val then tst v f else tst (s.reg A.wakFacetKeep) g)) ∧
  (∀ (s : State) (r : FacetReset), s.coreOn = true → s.facetReset = some r → r.facet < 16 →
     (∀ p ∈ s.flying, p.2.item.facet ≠ r.facet) →
     Completes (exec .facetResetComplete s) fun t => ∀ g < 32, tst (t.reg A.wakFacetKeep) g = (tst (s.reg A.wakFacetKeep) g && decide (g ≠ r.facet))) ∧
  (∀ s : State,
     (s.mpOn = true → s.wake.req = true → s.wake.closed = false → s.wake.phase = .preparing →
       Completes (exec .sleepEntry s) fun t => t.wake.closed = true ∧ t.wake.phase = .preparing ∧ t.wake.drainAt = s.now) ∧
     (s.on = true → s.wake.phase = .preparing → s.wake.closed = true →
       (∀ q ∈ s.queues, q.2 = []) ∨ s.wake.drainAt + fld (s.cfg A.wakDrainMax) 0 7 * 1000000 ≤ s.now →
       Completes (exec .sleepDrainEnd s) fun t =>
         t.wake.phase = .dark ∧ t.wake.groupAt = s.now ∧ t.wake.before = s.wake.asleep ∧ ∀ v < 84, v ∈ t.wake.asleep ∨ (SMap.get none t.wake.tc10 v).isSome) ∧
     (s.on = true → s.wake.phase = .dark → s.wake.tc10 = [] ∨ s.wake.groupAt + 10000000 ≤ s.now →
       Completes (exec .sleepPointOfNoReturn s) fun t =>
         t.wake.mode = .sleep ∧ t.locus = s.locus ∧ t.epoch.live = s.epoch.live ∧ t.wake.entryLocus = s.locus ∧ t.wake.asleep = List.range 84 ∧
         t.queues = [] ∧ t.ctxs = [] ∧ t.dram = [] ∧ t.reg A.wakSleeps = s.reg A.wakSleeps ∧ t.fw.fuses = s.fw.fuses))

/-- Rounds of the perimeter ring (R529–R531, R536, R539): a round takes the next number and, without a keeper, prepares the entry; a matching ANSWER is
recorded, anything else rejected; a silent member is asked twice and then ABSENT; a group that keeps for 1 s counts as keeping. -/
def Obligations.PerimeterRounds : Prop :=
  ∀ s : State, s.mpOn = true →
    (s.wake.req = true → s.wake.phase = .waitRound → s.wake.nextRound ≤ s.now →
      Completes (exec .roundStart s) fun t =>
        t.reg A.wakRound = s.reg A.wakRound + 1 ∧
        ((∀ m < 32, s.pmVisits m = false) → fld (s.reg A.wakFacetKeep) 0 16 = 0 → tst (s.cfg A.wakCtrl) 2 = false →
          t.wake.phase = .preparing ∧ t.wake.hadKeeper = false ∧ t.raised 293 = true)) ∧
    (∀ (u : State) (i : Item), takeCtl isPerimeter s = some (i, u) → s.wake.token = none →
      Completes (exec .perimeterAnswer s) fun t =>
        t.ctlIn = u.ctlIn ∧ t.reg A.wakPmRejects = sat32 ((s.reg A.wakPmRejects).toNat + 1) ∧ t.raised 302 = true) ∧
    (∀ (u : State) (i : Item) (k : Token), takeCtl isPerimeter s = some (i, u) → s.wake.token = some k →
      let d := i.data.drop (ctlOff i.data + 2)
      byteAt d 1 = 1 → byteAt d 2 = 2 → byteAt d 3 = k.member → k.member < 32 → beAt d 4 4 = (s.reg A.wakRound).toNat →
      i.vertex = s.pmVertex k.member → slice i.data 6 6 = s.pmMac k.member →
      Completes (exec .perimeterAnswer s) fun t =>
        (t.member k.member).status = (if byteAt d 24 % 2 = 1 then 1 else 2) ∧ (t.member k.member).reason = byteAt d 25 ∧
        (t.member k.member).holdMs = beAt d 26 2) ∧
    (∀ k : Token, s.wake.token = some k → k.sentAt + fld (s.cfg A.wakPmTimeout) 0 8 * 1000000 ≤ s.now → k.member < 32 →
      (k.tries < 2 → Completes (exec .perimeterTimeout s) fun t => t.wake.token = some ⟨k.member, 2, s.now⟩) ∧
      (2 ≤ k.tries → Completes (exec .perimeterTimeout s) fun t => (t.member k.member).status = 3 ∧ t.raised 295 = true)) ∧
    (s.wake.phase = .groupWait → s.wake.groupAt + 1000000000 ≤ s.now → s.peersQuiet = false → s.wake.req = true →
      Completes (exec .groupWaitTimeout s) fun t =>
        t.wake.phase = .waitRound ∧ t.wake.hadKeeper = true ∧ t.reg A.wakKeepersOther = w32 (2 ^ 24) ∧ t.wake.result = 2)

/-- Wake sources (R527, R543, R544): in SLEEP the first one is latched with its kind and index and a later one is not; in DOZE a MODULE source takes the
module to RUN. The always-on domain and the wake start (R545, R547): the oscillator's measure is kept; a latched wake starts the module with its
cause, the count of sleeps, and the locus of the entry plus the lower bound of the sleep; a line output releases after its WIDTH. -/
def Obligations.WakesStartTheModule : Prop :=
  (∀ s : State,
     let latches (kind idx pat : Nat) (t : State) : Prop :=
       (s.wake.mode = .sleep → s.wake.latched = none → t.wake.latched = some (kind, idx, pat)) ∧
       (s.wake.mode = .sleep → s.wake.latched ≠ none → t.wake = s.wake) ∧
       (s.wake.mode = .doze → s.on = true → s.entering = false → t.wake.mode = .run ∧ t.wake.asleep = [] ∧ t.raised 294 = true)
     s.aonOn = true →
     (∀ (k : Fin 4) (width : Nat), tst (s.cfg (A.wakPin k)) 0 = true → tst (s.cfg (A.wakPin k)) 1 = true → tst (s.cfg (A.wakPin k)) 12 = true →
       fld (s.cfg (A.wakPin k)) 4 8 * 10000 ≤ width → Completes (exec (.wakePin k true width) s) (latches 1 k 0)) ∧
     (∀ ch : CanCh, s.wake.asleep.contains (48 + ch.val) = true → tst (s.cfg (A.wakCanCtrl ch)) 10 = true →
       Completes (exec (.canWakeUpPattern ch) s) (latches 4 (48 + ch.val) 0)) ∧
     (∀ (ch : CanCh) (m : CanMsg) (d : Int) (p : Nat), s.wake.asleep.contains (48 + ch.val) = true → tst (s.cfg (A.wakCanCtrl ch)) 0 = true →
       tst (s.cfg (A.wakCanCtrl ch)) 1 = false → p < 4 → s.patMatches ch p m = true → (∀ q < p, s.patMatches ch q m = false) →
       tst (s.cfg (A.wakCanPatCtrl ch p)) 6 = true →
       Completes (exec (.wakeFrameDecode ch (.good m d)) s) (latches 2 (48 + ch.val) p)) ∧
     (∀ (j : LinCh) (us : Nat), s.wake.asleep.contains (72 + j.val) = true → tst (s.cfg A.wakLinCtrl) j = true → 150 ≤ us →
       Completes (exec (.linWake j us) s) (latches 5 (72 + j.val) 0)) ∧
     (∀ v : EthV, 8 ≤ v.val → v.val < 40 → s.wake.asleep.contains v.val = true → tst (s.cfg (A.ethPhyCtrl v)) 12 = true →
       Completes (exec (.tc10Wake v) s) (latches 6 v 0)) ∧
     (s.wake.mode = .sleep → tst (s.cfg A.wakCtrl) 1 = true → s.wake.entryAon + (s.cfg A.wakTimer).toNat * 1000000000 ≤ s.now →
       Completes (exec .wakeTimer s) (latches 7 0 0)) ∧
     Completes (exec .serviceWake s) (latches 9 84 0)) ∧
  (∀ s : State,
     (∀ c : Int, s.on = true → s.wake.mode = .run → s.wake.measuredAt + 1000000000 ≤ s.now →
       Completes (exec (.aonMeasure c) s) fun t => t.wake = { s.wake with corr := c, measuredAt := s.now } ∧ t.regs = s.regs) ∧
     (∀ (elapsed kind idx pat : Nat), s.wake.mode = .sleep → s.wake.latched = some (kind, idx, pat) →
       Completes (exec (.wakeStart elapsed) s) fun t =>
         t.wake.mode = .run ∧ t.wake.latched = none ∧ t.reg A.wakCause = w32 (kind + idx * 2 ^ 4 + pat * 2 ^ 12) ∧
         t.reg A.wakSleeps = sat32 ((s.reg A.wakSleeps).toNat + 1) ∧
         t.locus = s.wake.entryLocus + lowerBound elapsed (s.wake.trimmedFor + s.wake.covered s.now) * 65536 ∧
         t.loc.st = .holdover ∧ t.mp = .boot ∧ t.fw.step = .rom ∧ t.epoch.live = s.epoch.live) ∧
     (∀ elapsed : Nat, s.wake.mode = .sleep → s.wake.latched = none → exec (.wakeStart elapsed) s = .next s) ∧
     (∀ e c : Nat, lowerBound e c ≤ e) ∧
     (∀ (k : Fin 4) (due : Nat) (high : Bool), s.aonOn = true → SMap.get none s.wake.wlo k = some (due, high) → due ≤ s.now →
       Completes (exec (.wakeLineOutputRelease k) s) fun t =>
         SMap.get none t.wake.wlo k = none ∧ ∀ x, x ≠ k.val → SMap.get none t.wake.wlo x = SMap.get none s.wake.wlo x))

/-! ## Power, clocks, pace and resets (chapter 12) -/

/-- Supplies (R552–R560): the loss of the last one begins the holdup, its expiry sheds VCORE and stops the processor; a supply that comes back ends
both, and the core resumes with a restart of the processor; the end of the reserve, a rail fault and the critical temperature collapse the module.
Clocks (R562–R565): an accepted crystal locks the PLLs; one that is not accepted in time is started again; missing cycles and a PLL that unlocks
take it back, each with its event and fault record. -/
def Obligations.SuppliesAndClocks : Prop :=
  (∀ s : State,
     let p := s.power
     (p.aOk = true → p.bOk = false → p.collapsed = false → s.wake.mode = .run →
       Completes (exec (.supplyLost false) s) fun t =>
         t.power.aOk = false ∧ t.power.holdup = true ∧ t.power.lostAt = s.now ∧ t.raised 32 = true ∧ t.raised 35 = true ∧
         fld (t.reg A.pwrHoldups) 0 16 = min (fld (s.reg A.pwrHoldups) 0 16 + 1) 65535) ∧
     (p.aOk = true → p.bOk = true → p.collapsed = false → s.wake.mode = .run →
       Completes (exec (.supplyLost true) s) fun t =>
         t.power.bOk = false ∧ t.power.aCarry = true ∧ t.power.bCarry = false ∧ t.power.holdup = p.holdup ∧ t.raised 33 = true) ∧
     (p.bOk = false → p.aOk = false → p.holdup = true → p.shed = false →
       Completes (exec (.supplyInRange true true) s) fun t => t.power.bOk = true ∧ t.power.bCarry = true ∧ t.power.holdup = false ∧ t.raised 34 = true) ∧
     (∀ below : Bool, p.bOk = true → exec (.supplyBCrank below) s = .next { s with power := { p with bCrank := below } }) ∧
     (p.holdup = true → p.shed = false → s.holdupSpent = true →
       Completes (exec .holdupExpiry s) fun t => t.power.shed = true ∧ t.raised 36 = true ∧ t.mp = if s.mp = .halted then .halted else .stopped) ∧
     (p.shed = true → p.aOk = true ∨ p.bOk = true →
       Completes (exec .coreResume s) fun t =>
         t.power.shed = false ∧ t.power.holdup = false ∧ t.mpRestarts = s.mpRestarts ∧ t.mp = if s.mp = .halted then .halted else .restarting) ∧
     (let dead : State → Prop := fun t =>
         t.power.collapsed = true ∧ t.wake.mode = .off ∧ t.on = false ∧ t.fw.fuses = s.fw.fuses ∧ t.jrn = State.reset.jrn;
       (p.shed = true → p.aOk = false → p.bOk = false → p.lostAt + 5000000 ≤ s.now → Completes (exec .reserveExpiry s) dead) ∧
       (∀ rail : Fin 8, s.on = true → rail ≠ 0 → Completes (exec (.railFault rail) s) dead) ∧
       (p.collapsed = false → Completes (exec .baseplateCritical s) fun t => dead t ∧ t.power.thermal = true)) ∧
     (s.on = true → p.over125 = false → Completes (exec .baseplateOvertemp s) fun t => t.power.over125 = true ∧ t.raised 42 = true) ∧
     exec .baseplateCooled s = .next { s with power := { p with over125 := false, thermal := false } }) ∧
  (∀ s : State, s.on = true →
     let p := s.power
     (p.xoOk = false → exec .xoAccepted s =
       .next { s with power := { p with xoOk := true, xoLost := false, ircBoot := false, plls := [0, 1, 2, 3, 4, 5] } }) ∧
     (p.xoOk = false → p.xoDue ≤ s.now →
       Completes (exec .xoRestart s) fun t =>
         t.power = { p with xoDue := s.now + 100000000, planeReq := t.power.planeReq, reqClear := t.power.reqClear } ∧ t.raised 39 = true ∧
         t.reg A.clkXoStarts = sat32 ((s.reg A.clkXoStarts).toNat + 1)) ∧
     (p.xoOk = true →
       Completes (exec .xoLost s) fun t =>
         t.power.xoOk = false ∧ t.power.xoLost = true ∧ t.power.xoDue = s.now + 50000000 ∧ t.raised 38 = true ∧
         t.reg A.clkXoLosses = sat32 ((s.reg A.clkXoLosses).toNat + 1)) ∧
     (∀ k : Fin 6, p.xoOk = true → k.val ∈ p.plls →
       Completes (exec (.pllUnlock k) s) fun t => t.power.plls = dropFrom p.plls k ∧ t.power.xoOk = false ∧ t.raised 40 = true))

/-- Pace (R567–R569): a load above UP raises the target by one level and one below DOWN for HOLD lowers it; a request holds P7 until 1 ms after its end;
VCORE steps one level and D one unit at a time toward the target. Resets (R575, R578–R580): each has its scope and its cause; the flash, the fuses
and what the always-on domain keeps survive, a device reset keeps the wake records, and the module boots from ROM. A RST_N pulse below 9.9 µs does
nothing. -/
def Obligations.PaceAndResets : Prop :=
  (∀ s : State, s.on = true →
     let p := s.power
     let c := s.cfg A.pwrPaceCtrl
     (∀ a b : Fin 1024, p.shed = false → p.planeReq = false → p.latReq = false → p.reqClear = none → p.preBackbone = false → p.lastMeasure + 100000 ≤ s.now →
       Completes (exec (.paceMeasure a b) s) fun t =>
         t.power.lastMeasure = s.now ∧
         (fld c 8 7 * 10 < a.val ∨ fld c 8 7 * 10 < b.val → t.power.target = min 7 (s.paceTarget + 1)) ∧
         (a.val ≤ fld c 8 7 * 10 → b.val ≤ fld c 8 7 * 10 → a.val < fld c 16 7 * 10 → b.val < fld c 16 7 * 10 → ∀ since, p.belowSince = some since →
           since + fld c 24 8 * 100000 ≤ s.now → t.power.target = max (s.paceTarget - 1) (fld c 0 3))) ∧
     (∀ at_, p.reqClear = some at_ → at_ + 1000000 ≤ s.now → p.planeReq = false → p.latReq = false →
       exec .paceRequestHoldExpiry s = .next { s with power := { p with reqClear := none, target := 7, belowSince := none } }) ∧
     (p.shed = false → p.level < s.paceTarget →
       Completes (exec .paceStep s) fun t => t.power.level = p.level + 1 ∧ t.raised 37 = true ∧
         t.reg A.pwrPaceSteps = sat32 ((s.reg A.pwrPaceSteps).toNat + 1)) ∧
     (p.shed = false → s.paceTarget < p.level → paceDivider (p.level - 1) ≤ p.divider →
       Completes (exec .paceStep s) fun t => t.power.level = p.level - 1 ∧ t.power.divider = p.divider) ∧
     (p.shed = false → p.divider ≠ s.dividerGoal →
       exec .dividerStep s = .next { s with power := { p with divider := if p.divider < s.dividerGoal then p.divider + 1 else p.divider - 1 } })) ∧
  (∀ s : State,
     let boots (cause : Nat) (t : State) : Prop :=
       t.power.cause = cause ∧ t.mp = .boot ∧ t.fw.step = .rom ∧ t.fw.starts = s.fw.starts + 1 ∧ t.fw.fuses = s.fw.fuses ∧ t.fw.floor = s.fw.floor ∧
       t.queues = [] ∧ t.sessions = [] ∧ t.locus = 0 ∧ t.epoch = State.reset.epoch
     let keeps (t : State) : Prop := ∀ a ∈ keptByDevice, t.reg a = s.reg a
     (s.power.collapsed = true → s.power.aOk = true ∨ s.power.bOk = true → s.power.thermal = false →
       Completes (exec .powerOnReset s) fun t => boots 0 t ∧ t.power.collapsed = false ∧ t.power.devResets = 0) ∧
     (∀ ns : Nat, s.on = true → 10100 ≤ ns → Completes (exec (.resetPin ns) s) fun t => boots 2 t ∧ keeps t) ∧
     (∀ ns : Nat, ns < 9900 → exec (.resetPin ns) s = .next s) ∧
     (∀ (f : Facet) (v : W32), s.granted f 0x1007C v = true → f = 0 ∨ f = 15 → fld v 0 16 = 0xA5C3 → tst v 16 = true →
       Completes (exec (.resetCommand f v) s) fun t => boots 4 t ∧ keeps t) ∧
     (s.on = true → tst (s.cfg A.pwrWdogCtrl) 0 = true → s.power.wdogAt + s.wdogTimeout ≤ s.now →
       Completes (exec .watchdogTimeout s) fun t => boots 3 t ∧ keeps t) ∧
     (s.on = true → tst (s.cfg A.pwrWdogCtrl) 0 = true → s.power.wdogHalf = false → s.power.wdogAt + s.wdogTimeout / 2 ≤ s.now →
       Completes (exec .watchdogHalf s) fun t => t.power.wdogHalf = true ∧ t.raised 41 = true) ∧
     (s.mpOn = true → exec .watchdogService s = .next { s with power := { s.power with wdogAt := s.now, wdogHalf := false } }))

/-! ## Output pins (chapters 02, 09 and 15) -/

/-- The output pins follow the state: an ALERT output with EN is at its active level while the ring of its FACET holds an unread entry or an overflow
bit, and under a halted processor while FACET is F0 (R59, R451); its drain is on at the active level under POLARITY 0 and off under POLARITY 1
(R646); a sync output shows the level of its POLARITY while a pulse lasts (R109); in SLEEP the ALERT and sync outputs are released (R644). -/
def Obligations.OutputPinsFollow : Prop :=
  (∀ (k : Fin 4) (s : State), s.pinsLive = true →
    let c := s.cfg (A.sysAlert k)
    let r := s.ring (fld c 0 4)
    (tst c 4 = true → r.entries ≠ [] ∨ r.ovf ≠ [] → s.alertPin k = if tst c 5 then .highZ else .low) ∧
    (tst c 4 = false ∨ (r.entries = [] ∧ r.ovf = [] ∧ s.mp ≠ .halted) → s.alertPin k = if tst c 5 then .low else .highZ)) ∧
  (∀ s : State, s.mpOn = true → 2 ≤ (s.mpRestarts.filter (fun t => s.now < t + 60000000000)).length →
    Completes (exec .lockstepMismatch s) fun t =>
      t.mp = .halted ∧ ∀ k : Fin 4, s.pinsLive = true → tst (s.cfg (A.sysAlert k)) 4 = true → fld (s.cfg (A.sysAlert k)) 0 4 = 0 →
        t.alertPin k = if tst (s.cfg (A.sysAlert k)) 5 then .highZ else .low) ∧
  (∀ (n : Fin 12) (s : State), s.pinsLive = true →
    let c := s.live.syncCfg n
    let o := SMap.get SyncOut.reset s.syncs n
    (c.mode = 1 → o.active = false → c.start + o.next * c.period ≤ s.locus → s.quieted c = false →
      Completes (exec (.syncOutputAssert (n.castLE (by omega))) s) fun t =>
        t.toPin n = if tst (s.cfg (A.locSoCtrl n)) 2 then .low else .high) ∧
    (o.active = true → o.release ≤ s.locus → Completes (exec (.syncOutputRelease (n.castLE (by omega))) s) fun t =>
      t.toPin n = if tst (s.cfg (A.locSoCtrl n)) 2 then .high else .low)) ∧
  (∀ s : State, s.on = true → s.wake.phase = .dark → s.wake.tc10 = [] ∨ s.wake.groupAt + 10000000 ≤ s.now →
    Completes (exec .sleepPointOfNoReturn s) fun t =>
      (∀ k : Fin 4, t.alertPin k = .highZ) ∧ ∀ n : Fin 12, t.toPin n = .highZ)

/-! ## Firmware, life cycle and the monitor (chapter 13) -/

/-- The ROM (R134, R591, R597, R601–R604): a plane that fails its self-check is retired before the first item; the fuses decide VOID, a break or a
recovery request enters recovery, a life-cycle request is performed or refused; a trial with starts left is tried and otherwise falls back; the
proven bank starts when its check passes, else the other one, else recovery. Start-up (R582, R592, R593, R596, R598, R600): the image goes from step
to step, a section that fails its check or a migration that fails puts the trial to its end, settings are migrated when the version asks for it, and
the proven settings become live. -/
def Obligations.StartsSelectAndLoad : Prop :=
  (∀ (b : BootFindings) (s : State), s.coreOn = true → s.fw.step = .rom →
     let z := burnFuses s
     let r := s.fw.rec_
     let code (k : Nat) : Nat := z.imageCheck (s.bank k) (if k = 0 then b.sigA else b.sigB) (if k = 0 then b.hashA else b.hashB)
     (∀ p : Fin 5, b.planes = [p] → s.plane.move = none → s.plane.pendingRetire = [] → p.val ∈ s.plane.inService →
       (∃ q < 5, q ≠ p.val ∧ q ∈ s.plane.inService) →
       Completes (exec (.romBoot b) s) fun t => p.val ∉ t.plane.inService ∧ t.bucketsOn p = [] ∧ t.plane.move = none) ∧
     (z.stage = 4 → Completes (exec (.romBoot b) s) fun t => t.fw.step = .voidMonitor) ∧
     (z.stage < 4 → ∀ (dest : Nat) (sig : Bool), r.lcReq = some (dest, sig) → Completes (exec (.romBoot b) s) fun t =>
       t.fw.rec_.lcReq = none ∧ t.raised 309 = true ∧
       t.fw.lcStatus = (if dest ≤ z.stage then 4 else if lcAllowed z.stage dest && sig then 2 else 3) ∧
       t.fw.fuses = (if z.stage < dest && lcAllowed z.stage dest && sig then z.fw.fuses.map (fun c => c ||| BitVec.ofNat 8 (2 ^ dest - 1)) else z.fw.fuses)) ∧
     (z.stage < 4 → r.lcReq = none →
       (b.break_ = true ∨ r.recover = true → Completes (exec (.romBoot b) s) fun t => t.fw.step = .recovery ∧ t.fw.rec_.recover = false) ∧
       (b.break_ = false → r.recover = false →
         (r.trial = none →
           (code r.image = 0 → Completes (exec (.romBoot b) s) fun t =>
             t.fw.step = .image ∧ t.mp = .running ∧ t.fw.runImage = r.image ∧ t.fw.runSet = r.settings ∧ t.fw.trialRun = false ∧
             t.epoch.live = highest (s.setBank r.settings).log) ∧
           (code r.image ≠ 0 → code (1 - r.image) = 0 → Completes (exec (.romBoot b) s) fun t =>
             t.fw.step = .image ∧ t.fw.runImage = 1 - r.image ∧ t.fw.runSet = r.settings ∧ t.raised 304 = true ∧ (t.bank r.image).code = code r.image) ∧
           (code r.image ≠ 0 → code (1 - r.image) ≠ 0 → Completes (exec (.romBoot b) s) fun t => t.fw.step = .recovery)) ∧
         (∀ image settings : Nat, r.trial = some (image, settings) →
           (r.fallback = false → 0 < r.left → code image = 0 → Completes (exec (.romBoot b) s) fun t =>
             t.fw.step = .image ∧ t.fw.runImage = image ∧ t.fw.runSet = settings ∧ t.fw.trialRun = true ∧ t.fw.rec_.left = r.left - 1) ∧
           (r.fallback = true ∨ r.left = 0 → Completes (exec (.romBoot b) s) fun t =>
             t.fw.rec_.trial = none ∧ t.fw.fallenBack = true ∧ t.raised 305 = true))))) ∧
  (∀ s : State, s.mpOn = true →
     (s.fw.step = .image → (s.seg 63).st = 0 →
       (Completes (exec (.imageStart true) s) fun t =>
         (t.seg 63).st = 2 ∧ t.fw.step = .image ∧ t.reg (selKey A.latSegStart 63) = w32 (t.seg 63).start ∧
         t.reg (selKey A.latSegLen 63) = w32 (t.seg 63).len) ∧
       (Completes (exec (.imageStart false) s) fun t => t.trialFailed ∧ (t.bank s.fw.runImage).code = 8)) ∧
     (s.fw.step = .image → (s.seg 63).st = 2 →
       (Completes (exec (.phyFirmwareLoaded true) s) fun t => t.fw.step = .phyLoaded) ∧
       (Completes (exec (.phyFirmwareLoaded false) s) fun t => t.trialFailed ∧ (t.bank s.fw.runImage).code = 8)) ∧
     (s.fw.step = .phyLoaded → s.mustMigrate = false →
       ((s.setBank s.fw.runSet).newest = none → Completes (exec .settingsLoaded s) fun t =>
         t.fw.step = .settings ∧ t.fw.defaults = true ∧ t.live = s.live ∧ t.raised 308 = true) ∧
       (∀ h, (s.setBank s.fw.runSet).newest = some h → (∀ v < 48, (s.ethSt v).linkUp = false) → Completes (exec .settingsLoaded s) fun t =>
         t.fw.step = .settings ∧ t.live = h.content ∧ t.staging = h.content ∧ t.accord.digestDue = true)) ∧
     (s.fw.step = .phyLoaded → s.mustMigrate = true → ∀ h, (s.setBank s.migrates.1).newest = some h →
       (Completes (exec (.migration false) s) fun t => t.trialFailed) ∧
       (let src := s.setBank s.migrates.1
         let img := s.bank s.fw.runImage
         let new : SettingsBank := ⟨true, (img.word 5).toNat, src.seq + 1, { h with valid := true }, Snapshot.reset, [highest src.log]⟩
         (img.word 6).toNat ≤ src.version → src.version ≤ (img.word 5).toNat →
         Completes (exec (.migration true) s) fun t =>
           if ((setBankTo s.migrates.2 new s).withSettings h).conflicts = [] then
             t.raised 308 = true ∧ t.fw.runSet = s.migrates.2 ∧ t.setBank t.fw.runSet = new ∧ t.epoch.live = highest src.log
           else t.trialFailed)) ∧
     (s.fw.step = .settings → Completes (exec .channelsJoin s) fun t =>
       t.fw.step = .joined ∧ ∀ ch : CanCh, (t.canSt ch).ctrl = s.cfg (A.canCtrl ch)) ∧
     (s.fw.step = .joined →
       (Completes (exec (.serdesFirmwareLoaded true) s) fun t =>
         t.fw.step = .backbone ∧ t.fw.backboneAt = some s.now ∧ t.power.preBackbone = false) ∧
       (Completes (exec (.serdesFirmwareLoaded false) s) fun t => t.trialFailed ∧ (t.bank s.fw.runImage).code = 8)))

/-- The image banks (R594, R595): OPEN erases the free bank, UPD_WR_DATA fills it at the offset, VERIFY judges it, ACTIVATE makes it the trial pair,
CONFIRM or PROVE_AUTO proves it, ABORT erases it; OPEN under a trial answers TRIAL and changes nothing. Fallback, settings and life cycle (R594,
R596, R598, R599, R603): FALLBACK of a trial resets the device after its answer; SAVE writes the half that is not in force, which becomes valid when
it is written; a life-cycle request is kept for the next start. -/
def Obligations.UpdatesGoThroughTheBank : Prop :=
  (∀ (f : Facet) (s : State),
     let o := fld (s.reg A.updWrOffset) 2 24
     (s.granted f A.updCmd 1 = true → s.fw.rec_.trial.isSome = true → Completes (exec (.updOpen f) s) fun t =>
       t.resp = ⟨.ok, []⟩ ∧ t.fw = { s.fw with cmdResult := 3 }) ∧
     (∀ b, s.granted f A.updCmd 1 = true → s.fw.rec_.trial = none → s.fw.xmodem = false → s.freeBank = some b → Completes (exec (.updOpen f) s) fun t =>
       t.fw.busy = some 1 ∧ t.fw.cmdResult = 0 ∧ t.bank b = ImageBank.reset ∧ ∀ k, k ≠ b → t.bank k = s.bank k) ∧
     (∀ b, s.mpOn = true → s.fw.busy = some 1 → s.freeBank = some b → Completes (exec .bankEraseComplete s) fun t =>
       t.fw.busy = none ∧ t.bank b = ⟨1, 0, []⟩ ∧ t.reg A.updWrOffset = 0) ∧
     (∀ (v : W32) (b : Nat), s.granted f A.updWrData v = true → s.freeIn [1] = some b → Completes (exec (.updWriteData f v) s) fun t =>
       (t.bank b).word o = v ∧ (∀ i, i ≠ o → (t.bank b).word i = (s.bank b).word i) ∧ fld (t.reg A.updWrOffset) 2 24 = (o + 1) % 2 ^ 24) ∧
     (∀ v : W32, s.granted f A.updWrData v = true → s.freeIn [1] = none → Completes (exec (.updWriteData f v) s) fun t => t.fw = { s.fw with cmdResult := 1 }) ∧
     (s.granted f A.updCmd 2 = true → (s.freeIn [1]).isSome = true → Completes (exec (.updVerify f) s) fun t => t.fw = { s.fw with busy := some 2, cmdResult := 0 }) ∧
     (∀ (sig hash : Bool) (b : Nat), s.mpOn = true → s.fw.busy = some 2 → s.freeIn [1] = some b →
       Completes (exec (.verifyComplete sig hash) s) fun t =>
         let code := s.imageCheck (s.bank b) sig hash
         t.fw.busy = none ∧ t.fw.cmdResult = code ∧ (t.bank b).code = code ∧ (t.bank b).st = (if code = 0 then 2 else 5) ∧
         t.raised (if code = 0 then 306 else 304) = true) ∧
     (∀ b, s.granted f A.updCmd 3 = true → s.freeIn [2] = some b → Completes (exec (.updActivate f) s) fun t =>
       t.fw.rec_.trial = some (b, 1 - s.fw.rec_.settings) ∧ t.fw.rec_.left = fld (s.cfg A.updCtrl) 0 2 ∧ (t.bank b).st = 6 ∧ t.fw.cmdResult = 0) ∧
     (∀ i x, s.inTrial = true → s.fw.rec_.trial = some (i, x) →
       (s.granted f A.updCmd 4 = true → Completes (exec (.updConfirm f) s) fun t => t.provenAs i x ∧ t.fw.cmdResult = 0) ∧
       (∀ at_, s.mpOn = true → s.fw.rec_.fallback = false → s.fw.backboneAt = some at_ → fld (s.cfg A.updCtrl) 8 8 ≠ 0 →
         at_ + fld (s.cfg A.updCtrl) 8 8 * 1000000000 ≤ s.now → Completes (exec .proveAutoExpiry s) fun t => t.provenAs i x)) ∧
     (∀ b, s.granted f A.updCmd 7 = true → s.freeIn [1, 2] = some b → Completes (exec (.updAbort f) s) fun t =>
       t.bank b = ImageBank.reset ∧ t.fw.busy = none ∧ t.fw.cmdResult = 0)) ∧
  (∀ (f : Facet) (s : State),
     (s.granted f A.updCmd 5 = true → s.inTrial = true → Completes (exec (.updFallback f) s) fun t => t.trialFailed ∧ t.resp = ⟨.ok, []⟩) ∧
     (s.granted f A.updCmd 6 = true → s.fw.saving = false → Completes (exec (.updSave f) s) fun t =>
       let old := s.setBank s.fw.runSet
       let new := t.setBank s.fw.runSet
       t.fw.saving = true ∧ (new.half old.older).valid = false ∧ (new.half old.older).content.regs = s.live.regs ∧
       new.half (!old.older) = old.half (!old.older) ∧ (∀ k, k ≠ s.fw.runSet → t.setBank k = s.setBank k)) ∧
     (s.mpOn = true → s.fw.saving = true → Completes (exec .saveComplete s) fun t =>
       let old := s.setBank s.fw.runSet
       t.fw.saving = false ∧ ((t.setBank s.fw.runSet).half old.older).valid = true ∧ (t.setBank s.fw.runSet).valid = true) ∧
     (∀ (v : W32) (sig : Bool), s.coreOn = true → s.mayWrite (s.plain f) updPage 0xB0 = true → s.lockedOut (s.plain f) updPage 0xB0 v = false → tst v 8 = true →
       Completes (exec (.lcRequest f v sig) s) fun t => t.resp = ⟨.ok, []⟩ ∧ t.fw.rec_.lcReq = some (fld v 0 3, sig) ∧ t.fw.lcStatus = 1) ∧
     (∀ v : W32, s.granted f A.svcForceLock v = true → tst v 0 = true → s.svc.unlock ≠ 0 → Completes (exec (.forceLock f v) s) fun t =>
       t.svc.unlock = 0 ∧ t.raised 314 = true))

/-- Lines of the service port (R78, R606, R607): a line waits with the stamp of its first start bit, one in error or too long is answered ER LINE and
counted, one beyond the buffer is lost; a command without the right to it is answered ER RIGHTS and does nothing else. Information and settings of
the port (R606, R607, R611): each command answers OK with its lines; a BAUD takes effect after its answer and goes back after 10 s without a line.
Register commands (R607): RD, WR and MW are a read, a write and a masked write by F15, answered with the words or the name of the result. -/
def Obligations.MonitorAnswers : Prop :=
  ((∀ (text : List Byte) (sof : Nat) (s : State), s.on = true →
     let i := (stampItem 84 sof text text.length s).1
     (text.length ≤ 320 → s.lineBytes + text.length ≤ 2048 →
       ((stampItem 84 sof text text.length s).2.inputRefused i = none → Completes (exec (.monitorLine text ⟨false, sof⟩) s) fun t =>
         t.svc.lines = s.svc.lines ++ [i] ∧ i.data = text ∧ i.stamp = max (SMap.get 0 s.lastStamp 84) (min sof s.ns) ∧
         t.svc.lastLine = s.now ∧ t.svc.rateAt = none) ∧
       (∀ r, (stampItem 84 sof text text.length s).2.inputRefused i = some r → Completes (exec (.monitorLine text ⟨false, sof⟩) s) fun t =>
         t.svc.lines = s.svc.lines)) ∧
     (320 < text.length → Completes (exec (.monitorLine text ⟨false, sof⟩) s) fun t =>
       t.svc.lines = s.svc.lines ∧ t.svc.output = s.svc.output ++ ["ER LINE"] ∧ t.raised 315 = true)) ∧
   (∀ (c : MonCmd) (i : Item) (l : List Item) (args : List (List Byte)) (f : List (List Byte) → State → State) (s : State),
     s.monOn = true → s.svc.held = false → s.svc.load = none → s.svc.lines = i :: l → monLine i.data = some (c, args) → s.monMay c = false →
     Completes (monRow c f s) fun t => s.said t ["ER RIGHTS"] ∧ t.staging = s.staging ∧ t.live = s.live ∧ t.fw.rec_ = s.fw.rec_)) ∧
  (∀ (args : List (List Byte)) (s : State),
     (s.monReady .ident args = true → Completes (exec .monIdent s) fun t => s.said t ("OK" :: ([s.reg A.sysId, s.reg A.sysSerialHi, s.reg A.sysSerialLo,
       s.reg A.sysHwRev, w32 s.stage, (s.bank 0).version, (s.bank 1).version] : List W32).map hexWord)) ∧
     (s.monReady .help args = true → Completes (exec .monHelp s) fun t => t.svc.lines = s.svc.lines.tail ∧ t.svc.output.length = s.svc.output.length + 20) ∧
     (s.monReady .status args = true → Completes (exec .monStatus s) fun t => s.said t ["OK", hexWord s.svcStatus]) ∧
     (s.monReady .bank args = true → Completes (exec .monBank s) fun t =>
       s.said t ["OK", hexWord (s.updBank 0), hexWord (s.updBank 1), hexWord (s.updSet 0), hexWord (s.updSet 1)]) ∧
     (∀ w, s.monReady .baud [w] = true → ∀ k : Fin 8, decArg w = some (baudRates.getD k 0) → Completes (exec .monBaud s) fun t =>
       s.said t ["OK"] ∧ t.svc.rate = k.val ∧ t.svc.oldRate = s.svc.rate ∧ t.svc.rateAt = some s.now) ∧
     (∀ at_, s.svc.rateAt = some at_ → s.monOn = true → at_ + 10000000000 ≤ s.now → Completes (exec .baudRevert s) fun t =>
       t.svc.rate = s.svc.oldRate ∧ t.svc.rateAt = none ∧ t.raised 316 = true) ∧
     (s.monReady .echo [[0x4F, 0x4E]] = true → Completes (exec .monEcho s) fun t => s.said t ["OK"] ∧ t.svc.echo = true) ∧
     (s.monReady .echo [[0x4F, 0x46, 0x46]] = true → Completes (exec .monEcho s) fun t => s.said t ["OK"] ∧ t.svc.echo = false) ∧
     (s.monReady .flog [] = true → Completes (exec .monFlog s) fun t =>
       t.svc.lines = s.svc.lines.tail ∧ t.svc.output.length = s.svc.output.length + 1 + 8 * min 1 s.fw.flog.length)) ∧
  (∀ (a v m : List Byte) (addr val mask : W32) (s : State), hexArg a = some addr → hexArg v = some val → hexArg m = some mask →
     addr.toNat % 4 = 0 → (pageOf addr.toNat).isSome = true → farWindow addr.toNat = none →
     let q := s.monReq
     (s.monReady .rd [a] = true → (readReg q addr.toNat s).1 = .ok → Completes (exec .monRd s) fun t =>
       t.svc.output = s.svc.output ++ ["OK", hexWord (readReg q addr.toNat s).2.1]) ∧
     (s.monReady .wr [a, v] = true → (writeAny q addr.toNat val s).2.power.resetDue = false → Completes (exec .monWr s) fun t =>
       t.svc.output = (writeAny q addr.toNat val s).2.svc.output ++
         (if (writeAny q addr.toNat val s).1 = .ok then ["OK"] else ["ER " ++ (writeAny q addr.toNat val s).1.name]) ∧
       t.live = (writeAny q addr.toNat val s).2.live ∧ t.staging = (writeAny q addr.toNat val s).2.staging) ∧
     (s.monReady .mw [a, m, v] = true → (writeAny q addr.toNat (merged (s.oldWord q addr.toNat) mask val) s).2.power.resetDue = false →
       Completes (exec .monMw s) fun t => t.staging = (writeAny q addr.toNat (merged (s.oldWord q addr.toNat) mask val) s).2.staging))

/-- Unlocking (R608–R610): CHAL gives a challenge; an UNLOCK whose signature fits it unlocks and consumes it, one that does not counts, and after three
in a row UNLOCK is refused for a time; LOCK and an idle port lock again. -/
def Obligations.UnlockNeedsTheKey : Prop :=
  ∀ s : State,
    (∀ args, s.monReady .chal args = true → Completes (exec .monChal s) fun t => t.svc.challenge = some s.freeBytes ∧ t.fresh = s.fresh + 4) ∧
    (∀ (w sig : List Byte) (level : Nat), s.monReady .unlock [w, sig] = true → (w = [0x4F] ∧ level = 1) ∨ (w = [0x56] ∧ level = 2) →
      (s.svc.refuseUntil ≤ s.now → s.svc.challenge.isSome = true → Completes (exec (.monUnlock true) s) fun t =>
        s.said t ["OK"] ∧ t.svc.unlock = level ∧ t.svc.challenge = none ∧ t.svc.failsRow = 0 ∧ t.svc.refuseUntil = 0 ∧ t.raised 312 = true) ∧
      (s.svc.refuseUntil ≤ s.now → Completes (exec (.monUnlock false) s) fun t =>
        s.said t ["ER RIGHTS"] ∧ t.svc.unlock = s.svc.unlock ∧ t.svc.failsRow = s.svc.failsRow + 1 ∧ t.raised 313 = true ∧
        t.reg A.svcUnlockFails = sat32 ((s.reg A.svcUnlockFails).toNat + 1) ∧
        t.svc.refuseUntil = (if s.svc.failsRow < 2 then s.svc.refuseUntil else s.now + min 3600 (60 * 2 ^ (s.svc.failsRow - 2)) * 1000000000)) ∧
      (∀ ok, s.now < s.svc.refuseUntil → Completes (exec (.monUnlock ok) s) fun t => s.said t ["ER RIGHTS"] ∧ t.svc.unlock = s.svc.unlock)) ∧
    (∀ args, s.monReady .lock args = true → Completes (exec .monLock s) fun t => s.said t ["OK"] ∧ t.svc.unlock = 0) ∧
    (s.monOn = true → s.svc.unlock ≠ 0 → s.svc.lastLine + fld (s.cfg A.svcUnlockIdle) 0 16 * 1000000000 ≤ s.now →
      Completes (exec .unlockIdleExpiry s) fun t => t.svc.unlock = 0 ∧ t.raised 314 = true)

/-- Banks and recovery by the monitor (R594, R595, R601, R603, R607): LOAD, its blocks, ACTIVATE, CONFIRM, RECOVER, RESET and STAGE. -/
def Obligations.MonitorUpdates : Prop :=
  ∀ s : State,
    (∀ args, s.monReady .reset args = true → Completes (exec .monReset s) fun t =>
      t.power.cause = 4 ∧ t.mp = .boot ∧ t.svc.output = s.svc.output ++ ["OK"]) ∧
    (∀ args, s.monReady .recover args = true → Completes (exec .monRecover s) fun t => t.power.cause = 4 ∧ t.mp = .boot ∧ t.fw.rec_.recover = true) ∧
    (∀ w b, s.monReady .load [w] = true → bankArg w = some b → s.fw.busy = none → s.fw.step = .recovery ∨ (s.fw.rec_.trial = none ∧ s.freeBank = some b) →
      Completes (exec .monLoad s) fun t => s.said t ["OK"] ∧ t.bank b = ⟨1, 0, []⟩ ∧ t.svc.load = some (b, 0) ∧ t.fw.xmodem = true) ∧
    (∀ (b off : Nat) (data : List Byte) (last sig hash : Bool), s.monOn = true → s.svc.load = some (b, off) →
      (exec (.xmodemBlock data false last sig hash) s = .next { s with outbox := s.outbox ++ [⟨84, [0x15], false, s.ns⟩] }) ∧
      (data.length = 1024 ∨ data.length = 128 →
        (Completes (exec (.xmodemBlock data true false sig hash) s) fun t =>
          t.svc.load = some (b, off + data.length) ∧ t.outbox = s.outbox ++ [⟨84, [0x06], false, s.ns⟩] ∧ ∀ k, k ≠ b → t.bank k = s.bank k) ∧
        (Completes (exec (.xmodemBlock data true true sig hash) s) fun t =>
          t.svc.load = none ∧ t.fw.xmodem = false ∧ t.raised 317 = true ∧ ((t.bank b).st = 2 ∨ (t.bank b).st = 5)))) ∧
    (∀ w b, s.monReady .activate [w] = true → bankArg w = some b →
      (s.fw.step = .recovery → (s.bank b).st = 2 → Completes (exec .monActivate s) fun t =>
        s.said t ["OK"] ∧ (t.bank b).st = 3 ∧ t.fw.rec_.image = b ∧ t.fw.rec_.trial = none) ∧
      (s.fw.step ≠ .recovery → s.freeIn [2] = some b → Completes (exec .monActivate s) fun t =>
        s.said t ["OK"] ∧ (t.bank b).st = 6 ∧ t.fw.rec_.trial = some (b, 1 - s.fw.rec_.settings)) ∧
      (s.fw.step ≠ .recovery → s.freeIn [2] = none → Completes (exec .monActivate s) fun t => s.said t ["ER STATE"] ∧ t.fw.rec_ = s.fw.rec_)) ∧
    (∀ args i x, s.monReady .confirm args = true → s.inTrial = true → s.fw.rec_.trial = some (i, x) →
      Completes (exec .monConfirm s) fun t => s.said t ["OK"] ∧ t.provenAs i x) ∧
    (∀ (w sig : List Byte) (dest : Nat) (ok : Bool), s.monReady .stage [w, sig] = true → decArg w = some dest → dest < 5 →
      Completes (exec (.monStage ok) s) fun t => s.said t ["OK"] ∧ t.fw.rec_.lcReq = some (dest, ok) ∧ t.fw.lcStatus = 1)
end

