-- ==== Sys2Proof/Laws/SMap.lean ====
section
/-! SUPPORT. Laws of sparse maps: a read after a write to the same key gives the value written, a write leaves every other key alone, and
writing keeps the canonical form. -/

namespace Sys2Proof.Machine

variable {α : Type}

theorem SMap.get_insert (d : α) (m : SMap α) (x y : Nat) (v : α) :
    SMap.get d (SMap.insert m x v) y = if y = x then v else SMap.get d m y := by
  induction m with
  | nil => simp [SMap.insert, SMap.get]
  | cons p m ih =>
    obtain ⟨k, w⟩ := p
    simp only [SMap.insert]
    split
    · rfl
    · split
      · rename_i h
        subst h
        by_cases hy : y = x <;> simp [SMap.get, hy]
      · rename_i h1 h2
        by_cases hy : y = k
        · have : y ≠ x := by omega
          simp [SMap.get, hy, show k ≠ x by omega]
        · simp [SMap.get, hy, ih]

theorem SMap.get_erase (d : α) (m : SMap α) (x y : Nat) :
    SMap.get d (SMap.erase m x) y = if y = x then d else SMap.get d m y := by
  induction m with
  | nil => simp [SMap.erase, SMap.get]
  | cons p m ih =>
    obtain ⟨k, w⟩ := p
    by_cases hk : k = x
    · subst hk
      have : SMap.erase ((k, w) :: m) k = SMap.erase m k := by simp [SMap.erase]
      rw [this, ih]
      by_cases hy : y = k <;> simp [SMap.get, hy]
    · have : SMap.erase ((k, w) :: m) x = (k, w) :: SMap.erase m x := by simp [SMap.erase, hk]
      rw [this]
      by_cases hy : y = k
      · simp [SMap.get, hy, hk]
      · simp [SMap.get, hy, ih]

/-- A read after a write. -/
theorem SMap.get_put [DecidableEq α] (d : α) (m : SMap α) (x y : Nat) (v : α) :
    SMap.get d (SMap.put d m x v) y = if y = x then v else SMap.get d m y := by
  unfold SMap.put
  split
  · rename_i h; rw [SMap.get_erase, h]
  · exact SMap.get_insert d m x y v

/-- A read after a write where each key has its own value when it is not listed. -/
theorem SMap.get_put_key [DecidableEq α] (d : Nat → α) (m : SMap α) (x y : Nat) (v : α) :
    SMap.get (d y) (SMap.put (d x) m x v) y = if y = x then v else SMap.get (d y) m y := by
  unfold SMap.put
  split
  · rename_i h
    rw [SMap.get_erase]
    by_cases hy : y = x
    · subst hy; simp [h]
    · simp [hy]
  · exact SMap.get_insert (d y) m x y v

@[simp] theorem SMap.get_put_self [DecidableEq α] (d : α) (m : SMap α) (x : Nat) (v : α) :
    SMap.get d (SMap.put d m x v) x = v := by simp [SMap.get_put]

theorem SMap.get_put_other [DecidableEq α] (d : α) (m : SMap α) {x y : Nat} (v : α) (h : y ≠ x) :
    SMap.get d (SMap.put d m x v) y = SMap.get d m y := by simp [SMap.get_put, h]

@[simp] theorem SMap.get_upd_self [DecidableEq α] (d : α) (m : SMap α) (x : Nat) (f : α → α) :
    SMap.get d (SMap.upd d m x f) x = f (SMap.get d m x) := by simp [SMap.upd]

theorem SMap.get_upd_other [DecidableEq α] (d : α) (m : SMap α) {x y : Nat} (f : α → α) (h : y ≠ x) :
    SMap.get d (SMap.upd d m x f) y = SMap.get d m y := by simp [SMap.upd, SMap.get_put, h]

theorem SMap.above_mono {b c : Nat} (h : c ≤ b) : ∀ {m : SMap α}, SMap.above b m = true → SMap.above c m = true
  | [], _ => rfl
  | (k, _) :: m, hm => by
    simp only [SMap.above, Bool.and_eq_true, decide_eq_true_eq] at hm ⊢
    exact ⟨by omega, hm.2⟩

theorem SMap.above_erase {b x : Nat} : ∀ {m : SMap α}, SMap.above b m = true → SMap.above b (SMap.erase m x) = true
  | [], _ => rfl
  | (k, w) :: m, hm => by
    simp only [SMap.above, Bool.and_eq_true, decide_eq_true_eq] at hm
    by_cases hk : k = x
    · have : SMap.erase ((k, w) :: m) x = SMap.erase m x := by simp [SMap.erase, hk]
      rw [this]
      exact SMap.above_erase (SMap.above_mono (by omega) hm.2)
    · have : SMap.erase ((k, w) :: m) x = (k, w) :: SMap.erase m x := by simp [SMap.erase, hk]
      rw [this]
      simp only [SMap.above, Bool.and_eq_true, decide_eq_true_eq]
      exact ⟨hm.1, SMap.above_erase hm.2⟩

theorem SMap.above_insert {b x : Nat} {v : α} (hb : b < x) :
    ∀ {m : SMap α}, SMap.above b m = true → SMap.above b (SMap.insert m x v) = true
  | [], _ => by simp [SMap.insert, SMap.above, hb]
  | (k, w) :: m, hm => by
    simp only [SMap.above, Bool.and_eq_true, decide_eq_true_eq] at hm
    simp only [SMap.insert]
    split
    · simp [SMap.above, *]
    · split
      · subst_vars; simp [SMap.above, hb, hm.2]
      · rename_i h1 h2
        simp only [SMap.above, Bool.and_eq_true, decide_eq_true_eq]
        exact ⟨hm.1, SMap.above_insert (by omega) hm.2⟩

theorem SMap.rising_of_above {b : Nat} : ∀ {m : SMap α}, SMap.above b m = true → SMap.rising m = true
  | [], _ => rfl
  | (_, _) :: _, hm => by
    simp only [SMap.above, Bool.and_eq_true] at hm
    exact hm.2

theorem SMap.rising_erase {x : Nat} : ∀ {m : SMap α}, SMap.rising m = true → SMap.rising (SMap.erase m x) = true
  | [], _ => rfl
  | (k, w) :: m, hm => by
    simp only [SMap.rising] at hm
    by_cases hk : k = x
    · have : SMap.erase ((k, w) :: m) x = SMap.erase m x := by simp [SMap.erase, hk]
      rw [this]
      exact SMap.rising_of_above (SMap.above_erase hm)
    · have : SMap.erase ((k, w) :: m) x = (k, w) :: SMap.erase m x := by simp [SMap.erase, hk]
      rw [this]
      exact SMap.above_erase hm

theorem SMap.rising_insert {x : Nat} {v : α} : ∀ {m : SMap α}, SMap.rising m = true → SMap.rising (SMap.insert m x v) = true
  | [], _ => rfl
  | (k, w) :: m, hm => by
    simp only [SMap.rising] at hm
    simp only [SMap.insert]
    split
    · simp [SMap.rising, SMap.above, *]
    · split
      · subst_vars; exact hm
      · exact SMap.above_insert (by omega) hm

theorem SMap.mem_insert {m : SMap α} {x : Nat} {v : α} {p : Nat × α} (h : p ∈ SMap.insert m x v) : p = (x, v) ∨ p ∈ m := by
  induction m with
  | nil => simpa [SMap.insert] using h
  | cons q m ih =>
    obtain ⟨k, w⟩ := q
    simp only [SMap.insert] at h
    split at h
    · simpa using h
    · split at h
      · rcases List.mem_cons.mp h with h | h
        · exact .inl h
        · exact .inr (List.mem_cons_of_mem _ h)
      · rcases List.mem_cons.mp h with h | h
        · exact .inr (h ▸ List.mem_cons_self)
        · rcases ih h with h | h
          · exact .inl h
          · exact .inr (List.mem_cons_of_mem _ h)

/-- Writing keeps the canonical form, when the value an unlisted key reads as is the one that the write was told. -/
theorem SMap.canonical_put [DecidableEq α] (d : Nat → α) {m : SMap α} (x : Nat) (v : α) (h : SMap.canonical d m = true) :
    SMap.canonical d (SMap.put (d x) m x v) = true := by
  simp only [SMap.canonical, Bool.and_eq_true, List.all_eq_true, decide_eq_true_eq] at h ⊢
  unfold SMap.put
  split
  · exact ⟨SMap.rising_erase h.1, fun p hp => h.2 p ((List.mem_filter.mp hp).1)⟩
  · rename_i hv
    refine ⟨SMap.rising_insert h.1, fun p hp => ?_⟩
    rcases SMap.mem_insert hp with rfl | hp
    · exact hv
    · exact h.2 p hp

/-- Writing many pairs keeps the canonical form. -/
theorem SMap.canonical_foldl_put [DecidableEq α] {β : Type} (d : α) (k : β → Nat) (v : β → α) :
    ∀ (l : List β) {m : SMap α}, SMap.canonical (fun _ => d) m = true →
      SMap.canonical (fun _ => d) (l.foldl (fun m p => SMap.put d m (k p) (v p)) m) = true
  | [], _, h => h
  | p :: l, _, h => SMap.canonical_foldl_put d k v l (SMap.canonical_put (fun _ => d) (k p) (v p) h)

/-- A key below every key of a map is unlisted. -/
theorem SMap.get_of_above {d : α} {b y : Nat} (hy : y ≤ b) : ∀ {m : SMap α}, SMap.above b m = true → SMap.get d m y = d
  | [], _ => rfl
  | (k, w) :: m, hm => by
    simp only [SMap.above, Bool.and_eq_true, decide_eq_true_eq] at hm
    simp [SMap.get, show y ≠ k by omega, SMap.get_of_above (d := d) (m := m) (show y ≤ k by omega) hm.2]

end Sys2Proof.Machine
end

