-- ==== Sys2Proof/Laws/State.lean ====
section
/-! SUPPORT. Laws of the state's updates: for each named update, every field that it leaves alone (each a rewrite rule, true by
unfolding), and what it leaves in the field that it writes. -/

namespace Sys2Proof.Machine

variable (s : State)

@[simp] theorem setReg_fields1 (a : Nat) (v : W32) :
    (setReg a v s).pending = s.pending ∧ (setReg a v s).now = s.now ∧ (setReg a v s).locus = s.locus ∧ (setReg a v s).fresh = s.fresh ∧
    (setReg a v s).resp = s.resp ∧ (setReg a v s).outbox = s.outbox ∧ (setReg a v s).loHeld = s.loHeld ∧
    (setReg a v s).hiLatch = s.hiLatch ∧ (setReg a v s).baseline = s.baseline ∧ (setReg a v s).counters = s.counters ∧
    (setReg a v s).faultLatch = s.faultLatch ∧ (setReg a v s).softReset = s.softReset ∧ (setReg a v s).live = s.live ∧
    (setReg a v s).staging = s.staging ∧ (setReg a v s).drain = s.drain ∧ (setReg a v s).shadow = s.shadow ∧
    (setReg a v s).drainShadow = s.drainShadow ∧ (setReg a v s).epoch = s.epoch ∧ (setReg a v s).tags = s.tags ∧
    (setReg a v s).tagFrames = s.tagFrames ∧ (setReg a v s).quotaEp = s.quotaEp ∧ (setReg a v s).ctxEp = s.ctxEp ∧
    (setReg a v s).seqs = s.seqs ∧ (setReg a v s).lastStamp = s.lastStamp ∧ (setReg a v s).nextId = s.nextId ∧ (setReg a v s).mp = s.mp ∧
    (setReg a v s).mpRestarts = s.mpRestarts := by
  and_intros <;> rfl

@[simp] theorem setReg_fields2 (a : Nat) (v : W32) :
    (setReg a v s).loc = s.loc ∧ (setReg a v s).domains = s.domains ∧ (setReg a v s).ptpOut = s.ptpOut ∧
    (setReg a v s).linkDelay = s.linkDelay ∧ (setReg a v s).txq = s.txq ∧ (setReg a v s).syncs = s.syncs ∧ (setReg a v s).caps = s.caps ∧
    (setReg a v s).plane = s.plane ∧ (setReg a v s).inputs = s.inputs ∧ (setReg a v s).lanes = s.lanes ∧
    (setReg a v s).planeQ = s.planeQ ∧ (setReg a v s).queues = s.queues ∧ (setReg a v s).egress = s.egress ∧
    (setReg a v s).mappedOut = s.mappedOut ∧ (setReg a v s).cellErrs = s.cellErrs ∧ (setReg a v s).cellDue = s.cellDue ∧
    (setReg a v s).learnQ = s.learnQ ∧ (setReg a v s).unplaced = s.unplaced ∧ (setReg a v s).rebuilding = s.rebuilding ∧
    (setReg a v s).reqRehash = s.reqRehash ∧ (setReg a v s).tblCompare = s.tblCompare ∧ (setReg a v s).brgCompare = s.brgCompare ∧
    (setReg a v s).ageAt = s.ageAt ∧ (setReg a v s).cmds = s.cmds ∧ (setReg a v s).meters = s.meters ∧
    (setReg a v s).blocked = s.blocked ∧ (setReg a v s).admission = s.admission := by
  and_intros <;> rfl

@[simp] theorem setReg_fields3 (a : Nat) (v : W32) :
    (setReg a v s).admitTurn = s.admitTurn ∧ (setReg a v s).ctxs = s.ctxs ∧ (setReg a v s).issueTurn = s.issueTurn ∧
    (setReg a v s).codeLines = s.codeLines ∧ (setReg a v s).lastIssue = s.lastIssue ∧ (setReg a v s).lastXfer = s.lastXfer ∧
    (setReg a v s).replayQ = s.replayQ ∧ (setReg a v s).cells = s.cells ∧ (setReg a v s).checkTurn = s.checkTurn ∧
    (setReg a v s).checkAt = s.checkAt ∧ (setReg a v s).segs = s.segs ∧ (setReg a v s).ps = s.ps ∧ (setReg a v s).psBad = s.psBad ∧
    (setReg a v s).eth = s.eth ∧ (setReg a v s).can = s.can ∧ (setReg a v s).lin = s.lin ∧ (setReg a v s).bridge = s.bridge ∧
    (setReg a v s).jrn = s.jrn ∧ (setReg a v s).inj = s.inj ∧ (setReg a v s).cross = s.cross ∧ (setReg a v s).dram = s.dram ∧
    (setReg a v s).rings = s.rings ∧ (setReg a v s).locks = s.locks ∧ (setReg a v s).fleases = s.fleases ∧
    (setReg a v s).sessions = s.sessions ∧ (setReg a v s).octIn = s.octIn ∧ (setReg a v s).ctlIn = s.ctlIn ∧
    (setReg a v s).octRun = s.octRun ∧ (setReg a v s).facetAddr = s.facetAddr ∧ (setReg a v s).facetReset = s.facetReset ∧
    (setReg a v s).facetResets = s.facetResets ∧ (setReg a v s).windows = s.windows ∧ (setReg a v s).accord = s.accord ∧
    (setReg a v s).cip = s.cip ∧ (setReg a v s).wake = s.wake ∧ (setReg a v s).power = s.power ∧ (setReg a v s).fw = s.fw ∧
    (setReg a v s).svc = s.svc := by
  and_intros <;> rfl

@[simp] theorem setRegN_fields1 (a n : Nat) :
    (setRegN a n s).pending = s.pending ∧ (setRegN a n s).now = s.now ∧ (setRegN a n s).locus = s.locus ∧
    (setRegN a n s).fresh = s.fresh ∧ (setRegN a n s).resp = s.resp ∧ (setRegN a n s).outbox = s.outbox ∧
    (setRegN a n s).loHeld = s.loHeld ∧ (setRegN a n s).hiLatch = s.hiLatch ∧ (setRegN a n s).baseline = s.baseline ∧
    (setRegN a n s).counters = s.counters ∧ (setRegN a n s).faultLatch = s.faultLatch ∧ (setRegN a n s).softReset = s.softReset ∧
    (setRegN a n s).live = s.live ∧ (setRegN a n s).staging = s.staging ∧ (setRegN a n s).drain = s.drain ∧
    (setRegN a n s).shadow = s.shadow ∧ (setRegN a n s).drainShadow = s.drainShadow ∧ (setRegN a n s).epoch = s.epoch ∧
    (setRegN a n s).tags = s.tags ∧ (setRegN a n s).tagFrames = s.tagFrames ∧ (setRegN a n s).quotaEp = s.quotaEp ∧
    (setRegN a n s).ctxEp = s.ctxEp ∧ (setRegN a n s).seqs = s.seqs ∧ (setRegN a n s).lastStamp = s.lastStamp ∧
    (setRegN a n s).nextId = s.nextId ∧ (setRegN a n s).mp = s.mp ∧ (setRegN a n s).mpRestarts = s.mpRestarts := by
  and_intros <;> rfl

@[simp] theorem setRegN_fields2 (a n : Nat) :
    (setRegN a n s).loc = s.loc ∧ (setRegN a n s).domains = s.domains ∧ (setRegN a n s).ptpOut = s.ptpOut ∧
    (setRegN a n s).linkDelay = s.linkDelay ∧ (setRegN a n s).txq = s.txq ∧ (setRegN a n s).syncs = s.syncs ∧
    (setRegN a n s).caps = s.caps ∧ (setRegN a n s).plane = s.plane ∧ (setRegN a n s).inputs = s.inputs ∧
    (setRegN a n s).lanes = s.lanes ∧ (setRegN a n s).planeQ = s.planeQ ∧ (setRegN a n s).queues = s.queues ∧
    (setRegN a n s).egress = s.egress ∧ (setRegN a n s).mappedOut = s.mappedOut ∧ (setRegN a n s).cellErrs = s.cellErrs ∧
    (setRegN a n s).cellDue = s.cellDue ∧ (setRegN a n s).learnQ = s.learnQ ∧ (setRegN a n s).unplaced = s.unplaced ∧
    (setRegN a n s).rebuilding = s.rebuilding ∧ (setRegN a n s).reqRehash = s.reqRehash ∧ (setRegN a n s).tblCompare = s.tblCompare ∧
    (setRegN a n s).brgCompare = s.brgCompare ∧ (setRegN a n s).ageAt = s.ageAt ∧ (setRegN a n s).cmds = s.cmds ∧
    (setRegN a n s).meters = s.meters ∧ (setRegN a n s).blocked = s.blocked ∧ (setRegN a n s).admission = s.admission := by
  and_intros <;> rfl

@[simp] theorem setRegN_fields3 (a n : Nat) :
    (setRegN a n s).admitTurn = s.admitTurn ∧ (setRegN a n s).ctxs = s.ctxs ∧ (setRegN a n s).issueTurn = s.issueTurn ∧
    (setRegN a n s).codeLines = s.codeLines ∧ (setRegN a n s).lastIssue = s.lastIssue ∧ (setRegN a n s).lastXfer = s.lastXfer ∧
    (setRegN a n s).replayQ = s.replayQ ∧ (setRegN a n s).cells = s.cells ∧ (setRegN a n s).checkTurn = s.checkTurn ∧
    (setRegN a n s).checkAt = s.checkAt ∧ (setRegN a n s).segs = s.segs ∧ (setRegN a n s).ps = s.ps ∧ (setRegN a n s).psBad = s.psBad ∧
    (setRegN a n s).eth = s.eth ∧ (setRegN a n s).can = s.can ∧ (setRegN a n s).lin = s.lin ∧ (setRegN a n s).bridge = s.bridge ∧
    (setRegN a n s).jrn = s.jrn ∧ (setRegN a n s).inj = s.inj ∧ (setRegN a n s).cross = s.cross ∧ (setRegN a n s).dram = s.dram ∧
    (setRegN a n s).rings = s.rings ∧ (setRegN a n s).locks = s.locks ∧ (setRegN a n s).fleases = s.fleases ∧
    (setRegN a n s).sessions = s.sessions ∧ (setRegN a n s).octIn = s.octIn ∧ (setRegN a n s).ctlIn = s.ctlIn ∧
    (setRegN a n s).octRun = s.octRun ∧ (setRegN a n s).facetAddr = s.facetAddr ∧ (setRegN a n s).facetReset = s.facetReset ∧
    (setRegN a n s).facetResets = s.facetResets ∧ (setRegN a n s).windows = s.windows ∧ (setRegN a n s).accord = s.accord ∧
    (setRegN a n s).cip = s.cip ∧ (setRegN a n s).wake = s.wake ∧ (setRegN a n s).power = s.power ∧ (setRegN a n s).fw = s.fw ∧
    (setRegN a n s).svc = s.svc := by
  and_intros <;> rfl

@[simp] theorem addSat_fields1 (a n : Nat) :
    (addSat a n s).pending = s.pending ∧ (addSat a n s).now = s.now ∧ (addSat a n s).locus = s.locus ∧ (addSat a n s).fresh = s.fresh ∧
    (addSat a n s).resp = s.resp ∧ (addSat a n s).outbox = s.outbox ∧ (addSat a n s).loHeld = s.loHeld ∧
    (addSat a n s).hiLatch = s.hiLatch ∧ (addSat a n s).baseline = s.baseline ∧ (addSat a n s).counters = s.counters ∧
    (addSat a n s).faultLatch = s.faultLatch ∧ (addSat a n s).softReset = s.softReset ∧ (addSat a n s).live = s.live ∧
    (addSat a n s).staging = s.staging ∧ (addSat a n s).drain = s.drain ∧ (addSat a n s).shadow = s.shadow ∧
    (addSat a n s).drainShadow = s.drainShadow ∧ (addSat a n s).epoch = s.epoch ∧ (addSat a n s).tags = s.tags ∧
    (addSat a n s).tagFrames = s.tagFrames ∧ (addSat a n s).quotaEp = s.quotaEp ∧ (addSat a n s).ctxEp = s.ctxEp ∧
    (addSat a n s).seqs = s.seqs ∧ (addSat a n s).lastStamp = s.lastStamp ∧ (addSat a n s).nextId = s.nextId ∧ (addSat a n s).mp = s.mp ∧
    (addSat a n s).mpRestarts = s.mpRestarts := by
  and_intros <;> rfl

@[simp] theorem addSat_fields2 (a n : Nat) :
    (addSat a n s).loc = s.loc ∧ (addSat a n s).domains = s.domains ∧ (addSat a n s).ptpOut = s.ptpOut ∧
    (addSat a n s).linkDelay = s.linkDelay ∧ (addSat a n s).txq = s.txq ∧ (addSat a n s).syncs = s.syncs ∧ (addSat a n s).caps = s.caps ∧
    (addSat a n s).plane = s.plane ∧ (addSat a n s).inputs = s.inputs ∧ (addSat a n s).lanes = s.lanes ∧
    (addSat a n s).planeQ = s.planeQ ∧ (addSat a n s).queues = s.queues ∧ (addSat a n s).egress = s.egress ∧
    (addSat a n s).mappedOut = s.mappedOut ∧ (addSat a n s).cellErrs = s.cellErrs ∧ (addSat a n s).cellDue = s.cellDue ∧
    (addSat a n s).learnQ = s.learnQ ∧ (addSat a n s).unplaced = s.unplaced ∧ (addSat a n s).rebuilding = s.rebuilding ∧
    (addSat a n s).reqRehash = s.reqRehash ∧ (addSat a n s).tblCompare = s.tblCompare ∧ (addSat a n s).brgCompare = s.brgCompare ∧
    (addSat a n s).ageAt = s.ageAt ∧ (addSat a n s).cmds = s.cmds ∧ (addSat a n s).meters = s.meters ∧
    (addSat a n s).blocked = s.blocked ∧ (addSat a n s).admission = s.admission := by
  and_intros <;> rfl

@[simp] theorem addSat_fields3 (a n : Nat) :
    (addSat a n s).admitTurn = s.admitTurn ∧ (addSat a n s).ctxs = s.ctxs ∧ (addSat a n s).issueTurn = s.issueTurn ∧
    (addSat a n s).codeLines = s.codeLines ∧ (addSat a n s).lastIssue = s.lastIssue ∧ (addSat a n s).lastXfer = s.lastXfer ∧
    (addSat a n s).replayQ = s.replayQ ∧ (addSat a n s).cells = s.cells ∧ (addSat a n s).checkTurn = s.checkTurn ∧
    (addSat a n s).checkAt = s.checkAt ∧ (addSat a n s).segs = s.segs ∧ (addSat a n s).ps = s.ps ∧ (addSat a n s).psBad = s.psBad ∧
    (addSat a n s).eth = s.eth ∧ (addSat a n s).can = s.can ∧ (addSat a n s).lin = s.lin ∧ (addSat a n s).bridge = s.bridge ∧
    (addSat a n s).jrn = s.jrn ∧ (addSat a n s).inj = s.inj ∧ (addSat a n s).cross = s.cross ∧ (addSat a n s).dram = s.dram ∧
    (addSat a n s).rings = s.rings ∧ (addSat a n s).locks = s.locks ∧ (addSat a n s).fleases = s.fleases ∧
    (addSat a n s).sessions = s.sessions ∧ (addSat a n s).octIn = s.octIn ∧ (addSat a n s).ctlIn = s.ctlIn ∧
    (addSat a n s).octRun = s.octRun ∧ (addSat a n s).facetAddr = s.facetAddr ∧ (addSat a n s).facetReset = s.facetReset ∧
    (addSat a n s).facetResets = s.facetResets ∧ (addSat a n s).windows = s.windows ∧ (addSat a n s).accord = s.accord ∧
    (addSat a n s).cip = s.cip ∧ (addSat a n s).wake = s.wake ∧ (addSat a n s).power = s.power ∧ (addSat a n s).fw = s.fw ∧
    (addSat a n s).svc = s.svc := by
  and_intros <;> rfl

@[simp] theorem bump_fields1 (a : Nat) :
    (bump a s).pending = s.pending ∧ (bump a s).now = s.now ∧ (bump a s).locus = s.locus ∧ (bump a s).fresh = s.fresh ∧
    (bump a s).resp = s.resp ∧ (bump a s).outbox = s.outbox ∧ (bump a s).loHeld = s.loHeld ∧ (bump a s).hiLatch = s.hiLatch ∧
    (bump a s).baseline = s.baseline ∧ (bump a s).counters = s.counters ∧ (bump a s).faultLatch = s.faultLatch ∧
    (bump a s).softReset = s.softReset ∧ (bump a s).live = s.live ∧ (bump a s).staging = s.staging ∧ (bump a s).drain = s.drain ∧
    (bump a s).shadow = s.shadow ∧ (bump a s).drainShadow = s.drainShadow ∧ (bump a s).epoch = s.epoch ∧ (bump a s).tags = s.tags ∧
    (bump a s).tagFrames = s.tagFrames ∧ (bump a s).quotaEp = s.quotaEp ∧ (bump a s).ctxEp = s.ctxEp ∧ (bump a s).seqs = s.seqs ∧
    (bump a s).lastStamp = s.lastStamp ∧ (bump a s).nextId = s.nextId ∧ (bump a s).mp = s.mp ∧ (bump a s).mpRestarts = s.mpRestarts := by
  and_intros <;> rfl

@[simp] theorem bump_fields2 (a : Nat) :
    (bump a s).loc = s.loc ∧ (bump a s).domains = s.domains ∧ (bump a s).ptpOut = s.ptpOut ∧ (bump a s).linkDelay = s.linkDelay ∧
    (bump a s).txq = s.txq ∧ (bump a s).syncs = s.syncs ∧ (bump a s).caps = s.caps ∧ (bump a s).plane = s.plane ∧
    (bump a s).inputs = s.inputs ∧ (bump a s).lanes = s.lanes ∧ (bump a s).planeQ = s.planeQ ∧ (bump a s).queues = s.queues ∧
    (bump a s).egress = s.egress ∧ (bump a s).mappedOut = s.mappedOut ∧ (bump a s).cellErrs = s.cellErrs ∧
    (bump a s).cellDue = s.cellDue ∧ (bump a s).learnQ = s.learnQ ∧ (bump a s).unplaced = s.unplaced ∧
    (bump a s).rebuilding = s.rebuilding ∧ (bump a s).reqRehash = s.reqRehash ∧ (bump a s).tblCompare = s.tblCompare ∧
    (bump a s).brgCompare = s.brgCompare ∧ (bump a s).ageAt = s.ageAt ∧ (bump a s).cmds = s.cmds ∧ (bump a s).meters = s.meters ∧
    (bump a s).blocked = s.blocked ∧ (bump a s).admission = s.admission := by
  and_intros <;> rfl

@[simp] theorem bump_fields3 (a : Nat) :
    (bump a s).admitTurn = s.admitTurn ∧ (bump a s).ctxs = s.ctxs ∧ (bump a s).issueTurn = s.issueTurn ∧
    (bump a s).codeLines = s.codeLines ∧ (bump a s).lastIssue = s.lastIssue ∧ (bump a s).lastXfer = s.lastXfer ∧
    (bump a s).replayQ = s.replayQ ∧ (bump a s).cells = s.cells ∧ (bump a s).checkTurn = s.checkTurn ∧ (bump a s).checkAt = s.checkAt ∧
    (bump a s).segs = s.segs ∧ (bump a s).ps = s.ps ∧ (bump a s).psBad = s.psBad ∧ (bump a s).eth = s.eth ∧ (bump a s).can = s.can ∧
    (bump a s).lin = s.lin ∧ (bump a s).bridge = s.bridge ∧ (bump a s).jrn = s.jrn ∧ (bump a s).inj = s.inj ∧
    (bump a s).cross = s.cross ∧ (bump a s).dram = s.dram ∧ (bump a s).rings = s.rings ∧ (bump a s).locks = s.locks ∧
    (bump a s).fleases = s.fleases ∧ (bump a s).sessions = s.sessions ∧ (bump a s).octIn = s.octIn ∧ (bump a s).ctlIn = s.ctlIn ∧
    (bump a s).octRun = s.octRun ∧ (bump a s).facetAddr = s.facetAddr ∧ (bump a s).facetReset = s.facetReset ∧
    (bump a s).facetResets = s.facetResets ∧ (bump a s).windows = s.windows ∧ (bump a s).accord = s.accord ∧ (bump a s).cip = s.cip ∧
    (bump a s).wake = s.wake ∧ (bump a s).power = s.power ∧ (bump a s).fw = s.fw ∧ (bump a s).svc = s.svc := by
  and_intros <;> rfl

@[simp] theorem addPair_fields1 (lo hi n : Nat) :
    (addPair lo hi n s).pending = s.pending ∧ (addPair lo hi n s).now = s.now ∧ (addPair lo hi n s).locus = s.locus ∧
    (addPair lo hi n s).fresh = s.fresh ∧ (addPair lo hi n s).resp = s.resp ∧ (addPair lo hi n s).outbox = s.outbox ∧
    (addPair lo hi n s).loHeld = s.loHeld ∧ (addPair lo hi n s).hiLatch = s.hiLatch ∧ (addPair lo hi n s).baseline = s.baseline ∧
    (addPair lo hi n s).counters = s.counters ∧ (addPair lo hi n s).faultLatch = s.faultLatch ∧
    (addPair lo hi n s).softReset = s.softReset ∧ (addPair lo hi n s).live = s.live ∧ (addPair lo hi n s).staging = s.staging ∧
    (addPair lo hi n s).drain = s.drain ∧ (addPair lo hi n s).shadow = s.shadow ∧ (addPair lo hi n s).drainShadow = s.drainShadow ∧
    (addPair lo hi n s).epoch = s.epoch ∧ (addPair lo hi n s).tags = s.tags ∧ (addPair lo hi n s).tagFrames = s.tagFrames ∧
    (addPair lo hi n s).quotaEp = s.quotaEp ∧ (addPair lo hi n s).ctxEp = s.ctxEp ∧ (addPair lo hi n s).seqs = s.seqs ∧
    (addPair lo hi n s).lastStamp = s.lastStamp ∧ (addPair lo hi n s).nextId = s.nextId ∧ (addPair lo hi n s).mp = s.mp ∧
    (addPair lo hi n s).mpRestarts = s.mpRestarts := by
  simp [addPair]

@[simp] theorem addPair_fields2 (lo hi n : Nat) :
    (addPair lo hi n s).loc = s.loc ∧ (addPair lo hi n s).domains = s.domains ∧ (addPair lo hi n s).ptpOut = s.ptpOut ∧
    (addPair lo hi n s).linkDelay = s.linkDelay ∧ (addPair lo hi n s).txq = s.txq ∧ (addPair lo hi n s).syncs = s.syncs ∧
    (addPair lo hi n s).caps = s.caps ∧ (addPair lo hi n s).plane = s.plane ∧ (addPair lo hi n s).inputs = s.inputs ∧
    (addPair lo hi n s).lanes = s.lanes ∧ (addPair lo hi n s).planeQ = s.planeQ ∧ (addPair lo hi n s).queues = s.queues ∧
    (addPair lo hi n s).egress = s.egress ∧ (addPair lo hi n s).mappedOut = s.mappedOut ∧ (addPair lo hi n s).cellErrs = s.cellErrs ∧
    (addPair lo hi n s).cellDue = s.cellDue ∧ (addPair lo hi n s).learnQ = s.learnQ ∧ (addPair lo hi n s).unplaced = s.unplaced ∧
    (addPair lo hi n s).rebuilding = s.rebuilding ∧ (addPair lo hi n s).reqRehash = s.reqRehash ∧
    (addPair lo hi n s).tblCompare = s.tblCompare ∧ (addPair lo hi n s).brgCompare = s.brgCompare ∧ (addPair lo hi n s).ageAt = s.ageAt ∧
    (addPair lo hi n s).cmds = s.cmds ∧ (addPair lo hi n s).meters = s.meters ∧ (addPair lo hi n s).blocked = s.blocked ∧
    (addPair lo hi n s).admission = s.admission := by
  simp [addPair]

@[simp] theorem addPair_fields3 (lo hi n : Nat) :
    (addPair lo hi n s).admitTurn = s.admitTurn ∧ (addPair lo hi n s).ctxs = s.ctxs ∧ (addPair lo hi n s).issueTurn = s.issueTurn ∧
    (addPair lo hi n s).codeLines = s.codeLines ∧ (addPair lo hi n s).lastIssue = s.lastIssue ∧
    (addPair lo hi n s).lastXfer = s.lastXfer ∧ (addPair lo hi n s).replayQ = s.replayQ ∧ (addPair lo hi n s).cells = s.cells ∧
    (addPair lo hi n s).checkTurn = s.checkTurn ∧ (addPair lo hi n s).checkAt = s.checkAt ∧ (addPair lo hi n s).segs = s.segs ∧
    (addPair lo hi n s).ps = s.ps ∧ (addPair lo hi n s).psBad = s.psBad ∧ (addPair lo hi n s).eth = s.eth ∧
    (addPair lo hi n s).can = s.can ∧ (addPair lo hi n s).lin = s.lin ∧ (addPair lo hi n s).bridge = s.bridge ∧
    (addPair lo hi n s).jrn = s.jrn ∧ (addPair lo hi n s).inj = s.inj ∧ (addPair lo hi n s).cross = s.cross ∧
    (addPair lo hi n s).dram = s.dram ∧ (addPair lo hi n s).rings = s.rings ∧ (addPair lo hi n s).locks = s.locks ∧
    (addPair lo hi n s).fleases = s.fleases ∧ (addPair lo hi n s).sessions = s.sessions ∧ (addPair lo hi n s).octIn = s.octIn ∧
    (addPair lo hi n s).ctlIn = s.ctlIn ∧ (addPair lo hi n s).octRun = s.octRun ∧ (addPair lo hi n s).facetAddr = s.facetAddr ∧
    (addPair lo hi n s).facetReset = s.facetReset ∧ (addPair lo hi n s).facetResets = s.facetResets ∧
    (addPair lo hi n s).windows = s.windows ∧ (addPair lo hi n s).accord = s.accord ∧ (addPair lo hi n s).cip = s.cip ∧
    (addPair lo hi n s).wake = s.wake ∧ (addPair lo hi n s).power = s.power ∧ (addPair lo hi n s).fw = s.fw ∧
    (addPair lo hi n s).svc = s.svc := by
  simp [addPair]

@[simp] theorem subReg_fields1 (a n : Nat) :
    (subReg a n s).pending = s.pending ∧ (subReg a n s).now = s.now ∧ (subReg a n s).locus = s.locus ∧ (subReg a n s).fresh = s.fresh ∧
    (subReg a n s).resp = s.resp ∧ (subReg a n s).outbox = s.outbox ∧ (subReg a n s).loHeld = s.loHeld ∧
    (subReg a n s).hiLatch = s.hiLatch ∧ (subReg a n s).baseline = s.baseline ∧ (subReg a n s).counters = s.counters ∧
    (subReg a n s).faultLatch = s.faultLatch ∧ (subReg a n s).softReset = s.softReset ∧ (subReg a n s).live = s.live ∧
    (subReg a n s).staging = s.staging ∧ (subReg a n s).drain = s.drain ∧ (subReg a n s).shadow = s.shadow ∧
    (subReg a n s).drainShadow = s.drainShadow ∧ (subReg a n s).epoch = s.epoch ∧ (subReg a n s).tags = s.tags ∧
    (subReg a n s).tagFrames = s.tagFrames ∧ (subReg a n s).quotaEp = s.quotaEp ∧ (subReg a n s).ctxEp = s.ctxEp ∧
    (subReg a n s).seqs = s.seqs ∧ (subReg a n s).lastStamp = s.lastStamp ∧ (subReg a n s).nextId = s.nextId ∧ (subReg a n s).mp = s.mp ∧
    (subReg a n s).mpRestarts = s.mpRestarts := by
  and_intros <;> rfl

@[simp] theorem subReg_fields2 (a n : Nat) :
    (subReg a n s).loc = s.loc ∧ (subReg a n s).domains = s.domains ∧ (subReg a n s).ptpOut = s.ptpOut ∧
    (subReg a n s).linkDelay = s.linkDelay ∧ (subReg a n s).txq = s.txq ∧ (subReg a n s).syncs = s.syncs ∧ (subReg a n s).caps = s.caps ∧
    (subReg a n s).plane = s.plane ∧ (subReg a n s).inputs = s.inputs ∧ (subReg a n s).lanes = s.lanes ∧
    (subReg a n s).planeQ = s.planeQ ∧ (subReg a n s).queues = s.queues ∧ (subReg a n s).egress = s.egress ∧
    (subReg a n s).mappedOut = s.mappedOut ∧ (subReg a n s).cellErrs = s.cellErrs ∧ (subReg a n s).cellDue = s.cellDue ∧
    (subReg a n s).learnQ = s.learnQ ∧ (subReg a n s).unplaced = s.unplaced ∧ (subReg a n s).rebuilding = s.rebuilding ∧
    (subReg a n s).reqRehash = s.reqRehash ∧ (subReg a n s).tblCompare = s.tblCompare ∧ (subReg a n s).brgCompare = s.brgCompare ∧
    (subReg a n s).ageAt = s.ageAt ∧ (subReg a n s).cmds = s.cmds ∧ (subReg a n s).meters = s.meters ∧
    (subReg a n s).blocked = s.blocked ∧ (subReg a n s).admission = s.admission := by
  and_intros <;> rfl

@[simp] theorem subReg_fields3 (a n : Nat) :
    (subReg a n s).admitTurn = s.admitTurn ∧ (subReg a n s).ctxs = s.ctxs ∧ (subReg a n s).issueTurn = s.issueTurn ∧
    (subReg a n s).codeLines = s.codeLines ∧ (subReg a n s).lastIssue = s.lastIssue ∧ (subReg a n s).lastXfer = s.lastXfer ∧
    (subReg a n s).replayQ = s.replayQ ∧ (subReg a n s).cells = s.cells ∧ (subReg a n s).checkTurn = s.checkTurn ∧
    (subReg a n s).checkAt = s.checkAt ∧ (subReg a n s).segs = s.segs ∧ (subReg a n s).ps = s.ps ∧ (subReg a n s).psBad = s.psBad ∧
    (subReg a n s).eth = s.eth ∧ (subReg a n s).can = s.can ∧ (subReg a n s).lin = s.lin ∧ (subReg a n s).bridge = s.bridge ∧
    (subReg a n s).jrn = s.jrn ∧ (subReg a n s).inj = s.inj ∧ (subReg a n s).cross = s.cross ∧ (subReg a n s).dram = s.dram ∧
    (subReg a n s).rings = s.rings ∧ (subReg a n s).locks = s.locks ∧ (subReg a n s).fleases = s.fleases ∧
    (subReg a n s).sessions = s.sessions ∧ (subReg a n s).octIn = s.octIn ∧ (subReg a n s).ctlIn = s.ctlIn ∧
    (subReg a n s).octRun = s.octRun ∧ (subReg a n s).facetAddr = s.facetAddr ∧ (subReg a n s).facetReset = s.facetReset ∧
    (subReg a n s).facetResets = s.facetResets ∧ (subReg a n s).windows = s.windows ∧ (subReg a n s).accord = s.accord ∧
    (subReg a n s).cip = s.cip ∧ (subReg a n s).wake = s.wake ∧ (subReg a n s).power = s.power ∧ (subReg a n s).fw = s.fw ∧
    (subReg a n s).svc = s.svc := by
  and_intros <;> rfl

@[simp] theorem setLive_fields1 (a : Nat) (v : W32) :
    (setLive a v s).pending = s.pending ∧ (setLive a v s).now = s.now ∧ (setLive a v s).locus = s.locus ∧
    (setLive a v s).fresh = s.fresh ∧ (setLive a v s).resp = s.resp ∧ (setLive a v s).outbox = s.outbox ∧ (setLive a v s).regs = s.regs ∧
    (setLive a v s).loHeld = s.loHeld ∧ (setLive a v s).hiLatch = s.hiLatch ∧ (setLive a v s).baseline = s.baseline ∧
    (setLive a v s).counters = s.counters ∧ (setLive a v s).faultLatch = s.faultLatch ∧ (setLive a v s).softReset = s.softReset ∧
    (setLive a v s).staging = s.staging ∧ (setLive a v s).drain = s.drain ∧ (setLive a v s).shadow = s.shadow ∧
    (setLive a v s).drainShadow = s.drainShadow ∧ (setLive a v s).epoch = s.epoch ∧ (setLive a v s).tags = s.tags ∧
    (setLive a v s).tagFrames = s.tagFrames ∧ (setLive a v s).quotaEp = s.quotaEp ∧ (setLive a v s).ctxEp = s.ctxEp ∧
    (setLive a v s).seqs = s.seqs ∧ (setLive a v s).lastStamp = s.lastStamp ∧ (setLive a v s).nextId = s.nextId ∧
    (setLive a v s).mp = s.mp ∧ (setLive a v s).mpRestarts = s.mpRestarts := by
  and_intros <;> rfl

@[simp] theorem setLive_fields2 (a : Nat) (v : W32) :
    (setLive a v s).loc = s.loc ∧ (setLive a v s).domains = s.domains ∧ (setLive a v s).ptpOut = s.ptpOut ∧
    (setLive a v s).linkDelay = s.linkDelay ∧ (setLive a v s).txq = s.txq ∧ (setLive a v s).syncs = s.syncs ∧
    (setLive a v s).caps = s.caps ∧ (setLive a v s).plane = s.plane ∧ (setLive a v s).inputs = s.inputs ∧
    (setLive a v s).lanes = s.lanes ∧ (setLive a v s).planeQ = s.planeQ ∧ (setLive a v s).queues = s.queues ∧
    (setLive a v s).egress = s.egress ∧ (setLive a v s).mappedOut = s.mappedOut ∧ (setLive a v s).cellErrs = s.cellErrs ∧
    (setLive a v s).cellDue = s.cellDue ∧ (setLive a v s).learnQ = s.learnQ ∧ (setLive a v s).unplaced = s.unplaced ∧
    (setLive a v s).rebuilding = s.rebuilding ∧ (setLive a v s).reqRehash = s.reqRehash ∧ (setLive a v s).tblCompare = s.tblCompare ∧
    (setLive a v s).brgCompare = s.brgCompare ∧ (setLive a v s).ageAt = s.ageAt ∧ (setLive a v s).cmds = s.cmds ∧
    (setLive a v s).meters = s.meters ∧ (setLive a v s).blocked = s.blocked ∧ (setLive a v s).admission = s.admission := by
  and_intros <;> rfl

@[simp] theorem setLive_fields3 (a : Nat) (v : W32) :
    (setLive a v s).admitTurn = s.admitTurn ∧ (setLive a v s).ctxs = s.ctxs ∧ (setLive a v s).issueTurn = s.issueTurn ∧
    (setLive a v s).codeLines = s.codeLines ∧ (setLive a v s).lastIssue = s.lastIssue ∧ (setLive a v s).lastXfer = s.lastXfer ∧
    (setLive a v s).replayQ = s.replayQ ∧ (setLive a v s).cells = s.cells ∧ (setLive a v s).checkTurn = s.checkTurn ∧
    (setLive a v s).checkAt = s.checkAt ∧ (setLive a v s).segs = s.segs ∧ (setLive a v s).ps = s.ps ∧ (setLive a v s).psBad = s.psBad ∧
    (setLive a v s).eth = s.eth ∧ (setLive a v s).can = s.can ∧ (setLive a v s).lin = s.lin ∧ (setLive a v s).bridge = s.bridge ∧
    (setLive a v s).jrn = s.jrn ∧ (setLive a v s).inj = s.inj ∧ (setLive a v s).cross = s.cross ∧ (setLive a v s).dram = s.dram ∧
    (setLive a v s).rings = s.rings ∧ (setLive a v s).locks = s.locks ∧ (setLive a v s).fleases = s.fleases ∧
    (setLive a v s).sessions = s.sessions ∧ (setLive a v s).octIn = s.octIn ∧ (setLive a v s).ctlIn = s.ctlIn ∧
    (setLive a v s).octRun = s.octRun ∧ (setLive a v s).facetAddr = s.facetAddr ∧ (setLive a v s).facetReset = s.facetReset ∧
    (setLive a v s).facetResets = s.facetResets ∧ (setLive a v s).windows = s.windows ∧ (setLive a v s).accord = s.accord ∧
    (setLive a v s).cip = s.cip ∧ (setLive a v s).wake = s.wake ∧ (setLive a v s).power = s.power ∧ (setLive a v s).fw = s.fw ∧
    (setLive a v s).svc = s.svc := by
  and_intros <;> rfl

@[simp] theorem setStaged_fields1 (a : Nat) (v : W32) :
    (setStaged a v s).pending = s.pending ∧ (setStaged a v s).now = s.now ∧ (setStaged a v s).locus = s.locus ∧
    (setStaged a v s).fresh = s.fresh ∧ (setStaged a v s).resp = s.resp ∧ (setStaged a v s).outbox = s.outbox ∧
    (setStaged a v s).regs = s.regs ∧ (setStaged a v s).loHeld = s.loHeld ∧ (setStaged a v s).hiLatch = s.hiLatch ∧
    (setStaged a v s).baseline = s.baseline ∧ (setStaged a v s).counters = s.counters ∧ (setStaged a v s).faultLatch = s.faultLatch ∧
    (setStaged a v s).softReset = s.softReset ∧ (setStaged a v s).live = s.live ∧ (setStaged a v s).drain = s.drain ∧
    (setStaged a v s).shadow = s.shadow ∧ (setStaged a v s).drainShadow = s.drainShadow ∧ (setStaged a v s).epoch = s.epoch ∧
    (setStaged a v s).tags = s.tags ∧ (setStaged a v s).tagFrames = s.tagFrames ∧ (setStaged a v s).quotaEp = s.quotaEp ∧
    (setStaged a v s).ctxEp = s.ctxEp ∧ (setStaged a v s).seqs = s.seqs ∧ (setStaged a v s).lastStamp = s.lastStamp ∧
    (setStaged a v s).nextId = s.nextId ∧ (setStaged a v s).mp = s.mp ∧ (setStaged a v s).mpRestarts = s.mpRestarts := by
  and_intros <;> rfl

@[simp] theorem setStaged_fields2 (a : Nat) (v : W32) :
    (setStaged a v s).loc = s.loc ∧ (setStaged a v s).domains = s.domains ∧ (setStaged a v s).ptpOut = s.ptpOut ∧
    (setStaged a v s).linkDelay = s.linkDelay ∧ (setStaged a v s).txq = s.txq ∧ (setStaged a v s).syncs = s.syncs ∧
    (setStaged a v s).caps = s.caps ∧ (setStaged a v s).plane = s.plane ∧ (setStaged a v s).inputs = s.inputs ∧
    (setStaged a v s).lanes = s.lanes ∧ (setStaged a v s).planeQ = s.planeQ ∧ (setStaged a v s).queues = s.queues ∧
    (setStaged a v s).egress = s.egress ∧ (setStaged a v s).mappedOut = s.mappedOut ∧ (setStaged a v s).cellErrs = s.cellErrs ∧
    (setStaged a v s).cellDue = s.cellDue ∧ (setStaged a v s).learnQ = s.learnQ ∧ (setStaged a v s).unplaced = s.unplaced ∧
    (setStaged a v s).rebuilding = s.rebuilding ∧ (setStaged a v s).reqRehash = s.reqRehash ∧
    (setStaged a v s).tblCompare = s.tblCompare ∧ (setStaged a v s).brgCompare = s.brgCompare ∧ (setStaged a v s).ageAt = s.ageAt ∧
    (setStaged a v s).cmds = s.cmds ∧ (setStaged a v s).meters = s.meters ∧ (setStaged a v s).blocked = s.blocked ∧
    (setStaged a v s).admission = s.admission := by
  and_intros <;> rfl

@[simp] theorem setStaged_fields3 (a : Nat) (v : W32) :
    (setStaged a v s).admitTurn = s.admitTurn ∧ (setStaged a v s).ctxs = s.ctxs ∧ (setStaged a v s).issueTurn = s.issueTurn ∧
    (setStaged a v s).codeLines = s.codeLines ∧ (setStaged a v s).lastIssue = s.lastIssue ∧ (setStaged a v s).lastXfer = s.lastXfer ∧
    (setStaged a v s).replayQ = s.replayQ ∧ (setStaged a v s).cells = s.cells ∧ (setStaged a v s).checkTurn = s.checkTurn ∧
    (setStaged a v s).checkAt = s.checkAt ∧ (setStaged a v s).segs = s.segs ∧ (setStaged a v s).ps = s.ps ∧
    (setStaged a v s).psBad = s.psBad ∧ (setStaged a v s).eth = s.eth ∧ (setStaged a v s).can = s.can ∧ (setStaged a v s).lin = s.lin ∧
    (setStaged a v s).bridge = s.bridge ∧ (setStaged a v s).jrn = s.jrn ∧ (setStaged a v s).inj = s.inj ∧
    (setStaged a v s).cross = s.cross ∧ (setStaged a v s).dram = s.dram ∧ (setStaged a v s).rings = s.rings ∧
    (setStaged a v s).locks = s.locks ∧ (setStaged a v s).fleases = s.fleases ∧ (setStaged a v s).sessions = s.sessions ∧
    (setStaged a v s).octIn = s.octIn ∧ (setStaged a v s).ctlIn = s.ctlIn ∧ (setStaged a v s).octRun = s.octRun ∧
    (setStaged a v s).facetAddr = s.facetAddr ∧ (setStaged a v s).facetReset = s.facetReset ∧
    (setStaged a v s).facetResets = s.facetResets ∧ (setStaged a v s).windows = s.windows ∧ (setStaged a v s).accord = s.accord ∧
    (setStaged a v s).cip = s.cip ∧ (setStaged a v s).wake = s.wake ∧ (setStaged a v s).power = s.power ∧ (setStaged a v s).fw = s.fw ∧
    (setStaged a v s).svc = s.svc := by
  and_intros <;> rfl

@[simp] theorem takeSeq_fields1 (v stamp : Nat) :
    (takeSeq v stamp s).pending = s.pending ∧ (takeSeq v stamp s).now = s.now ∧ (takeSeq v stamp s).locus = s.locus ∧
    (takeSeq v stamp s).fresh = s.fresh ∧ (takeSeq v stamp s).resp = s.resp ∧ (takeSeq v stamp s).outbox = s.outbox ∧
    (takeSeq v stamp s).regs = s.regs ∧ (takeSeq v stamp s).loHeld = s.loHeld ∧ (takeSeq v stamp s).hiLatch = s.hiLatch ∧
    (takeSeq v stamp s).baseline = s.baseline ∧ (takeSeq v stamp s).counters = s.counters ∧
    (takeSeq v stamp s).faultLatch = s.faultLatch ∧ (takeSeq v stamp s).softReset = s.softReset ∧ (takeSeq v stamp s).live = s.live ∧
    (takeSeq v stamp s).staging = s.staging ∧ (takeSeq v stamp s).drain = s.drain ∧ (takeSeq v stamp s).shadow = s.shadow ∧
    (takeSeq v stamp s).drainShadow = s.drainShadow ∧ (takeSeq v stamp s).epoch = s.epoch ∧ (takeSeq v stamp s).tags = s.tags ∧
    (takeSeq v stamp s).tagFrames = s.tagFrames ∧ (takeSeq v stamp s).quotaEp = s.quotaEp ∧ (takeSeq v stamp s).ctxEp = s.ctxEp ∧
    (takeSeq v stamp s).nextId = s.nextId ∧ (takeSeq v stamp s).mp = s.mp ∧ (takeSeq v stamp s).mpRestarts = s.mpRestarts ∧
    (takeSeq v stamp s).loc = s.loc := by
  and_intros <;> rfl

@[simp] theorem takeSeq_fields2 (v stamp : Nat) :
    (takeSeq v stamp s).domains = s.domains ∧ (takeSeq v stamp s).ptpOut = s.ptpOut ∧ (takeSeq v stamp s).linkDelay = s.linkDelay ∧
    (takeSeq v stamp s).txq = s.txq ∧ (takeSeq v stamp s).syncs = s.syncs ∧ (takeSeq v stamp s).caps = s.caps ∧
    (takeSeq v stamp s).plane = s.plane ∧ (takeSeq v stamp s).inputs = s.inputs ∧ (takeSeq v stamp s).lanes = s.lanes ∧
    (takeSeq v stamp s).planeQ = s.planeQ ∧ (takeSeq v stamp s).queues = s.queues ∧ (takeSeq v stamp s).egress = s.egress ∧
    (takeSeq v stamp s).mappedOut = s.mappedOut ∧ (takeSeq v stamp s).cellErrs = s.cellErrs ∧ (takeSeq v stamp s).cellDue = s.cellDue ∧
    (takeSeq v stamp s).learnQ = s.learnQ ∧ (takeSeq v stamp s).unplaced = s.unplaced ∧ (takeSeq v stamp s).rebuilding = s.rebuilding ∧
    (takeSeq v stamp s).reqRehash = s.reqRehash ∧ (takeSeq v stamp s).tblCompare = s.tblCompare ∧
    (takeSeq v stamp s).brgCompare = s.brgCompare ∧ (takeSeq v stamp s).ageAt = s.ageAt ∧ (takeSeq v stamp s).cmds = s.cmds ∧
    (takeSeq v stamp s).meters = s.meters ∧ (takeSeq v stamp s).blocked = s.blocked ∧ (takeSeq v stamp s).admission = s.admission ∧
    (takeSeq v stamp s).admitTurn = s.admitTurn := by
  and_intros <;> rfl

@[simp] theorem takeSeq_fields3 (v stamp : Nat) :
    (takeSeq v stamp s).ctxs = s.ctxs ∧ (takeSeq v stamp s).issueTurn = s.issueTurn ∧ (takeSeq v stamp s).codeLines = s.codeLines ∧
    (takeSeq v stamp s).lastIssue = s.lastIssue ∧ (takeSeq v stamp s).lastXfer = s.lastXfer ∧ (takeSeq v stamp s).replayQ = s.replayQ ∧
    (takeSeq v stamp s).cells = s.cells ∧ (takeSeq v stamp s).checkTurn = s.checkTurn ∧ (takeSeq v stamp s).checkAt = s.checkAt ∧
    (takeSeq v stamp s).segs = s.segs ∧ (takeSeq v stamp s).ps = s.ps ∧ (takeSeq v stamp s).psBad = s.psBad ∧
    (takeSeq v stamp s).eth = s.eth ∧ (takeSeq v stamp s).can = s.can ∧ (takeSeq v stamp s).lin = s.lin ∧
    (takeSeq v stamp s).bridge = s.bridge ∧ (takeSeq v stamp s).jrn = s.jrn ∧ (takeSeq v stamp s).inj = s.inj ∧
    (takeSeq v stamp s).cross = s.cross ∧ (takeSeq v stamp s).dram = s.dram ∧ (takeSeq v stamp s).rings = s.rings ∧
    (takeSeq v stamp s).locks = s.locks ∧ (takeSeq v stamp s).fleases = s.fleases ∧ (takeSeq v stamp s).sessions = s.sessions ∧
    (takeSeq v stamp s).octIn = s.octIn ∧ (takeSeq v stamp s).ctlIn = s.ctlIn ∧ (takeSeq v stamp s).octRun = s.octRun ∧
    (takeSeq v stamp s).facetAddr = s.facetAddr ∧ (takeSeq v stamp s).facetReset = s.facetReset ∧
    (takeSeq v stamp s).facetResets = s.facetResets ∧ (takeSeq v stamp s).windows = s.windows ∧ (takeSeq v stamp s).accord = s.accord ∧
    (takeSeq v stamp s).cip = s.cip ∧ (takeSeq v stamp s).wake = s.wake ∧ (takeSeq v stamp s).power = s.power ∧
    (takeSeq v stamp s).fw = s.fw ∧ (takeSeq v stamp s).svc = s.svc := by
  and_intros <;> rfl

@[simp] theorem takeTag_fields1 (f : Nat) :
    (takeTag f s).pending = s.pending ∧ (takeTag f s).now = s.now ∧ (takeTag f s).locus = s.locus ∧ (takeTag f s).fresh = s.fresh ∧
    (takeTag f s).resp = s.resp ∧ (takeTag f s).outbox = s.outbox ∧ (takeTag f s).regs = s.regs ∧ (takeTag f s).loHeld = s.loHeld ∧
    (takeTag f s).hiLatch = s.hiLatch ∧ (takeTag f s).baseline = s.baseline ∧ (takeTag f s).counters = s.counters ∧
    (takeTag f s).faultLatch = s.faultLatch ∧ (takeTag f s).softReset = s.softReset ∧ (takeTag f s).live = s.live ∧
    (takeTag f s).staging = s.staging ∧ (takeTag f s).drain = s.drain ∧ (takeTag f s).shadow = s.shadow ∧
    (takeTag f s).drainShadow = s.drainShadow ∧ (takeTag f s).epoch = s.epoch ∧ (takeTag f s).tagFrames = s.tagFrames ∧
    (takeTag f s).quotaEp = s.quotaEp ∧ (takeTag f s).ctxEp = s.ctxEp ∧ (takeTag f s).seqs = s.seqs ∧
    (takeTag f s).lastStamp = s.lastStamp ∧ (takeTag f s).nextId = s.nextId ∧ (takeTag f s).mp = s.mp ∧
    (takeTag f s).mpRestarts = s.mpRestarts := by
  and_intros <;> rfl

@[simp] theorem takeTag_fields2 (f : Nat) :
    (takeTag f s).loc = s.loc ∧ (takeTag f s).domains = s.domains ∧ (takeTag f s).ptpOut = s.ptpOut ∧
    (takeTag f s).linkDelay = s.linkDelay ∧ (takeTag f s).txq = s.txq ∧ (takeTag f s).syncs = s.syncs ∧ (takeTag f s).caps = s.caps ∧
    (takeTag f s).plane = s.plane ∧ (takeTag f s).inputs = s.inputs ∧ (takeTag f s).lanes = s.lanes ∧ (takeTag f s).planeQ = s.planeQ ∧
    (takeTag f s).queues = s.queues ∧ (takeTag f s).egress = s.egress ∧ (takeTag f s).mappedOut = s.mappedOut ∧
    (takeTag f s).cellErrs = s.cellErrs ∧ (takeTag f s).cellDue = s.cellDue ∧ (takeTag f s).learnQ = s.learnQ ∧
    (takeTag f s).unplaced = s.unplaced ∧ (takeTag f s).rebuilding = s.rebuilding ∧ (takeTag f s).reqRehash = s.reqRehash ∧
    (takeTag f s).tblCompare = s.tblCompare ∧ (takeTag f s).brgCompare = s.brgCompare ∧ (takeTag f s).ageAt = s.ageAt ∧
    (takeTag f s).cmds = s.cmds ∧ (takeTag f s).meters = s.meters ∧ (takeTag f s).blocked = s.blocked ∧
    (takeTag f s).admission = s.admission := by
  and_intros <;> rfl

@[simp] theorem takeTag_fields3 (f : Nat) :
    (takeTag f s).admitTurn = s.admitTurn ∧ (takeTag f s).ctxs = s.ctxs ∧ (takeTag f s).issueTurn = s.issueTurn ∧
    (takeTag f s).codeLines = s.codeLines ∧ (takeTag f s).lastIssue = s.lastIssue ∧ (takeTag f s).lastXfer = s.lastXfer ∧
    (takeTag f s).replayQ = s.replayQ ∧ (takeTag f s).cells = s.cells ∧ (takeTag f s).checkTurn = s.checkTurn ∧
    (takeTag f s).checkAt = s.checkAt ∧ (takeTag f s).segs = s.segs ∧ (takeTag f s).ps = s.ps ∧ (takeTag f s).psBad = s.psBad ∧
    (takeTag f s).eth = s.eth ∧ (takeTag f s).can = s.can ∧ (takeTag f s).lin = s.lin ∧ (takeTag f s).bridge = s.bridge ∧
    (takeTag f s).jrn = s.jrn ∧ (takeTag f s).inj = s.inj ∧ (takeTag f s).cross = s.cross ∧ (takeTag f s).dram = s.dram ∧
    (takeTag f s).rings = s.rings ∧ (takeTag f s).locks = s.locks ∧ (takeTag f s).fleases = s.fleases ∧
    (takeTag f s).sessions = s.sessions ∧ (takeTag f s).octIn = s.octIn ∧ (takeTag f s).ctlIn = s.ctlIn ∧
    (takeTag f s).octRun = s.octRun ∧ (takeTag f s).facetAddr = s.facetAddr ∧ (takeTag f s).facetReset = s.facetReset ∧
    (takeTag f s).facetResets = s.facetResets ∧ (takeTag f s).windows = s.windows ∧ (takeTag f s).accord = s.accord ∧
    (takeTag f s).cip = s.cip ∧ (takeTag f s).wake = s.wake ∧ (takeTag f s).power = s.power ∧ (takeTag f s).fw = s.fw ∧
    (takeTag f s).svc = s.svc := by
  and_intros <;> rfl

@[simp] theorem freshen_fields1 :
    (freshen s).pending = s.pending ∧ (freshen s).now = s.now ∧ (freshen s).locus = s.locus ∧ (freshen s).resp = s.resp ∧
    (freshen s).outbox = s.outbox ∧ (freshen s).regs = s.regs ∧ (freshen s).loHeld = s.loHeld ∧ (freshen s).hiLatch = s.hiLatch ∧
    (freshen s).baseline = s.baseline ∧ (freshen s).counters = s.counters ∧ (freshen s).faultLatch = s.faultLatch ∧
    (freshen s).softReset = s.softReset ∧ (freshen s).live = s.live ∧ (freshen s).staging = s.staging ∧ (freshen s).drain = s.drain ∧
    (freshen s).shadow = s.shadow ∧ (freshen s).drainShadow = s.drainShadow ∧ (freshen s).epoch = s.epoch ∧ (freshen s).tags = s.tags ∧
    (freshen s).tagFrames = s.tagFrames ∧ (freshen s).quotaEp = s.quotaEp ∧ (freshen s).ctxEp = s.ctxEp ∧ (freshen s).seqs = s.seqs ∧
    (freshen s).lastStamp = s.lastStamp ∧ (freshen s).nextId = s.nextId ∧ (freshen s).mp = s.mp ∧ (freshen s).mpRestarts = s.mpRestarts := by
  and_intros <;> rfl

@[simp] theorem freshen_fields2 :
    (freshen s).loc = s.loc ∧ (freshen s).domains = s.domains ∧ (freshen s).ptpOut = s.ptpOut ∧ (freshen s).linkDelay = s.linkDelay ∧
    (freshen s).txq = s.txq ∧ (freshen s).syncs = s.syncs ∧ (freshen s).caps = s.caps ∧ (freshen s).plane = s.plane ∧
    (freshen s).inputs = s.inputs ∧ (freshen s).lanes = s.lanes ∧ (freshen s).planeQ = s.planeQ ∧ (freshen s).queues = s.queues ∧
    (freshen s).egress = s.egress ∧ (freshen s).mappedOut = s.mappedOut ∧ (freshen s).cellErrs = s.cellErrs ∧
    (freshen s).cellDue = s.cellDue ∧ (freshen s).learnQ = s.learnQ ∧ (freshen s).unplaced = s.unplaced ∧
    (freshen s).rebuilding = s.rebuilding ∧ (freshen s).reqRehash = s.reqRehash ∧ (freshen s).tblCompare = s.tblCompare ∧
    (freshen s).brgCompare = s.brgCompare ∧ (freshen s).ageAt = s.ageAt ∧ (freshen s).cmds = s.cmds ∧ (freshen s).meters = s.meters ∧
    (freshen s).blocked = s.blocked ∧ (freshen s).admission = s.admission := by
  and_intros <;> rfl

@[simp] theorem freshen_fields3 :
    (freshen s).admitTurn = s.admitTurn ∧ (freshen s).ctxs = s.ctxs ∧ (freshen s).issueTurn = s.issueTurn ∧
    (freshen s).codeLines = s.codeLines ∧ (freshen s).lastIssue = s.lastIssue ∧ (freshen s).lastXfer = s.lastXfer ∧
    (freshen s).replayQ = s.replayQ ∧ (freshen s).cells = s.cells ∧ (freshen s).checkTurn = s.checkTurn ∧
    (freshen s).checkAt = s.checkAt ∧ (freshen s).segs = s.segs ∧ (freshen s).ps = s.ps ∧ (freshen s).psBad = s.psBad ∧
    (freshen s).eth = s.eth ∧ (freshen s).can = s.can ∧ (freshen s).lin = s.lin ∧ (freshen s).bridge = s.bridge ∧
    (freshen s).jrn = s.jrn ∧ (freshen s).inj = s.inj ∧ (freshen s).cross = s.cross ∧ (freshen s).dram = s.dram ∧
    (freshen s).rings = s.rings ∧ (freshen s).locks = s.locks ∧ (freshen s).fleases = s.fleases ∧ (freshen s).sessions = s.sessions ∧
    (freshen s).octIn = s.octIn ∧ (freshen s).ctlIn = s.ctlIn ∧ (freshen s).octRun = s.octRun ∧ (freshen s).facetAddr = s.facetAddr ∧
    (freshen s).facetReset = s.facetReset ∧ (freshen s).facetResets = s.facetResets ∧ (freshen s).windows = s.windows ∧
    (freshen s).accord = s.accord ∧ (freshen s).cip = s.cip ∧ (freshen s).wake = s.wake ∧ (freshen s).power = s.power ∧
    (freshen s).fw = s.fw ∧ (freshen s).svc = s.svc := by
  and_intros <;> rfl

@[simp] theorem answer_fields1 (r : Rsp) (d : List W32) :
    (answer r d s).pending = s.pending ∧ (answer r d s).now = s.now ∧ (answer r d s).locus = s.locus ∧ (answer r d s).fresh = s.fresh ∧
    (answer r d s).outbox = s.outbox ∧ (answer r d s).regs = s.regs ∧ (answer r d s).loHeld = s.loHeld ∧
    (answer r d s).hiLatch = s.hiLatch ∧ (answer r d s).baseline = s.baseline ∧ (answer r d s).counters = s.counters ∧
    (answer r d s).faultLatch = s.faultLatch ∧ (answer r d s).softReset = s.softReset ∧ (answer r d s).live = s.live ∧
    (answer r d s).staging = s.staging ∧ (answer r d s).drain = s.drain ∧ (answer r d s).shadow = s.shadow ∧
    (answer r d s).drainShadow = s.drainShadow ∧ (answer r d s).epoch = s.epoch ∧ (answer r d s).tags = s.tags ∧
    (answer r d s).tagFrames = s.tagFrames ∧ (answer r d s).quotaEp = s.quotaEp ∧ (answer r d s).ctxEp = s.ctxEp ∧
    (answer r d s).seqs = s.seqs ∧ (answer r d s).lastStamp = s.lastStamp ∧ (answer r d s).nextId = s.nextId ∧ (answer r d s).mp = s.mp ∧
    (answer r d s).mpRestarts = s.mpRestarts := by
  and_intros <;> rfl

@[simp] theorem answer_fields2 (r : Rsp) (d : List W32) :
    (answer r d s).loc = s.loc ∧ (answer r d s).domains = s.domains ∧ (answer r d s).ptpOut = s.ptpOut ∧
    (answer r d s).linkDelay = s.linkDelay ∧ (answer r d s).txq = s.txq ∧ (answer r d s).syncs = s.syncs ∧ (answer r d s).caps = s.caps ∧
    (answer r d s).plane = s.plane ∧ (answer r d s).inputs = s.inputs ∧ (answer r d s).lanes = s.lanes ∧
    (answer r d s).planeQ = s.planeQ ∧ (answer r d s).queues = s.queues ∧ (answer r d s).egress = s.egress ∧
    (answer r d s).mappedOut = s.mappedOut ∧ (answer r d s).cellErrs = s.cellErrs ∧ (answer r d s).cellDue = s.cellDue ∧
    (answer r d s).learnQ = s.learnQ ∧ (answer r d s).unplaced = s.unplaced ∧ (answer r d s).rebuilding = s.rebuilding ∧
    (answer r d s).reqRehash = s.reqRehash ∧ (answer r d s).tblCompare = s.tblCompare ∧ (answer r d s).brgCompare = s.brgCompare ∧
    (answer r d s).ageAt = s.ageAt ∧ (answer r d s).cmds = s.cmds ∧ (answer r d s).meters = s.meters ∧
    (answer r d s).blocked = s.blocked ∧ (answer r d s).admission = s.admission := by
  and_intros <;> rfl

@[simp] theorem answer_fields3 (r : Rsp) (d : List W32) :
    (answer r d s).admitTurn = s.admitTurn ∧ (answer r d s).ctxs = s.ctxs ∧ (answer r d s).issueTurn = s.issueTurn ∧
    (answer r d s).codeLines = s.codeLines ∧ (answer r d s).lastIssue = s.lastIssue ∧ (answer r d s).lastXfer = s.lastXfer ∧
    (answer r d s).replayQ = s.replayQ ∧ (answer r d s).cells = s.cells ∧ (answer r d s).checkTurn = s.checkTurn ∧
    (answer r d s).checkAt = s.checkAt ∧ (answer r d s).segs = s.segs ∧ (answer r d s).ps = s.ps ∧ (answer r d s).psBad = s.psBad ∧
    (answer r d s).eth = s.eth ∧ (answer r d s).can = s.can ∧ (answer r d s).lin = s.lin ∧ (answer r d s).bridge = s.bridge ∧
    (answer r d s).jrn = s.jrn ∧ (answer r d s).inj = s.inj ∧ (answer r d s).cross = s.cross ∧ (answer r d s).dram = s.dram ∧
    (answer r d s).rings = s.rings ∧ (answer r d s).locks = s.locks ∧ (answer r d s).fleases = s.fleases ∧
    (answer r d s).sessions = s.sessions ∧ (answer r d s).octIn = s.octIn ∧ (answer r d s).ctlIn = s.ctlIn ∧
    (answer r d s).octRun = s.octRun ∧ (answer r d s).facetAddr = s.facetAddr ∧ (answer r d s).facetReset = s.facetReset ∧
    (answer r d s).facetResets = s.facetResets ∧ (answer r d s).windows = s.windows ∧ (answer r d s).accord = s.accord ∧
    (answer r d s).cip = s.cip ∧ (answer r d s).wake = s.wake ∧ (answer r d s).power = s.power ∧ (answer r d s).fw = s.fw ∧
    (answer r d s).svc = s.svc := by
  and_intros <;> rfl

@[simp] theorem chargeIn_fields1 (v f n : Nat) :
    (chargeIn v f n s).pending = s.pending ∧ (chargeIn v f n s).now = s.now ∧ (chargeIn v f n s).locus = s.locus ∧
    (chargeIn v f n s).fresh = s.fresh ∧ (chargeIn v f n s).resp = s.resp ∧ (chargeIn v f n s).outbox = s.outbox ∧
    (chargeIn v f n s).loHeld = s.loHeld ∧ (chargeIn v f n s).hiLatch = s.hiLatch ∧ (chargeIn v f n s).baseline = s.baseline ∧
    (chargeIn v f n s).counters = s.counters ∧ (chargeIn v f n s).faultLatch = s.faultLatch ∧
    (chargeIn v f n s).softReset = s.softReset ∧ (chargeIn v f n s).live = s.live ∧ (chargeIn v f n s).staging = s.staging ∧
    (chargeIn v f n s).drain = s.drain ∧ (chargeIn v f n s).shadow = s.shadow ∧ (chargeIn v f n s).drainShadow = s.drainShadow ∧
    (chargeIn v f n s).epoch = s.epoch ∧ (chargeIn v f n s).tags = s.tags ∧ (chargeIn v f n s).tagFrames = s.tagFrames ∧
    (chargeIn v f n s).quotaEp = s.quotaEp ∧ (chargeIn v f n s).ctxEp = s.ctxEp ∧ (chargeIn v f n s).seqs = s.seqs ∧
    (chargeIn v f n s).lastStamp = s.lastStamp ∧ (chargeIn v f n s).nextId = s.nextId ∧ (chargeIn v f n s).mp = s.mp ∧
    (chargeIn v f n s).mpRestarts = s.mpRestarts := by
  simp [chargeIn]

@[simp] theorem chargeIn_fields2 (v f n : Nat) :
    (chargeIn v f n s).loc = s.loc ∧ (chargeIn v f n s).domains = s.domains ∧ (chargeIn v f n s).ptpOut = s.ptpOut ∧
    (chargeIn v f n s).linkDelay = s.linkDelay ∧ (chargeIn v f n s).txq = s.txq ∧ (chargeIn v f n s).syncs = s.syncs ∧
    (chargeIn v f n s).caps = s.caps ∧ (chargeIn v f n s).plane = s.plane ∧ (chargeIn v f n s).inputs = s.inputs ∧
    (chargeIn v f n s).lanes = s.lanes ∧ (chargeIn v f n s).planeQ = s.planeQ ∧ (chargeIn v f n s).queues = s.queues ∧
    (chargeIn v f n s).egress = s.egress ∧ (chargeIn v f n s).mappedOut = s.mappedOut ∧ (chargeIn v f n s).cellErrs = s.cellErrs ∧
    (chargeIn v f n s).cellDue = s.cellDue ∧ (chargeIn v f n s).learnQ = s.learnQ ∧ (chargeIn v f n s).unplaced = s.unplaced ∧
    (chargeIn v f n s).rebuilding = s.rebuilding ∧ (chargeIn v f n s).reqRehash = s.reqRehash ∧
    (chargeIn v f n s).tblCompare = s.tblCompare ∧ (chargeIn v f n s).brgCompare = s.brgCompare ∧ (chargeIn v f n s).ageAt = s.ageAt ∧
    (chargeIn v f n s).cmds = s.cmds ∧ (chargeIn v f n s).meters = s.meters ∧ (chargeIn v f n s).blocked = s.blocked ∧
    (chargeIn v f n s).admission = s.admission := by
  simp [chargeIn]

@[simp] theorem chargeIn_fields3 (v f n : Nat) :
    (chargeIn v f n s).admitTurn = s.admitTurn ∧ (chargeIn v f n s).ctxs = s.ctxs ∧ (chargeIn v f n s).issueTurn = s.issueTurn ∧
    (chargeIn v f n s).codeLines = s.codeLines ∧ (chargeIn v f n s).lastIssue = s.lastIssue ∧ (chargeIn v f n s).lastXfer = s.lastXfer ∧
    (chargeIn v f n s).replayQ = s.replayQ ∧ (chargeIn v f n s).cells = s.cells ∧ (chargeIn v f n s).checkTurn = s.checkTurn ∧
    (chargeIn v f n s).checkAt = s.checkAt ∧ (chargeIn v f n s).segs = s.segs ∧ (chargeIn v f n s).ps = s.ps ∧
    (chargeIn v f n s).psBad = s.psBad ∧ (chargeIn v f n s).eth = s.eth ∧ (chargeIn v f n s).can = s.can ∧
    (chargeIn v f n s).lin = s.lin ∧ (chargeIn v f n s).bridge = s.bridge ∧ (chargeIn v f n s).jrn = s.jrn ∧
    (chargeIn v f n s).inj = s.inj ∧ (chargeIn v f n s).cross = s.cross ∧ (chargeIn v f n s).dram = s.dram ∧
    (chargeIn v f n s).rings = s.rings ∧ (chargeIn v f n s).locks = s.locks ∧ (chargeIn v f n s).fleases = s.fleases ∧
    (chargeIn v f n s).sessions = s.sessions ∧ (chargeIn v f n s).octIn = s.octIn ∧ (chargeIn v f n s).ctlIn = s.ctlIn ∧
    (chargeIn v f n s).octRun = s.octRun ∧ (chargeIn v f n s).facetAddr = s.facetAddr ∧ (chargeIn v f n s).facetReset = s.facetReset ∧
    (chargeIn v f n s).facetResets = s.facetResets ∧ (chargeIn v f n s).windows = s.windows ∧ (chargeIn v f n s).accord = s.accord ∧
    (chargeIn v f n s).cip = s.cip ∧ (chargeIn v f n s).wake = s.wake ∧ (chargeIn v f n s).power = s.power ∧
    (chargeIn v f n s).fw = s.fw ∧ (chargeIn v f n s).svc = s.svc := by
  simp [chargeIn]

@[simp] theorem freeIn_fields1 (v f n : Nat) :
    (freeIn v f n s).pending = s.pending ∧ (freeIn v f n s).now = s.now ∧ (freeIn v f n s).locus = s.locus ∧
    (freeIn v f n s).fresh = s.fresh ∧ (freeIn v f n s).resp = s.resp ∧ (freeIn v f n s).outbox = s.outbox ∧
    (freeIn v f n s).loHeld = s.loHeld ∧ (freeIn v f n s).hiLatch = s.hiLatch ∧ (freeIn v f n s).baseline = s.baseline ∧
    (freeIn v f n s).counters = s.counters ∧ (freeIn v f n s).faultLatch = s.faultLatch ∧ (freeIn v f n s).softReset = s.softReset ∧
    (freeIn v f n s).live = s.live ∧ (freeIn v f n s).staging = s.staging ∧ (freeIn v f n s).drain = s.drain ∧
    (freeIn v f n s).shadow = s.shadow ∧ (freeIn v f n s).drainShadow = s.drainShadow ∧ (freeIn v f n s).epoch = s.epoch ∧
    (freeIn v f n s).tags = s.tags ∧ (freeIn v f n s).tagFrames = s.tagFrames ∧ (freeIn v f n s).quotaEp = s.quotaEp ∧
    (freeIn v f n s).ctxEp = s.ctxEp ∧ (freeIn v f n s).seqs = s.seqs ∧ (freeIn v f n s).lastStamp = s.lastStamp ∧
    (freeIn v f n s).nextId = s.nextId ∧ (freeIn v f n s).mp = s.mp ∧ (freeIn v f n s).mpRestarts = s.mpRestarts := by
  simp [freeIn]

@[simp] theorem freeIn_fields2 (v f n : Nat) :
    (freeIn v f n s).loc = s.loc ∧ (freeIn v f n s).domains = s.domains ∧ (freeIn v f n s).ptpOut = s.ptpOut ∧
    (freeIn v f n s).linkDelay = s.linkDelay ∧ (freeIn v f n s).txq = s.txq ∧ (freeIn v f n s).syncs = s.syncs ∧
    (freeIn v f n s).caps = s.caps ∧ (freeIn v f n s).plane = s.plane ∧ (freeIn v f n s).inputs = s.inputs ∧
    (freeIn v f n s).lanes = s.lanes ∧ (freeIn v f n s).planeQ = s.planeQ ∧ (freeIn v f n s).queues = s.queues ∧
    (freeIn v f n s).egress = s.egress ∧ (freeIn v f n s).mappedOut = s.mappedOut ∧ (freeIn v f n s).cellErrs = s.cellErrs ∧
    (freeIn v f n s).cellDue = s.cellDue ∧ (freeIn v f n s).learnQ = s.learnQ ∧ (freeIn v f n s).unplaced = s.unplaced ∧
    (freeIn v f n s).rebuilding = s.rebuilding ∧ (freeIn v f n s).reqRehash = s.reqRehash ∧ (freeIn v f n s).tblCompare = s.tblCompare ∧
    (freeIn v f n s).brgCompare = s.brgCompare ∧ (freeIn v f n s).ageAt = s.ageAt ∧ (freeIn v f n s).cmds = s.cmds ∧
    (freeIn v f n s).meters = s.meters ∧ (freeIn v f n s).blocked = s.blocked ∧ (freeIn v f n s).admission = s.admission := by
  simp [freeIn]

@[simp] theorem freeIn_fields3 (v f n : Nat) :
    (freeIn v f n s).admitTurn = s.admitTurn ∧ (freeIn v f n s).ctxs = s.ctxs ∧ (freeIn v f n s).issueTurn = s.issueTurn ∧
    (freeIn v f n s).codeLines = s.codeLines ∧ (freeIn v f n s).lastIssue = s.lastIssue ∧ (freeIn v f n s).lastXfer = s.lastXfer ∧
    (freeIn v f n s).replayQ = s.replayQ ∧ (freeIn v f n s).cells = s.cells ∧ (freeIn v f n s).checkTurn = s.checkTurn ∧
    (freeIn v f n s).checkAt = s.checkAt ∧ (freeIn v f n s).segs = s.segs ∧ (freeIn v f n s).ps = s.ps ∧
    (freeIn v f n s).psBad = s.psBad ∧ (freeIn v f n s).eth = s.eth ∧ (freeIn v f n s).can = s.can ∧ (freeIn v f n s).lin = s.lin ∧
    (freeIn v f n s).bridge = s.bridge ∧ (freeIn v f n s).jrn = s.jrn ∧ (freeIn v f n s).inj = s.inj ∧ (freeIn v f n s).cross = s.cross ∧
    (freeIn v f n s).dram = s.dram ∧ (freeIn v f n s).rings = s.rings ∧ (freeIn v f n s).locks = s.locks ∧
    (freeIn v f n s).fleases = s.fleases ∧ (freeIn v f n s).sessions = s.sessions ∧ (freeIn v f n s).octIn = s.octIn ∧
    (freeIn v f n s).ctlIn = s.ctlIn ∧ (freeIn v f n s).octRun = s.octRun ∧ (freeIn v f n s).facetAddr = s.facetAddr ∧
    (freeIn v f n s).facetReset = s.facetReset ∧ (freeIn v f n s).facetResets = s.facetResets ∧ (freeIn v f n s).windows = s.windows ∧
    (freeIn v f n s).accord = s.accord ∧ (freeIn v f n s).cip = s.cip ∧ (freeIn v f n s).wake = s.wake ∧
    (freeIn v f n s).power = s.power ∧ (freeIn v f n s).fw = s.fw ∧ (freeIn v f n s).svc = s.svc := by
  simp [freeIn]

@[simp] theorem chargeQ_fields1 (v c i f n : Nat) :
    (chargeQ v c i f n s).pending = s.pending ∧ (chargeQ v c i f n s).now = s.now ∧ (chargeQ v c i f n s).locus = s.locus ∧
    (chargeQ v c i f n s).fresh = s.fresh ∧ (chargeQ v c i f n s).resp = s.resp ∧ (chargeQ v c i f n s).outbox = s.outbox ∧
    (chargeQ v c i f n s).loHeld = s.loHeld ∧ (chargeQ v c i f n s).hiLatch = s.hiLatch ∧ (chargeQ v c i f n s).baseline = s.baseline ∧
    (chargeQ v c i f n s).counters = s.counters ∧ (chargeQ v c i f n s).faultLatch = s.faultLatch ∧
    (chargeQ v c i f n s).softReset = s.softReset ∧ (chargeQ v c i f n s).live = s.live ∧ (chargeQ v c i f n s).staging = s.staging ∧
    (chargeQ v c i f n s).drain = s.drain ∧ (chargeQ v c i f n s).shadow = s.shadow ∧ (chargeQ v c i f n s).drainShadow = s.drainShadow ∧
    (chargeQ v c i f n s).epoch = s.epoch ∧ (chargeQ v c i f n s).tags = s.tags ∧ (chargeQ v c i f n s).tagFrames = s.tagFrames ∧
    (chargeQ v c i f n s).quotaEp = s.quotaEp ∧ (chargeQ v c i f n s).ctxEp = s.ctxEp ∧ (chargeQ v c i f n s).seqs = s.seqs ∧
    (chargeQ v c i f n s).lastStamp = s.lastStamp ∧ (chargeQ v c i f n s).nextId = s.nextId ∧ (chargeQ v c i f n s).mp = s.mp ∧
    (chargeQ v c i f n s).mpRestarts = s.mpRestarts := by
  simp [chargeQ]

@[simp] theorem chargeQ_fields2 (v c i f n : Nat) :
    (chargeQ v c i f n s).loc = s.loc ∧ (chargeQ v c i f n s).domains = s.domains ∧ (chargeQ v c i f n s).ptpOut = s.ptpOut ∧
    (chargeQ v c i f n s).linkDelay = s.linkDelay ∧ (chargeQ v c i f n s).txq = s.txq ∧ (chargeQ v c i f n s).syncs = s.syncs ∧
    (chargeQ v c i f n s).caps = s.caps ∧ (chargeQ v c i f n s).plane = s.plane ∧ (chargeQ v c i f n s).inputs = s.inputs ∧
    (chargeQ v c i f n s).lanes = s.lanes ∧ (chargeQ v c i f n s).planeQ = s.planeQ ∧ (chargeQ v c i f n s).queues = s.queues ∧
    (chargeQ v c i f n s).egress = s.egress ∧ (chargeQ v c i f n s).mappedOut = s.mappedOut ∧
    (chargeQ v c i f n s).cellErrs = s.cellErrs ∧ (chargeQ v c i f n s).cellDue = s.cellDue ∧ (chargeQ v c i f n s).learnQ = s.learnQ ∧
    (chargeQ v c i f n s).unplaced = s.unplaced ∧ (chargeQ v c i f n s).rebuilding = s.rebuilding ∧
    (chargeQ v c i f n s).reqRehash = s.reqRehash ∧ (chargeQ v c i f n s).tblCompare = s.tblCompare ∧
    (chargeQ v c i f n s).brgCompare = s.brgCompare ∧ (chargeQ v c i f n s).ageAt = s.ageAt ∧ (chargeQ v c i f n s).cmds = s.cmds ∧
    (chargeQ v c i f n s).meters = s.meters ∧ (chargeQ v c i f n s).blocked = s.blocked ∧ (chargeQ v c i f n s).admission = s.admission := by
  simp [chargeQ]

@[simp] theorem chargeQ_fields3 (v c i f n : Nat) :
    (chargeQ v c i f n s).admitTurn = s.admitTurn ∧ (chargeQ v c i f n s).ctxs = s.ctxs ∧ (chargeQ v c i f n s).issueTurn = s.issueTurn ∧
    (chargeQ v c i f n s).codeLines = s.codeLines ∧ (chargeQ v c i f n s).lastIssue = s.lastIssue ∧
    (chargeQ v c i f n s).lastXfer = s.lastXfer ∧ (chargeQ v c i f n s).replayQ = s.replayQ ∧ (chargeQ v c i f n s).cells = s.cells ∧
    (chargeQ v c i f n s).checkTurn = s.checkTurn ∧ (chargeQ v c i f n s).checkAt = s.checkAt ∧ (chargeQ v c i f n s).segs = s.segs ∧
    (chargeQ v c i f n s).ps = s.ps ∧ (chargeQ v c i f n s).psBad = s.psBad ∧ (chargeQ v c i f n s).eth = s.eth ∧
    (chargeQ v c i f n s).can = s.can ∧ (chargeQ v c i f n s).lin = s.lin ∧ (chargeQ v c i f n s).bridge = s.bridge ∧
    (chargeQ v c i f n s).jrn = s.jrn ∧ (chargeQ v c i f n s).inj = s.inj ∧ (chargeQ v c i f n s).cross = s.cross ∧
    (chargeQ v c i f n s).dram = s.dram ∧ (chargeQ v c i f n s).rings = s.rings ∧ (chargeQ v c i f n s).locks = s.locks ∧
    (chargeQ v c i f n s).fleases = s.fleases ∧ (chargeQ v c i f n s).sessions = s.sessions ∧ (chargeQ v c i f n s).octIn = s.octIn ∧
    (chargeQ v c i f n s).ctlIn = s.ctlIn ∧ (chargeQ v c i f n s).octRun = s.octRun ∧ (chargeQ v c i f n s).facetAddr = s.facetAddr ∧
    (chargeQ v c i f n s).facetReset = s.facetReset ∧ (chargeQ v c i f n s).facetResets = s.facetResets ∧
    (chargeQ v c i f n s).windows = s.windows ∧ (chargeQ v c i f n s).accord = s.accord ∧ (chargeQ v c i f n s).cip = s.cip ∧
    (chargeQ v c i f n s).wake = s.wake ∧ (chargeQ v c i f n s).power = s.power ∧ (chargeQ v c i f n s).fw = s.fw ∧
    (chargeQ v c i f n s).svc = s.svc := by
  simp [chargeQ]

@[simp] theorem freeQ_fields1 (v c i f n : Nat) :
    (freeQ v c i f n s).pending = s.pending ∧ (freeQ v c i f n s).now = s.now ∧ (freeQ v c i f n s).locus = s.locus ∧
    (freeQ v c i f n s).fresh = s.fresh ∧ (freeQ v c i f n s).resp = s.resp ∧ (freeQ v c i f n s).outbox = s.outbox ∧
    (freeQ v c i f n s).loHeld = s.loHeld ∧ (freeQ v c i f n s).hiLatch = s.hiLatch ∧ (freeQ v c i f n s).baseline = s.baseline ∧
    (freeQ v c i f n s).counters = s.counters ∧ (freeQ v c i f n s).faultLatch = s.faultLatch ∧
    (freeQ v c i f n s).softReset = s.softReset ∧ (freeQ v c i f n s).live = s.live ∧ (freeQ v c i f n s).staging = s.staging ∧
    (freeQ v c i f n s).drain = s.drain ∧ (freeQ v c i f n s).shadow = s.shadow ∧ (freeQ v c i f n s).drainShadow = s.drainShadow ∧
    (freeQ v c i f n s).epoch = s.epoch ∧ (freeQ v c i f n s).tags = s.tags ∧ (freeQ v c i f n s).tagFrames = s.tagFrames ∧
    (freeQ v c i f n s).quotaEp = s.quotaEp ∧ (freeQ v c i f n s).ctxEp = s.ctxEp ∧ (freeQ v c i f n s).seqs = s.seqs ∧
    (freeQ v c i f n s).lastStamp = s.lastStamp ∧ (freeQ v c i f n s).nextId = s.nextId ∧ (freeQ v c i f n s).mp = s.mp ∧
    (freeQ v c i f n s).mpRestarts = s.mpRestarts := by
  simp [freeQ]

@[simp] theorem freeQ_fields2 (v c i f n : Nat) :
    (freeQ v c i f n s).loc = s.loc ∧ (freeQ v c i f n s).domains = s.domains ∧ (freeQ v c i f n s).ptpOut = s.ptpOut ∧
    (freeQ v c i f n s).linkDelay = s.linkDelay ∧ (freeQ v c i f n s).txq = s.txq ∧ (freeQ v c i f n s).syncs = s.syncs ∧
    (freeQ v c i f n s).caps = s.caps ∧ (freeQ v c i f n s).plane = s.plane ∧ (freeQ v c i f n s).inputs = s.inputs ∧
    (freeQ v c i f n s).lanes = s.lanes ∧ (freeQ v c i f n s).planeQ = s.planeQ ∧ (freeQ v c i f n s).queues = s.queues ∧
    (freeQ v c i f n s).egress = s.egress ∧ (freeQ v c i f n s).mappedOut = s.mappedOut ∧ (freeQ v c i f n s).cellErrs = s.cellErrs ∧
    (freeQ v c i f n s).cellDue = s.cellDue ∧ (freeQ v c i f n s).learnQ = s.learnQ ∧ (freeQ v c i f n s).unplaced = s.unplaced ∧
    (freeQ v c i f n s).rebuilding = s.rebuilding ∧ (freeQ v c i f n s).reqRehash = s.reqRehash ∧
    (freeQ v c i f n s).tblCompare = s.tblCompare ∧ (freeQ v c i f n s).brgCompare = s.brgCompare ∧ (freeQ v c i f n s).ageAt = s.ageAt ∧
    (freeQ v c i f n s).cmds = s.cmds ∧ (freeQ v c i f n s).meters = s.meters ∧ (freeQ v c i f n s).blocked = s.blocked ∧
    (freeQ v c i f n s).admission = s.admission := by
  simp [freeQ]

@[simp] theorem freeQ_fields3 (v c i f n : Nat) :
    (freeQ v c i f n s).admitTurn = s.admitTurn ∧ (freeQ v c i f n s).ctxs = s.ctxs ∧ (freeQ v c i f n s).issueTurn = s.issueTurn ∧
    (freeQ v c i f n s).codeLines = s.codeLines ∧ (freeQ v c i f n s).lastIssue = s.lastIssue ∧
    (freeQ v c i f n s).lastXfer = s.lastXfer ∧ (freeQ v c i f n s).replayQ = s.replayQ ∧ (freeQ v c i f n s).cells = s.cells ∧
    (freeQ v c i f n s).checkTurn = s.checkTurn ∧ (freeQ v c i f n s).checkAt = s.checkAt ∧ (freeQ v c i f n s).segs = s.segs ∧
    (freeQ v c i f n s).ps = s.ps ∧ (freeQ v c i f n s).psBad = s.psBad ∧ (freeQ v c i f n s).eth = s.eth ∧
    (freeQ v c i f n s).can = s.can ∧ (freeQ v c i f n s).lin = s.lin ∧ (freeQ v c i f n s).bridge = s.bridge ∧
    (freeQ v c i f n s).jrn = s.jrn ∧ (freeQ v c i f n s).inj = s.inj ∧ (freeQ v c i f n s).cross = s.cross ∧
    (freeQ v c i f n s).dram = s.dram ∧ (freeQ v c i f n s).rings = s.rings ∧ (freeQ v c i f n s).locks = s.locks ∧
    (freeQ v c i f n s).fleases = s.fleases ∧ (freeQ v c i f n s).sessions = s.sessions ∧ (freeQ v c i f n s).octIn = s.octIn ∧
    (freeQ v c i f n s).ctlIn = s.ctlIn ∧ (freeQ v c i f n s).octRun = s.octRun ∧ (freeQ v c i f n s).facetAddr = s.facetAddr ∧
    (freeQ v c i f n s).facetReset = s.facetReset ∧ (freeQ v c i f n s).facetResets = s.facetResets ∧
    (freeQ v c i f n s).windows = s.windows ∧ (freeQ v c i f n s).accord = s.accord ∧ (freeQ v c i f n s).cip = s.cip ∧
    (freeQ v c i f n s).wake = s.wake ∧ (freeQ v c i f n s).power = s.power ∧ (freeQ v c i f n s).fw = s.fw ∧
    (freeQ v c i f n s).svc = s.svc := by
  simp [freeQ]

@[simp] theorem openInput_fields1 (u v f c r : Nat) :
    (openInput u v f c r s).pending = s.pending ∧ (openInput u v f c r s).now = s.now ∧ (openInput u v f c r s).locus = s.locus ∧
    (openInput u v f c r s).fresh = s.fresh ∧ (openInput u v f c r s).resp = s.resp ∧ (openInput u v f c r s).outbox = s.outbox ∧
    (openInput u v f c r s).loHeld = s.loHeld ∧ (openInput u v f c r s).hiLatch = s.hiLatch ∧
    (openInput u v f c r s).baseline = s.baseline ∧ (openInput u v f c r s).counters = s.counters ∧
    (openInput u v f c r s).faultLatch = s.faultLatch ∧ (openInput u v f c r s).softReset = s.softReset ∧
    (openInput u v f c r s).live = s.live ∧ (openInput u v f c r s).staging = s.staging ∧ (openInput u v f c r s).drain = s.drain ∧
    (openInput u v f c r s).shadow = s.shadow ∧ (openInput u v f c r s).drainShadow = s.drainShadow ∧
    (openInput u v f c r s).epoch = s.epoch ∧ (openInput u v f c r s).tags = s.tags ∧ (openInput u v f c r s).tagFrames = s.tagFrames ∧
    (openInput u v f c r s).quotaEp = s.quotaEp ∧ (openInput u v f c r s).ctxEp = s.ctxEp ∧ (openInput u v f c r s).seqs = s.seqs ∧
    (openInput u v f c r s).lastStamp = s.lastStamp ∧ (openInput u v f c r s).mp = s.mp ∧
    (openInput u v f c r s).mpRestarts = s.mpRestarts ∧ (openInput u v f c r s).loc = s.loc := by
  simp [openInput]

@[simp] theorem openInput_fields2 (u v f c r : Nat) :
    (openInput u v f c r s).domains = s.domains ∧ (openInput u v f c r s).ptpOut = s.ptpOut ∧
    (openInput u v f c r s).linkDelay = s.linkDelay ∧ (openInput u v f c r s).txq = s.txq ∧ (openInput u v f c r s).syncs = s.syncs ∧
    (openInput u v f c r s).caps = s.caps ∧ (openInput u v f c r s).plane = s.plane ∧ (openInput u v f c r s).lanes = s.lanes ∧
    (openInput u v f c r s).planeQ = s.planeQ ∧ (openInput u v f c r s).queues = s.queues ∧ (openInput u v f c r s).egress = s.egress ∧
    (openInput u v f c r s).mappedOut = s.mappedOut ∧ (openInput u v f c r s).cellErrs = s.cellErrs ∧
    (openInput u v f c r s).cellDue = s.cellDue ∧ (openInput u v f c r s).learnQ = s.learnQ ∧
    (openInput u v f c r s).unplaced = s.unplaced ∧ (openInput u v f c r s).rebuilding = s.rebuilding ∧
    (openInput u v f c r s).reqRehash = s.reqRehash ∧ (openInput u v f c r s).tblCompare = s.tblCompare ∧
    (openInput u v f c r s).brgCompare = s.brgCompare ∧ (openInput u v f c r s).ageAt = s.ageAt ∧ (openInput u v f c r s).cmds = s.cmds ∧
    (openInput u v f c r s).meters = s.meters ∧ (openInput u v f c r s).blocked = s.blocked ∧
    (openInput u v f c r s).admission = s.admission ∧ (openInput u v f c r s).admitTurn = s.admitTurn ∧
    (openInput u v f c r s).ctxs = s.ctxs := by
  simp [openInput]

@[simp] theorem openInput_fields3 (u v f c r : Nat) :
    (openInput u v f c r s).issueTurn = s.issueTurn ∧ (openInput u v f c r s).codeLines = s.codeLines ∧
    (openInput u v f c r s).lastIssue = s.lastIssue ∧ (openInput u v f c r s).lastXfer = s.lastXfer ∧
    (openInput u v f c r s).replayQ = s.replayQ ∧ (openInput u v f c r s).cells = s.cells ∧
    (openInput u v f c r s).checkTurn = s.checkTurn ∧ (openInput u v f c r s).checkAt = s.checkAt ∧
    (openInput u v f c r s).segs = s.segs ∧ (openInput u v f c r s).ps = s.ps ∧ (openInput u v f c r s).psBad = s.psBad ∧
    (openInput u v f c r s).eth = s.eth ∧ (openInput u v f c r s).can = s.can ∧ (openInput u v f c r s).lin = s.lin ∧
    (openInput u v f c r s).bridge = s.bridge ∧ (openInput u v f c r s).jrn = s.jrn ∧ (openInput u v f c r s).inj = s.inj ∧
    (openInput u v f c r s).cross = s.cross ∧ (openInput u v f c r s).dram = s.dram ∧ (openInput u v f c r s).rings = s.rings ∧
    (openInput u v f c r s).locks = s.locks ∧ (openInput u v f c r s).fleases = s.fleases ∧
    (openInput u v f c r s).sessions = s.sessions ∧ (openInput u v f c r s).octIn = s.octIn ∧ (openInput u v f c r s).ctlIn = s.ctlIn ∧
    (openInput u v f c r s).octRun = s.octRun ∧ (openInput u v f c r s).facetAddr = s.facetAddr ∧
    (openInput u v f c r s).facetReset = s.facetReset ∧ (openInput u v f c r s).facetResets = s.facetResets ∧
    (openInput u v f c r s).windows = s.windows ∧ (openInput u v f c r s).accord = s.accord ∧ (openInput u v f c r s).cip = s.cip ∧
    (openInput u v f c r s).wake = s.wake ∧ (openInput u v f c r s).power = s.power ∧ (openInput u v f c r s).fw = s.fw ∧
    (openInput u v f c r s).svc = s.svc := by
  simp [openInput]

@[simp] theorem retain_fields1 (id n : Nat) :
    (retain id n s).pending = s.pending ∧ (retain id n s).now = s.now ∧ (retain id n s).locus = s.locus ∧
    (retain id n s).fresh = s.fresh ∧ (retain id n s).resp = s.resp ∧ (retain id n s).outbox = s.outbox ∧ (retain id n s).regs = s.regs ∧
    (retain id n s).loHeld = s.loHeld ∧ (retain id n s).hiLatch = s.hiLatch ∧ (retain id n s).baseline = s.baseline ∧
    (retain id n s).counters = s.counters ∧ (retain id n s).faultLatch = s.faultLatch ∧ (retain id n s).softReset = s.softReset ∧
    (retain id n s).live = s.live ∧ (retain id n s).staging = s.staging ∧ (retain id n s).drain = s.drain ∧
    (retain id n s).shadow = s.shadow ∧ (retain id n s).drainShadow = s.drainShadow ∧ (retain id n s).epoch = s.epoch ∧
    (retain id n s).tags = s.tags ∧ (retain id n s).tagFrames = s.tagFrames ∧ (retain id n s).quotaEp = s.quotaEp ∧
    (retain id n s).ctxEp = s.ctxEp ∧ (retain id n s).seqs = s.seqs ∧ (retain id n s).lastStamp = s.lastStamp ∧
    (retain id n s).nextId = s.nextId ∧ (retain id n s).mp = s.mp := by
  and_intros <;> rfl

@[simp] theorem retain_fields2 (id n : Nat) :
    (retain id n s).mpRestarts = s.mpRestarts ∧ (retain id n s).loc = s.loc ∧ (retain id n s).domains = s.domains ∧
    (retain id n s).ptpOut = s.ptpOut ∧ (retain id n s).linkDelay = s.linkDelay ∧ (retain id n s).txq = s.txq ∧
    (retain id n s).syncs = s.syncs ∧ (retain id n s).caps = s.caps ∧ (retain id n s).plane = s.plane ∧ (retain id n s).lanes = s.lanes ∧
    (retain id n s).planeQ = s.planeQ ∧ (retain id n s).queues = s.queues ∧ (retain id n s).egress = s.egress ∧
    (retain id n s).mappedOut = s.mappedOut ∧ (retain id n s).cellErrs = s.cellErrs ∧ (retain id n s).cellDue = s.cellDue ∧
    (retain id n s).learnQ = s.learnQ ∧ (retain id n s).unplaced = s.unplaced ∧ (retain id n s).rebuilding = s.rebuilding ∧
    (retain id n s).reqRehash = s.reqRehash ∧ (retain id n s).tblCompare = s.tblCompare ∧ (retain id n s).brgCompare = s.brgCompare ∧
    (retain id n s).ageAt = s.ageAt ∧ (retain id n s).cmds = s.cmds ∧ (retain id n s).meters = s.meters ∧
    (retain id n s).blocked = s.blocked ∧ (retain id n s).admission = s.admission := by
  and_intros <;> rfl

@[simp] theorem retain_fields3 (id n : Nat) :
    (retain id n s).admitTurn = s.admitTurn ∧ (retain id n s).ctxs = s.ctxs ∧ (retain id n s).issueTurn = s.issueTurn ∧
    (retain id n s).codeLines = s.codeLines ∧ (retain id n s).lastIssue = s.lastIssue ∧ (retain id n s).lastXfer = s.lastXfer ∧
    (retain id n s).replayQ = s.replayQ ∧ (retain id n s).cells = s.cells ∧ (retain id n s).checkTurn = s.checkTurn ∧
    (retain id n s).checkAt = s.checkAt ∧ (retain id n s).segs = s.segs ∧ (retain id n s).ps = s.ps ∧ (retain id n s).psBad = s.psBad ∧
    (retain id n s).eth = s.eth ∧ (retain id n s).can = s.can ∧ (retain id n s).lin = s.lin ∧ (retain id n s).bridge = s.bridge ∧
    (retain id n s).jrn = s.jrn ∧ (retain id n s).inj = s.inj ∧ (retain id n s).cross = s.cross ∧ (retain id n s).dram = s.dram ∧
    (retain id n s).rings = s.rings ∧ (retain id n s).locks = s.locks ∧ (retain id n s).fleases = s.fleases ∧
    (retain id n s).sessions = s.sessions ∧ (retain id n s).octIn = s.octIn ∧ (retain id n s).ctlIn = s.ctlIn ∧
    (retain id n s).octRun = s.octRun ∧ (retain id n s).facetAddr = s.facetAddr ∧ (retain id n s).facetReset = s.facetReset ∧
    (retain id n s).facetResets = s.facetResets ∧ (retain id n s).windows = s.windows ∧ (retain id n s).accord = s.accord ∧
    (retain id n s).cip = s.cip ∧ (retain id n s).wake = s.wake ∧ (retain id n s).power = s.power ∧ (retain id n s).fw = s.fw ∧
    (retain id n s).svc = s.svc := by
  and_intros <;> rfl

@[simp] theorem setEth_fields1 (v : Nat) (e : EthSt) :
    (setEth v e s).pending = s.pending ∧ (setEth v e s).now = s.now ∧ (setEth v e s).locus = s.locus ∧ (setEth v e s).fresh = s.fresh ∧
    (setEth v e s).resp = s.resp ∧ (setEth v e s).outbox = s.outbox ∧ (setEth v e s).regs = s.regs ∧ (setEth v e s).loHeld = s.loHeld ∧
    (setEth v e s).hiLatch = s.hiLatch ∧ (setEth v e s).baseline = s.baseline ∧ (setEth v e s).counters = s.counters ∧
    (setEth v e s).faultLatch = s.faultLatch ∧ (setEth v e s).softReset = s.softReset ∧ (setEth v e s).live = s.live ∧
    (setEth v e s).staging = s.staging ∧ (setEth v e s).drain = s.drain ∧ (setEth v e s).shadow = s.shadow ∧
    (setEth v e s).drainShadow = s.drainShadow ∧ (setEth v e s).epoch = s.epoch ∧ (setEth v e s).tags = s.tags ∧
    (setEth v e s).tagFrames = s.tagFrames ∧ (setEth v e s).quotaEp = s.quotaEp ∧ (setEth v e s).ctxEp = s.ctxEp ∧
    (setEth v e s).seqs = s.seqs ∧ (setEth v e s).lastStamp = s.lastStamp ∧ (setEth v e s).nextId = s.nextId ∧ (setEth v e s).mp = s.mp := by
  and_intros <;> rfl

@[simp] theorem setEth_fields2 (v : Nat) (e : EthSt) :
    (setEth v e s).mpRestarts = s.mpRestarts ∧ (setEth v e s).loc = s.loc ∧ (setEth v e s).domains = s.domains ∧
    (setEth v e s).ptpOut = s.ptpOut ∧ (setEth v e s).linkDelay = s.linkDelay ∧ (setEth v e s).txq = s.txq ∧
    (setEth v e s).syncs = s.syncs ∧ (setEth v e s).caps = s.caps ∧ (setEth v e s).plane = s.plane ∧ (setEth v e s).inputs = s.inputs ∧
    (setEth v e s).lanes = s.lanes ∧ (setEth v e s).planeQ = s.planeQ ∧ (setEth v e s).queues = s.queues ∧
    (setEth v e s).egress = s.egress ∧ (setEth v e s).mappedOut = s.mappedOut ∧ (setEth v e s).cellErrs = s.cellErrs ∧
    (setEth v e s).cellDue = s.cellDue ∧ (setEth v e s).learnQ = s.learnQ ∧ (setEth v e s).unplaced = s.unplaced ∧
    (setEth v e s).rebuilding = s.rebuilding ∧ (setEth v e s).reqRehash = s.reqRehash ∧ (setEth v e s).tblCompare = s.tblCompare ∧
    (setEth v e s).brgCompare = s.brgCompare ∧ (setEth v e s).ageAt = s.ageAt ∧ (setEth v e s).cmds = s.cmds ∧
    (setEth v e s).meters = s.meters ∧ (setEth v e s).blocked = s.blocked := by
  and_intros <;> rfl

@[simp] theorem setEth_fields3 (v : Nat) (e : EthSt) :
    (setEth v e s).admission = s.admission ∧ (setEth v e s).admitTurn = s.admitTurn ∧ (setEth v e s).ctxs = s.ctxs ∧
    (setEth v e s).issueTurn = s.issueTurn ∧ (setEth v e s).codeLines = s.codeLines ∧ (setEth v e s).lastIssue = s.lastIssue ∧
    (setEth v e s).lastXfer = s.lastXfer ∧ (setEth v e s).replayQ = s.replayQ ∧ (setEth v e s).cells = s.cells ∧
    (setEth v e s).checkTurn = s.checkTurn ∧ (setEth v e s).checkAt = s.checkAt ∧ (setEth v e s).segs = s.segs ∧
    (setEth v e s).ps = s.ps ∧ (setEth v e s).psBad = s.psBad ∧ (setEth v e s).can = s.can ∧ (setEth v e s).lin = s.lin ∧
    (setEth v e s).bridge = s.bridge ∧ (setEth v e s).jrn = s.jrn ∧ (setEth v e s).inj = s.inj ∧ (setEth v e s).cross = s.cross ∧
    (setEth v e s).dram = s.dram ∧ (setEth v e s).rings = s.rings ∧ (setEth v e s).locks = s.locks ∧ (setEth v e s).fleases = s.fleases ∧
    (setEth v e s).sessions = s.sessions ∧ (setEth v e s).octIn = s.octIn ∧ (setEth v e s).ctlIn = s.ctlIn ∧
    (setEth v e s).octRun = s.octRun ∧ (setEth v e s).facetAddr = s.facetAddr ∧ (setEth v e s).facetReset = s.facetReset ∧
    (setEth v e s).facetResets = s.facetResets ∧ (setEth v e s).windows = s.windows ∧ (setEth v e s).accord = s.accord ∧
    (setEth v e s).cip = s.cip ∧ (setEth v e s).wake = s.wake ∧ (setEth v e s).power = s.power ∧ (setEth v e s).fw = s.fw ∧
    (setEth v e s).svc = s.svc := by
  and_intros <;> rfl

@[simp] theorem setCan_fields1 (ch : Nat) (c : CanSt) :
    (setCan ch c s).pending = s.pending ∧ (setCan ch c s).now = s.now ∧ (setCan ch c s).locus = s.locus ∧
    (setCan ch c s).fresh = s.fresh ∧ (setCan ch c s).resp = s.resp ∧ (setCan ch c s).outbox = s.outbox ∧ (setCan ch c s).regs = s.regs ∧
    (setCan ch c s).loHeld = s.loHeld ∧ (setCan ch c s).hiLatch = s.hiLatch ∧ (setCan ch c s).baseline = s.baseline ∧
    (setCan ch c s).counters = s.counters ∧ (setCan ch c s).faultLatch = s.faultLatch ∧ (setCan ch c s).softReset = s.softReset ∧
    (setCan ch c s).live = s.live ∧ (setCan ch c s).staging = s.staging ∧ (setCan ch c s).drain = s.drain ∧
    (setCan ch c s).shadow = s.shadow ∧ (setCan ch c s).drainShadow = s.drainShadow ∧ (setCan ch c s).epoch = s.epoch ∧
    (setCan ch c s).tags = s.tags ∧ (setCan ch c s).tagFrames = s.tagFrames ∧ (setCan ch c s).quotaEp = s.quotaEp ∧
    (setCan ch c s).ctxEp = s.ctxEp ∧ (setCan ch c s).seqs = s.seqs ∧ (setCan ch c s).lastStamp = s.lastStamp ∧
    (setCan ch c s).nextId = s.nextId ∧ (setCan ch c s).mp = s.mp := by
  and_intros <;> rfl

@[simp] theorem setCan_fields2 (ch : Nat) (c : CanSt) :
    (setCan ch c s).mpRestarts = s.mpRestarts ∧ (setCan ch c s).loc = s.loc ∧ (setCan ch c s).domains = s.domains ∧
    (setCan ch c s).ptpOut = s.ptpOut ∧ (setCan ch c s).linkDelay = s.linkDelay ∧ (setCan ch c s).txq = s.txq ∧
    (setCan ch c s).syncs = s.syncs ∧ (setCan ch c s).caps = s.caps ∧ (setCan ch c s).plane = s.plane ∧
    (setCan ch c s).inputs = s.inputs ∧ (setCan ch c s).lanes = s.lanes ∧ (setCan ch c s).planeQ = s.planeQ ∧
    (setCan ch c s).queues = s.queues ∧ (setCan ch c s).egress = s.egress ∧ (setCan ch c s).mappedOut = s.mappedOut ∧
    (setCan ch c s).cellErrs = s.cellErrs ∧ (setCan ch c s).cellDue = s.cellDue ∧ (setCan ch c s).learnQ = s.learnQ ∧
    (setCan ch c s).unplaced = s.unplaced ∧ (setCan ch c s).rebuilding = s.rebuilding ∧ (setCan ch c s).reqRehash = s.reqRehash ∧
    (setCan ch c s).tblCompare = s.tblCompare ∧ (setCan ch c s).brgCompare = s.brgCompare ∧ (setCan ch c s).ageAt = s.ageAt ∧
    (setCan ch c s).cmds = s.cmds ∧ (setCan ch c s).meters = s.meters ∧ (setCan ch c s).blocked = s.blocked := by
  and_intros <;> rfl

@[simp] theorem setCan_fields3 (ch : Nat) (c : CanSt) :
    (setCan ch c s).admission = s.admission ∧ (setCan ch c s).admitTurn = s.admitTurn ∧ (setCan ch c s).ctxs = s.ctxs ∧
    (setCan ch c s).issueTurn = s.issueTurn ∧ (setCan ch c s).codeLines = s.codeLines ∧ (setCan ch c s).lastIssue = s.lastIssue ∧
    (setCan ch c s).lastXfer = s.lastXfer ∧ (setCan ch c s).replayQ = s.replayQ ∧ (setCan ch c s).cells = s.cells ∧
    (setCan ch c s).checkTurn = s.checkTurn ∧ (setCan ch c s).checkAt = s.checkAt ∧ (setCan ch c s).segs = s.segs ∧
    (setCan ch c s).ps = s.ps ∧ (setCan ch c s).psBad = s.psBad ∧ (setCan ch c s).eth = s.eth ∧ (setCan ch c s).lin = s.lin ∧
    (setCan ch c s).bridge = s.bridge ∧ (setCan ch c s).jrn = s.jrn ∧ (setCan ch c s).inj = s.inj ∧ (setCan ch c s).cross = s.cross ∧
    (setCan ch c s).dram = s.dram ∧ (setCan ch c s).rings = s.rings ∧ (setCan ch c s).locks = s.locks ∧
    (setCan ch c s).fleases = s.fleases ∧ (setCan ch c s).sessions = s.sessions ∧ (setCan ch c s).octIn = s.octIn ∧
    (setCan ch c s).ctlIn = s.ctlIn ∧ (setCan ch c s).octRun = s.octRun ∧ (setCan ch c s).facetAddr = s.facetAddr ∧
    (setCan ch c s).facetReset = s.facetReset ∧ (setCan ch c s).facetResets = s.facetResets ∧ (setCan ch c s).windows = s.windows ∧
    (setCan ch c s).accord = s.accord ∧ (setCan ch c s).cip = s.cip ∧ (setCan ch c s).wake = s.wake ∧ (setCan ch c s).power = s.power ∧
    (setCan ch c s).fw = s.fw ∧ (setCan ch c s).svc = s.svc := by
  and_intros <;> rfl

@[simp] theorem setLin_fields1 (j : Nat) (c : LinSt) :
    (setLin j c s).pending = s.pending ∧ (setLin j c s).now = s.now ∧ (setLin j c s).locus = s.locus ∧ (setLin j c s).fresh = s.fresh ∧
    (setLin j c s).resp = s.resp ∧ (setLin j c s).outbox = s.outbox ∧ (setLin j c s).regs = s.regs ∧ (setLin j c s).loHeld = s.loHeld ∧
    (setLin j c s).hiLatch = s.hiLatch ∧ (setLin j c s).baseline = s.baseline ∧ (setLin j c s).counters = s.counters ∧
    (setLin j c s).faultLatch = s.faultLatch ∧ (setLin j c s).softReset = s.softReset ∧ (setLin j c s).live = s.live ∧
    (setLin j c s).staging = s.staging ∧ (setLin j c s).drain = s.drain ∧ (setLin j c s).shadow = s.shadow ∧
    (setLin j c s).drainShadow = s.drainShadow ∧ (setLin j c s).epoch = s.epoch ∧ (setLin j c s).tags = s.tags ∧
    (setLin j c s).tagFrames = s.tagFrames ∧ (setLin j c s).quotaEp = s.quotaEp ∧ (setLin j c s).ctxEp = s.ctxEp ∧
    (setLin j c s).seqs = s.seqs ∧ (setLin j c s).lastStamp = s.lastStamp ∧ (setLin j c s).nextId = s.nextId ∧ (setLin j c s).mp = s.mp := by
  and_intros <;> rfl

@[simp] theorem setLin_fields2 (j : Nat) (c : LinSt) :
    (setLin j c s).mpRestarts = s.mpRestarts ∧ (setLin j c s).loc = s.loc ∧ (setLin j c s).domains = s.domains ∧
    (setLin j c s).ptpOut = s.ptpOut ∧ (setLin j c s).linkDelay = s.linkDelay ∧ (setLin j c s).txq = s.txq ∧
    (setLin j c s).syncs = s.syncs ∧ (setLin j c s).caps = s.caps ∧ (setLin j c s).plane = s.plane ∧ (setLin j c s).inputs = s.inputs ∧
    (setLin j c s).lanes = s.lanes ∧ (setLin j c s).planeQ = s.planeQ ∧ (setLin j c s).queues = s.queues ∧
    (setLin j c s).egress = s.egress ∧ (setLin j c s).mappedOut = s.mappedOut ∧ (setLin j c s).cellErrs = s.cellErrs ∧
    (setLin j c s).cellDue = s.cellDue ∧ (setLin j c s).learnQ = s.learnQ ∧ (setLin j c s).unplaced = s.unplaced ∧
    (setLin j c s).rebuilding = s.rebuilding ∧ (setLin j c s).reqRehash = s.reqRehash ∧ (setLin j c s).tblCompare = s.tblCompare ∧
    (setLin j c s).brgCompare = s.brgCompare ∧ (setLin j c s).ageAt = s.ageAt ∧ (setLin j c s).cmds = s.cmds ∧
    (setLin j c s).meters = s.meters ∧ (setLin j c s).blocked = s.blocked := by
  and_intros <;> rfl

@[simp] theorem setLin_fields3 (j : Nat) (c : LinSt) :
    (setLin j c s).admission = s.admission ∧ (setLin j c s).admitTurn = s.admitTurn ∧ (setLin j c s).ctxs = s.ctxs ∧
    (setLin j c s).issueTurn = s.issueTurn ∧ (setLin j c s).codeLines = s.codeLines ∧ (setLin j c s).lastIssue = s.lastIssue ∧
    (setLin j c s).lastXfer = s.lastXfer ∧ (setLin j c s).replayQ = s.replayQ ∧ (setLin j c s).cells = s.cells ∧
    (setLin j c s).checkTurn = s.checkTurn ∧ (setLin j c s).checkAt = s.checkAt ∧ (setLin j c s).segs = s.segs ∧
    (setLin j c s).ps = s.ps ∧ (setLin j c s).psBad = s.psBad ∧ (setLin j c s).eth = s.eth ∧ (setLin j c s).can = s.can ∧
    (setLin j c s).bridge = s.bridge ∧ (setLin j c s).jrn = s.jrn ∧ (setLin j c s).inj = s.inj ∧ (setLin j c s).cross = s.cross ∧
    (setLin j c s).dram = s.dram ∧ (setLin j c s).rings = s.rings ∧ (setLin j c s).locks = s.locks ∧ (setLin j c s).fleases = s.fleases ∧
    (setLin j c s).sessions = s.sessions ∧ (setLin j c s).octIn = s.octIn ∧ (setLin j c s).ctlIn = s.ctlIn ∧
    (setLin j c s).octRun = s.octRun ∧ (setLin j c s).facetAddr = s.facetAddr ∧ (setLin j c s).facetReset = s.facetReset ∧
    (setLin j c s).facetResets = s.facetResets ∧ (setLin j c s).windows = s.windows ∧ (setLin j c s).accord = s.accord ∧
    (setLin j c s).cip = s.cip ∧ (setLin j c s).wake = s.wake ∧ (setLin j c s).power = s.power ∧ (setLin j c s).fw = s.fw ∧
    (setLin j c s).svc = s.svc := by
  and_intros <;> rfl

@[simp] theorem setDom_fields1 (d : Nat) (x : DomainSt) :
    (setDom d x s).pending = s.pending ∧ (setDom d x s).now = s.now ∧ (setDom d x s).locus = s.locus ∧ (setDom d x s).fresh = s.fresh ∧
    (setDom d x s).resp = s.resp ∧ (setDom d x s).outbox = s.outbox ∧ (setDom d x s).regs = s.regs ∧ (setDom d x s).loHeld = s.loHeld ∧
    (setDom d x s).hiLatch = s.hiLatch ∧ (setDom d x s).baseline = s.baseline ∧ (setDom d x s).counters = s.counters ∧
    (setDom d x s).faultLatch = s.faultLatch ∧ (setDom d x s).softReset = s.softReset ∧ (setDom d x s).live = s.live ∧
    (setDom d x s).staging = s.staging ∧ (setDom d x s).drain = s.drain ∧ (setDom d x s).shadow = s.shadow ∧
    (setDom d x s).drainShadow = s.drainShadow ∧ (setDom d x s).epoch = s.epoch ∧ (setDom d x s).tags = s.tags ∧
    (setDom d x s).tagFrames = s.tagFrames ∧ (setDom d x s).quotaEp = s.quotaEp ∧ (setDom d x s).ctxEp = s.ctxEp ∧
    (setDom d x s).seqs = s.seqs ∧ (setDom d x s).lastStamp = s.lastStamp ∧ (setDom d x s).nextId = s.nextId ∧ (setDom d x s).mp = s.mp := by
  and_intros <;> rfl

@[simp] theorem setDom_fields2 (d : Nat) (x : DomainSt) :
    (setDom d x s).mpRestarts = s.mpRestarts ∧ (setDom d x s).loc = s.loc ∧ (setDom d x s).ptpOut = s.ptpOut ∧
    (setDom d x s).linkDelay = s.linkDelay ∧ (setDom d x s).txq = s.txq ∧ (setDom d x s).syncs = s.syncs ∧ (setDom d x s).caps = s.caps ∧
    (setDom d x s).plane = s.plane ∧ (setDom d x s).inputs = s.inputs ∧ (setDom d x s).lanes = s.lanes ∧
    (setDom d x s).planeQ = s.planeQ ∧ (setDom d x s).queues = s.queues ∧ (setDom d x s).egress = s.egress ∧
    (setDom d x s).mappedOut = s.mappedOut ∧ (setDom d x s).cellErrs = s.cellErrs ∧ (setDom d x s).cellDue = s.cellDue ∧
    (setDom d x s).learnQ = s.learnQ ∧ (setDom d x s).unplaced = s.unplaced ∧ (setDom d x s).rebuilding = s.rebuilding ∧
    (setDom d x s).reqRehash = s.reqRehash ∧ (setDom d x s).tblCompare = s.tblCompare ∧ (setDom d x s).brgCompare = s.brgCompare ∧
    (setDom d x s).ageAt = s.ageAt ∧ (setDom d x s).cmds = s.cmds ∧ (setDom d x s).meters = s.meters ∧
    (setDom d x s).blocked = s.blocked ∧ (setDom d x s).admission = s.admission := by
  and_intros <;> rfl

@[simp] theorem setDom_fields3 (d : Nat) (x : DomainSt) :
    (setDom d x s).admitTurn = s.admitTurn ∧ (setDom d x s).ctxs = s.ctxs ∧ (setDom d x s).issueTurn = s.issueTurn ∧
    (setDom d x s).codeLines = s.codeLines ∧ (setDom d x s).lastIssue = s.lastIssue ∧ (setDom d x s).lastXfer = s.lastXfer ∧
    (setDom d x s).replayQ = s.replayQ ∧ (setDom d x s).cells = s.cells ∧ (setDom d x s).checkTurn = s.checkTurn ∧
    (setDom d x s).checkAt = s.checkAt ∧ (setDom d x s).segs = s.segs ∧ (setDom d x s).ps = s.ps ∧ (setDom d x s).psBad = s.psBad ∧
    (setDom d x s).eth = s.eth ∧ (setDom d x s).can = s.can ∧ (setDom d x s).lin = s.lin ∧ (setDom d x s).bridge = s.bridge ∧
    (setDom d x s).jrn = s.jrn ∧ (setDom d x s).inj = s.inj ∧ (setDom d x s).cross = s.cross ∧ (setDom d x s).dram = s.dram ∧
    (setDom d x s).rings = s.rings ∧ (setDom d x s).locks = s.locks ∧ (setDom d x s).fleases = s.fleases ∧
    (setDom d x s).sessions = s.sessions ∧ (setDom d x s).octIn = s.octIn ∧ (setDom d x s).ctlIn = s.ctlIn ∧
    (setDom d x s).octRun = s.octRun ∧ (setDom d x s).facetAddr = s.facetAddr ∧ (setDom d x s).facetReset = s.facetReset ∧
    (setDom d x s).facetResets = s.facetResets ∧ (setDom d x s).windows = s.windows ∧ (setDom d x s).accord = s.accord ∧
    (setDom d x s).cip = s.cip ∧ (setDom d x s).wake = s.wake ∧ (setDom d x s).power = s.power ∧ (setDom d x s).fw = s.fw ∧
    (setDom d x s).svc = s.svc := by
  and_intros <;> rfl

@[simp] theorem setSeg_fields1 (i : Nat) (g : Segment) :
    (setSeg i g s).pending = s.pending ∧ (setSeg i g s).now = s.now ∧ (setSeg i g s).locus = s.locus ∧ (setSeg i g s).fresh = s.fresh ∧
    (setSeg i g s).resp = s.resp ∧ (setSeg i g s).outbox = s.outbox ∧ (setSeg i g s).regs = s.regs ∧ (setSeg i g s).loHeld = s.loHeld ∧
    (setSeg i g s).hiLatch = s.hiLatch ∧ (setSeg i g s).baseline = s.baseline ∧ (setSeg i g s).counters = s.counters ∧
    (setSeg i g s).faultLatch = s.faultLatch ∧ (setSeg i g s).softReset = s.softReset ∧ (setSeg i g s).live = s.live ∧
    (setSeg i g s).staging = s.staging ∧ (setSeg i g s).drain = s.drain ∧ (setSeg i g s).shadow = s.shadow ∧
    (setSeg i g s).drainShadow = s.drainShadow ∧ (setSeg i g s).epoch = s.epoch ∧ (setSeg i g s).tags = s.tags ∧
    (setSeg i g s).tagFrames = s.tagFrames ∧ (setSeg i g s).quotaEp = s.quotaEp ∧ (setSeg i g s).ctxEp = s.ctxEp ∧
    (setSeg i g s).seqs = s.seqs ∧ (setSeg i g s).lastStamp = s.lastStamp ∧ (setSeg i g s).nextId = s.nextId ∧ (setSeg i g s).mp = s.mp := by
  and_intros <;> rfl

@[simp] theorem setSeg_fields2 (i : Nat) (g : Segment) :
    (setSeg i g s).mpRestarts = s.mpRestarts ∧ (setSeg i g s).loc = s.loc ∧ (setSeg i g s).domains = s.domains ∧
    (setSeg i g s).ptpOut = s.ptpOut ∧ (setSeg i g s).linkDelay = s.linkDelay ∧ (setSeg i g s).txq = s.txq ∧
    (setSeg i g s).syncs = s.syncs ∧ (setSeg i g s).caps = s.caps ∧ (setSeg i g s).plane = s.plane ∧ (setSeg i g s).inputs = s.inputs ∧
    (setSeg i g s).lanes = s.lanes ∧ (setSeg i g s).planeQ = s.planeQ ∧ (setSeg i g s).queues = s.queues ∧
    (setSeg i g s).egress = s.egress ∧ (setSeg i g s).mappedOut = s.mappedOut ∧ (setSeg i g s).cellErrs = s.cellErrs ∧
    (setSeg i g s).cellDue = s.cellDue ∧ (setSeg i g s).learnQ = s.learnQ ∧ (setSeg i g s).unplaced = s.unplaced ∧
    (setSeg i g s).rebuilding = s.rebuilding ∧ (setSeg i g s).reqRehash = s.reqRehash ∧ (setSeg i g s).tblCompare = s.tblCompare ∧
    (setSeg i g s).brgCompare = s.brgCompare ∧ (setSeg i g s).ageAt = s.ageAt ∧ (setSeg i g s).cmds = s.cmds ∧
    (setSeg i g s).meters = s.meters ∧ (setSeg i g s).blocked = s.blocked := by
  and_intros <;> rfl

@[simp] theorem setSeg_fields3 (i : Nat) (g : Segment) :
    (setSeg i g s).admission = s.admission ∧ (setSeg i g s).admitTurn = s.admitTurn ∧ (setSeg i g s).ctxs = s.ctxs ∧
    (setSeg i g s).issueTurn = s.issueTurn ∧ (setSeg i g s).codeLines = s.codeLines ∧ (setSeg i g s).lastIssue = s.lastIssue ∧
    (setSeg i g s).lastXfer = s.lastXfer ∧ (setSeg i g s).replayQ = s.replayQ ∧ (setSeg i g s).cells = s.cells ∧
    (setSeg i g s).checkTurn = s.checkTurn ∧ (setSeg i g s).checkAt = s.checkAt ∧ (setSeg i g s).ps = s.ps ∧
    (setSeg i g s).psBad = s.psBad ∧ (setSeg i g s).eth = s.eth ∧ (setSeg i g s).can = s.can ∧ (setSeg i g s).lin = s.lin ∧
    (setSeg i g s).bridge = s.bridge ∧ (setSeg i g s).jrn = s.jrn ∧ (setSeg i g s).inj = s.inj ∧ (setSeg i g s).cross = s.cross ∧
    (setSeg i g s).dram = s.dram ∧ (setSeg i g s).rings = s.rings ∧ (setSeg i g s).locks = s.locks ∧ (setSeg i g s).fleases = s.fleases ∧
    (setSeg i g s).sessions = s.sessions ∧ (setSeg i g s).octIn = s.octIn ∧ (setSeg i g s).ctlIn = s.ctlIn ∧
    (setSeg i g s).octRun = s.octRun ∧ (setSeg i g s).facetAddr = s.facetAddr ∧ (setSeg i g s).facetReset = s.facetReset ∧
    (setSeg i g s).facetResets = s.facetResets ∧ (setSeg i g s).windows = s.windows ∧ (setSeg i g s).accord = s.accord ∧
    (setSeg i g s).cip = s.cip ∧ (setSeg i g s).wake = s.wake ∧ (setSeg i g s).power = s.power ∧ (setSeg i g s).fw = s.fw ∧
    (setSeg i g s).svc = s.svc := by
  and_intros <;> rfl

@[simp] theorem setJob_fields1 (c x : Nat) (j : Option Job) :
    (setJob c x j s).pending = s.pending ∧ (setJob c x j s).now = s.now ∧ (setJob c x j s).locus = s.locus ∧
    (setJob c x j s).fresh = s.fresh ∧ (setJob c x j s).resp = s.resp ∧ (setJob c x j s).outbox = s.outbox ∧
    (setJob c x j s).regs = s.regs ∧ (setJob c x j s).loHeld = s.loHeld ∧ (setJob c x j s).hiLatch = s.hiLatch ∧
    (setJob c x j s).baseline = s.baseline ∧ (setJob c x j s).counters = s.counters ∧ (setJob c x j s).faultLatch = s.faultLatch ∧
    (setJob c x j s).softReset = s.softReset ∧ (setJob c x j s).live = s.live ∧ (setJob c x j s).staging = s.staging ∧
    (setJob c x j s).drain = s.drain ∧ (setJob c x j s).shadow = s.shadow ∧ (setJob c x j s).drainShadow = s.drainShadow ∧
    (setJob c x j s).epoch = s.epoch ∧ (setJob c x j s).tags = s.tags ∧ (setJob c x j s).tagFrames = s.tagFrames ∧
    (setJob c x j s).quotaEp = s.quotaEp ∧ (setJob c x j s).ctxEp = s.ctxEp ∧ (setJob c x j s).seqs = s.seqs ∧
    (setJob c x j s).lastStamp = s.lastStamp ∧ (setJob c x j s).nextId = s.nextId ∧ (setJob c x j s).mp = s.mp := by
  and_intros <;> rfl

@[simp] theorem setJob_fields2 (c x : Nat) (j : Option Job) :
    (setJob c x j s).mpRestarts = s.mpRestarts ∧ (setJob c x j s).loc = s.loc ∧ (setJob c x j s).domains = s.domains ∧
    (setJob c x j s).ptpOut = s.ptpOut ∧ (setJob c x j s).linkDelay = s.linkDelay ∧ (setJob c x j s).txq = s.txq ∧
    (setJob c x j s).syncs = s.syncs ∧ (setJob c x j s).caps = s.caps ∧ (setJob c x j s).plane = s.plane ∧
    (setJob c x j s).inputs = s.inputs ∧ (setJob c x j s).lanes = s.lanes ∧ (setJob c x j s).planeQ = s.planeQ ∧
    (setJob c x j s).queues = s.queues ∧ (setJob c x j s).egress = s.egress ∧ (setJob c x j s).mappedOut = s.mappedOut ∧
    (setJob c x j s).cellErrs = s.cellErrs ∧ (setJob c x j s).cellDue = s.cellDue ∧ (setJob c x j s).learnQ = s.learnQ ∧
    (setJob c x j s).unplaced = s.unplaced ∧ (setJob c x j s).rebuilding = s.rebuilding ∧ (setJob c x j s).reqRehash = s.reqRehash ∧
    (setJob c x j s).tblCompare = s.tblCompare ∧ (setJob c x j s).brgCompare = s.brgCompare ∧ (setJob c x j s).ageAt = s.ageAt ∧
    (setJob c x j s).cmds = s.cmds ∧ (setJob c x j s).meters = s.meters ∧ (setJob c x j s).blocked = s.blocked := by
  and_intros <;> rfl

@[simp] theorem setJob_fields3 (c x : Nat) (j : Option Job) :
    (setJob c x j s).admission = s.admission ∧ (setJob c x j s).admitTurn = s.admitTurn ∧ (setJob c x j s).issueTurn = s.issueTurn ∧
    (setJob c x j s).codeLines = s.codeLines ∧ (setJob c x j s).lastIssue = s.lastIssue ∧ (setJob c x j s).lastXfer = s.lastXfer ∧
    (setJob c x j s).replayQ = s.replayQ ∧ (setJob c x j s).cells = s.cells ∧ (setJob c x j s).checkTurn = s.checkTurn ∧
    (setJob c x j s).checkAt = s.checkAt ∧ (setJob c x j s).segs = s.segs ∧ (setJob c x j s).ps = s.ps ∧
    (setJob c x j s).psBad = s.psBad ∧ (setJob c x j s).eth = s.eth ∧ (setJob c x j s).can = s.can ∧ (setJob c x j s).lin = s.lin ∧
    (setJob c x j s).bridge = s.bridge ∧ (setJob c x j s).jrn = s.jrn ∧ (setJob c x j s).inj = s.inj ∧ (setJob c x j s).cross = s.cross ∧
    (setJob c x j s).dram = s.dram ∧ (setJob c x j s).rings = s.rings ∧ (setJob c x j s).locks = s.locks ∧
    (setJob c x j s).fleases = s.fleases ∧ (setJob c x j s).sessions = s.sessions ∧ (setJob c x j s).octIn = s.octIn ∧
    (setJob c x j s).ctlIn = s.ctlIn ∧ (setJob c x j s).octRun = s.octRun ∧ (setJob c x j s).facetAddr = s.facetAddr ∧
    (setJob c x j s).facetReset = s.facetReset ∧ (setJob c x j s).facetResets = s.facetResets ∧ (setJob c x j s).windows = s.windows ∧
    (setJob c x j s).accord = s.accord ∧ (setJob c x j s).cip = s.cip ∧ (setJob c x j s).wake = s.wake ∧
    (setJob c x j s).power = s.power ∧ (setJob c x j s).fw = s.fw ∧ (setJob c x j s).svc = s.svc := by
  and_intros <;> rfl

@[simp] theorem setCell_fields1 (c : Nat) (x : Cell) :
    (setCell c x s).pending = s.pending ∧ (setCell c x s).now = s.now ∧ (setCell c x s).locus = s.locus ∧
    (setCell c x s).fresh = s.fresh ∧ (setCell c x s).resp = s.resp ∧ (setCell c x s).outbox = s.outbox ∧ (setCell c x s).regs = s.regs ∧
    (setCell c x s).loHeld = s.loHeld ∧ (setCell c x s).hiLatch = s.hiLatch ∧ (setCell c x s).baseline = s.baseline ∧
    (setCell c x s).counters = s.counters ∧ (setCell c x s).faultLatch = s.faultLatch ∧ (setCell c x s).softReset = s.softReset ∧
    (setCell c x s).live = s.live ∧ (setCell c x s).staging = s.staging ∧ (setCell c x s).drain = s.drain ∧
    (setCell c x s).shadow = s.shadow ∧ (setCell c x s).drainShadow = s.drainShadow ∧ (setCell c x s).epoch = s.epoch ∧
    (setCell c x s).tags = s.tags ∧ (setCell c x s).tagFrames = s.tagFrames ∧ (setCell c x s).quotaEp = s.quotaEp ∧
    (setCell c x s).ctxEp = s.ctxEp ∧ (setCell c x s).seqs = s.seqs ∧ (setCell c x s).lastStamp = s.lastStamp ∧
    (setCell c x s).nextId = s.nextId ∧ (setCell c x s).mp = s.mp := by
  and_intros <;> rfl

@[simp] theorem setCell_fields2 (c : Nat) (x : Cell) :
    (setCell c x s).mpRestarts = s.mpRestarts ∧ (setCell c x s).loc = s.loc ∧ (setCell c x s).domains = s.domains ∧
    (setCell c x s).ptpOut = s.ptpOut ∧ (setCell c x s).linkDelay = s.linkDelay ∧ (setCell c x s).txq = s.txq ∧
    (setCell c x s).syncs = s.syncs ∧ (setCell c x s).caps = s.caps ∧ (setCell c x s).plane = s.plane ∧
    (setCell c x s).inputs = s.inputs ∧ (setCell c x s).lanes = s.lanes ∧ (setCell c x s).planeQ = s.planeQ ∧
    (setCell c x s).queues = s.queues ∧ (setCell c x s).egress = s.egress ∧ (setCell c x s).mappedOut = s.mappedOut ∧
    (setCell c x s).cellErrs = s.cellErrs ∧ (setCell c x s).cellDue = s.cellDue ∧ (setCell c x s).learnQ = s.learnQ ∧
    (setCell c x s).unplaced = s.unplaced ∧ (setCell c x s).rebuilding = s.rebuilding ∧ (setCell c x s).reqRehash = s.reqRehash ∧
    (setCell c x s).tblCompare = s.tblCompare ∧ (setCell c x s).brgCompare = s.brgCompare ∧ (setCell c x s).ageAt = s.ageAt ∧
    (setCell c x s).cmds = s.cmds ∧ (setCell c x s).meters = s.meters ∧ (setCell c x s).blocked = s.blocked := by
  and_intros <;> rfl

@[simp] theorem setCell_fields3 (c : Nat) (x : Cell) :
    (setCell c x s).admission = s.admission ∧ (setCell c x s).admitTurn = s.admitTurn ∧ (setCell c x s).ctxs = s.ctxs ∧
    (setCell c x s).issueTurn = s.issueTurn ∧ (setCell c x s).codeLines = s.codeLines ∧ (setCell c x s).lastIssue = s.lastIssue ∧
    (setCell c x s).lastXfer = s.lastXfer ∧ (setCell c x s).replayQ = s.replayQ ∧ (setCell c x s).checkTurn = s.checkTurn ∧
    (setCell c x s).checkAt = s.checkAt ∧ (setCell c x s).segs = s.segs ∧ (setCell c x s).ps = s.ps ∧ (setCell c x s).psBad = s.psBad ∧
    (setCell c x s).eth = s.eth ∧ (setCell c x s).can = s.can ∧ (setCell c x s).lin = s.lin ∧ (setCell c x s).bridge = s.bridge ∧
    (setCell c x s).jrn = s.jrn ∧ (setCell c x s).inj = s.inj ∧ (setCell c x s).cross = s.cross ∧ (setCell c x s).dram = s.dram ∧
    (setCell c x s).rings = s.rings ∧ (setCell c x s).locks = s.locks ∧ (setCell c x s).fleases = s.fleases ∧
    (setCell c x s).sessions = s.sessions ∧ (setCell c x s).octIn = s.octIn ∧ (setCell c x s).ctlIn = s.ctlIn ∧
    (setCell c x s).octRun = s.octRun ∧ (setCell c x s).facetAddr = s.facetAddr ∧ (setCell c x s).facetReset = s.facetReset ∧
    (setCell c x s).facetResets = s.facetResets ∧ (setCell c x s).windows = s.windows ∧ (setCell c x s).accord = s.accord ∧
    (setCell c x s).cip = s.cip ∧ (setCell c x s).wake = s.wake ∧ (setCell c x s).power = s.power ∧ (setCell c x s).fw = s.fw ∧
    (setCell c x s).svc = s.svc := by
  and_intros <;> rfl

@[simp] theorem setQueue_fields1 (v c : Nat) (l : List Copy) :
    (setQueue v c l s).pending = s.pending ∧ (setQueue v c l s).now = s.now ∧ (setQueue v c l s).locus = s.locus ∧
    (setQueue v c l s).fresh = s.fresh ∧ (setQueue v c l s).resp = s.resp ∧ (setQueue v c l s).outbox = s.outbox ∧
    (setQueue v c l s).regs = s.regs ∧ (setQueue v c l s).loHeld = s.loHeld ∧ (setQueue v c l s).hiLatch = s.hiLatch ∧
    (setQueue v c l s).baseline = s.baseline ∧ (setQueue v c l s).counters = s.counters ∧ (setQueue v c l s).faultLatch = s.faultLatch ∧
    (setQueue v c l s).softReset = s.softReset ∧ (setQueue v c l s).live = s.live ∧ (setQueue v c l s).staging = s.staging ∧
    (setQueue v c l s).drain = s.drain ∧ (setQueue v c l s).shadow = s.shadow ∧ (setQueue v c l s).drainShadow = s.drainShadow ∧
    (setQueue v c l s).epoch = s.epoch ∧ (setQueue v c l s).tags = s.tags ∧ (setQueue v c l s).tagFrames = s.tagFrames ∧
    (setQueue v c l s).quotaEp = s.quotaEp ∧ (setQueue v c l s).ctxEp = s.ctxEp ∧ (setQueue v c l s).seqs = s.seqs ∧
    (setQueue v c l s).lastStamp = s.lastStamp ∧ (setQueue v c l s).nextId = s.nextId ∧ (setQueue v c l s).mp = s.mp := by
  and_intros <;> rfl

@[simp] theorem setQueue_fields2 (v c : Nat) (l : List Copy) :
    (setQueue v c l s).mpRestarts = s.mpRestarts ∧ (setQueue v c l s).loc = s.loc ∧ (setQueue v c l s).domains = s.domains ∧
    (setQueue v c l s).ptpOut = s.ptpOut ∧ (setQueue v c l s).linkDelay = s.linkDelay ∧ (setQueue v c l s).txq = s.txq ∧
    (setQueue v c l s).syncs = s.syncs ∧ (setQueue v c l s).caps = s.caps ∧ (setQueue v c l s).plane = s.plane ∧
    (setQueue v c l s).inputs = s.inputs ∧ (setQueue v c l s).lanes = s.lanes ∧ (setQueue v c l s).planeQ = s.planeQ ∧
    (setQueue v c l s).egress = s.egress ∧ (setQueue v c l s).mappedOut = s.mappedOut ∧ (setQueue v c l s).cellErrs = s.cellErrs ∧
    (setQueue v c l s).cellDue = s.cellDue ∧ (setQueue v c l s).learnQ = s.learnQ ∧ (setQueue v c l s).unplaced = s.unplaced ∧
    (setQueue v c l s).rebuilding = s.rebuilding ∧ (setQueue v c l s).reqRehash = s.reqRehash ∧
    (setQueue v c l s).tblCompare = s.tblCompare ∧ (setQueue v c l s).brgCompare = s.brgCompare ∧ (setQueue v c l s).ageAt = s.ageAt ∧
    (setQueue v c l s).cmds = s.cmds ∧ (setQueue v c l s).meters = s.meters ∧ (setQueue v c l s).blocked = s.blocked ∧
    (setQueue v c l s).admission = s.admission := by
  and_intros <;> rfl

@[simp] theorem setQueue_fields3 (v c : Nat) (l : List Copy) :
    (setQueue v c l s).admitTurn = s.admitTurn ∧ (setQueue v c l s).ctxs = s.ctxs ∧ (setQueue v c l s).issueTurn = s.issueTurn ∧
    (setQueue v c l s).codeLines = s.codeLines ∧ (setQueue v c l s).lastIssue = s.lastIssue ∧ (setQueue v c l s).lastXfer = s.lastXfer ∧
    (setQueue v c l s).replayQ = s.replayQ ∧ (setQueue v c l s).cells = s.cells ∧ (setQueue v c l s).checkTurn = s.checkTurn ∧
    (setQueue v c l s).checkAt = s.checkAt ∧ (setQueue v c l s).segs = s.segs ∧ (setQueue v c l s).ps = s.ps ∧
    (setQueue v c l s).psBad = s.psBad ∧ (setQueue v c l s).eth = s.eth ∧ (setQueue v c l s).can = s.can ∧
    (setQueue v c l s).lin = s.lin ∧ (setQueue v c l s).bridge = s.bridge ∧ (setQueue v c l s).jrn = s.jrn ∧
    (setQueue v c l s).inj = s.inj ∧ (setQueue v c l s).cross = s.cross ∧ (setQueue v c l s).dram = s.dram ∧
    (setQueue v c l s).rings = s.rings ∧ (setQueue v c l s).locks = s.locks ∧ (setQueue v c l s).fleases = s.fleases ∧
    (setQueue v c l s).sessions = s.sessions ∧ (setQueue v c l s).octIn = s.octIn ∧ (setQueue v c l s).ctlIn = s.ctlIn ∧
    (setQueue v c l s).octRun = s.octRun ∧ (setQueue v c l s).facetAddr = s.facetAddr ∧ (setQueue v c l s).facetReset = s.facetReset ∧
    (setQueue v c l s).facetResets = s.facetResets ∧ (setQueue v c l s).windows = s.windows ∧ (setQueue v c l s).accord = s.accord ∧
    (setQueue v c l s).cip = s.cip ∧ (setQueue v c l s).wake = s.wake ∧ (setQueue v c l s).power = s.power ∧
    (setQueue v c l s).fw = s.fw ∧ (setQueue v c l s).svc = s.svc := by
  and_intros <;> rfl

@[simp] theorem setOut_fields1 (v : Nat) (e : EgressSt) :
    (setOut v e s).pending = s.pending ∧ (setOut v e s).now = s.now ∧ (setOut v e s).locus = s.locus ∧ (setOut v e s).fresh = s.fresh ∧
    (setOut v e s).resp = s.resp ∧ (setOut v e s).outbox = s.outbox ∧ (setOut v e s).regs = s.regs ∧ (setOut v e s).loHeld = s.loHeld ∧
    (setOut v e s).hiLatch = s.hiLatch ∧ (setOut v e s).baseline = s.baseline ∧ (setOut v e s).counters = s.counters ∧
    (setOut v e s).faultLatch = s.faultLatch ∧ (setOut v e s).softReset = s.softReset ∧ (setOut v e s).live = s.live ∧
    (setOut v e s).staging = s.staging ∧ (setOut v e s).drain = s.drain ∧ (setOut v e s).shadow = s.shadow ∧
    (setOut v e s).drainShadow = s.drainShadow ∧ (setOut v e s).epoch = s.epoch ∧ (setOut v e s).tags = s.tags ∧
    (setOut v e s).tagFrames = s.tagFrames ∧ (setOut v e s).quotaEp = s.quotaEp ∧ (setOut v e s).ctxEp = s.ctxEp ∧
    (setOut v e s).seqs = s.seqs ∧ (setOut v e s).lastStamp = s.lastStamp ∧ (setOut v e s).nextId = s.nextId ∧ (setOut v e s).mp = s.mp := by
  and_intros <;> rfl

@[simp] theorem setOut_fields2 (v : Nat) (e : EgressSt) :
    (setOut v e s).mpRestarts = s.mpRestarts ∧ (setOut v e s).loc = s.loc ∧ (setOut v e s).domains = s.domains ∧
    (setOut v e s).ptpOut = s.ptpOut ∧ (setOut v e s).linkDelay = s.linkDelay ∧ (setOut v e s).txq = s.txq ∧
    (setOut v e s).syncs = s.syncs ∧ (setOut v e s).caps = s.caps ∧ (setOut v e s).plane = s.plane ∧ (setOut v e s).inputs = s.inputs ∧
    (setOut v e s).lanes = s.lanes ∧ (setOut v e s).planeQ = s.planeQ ∧ (setOut v e s).queues = s.queues ∧
    (setOut v e s).mappedOut = s.mappedOut ∧ (setOut v e s).cellErrs = s.cellErrs ∧ (setOut v e s).cellDue = s.cellDue ∧
    (setOut v e s).learnQ = s.learnQ ∧ (setOut v e s).unplaced = s.unplaced ∧ (setOut v e s).rebuilding = s.rebuilding ∧
    (setOut v e s).reqRehash = s.reqRehash ∧ (setOut v e s).tblCompare = s.tblCompare ∧ (setOut v e s).brgCompare = s.brgCompare ∧
    (setOut v e s).ageAt = s.ageAt ∧ (setOut v e s).cmds = s.cmds ∧ (setOut v e s).meters = s.meters ∧
    (setOut v e s).blocked = s.blocked ∧ (setOut v e s).admission = s.admission := by
  and_intros <;> rfl

@[simp] theorem setOut_fields3 (v : Nat) (e : EgressSt) :
    (setOut v e s).admitTurn = s.admitTurn ∧ (setOut v e s).ctxs = s.ctxs ∧ (setOut v e s).issueTurn = s.issueTurn ∧
    (setOut v e s).codeLines = s.codeLines ∧ (setOut v e s).lastIssue = s.lastIssue ∧ (setOut v e s).lastXfer = s.lastXfer ∧
    (setOut v e s).replayQ = s.replayQ ∧ (setOut v e s).cells = s.cells ∧ (setOut v e s).checkTurn = s.checkTurn ∧
    (setOut v e s).checkAt = s.checkAt ∧ (setOut v e s).segs = s.segs ∧ (setOut v e s).ps = s.ps ∧ (setOut v e s).psBad = s.psBad ∧
    (setOut v e s).eth = s.eth ∧ (setOut v e s).can = s.can ∧ (setOut v e s).lin = s.lin ∧ (setOut v e s).bridge = s.bridge ∧
    (setOut v e s).jrn = s.jrn ∧ (setOut v e s).inj = s.inj ∧ (setOut v e s).cross = s.cross ∧ (setOut v e s).dram = s.dram ∧
    (setOut v e s).rings = s.rings ∧ (setOut v e s).locks = s.locks ∧ (setOut v e s).fleases = s.fleases ∧
    (setOut v e s).sessions = s.sessions ∧ (setOut v e s).octIn = s.octIn ∧ (setOut v e s).ctlIn = s.ctlIn ∧
    (setOut v e s).octRun = s.octRun ∧ (setOut v e s).facetAddr = s.facetAddr ∧ (setOut v e s).facetReset = s.facetReset ∧
    (setOut v e s).facetResets = s.facetResets ∧ (setOut v e s).windows = s.windows ∧ (setOut v e s).accord = s.accord ∧
    (setOut v e s).cip = s.cip ∧ (setOut v e s).wake = s.wake ∧ (setOut v e s).power = s.power ∧ (setOut v e s).fw = s.fw ∧
    (setOut v e s).svc = s.svc := by
  and_intros <;> rfl

@[simp] theorem setInj_fields1 (k : Nat) (i : InjSt) :
    (setInj k i s).pending = s.pending ∧ (setInj k i s).now = s.now ∧ (setInj k i s).locus = s.locus ∧ (setInj k i s).fresh = s.fresh ∧
    (setInj k i s).resp = s.resp ∧ (setInj k i s).outbox = s.outbox ∧ (setInj k i s).regs = s.regs ∧ (setInj k i s).loHeld = s.loHeld ∧
    (setInj k i s).hiLatch = s.hiLatch ∧ (setInj k i s).baseline = s.baseline ∧ (setInj k i s).counters = s.counters ∧
    (setInj k i s).faultLatch = s.faultLatch ∧ (setInj k i s).softReset = s.softReset ∧ (setInj k i s).live = s.live ∧
    (setInj k i s).staging = s.staging ∧ (setInj k i s).drain = s.drain ∧ (setInj k i s).shadow = s.shadow ∧
    (setInj k i s).drainShadow = s.drainShadow ∧ (setInj k i s).epoch = s.epoch ∧ (setInj k i s).tags = s.tags ∧
    (setInj k i s).tagFrames = s.tagFrames ∧ (setInj k i s).quotaEp = s.quotaEp ∧ (setInj k i s).ctxEp = s.ctxEp ∧
    (setInj k i s).seqs = s.seqs ∧ (setInj k i s).lastStamp = s.lastStamp ∧ (setInj k i s).nextId = s.nextId ∧ (setInj k i s).mp = s.mp := by
  and_intros <;> rfl

@[simp] theorem setInj_fields2 (k : Nat) (i : InjSt) :
    (setInj k i s).mpRestarts = s.mpRestarts ∧ (setInj k i s).loc = s.loc ∧ (setInj k i s).domains = s.domains ∧
    (setInj k i s).ptpOut = s.ptpOut ∧ (setInj k i s).linkDelay = s.linkDelay ∧ (setInj k i s).txq = s.txq ∧
    (setInj k i s).syncs = s.syncs ∧ (setInj k i s).caps = s.caps ∧ (setInj k i s).plane = s.plane ∧ (setInj k i s).inputs = s.inputs ∧
    (setInj k i s).lanes = s.lanes ∧ (setInj k i s).planeQ = s.planeQ ∧ (setInj k i s).queues = s.queues ∧
    (setInj k i s).egress = s.egress ∧ (setInj k i s).mappedOut = s.mappedOut ∧ (setInj k i s).cellErrs = s.cellErrs ∧
    (setInj k i s).cellDue = s.cellDue ∧ (setInj k i s).learnQ = s.learnQ ∧ (setInj k i s).unplaced = s.unplaced ∧
    (setInj k i s).rebuilding = s.rebuilding ∧ (setInj k i s).reqRehash = s.reqRehash ∧ (setInj k i s).tblCompare = s.tblCompare ∧
    (setInj k i s).brgCompare = s.brgCompare ∧ (setInj k i s).ageAt = s.ageAt ∧ (setInj k i s).cmds = s.cmds ∧
    (setInj k i s).meters = s.meters ∧ (setInj k i s).blocked = s.blocked := by
  and_intros <;> rfl

@[simp] theorem setInj_fields3 (k : Nat) (i : InjSt) :
    (setInj k i s).admission = s.admission ∧ (setInj k i s).admitTurn = s.admitTurn ∧ (setInj k i s).ctxs = s.ctxs ∧
    (setInj k i s).issueTurn = s.issueTurn ∧ (setInj k i s).codeLines = s.codeLines ∧ (setInj k i s).lastIssue = s.lastIssue ∧
    (setInj k i s).lastXfer = s.lastXfer ∧ (setInj k i s).replayQ = s.replayQ ∧ (setInj k i s).cells = s.cells ∧
    (setInj k i s).checkTurn = s.checkTurn ∧ (setInj k i s).checkAt = s.checkAt ∧ (setInj k i s).segs = s.segs ∧
    (setInj k i s).ps = s.ps ∧ (setInj k i s).psBad = s.psBad ∧ (setInj k i s).eth = s.eth ∧ (setInj k i s).can = s.can ∧
    (setInj k i s).lin = s.lin ∧ (setInj k i s).bridge = s.bridge ∧ (setInj k i s).jrn = s.jrn ∧ (setInj k i s).cross = s.cross ∧
    (setInj k i s).dram = s.dram ∧ (setInj k i s).rings = s.rings ∧ (setInj k i s).locks = s.locks ∧ (setInj k i s).fleases = s.fleases ∧
    (setInj k i s).sessions = s.sessions ∧ (setInj k i s).octIn = s.octIn ∧ (setInj k i s).ctlIn = s.ctlIn ∧
    (setInj k i s).octRun = s.octRun ∧ (setInj k i s).facetAddr = s.facetAddr ∧ (setInj k i s).facetReset = s.facetReset ∧
    (setInj k i s).facetResets = s.facetResets ∧ (setInj k i s).windows = s.windows ∧ (setInj k i s).accord = s.accord ∧
    (setInj k i s).cip = s.cip ∧ (setInj k i s).wake = s.wake ∧ (setInj k i s).power = s.power ∧ (setInj k i s).fw = s.fw ∧
    (setInj k i s).svc = s.svc := by
  and_intros <;> rfl

@[simp] theorem setCrossing_fields1 (v : Nat) (c : Crossing) :
    (setCrossing v c s).pending = s.pending ∧ (setCrossing v c s).now = s.now ∧ (setCrossing v c s).locus = s.locus ∧
    (setCrossing v c s).fresh = s.fresh ∧ (setCrossing v c s).resp = s.resp ∧ (setCrossing v c s).outbox = s.outbox ∧
    (setCrossing v c s).regs = s.regs ∧ (setCrossing v c s).loHeld = s.loHeld ∧ (setCrossing v c s).hiLatch = s.hiLatch ∧
    (setCrossing v c s).baseline = s.baseline ∧ (setCrossing v c s).counters = s.counters ∧
    (setCrossing v c s).faultLatch = s.faultLatch ∧ (setCrossing v c s).softReset = s.softReset ∧ (setCrossing v c s).live = s.live ∧
    (setCrossing v c s).staging = s.staging ∧ (setCrossing v c s).drain = s.drain ∧ (setCrossing v c s).shadow = s.shadow ∧
    (setCrossing v c s).drainShadow = s.drainShadow ∧ (setCrossing v c s).epoch = s.epoch ∧ (setCrossing v c s).tags = s.tags ∧
    (setCrossing v c s).tagFrames = s.tagFrames ∧ (setCrossing v c s).quotaEp = s.quotaEp ∧ (setCrossing v c s).ctxEp = s.ctxEp ∧
    (setCrossing v c s).seqs = s.seqs ∧ (setCrossing v c s).lastStamp = s.lastStamp ∧ (setCrossing v c s).nextId = s.nextId ∧
    (setCrossing v c s).mp = s.mp := by
  and_intros <;> rfl

@[simp] theorem setCrossing_fields2 (v : Nat) (c : Crossing) :
    (setCrossing v c s).mpRestarts = s.mpRestarts ∧ (setCrossing v c s).loc = s.loc ∧ (setCrossing v c s).domains = s.domains ∧
    (setCrossing v c s).ptpOut = s.ptpOut ∧ (setCrossing v c s).linkDelay = s.linkDelay ∧ (setCrossing v c s).txq = s.txq ∧
    (setCrossing v c s).syncs = s.syncs ∧ (setCrossing v c s).caps = s.caps ∧ (setCrossing v c s).plane = s.plane ∧
    (setCrossing v c s).inputs = s.inputs ∧ (setCrossing v c s).lanes = s.lanes ∧ (setCrossing v c s).planeQ = s.planeQ ∧
    (setCrossing v c s).queues = s.queues ∧ (setCrossing v c s).egress = s.egress ∧ (setCrossing v c s).mappedOut = s.mappedOut ∧
    (setCrossing v c s).cellErrs = s.cellErrs ∧ (setCrossing v c s).cellDue = s.cellDue ∧ (setCrossing v c s).learnQ = s.learnQ ∧
    (setCrossing v c s).unplaced = s.unplaced ∧ (setCrossing v c s).rebuilding = s.rebuilding ∧
    (setCrossing v c s).reqRehash = s.reqRehash ∧ (setCrossing v c s).tblCompare = s.tblCompare ∧
    (setCrossing v c s).brgCompare = s.brgCompare ∧ (setCrossing v c s).ageAt = s.ageAt ∧ (setCrossing v c s).cmds = s.cmds ∧
    (setCrossing v c s).meters = s.meters ∧ (setCrossing v c s).blocked = s.blocked := by
  and_intros <;> rfl

@[simp] theorem setCrossing_fields3 (v : Nat) (c : Crossing) :
    (setCrossing v c s).admission = s.admission ∧ (setCrossing v c s).admitTurn = s.admitTurn ∧ (setCrossing v c s).ctxs = s.ctxs ∧
    (setCrossing v c s).issueTurn = s.issueTurn ∧ (setCrossing v c s).codeLines = s.codeLines ∧
    (setCrossing v c s).lastIssue = s.lastIssue ∧ (setCrossing v c s).lastXfer = s.lastXfer ∧ (setCrossing v c s).replayQ = s.replayQ ∧
    (setCrossing v c s).cells = s.cells ∧ (setCrossing v c s).checkTurn = s.checkTurn ∧ (setCrossing v c s).checkAt = s.checkAt ∧
    (setCrossing v c s).segs = s.segs ∧ (setCrossing v c s).ps = s.ps ∧ (setCrossing v c s).psBad = s.psBad ∧
    (setCrossing v c s).eth = s.eth ∧ (setCrossing v c s).can = s.can ∧ (setCrossing v c s).lin = s.lin ∧
    (setCrossing v c s).bridge = s.bridge ∧ (setCrossing v c s).jrn = s.jrn ∧ (setCrossing v c s).inj = s.inj ∧
    (setCrossing v c s).dram = s.dram ∧ (setCrossing v c s).rings = s.rings ∧ (setCrossing v c s).locks = s.locks ∧
    (setCrossing v c s).fleases = s.fleases ∧ (setCrossing v c s).sessions = s.sessions ∧ (setCrossing v c s).octIn = s.octIn ∧
    (setCrossing v c s).ctlIn = s.ctlIn ∧ (setCrossing v c s).octRun = s.octRun ∧ (setCrossing v c s).facetAddr = s.facetAddr ∧
    (setCrossing v c s).facetReset = s.facetReset ∧ (setCrossing v c s).facetResets = s.facetResets ∧
    (setCrossing v c s).windows = s.windows ∧ (setCrossing v c s).accord = s.accord ∧ (setCrossing v c s).cip = s.cip ∧
    (setCrossing v c s).wake = s.wake ∧ (setCrossing v c s).power = s.power ∧ (setCrossing v c s).fw = s.fw ∧
    (setCrossing v c s).svc = s.svc := by
  and_intros <;> rfl

@[simp] theorem setSession_fields1 (k : Nat) (x : Session) :
    (setSession k x s).pending = s.pending ∧ (setSession k x s).now = s.now ∧ (setSession k x s).locus = s.locus ∧
    (setSession k x s).fresh = s.fresh ∧ (setSession k x s).resp = s.resp ∧ (setSession k x s).outbox = s.outbox ∧
    (setSession k x s).regs = s.regs ∧ (setSession k x s).loHeld = s.loHeld ∧ (setSession k x s).hiLatch = s.hiLatch ∧
    (setSession k x s).baseline = s.baseline ∧ (setSession k x s).counters = s.counters ∧ (setSession k x s).faultLatch = s.faultLatch ∧
    (setSession k x s).softReset = s.softReset ∧ (setSession k x s).live = s.live ∧ (setSession k x s).staging = s.staging ∧
    (setSession k x s).drain = s.drain ∧ (setSession k x s).shadow = s.shadow ∧ (setSession k x s).drainShadow = s.drainShadow ∧
    (setSession k x s).epoch = s.epoch ∧ (setSession k x s).tags = s.tags ∧ (setSession k x s).tagFrames = s.tagFrames ∧
    (setSession k x s).quotaEp = s.quotaEp ∧ (setSession k x s).ctxEp = s.ctxEp ∧ (setSession k x s).seqs = s.seqs ∧
    (setSession k x s).lastStamp = s.lastStamp ∧ (setSession k x s).nextId = s.nextId ∧ (setSession k x s).mp = s.mp := by
  and_intros <;> rfl

@[simp] theorem setSession_fields2 (k : Nat) (x : Session) :
    (setSession k x s).mpRestarts = s.mpRestarts ∧ (setSession k x s).loc = s.loc ∧ (setSession k x s).domains = s.domains ∧
    (setSession k x s).ptpOut = s.ptpOut ∧ (setSession k x s).linkDelay = s.linkDelay ∧ (setSession k x s).txq = s.txq ∧
    (setSession k x s).syncs = s.syncs ∧ (setSession k x s).caps = s.caps ∧ (setSession k x s).plane = s.plane ∧
    (setSession k x s).inputs = s.inputs ∧ (setSession k x s).lanes = s.lanes ∧ (setSession k x s).planeQ = s.planeQ ∧
    (setSession k x s).queues = s.queues ∧ (setSession k x s).egress = s.egress ∧ (setSession k x s).mappedOut = s.mappedOut ∧
    (setSession k x s).cellErrs = s.cellErrs ∧ (setSession k x s).cellDue = s.cellDue ∧ (setSession k x s).learnQ = s.learnQ ∧
    (setSession k x s).unplaced = s.unplaced ∧ (setSession k x s).rebuilding = s.rebuilding ∧
    (setSession k x s).reqRehash = s.reqRehash ∧ (setSession k x s).tblCompare = s.tblCompare ∧
    (setSession k x s).brgCompare = s.brgCompare ∧ (setSession k x s).ageAt = s.ageAt ∧ (setSession k x s).cmds = s.cmds ∧
    (setSession k x s).meters = s.meters ∧ (setSession k x s).blocked = s.blocked := by
  and_intros <;> rfl

@[simp] theorem setSession_fields3 (k : Nat) (x : Session) :
    (setSession k x s).admission = s.admission ∧ (setSession k x s).admitTurn = s.admitTurn ∧ (setSession k x s).ctxs = s.ctxs ∧
    (setSession k x s).issueTurn = s.issueTurn ∧ (setSession k x s).codeLines = s.codeLines ∧
    (setSession k x s).lastIssue = s.lastIssue ∧ (setSession k x s).lastXfer = s.lastXfer ∧ (setSession k x s).replayQ = s.replayQ ∧
    (setSession k x s).cells = s.cells ∧ (setSession k x s).checkTurn = s.checkTurn ∧ (setSession k x s).checkAt = s.checkAt ∧
    (setSession k x s).segs = s.segs ∧ (setSession k x s).ps = s.ps ∧ (setSession k x s).psBad = s.psBad ∧
    (setSession k x s).eth = s.eth ∧ (setSession k x s).can = s.can ∧ (setSession k x s).lin = s.lin ∧
    (setSession k x s).bridge = s.bridge ∧ (setSession k x s).jrn = s.jrn ∧ (setSession k x s).inj = s.inj ∧
    (setSession k x s).cross = s.cross ∧ (setSession k x s).dram = s.dram ∧ (setSession k x s).rings = s.rings ∧
    (setSession k x s).locks = s.locks ∧ (setSession k x s).fleases = s.fleases ∧ (setSession k x s).octIn = s.octIn ∧
    (setSession k x s).ctlIn = s.ctlIn ∧ (setSession k x s).octRun = s.octRun ∧ (setSession k x s).facetAddr = s.facetAddr ∧
    (setSession k x s).facetReset = s.facetReset ∧ (setSession k x s).facetResets = s.facetResets ∧
    (setSession k x s).windows = s.windows ∧ (setSession k x s).accord = s.accord ∧ (setSession k x s).cip = s.cip ∧
    (setSession k x s).wake = s.wake ∧ (setSession k x s).power = s.power ∧ (setSession k x s).fw = s.fw ∧ (setSession k x s).svc = s.svc := by
  and_intros <;> rfl

@[simp] theorem setWindow_fields1 (k : Nat) (w : WindowSt) :
    (setWindow k w s).pending = s.pending ∧ (setWindow k w s).now = s.now ∧ (setWindow k w s).locus = s.locus ∧
    (setWindow k w s).fresh = s.fresh ∧ (setWindow k w s).resp = s.resp ∧ (setWindow k w s).outbox = s.outbox ∧
    (setWindow k w s).regs = s.regs ∧ (setWindow k w s).loHeld = s.loHeld ∧ (setWindow k w s).hiLatch = s.hiLatch ∧
    (setWindow k w s).baseline = s.baseline ∧ (setWindow k w s).counters = s.counters ∧ (setWindow k w s).faultLatch = s.faultLatch ∧
    (setWindow k w s).softReset = s.softReset ∧ (setWindow k w s).live = s.live ∧ (setWindow k w s).staging = s.staging ∧
    (setWindow k w s).drain = s.drain ∧ (setWindow k w s).shadow = s.shadow ∧ (setWindow k w s).drainShadow = s.drainShadow ∧
    (setWindow k w s).epoch = s.epoch ∧ (setWindow k w s).tags = s.tags ∧ (setWindow k w s).tagFrames = s.tagFrames ∧
    (setWindow k w s).quotaEp = s.quotaEp ∧ (setWindow k w s).ctxEp = s.ctxEp ∧ (setWindow k w s).seqs = s.seqs ∧
    (setWindow k w s).lastStamp = s.lastStamp ∧ (setWindow k w s).nextId = s.nextId ∧ (setWindow k w s).mp = s.mp := by
  and_intros <;> rfl

@[simp] theorem setWindow_fields2 (k : Nat) (w : WindowSt) :
    (setWindow k w s).mpRestarts = s.mpRestarts ∧ (setWindow k w s).loc = s.loc ∧ (setWindow k w s).domains = s.domains ∧
    (setWindow k w s).ptpOut = s.ptpOut ∧ (setWindow k w s).linkDelay = s.linkDelay ∧ (setWindow k w s).txq = s.txq ∧
    (setWindow k w s).syncs = s.syncs ∧ (setWindow k w s).caps = s.caps ∧ (setWindow k w s).plane = s.plane ∧
    (setWindow k w s).inputs = s.inputs ∧ (setWindow k w s).lanes = s.lanes ∧ (setWindow k w s).planeQ = s.planeQ ∧
    (setWindow k w s).queues = s.queues ∧ (setWindow k w s).egress = s.egress ∧ (setWindow k w s).mappedOut = s.mappedOut ∧
    (setWindow k w s).cellErrs = s.cellErrs ∧ (setWindow k w s).cellDue = s.cellDue ∧ (setWindow k w s).learnQ = s.learnQ ∧
    (setWindow k w s).unplaced = s.unplaced ∧ (setWindow k w s).rebuilding = s.rebuilding ∧ (setWindow k w s).reqRehash = s.reqRehash ∧
    (setWindow k w s).tblCompare = s.tblCompare ∧ (setWindow k w s).brgCompare = s.brgCompare ∧ (setWindow k w s).ageAt = s.ageAt ∧
    (setWindow k w s).cmds = s.cmds ∧ (setWindow k w s).meters = s.meters ∧ (setWindow k w s).blocked = s.blocked := by
  and_intros <;> rfl

@[simp] theorem setWindow_fields3 (k : Nat) (w : WindowSt) :
    (setWindow k w s).admission = s.admission ∧ (setWindow k w s).admitTurn = s.admitTurn ∧ (setWindow k w s).ctxs = s.ctxs ∧
    (setWindow k w s).issueTurn = s.issueTurn ∧ (setWindow k w s).codeLines = s.codeLines ∧ (setWindow k w s).lastIssue = s.lastIssue ∧
    (setWindow k w s).lastXfer = s.lastXfer ∧ (setWindow k w s).replayQ = s.replayQ ∧ (setWindow k w s).cells = s.cells ∧
    (setWindow k w s).checkTurn = s.checkTurn ∧ (setWindow k w s).checkAt = s.checkAt ∧ (setWindow k w s).segs = s.segs ∧
    (setWindow k w s).ps = s.ps ∧ (setWindow k w s).psBad = s.psBad ∧ (setWindow k w s).eth = s.eth ∧ (setWindow k w s).can = s.can ∧
    (setWindow k w s).lin = s.lin ∧ (setWindow k w s).bridge = s.bridge ∧ (setWindow k w s).jrn = s.jrn ∧ (setWindow k w s).inj = s.inj ∧
    (setWindow k w s).cross = s.cross ∧ (setWindow k w s).dram = s.dram ∧ (setWindow k w s).rings = s.rings ∧
    (setWindow k w s).locks = s.locks ∧ (setWindow k w s).fleases = s.fleases ∧ (setWindow k w s).sessions = s.sessions ∧
    (setWindow k w s).octIn = s.octIn ∧ (setWindow k w s).ctlIn = s.ctlIn ∧ (setWindow k w s).octRun = s.octRun ∧
    (setWindow k w s).facetAddr = s.facetAddr ∧ (setWindow k w s).facetReset = s.facetReset ∧
    (setWindow k w s).facetResets = s.facetResets ∧ (setWindow k w s).accord = s.accord ∧ (setWindow k w s).cip = s.cip ∧
    (setWindow k w s).wake = s.wake ∧ (setWindow k w s).power = s.power ∧ (setWindow k w s).fw = s.fw ∧ (setWindow k w s).svc = s.svc := by
  and_intros <;> rfl

@[simp] theorem dramPut_fields1 (a : Nat) (l : List Byte) :
    (dramPut a l s).pending = s.pending ∧ (dramPut a l s).now = s.now ∧ (dramPut a l s).locus = s.locus ∧
    (dramPut a l s).fresh = s.fresh ∧ (dramPut a l s).resp = s.resp ∧ (dramPut a l s).outbox = s.outbox ∧ (dramPut a l s).regs = s.regs ∧
    (dramPut a l s).loHeld = s.loHeld ∧ (dramPut a l s).hiLatch = s.hiLatch ∧ (dramPut a l s).baseline = s.baseline ∧
    (dramPut a l s).counters = s.counters ∧ (dramPut a l s).faultLatch = s.faultLatch ∧ (dramPut a l s).softReset = s.softReset ∧
    (dramPut a l s).live = s.live ∧ (dramPut a l s).staging = s.staging ∧ (dramPut a l s).drain = s.drain ∧
    (dramPut a l s).shadow = s.shadow ∧ (dramPut a l s).drainShadow = s.drainShadow ∧ (dramPut a l s).epoch = s.epoch ∧
    (dramPut a l s).tags = s.tags ∧ (dramPut a l s).tagFrames = s.tagFrames ∧ (dramPut a l s).quotaEp = s.quotaEp ∧
    (dramPut a l s).ctxEp = s.ctxEp ∧ (dramPut a l s).seqs = s.seqs ∧ (dramPut a l s).lastStamp = s.lastStamp ∧
    (dramPut a l s).nextId = s.nextId ∧ (dramPut a l s).mp = s.mp := by
  and_intros <;> rfl

@[simp] theorem dramPut_fields2 (a : Nat) (l : List Byte) :
    (dramPut a l s).mpRestarts = s.mpRestarts ∧ (dramPut a l s).loc = s.loc ∧ (dramPut a l s).domains = s.domains ∧
    (dramPut a l s).ptpOut = s.ptpOut ∧ (dramPut a l s).linkDelay = s.linkDelay ∧ (dramPut a l s).txq = s.txq ∧
    (dramPut a l s).syncs = s.syncs ∧ (dramPut a l s).caps = s.caps ∧ (dramPut a l s).plane = s.plane ∧
    (dramPut a l s).inputs = s.inputs ∧ (dramPut a l s).lanes = s.lanes ∧ (dramPut a l s).planeQ = s.planeQ ∧
    (dramPut a l s).queues = s.queues ∧ (dramPut a l s).egress = s.egress ∧ (dramPut a l s).mappedOut = s.mappedOut ∧
    (dramPut a l s).cellErrs = s.cellErrs ∧ (dramPut a l s).cellDue = s.cellDue ∧ (dramPut a l s).learnQ = s.learnQ ∧
    (dramPut a l s).unplaced = s.unplaced ∧ (dramPut a l s).rebuilding = s.rebuilding ∧ (dramPut a l s).reqRehash = s.reqRehash ∧
    (dramPut a l s).tblCompare = s.tblCompare ∧ (dramPut a l s).brgCompare = s.brgCompare ∧ (dramPut a l s).ageAt = s.ageAt ∧
    (dramPut a l s).cmds = s.cmds ∧ (dramPut a l s).meters = s.meters ∧ (dramPut a l s).blocked = s.blocked := by
  and_intros <;> rfl

@[simp] theorem dramPut_fields3 (a : Nat) (l : List Byte) :
    (dramPut a l s).admission = s.admission ∧ (dramPut a l s).admitTurn = s.admitTurn ∧ (dramPut a l s).ctxs = s.ctxs ∧
    (dramPut a l s).issueTurn = s.issueTurn ∧ (dramPut a l s).codeLines = s.codeLines ∧ (dramPut a l s).lastIssue = s.lastIssue ∧
    (dramPut a l s).lastXfer = s.lastXfer ∧ (dramPut a l s).replayQ = s.replayQ ∧ (dramPut a l s).cells = s.cells ∧
    (dramPut a l s).checkTurn = s.checkTurn ∧ (dramPut a l s).checkAt = s.checkAt ∧ (dramPut a l s).segs = s.segs ∧
    (dramPut a l s).ps = s.ps ∧ (dramPut a l s).psBad = s.psBad ∧ (dramPut a l s).eth = s.eth ∧ (dramPut a l s).can = s.can ∧
    (dramPut a l s).lin = s.lin ∧ (dramPut a l s).bridge = s.bridge ∧ (dramPut a l s).jrn = s.jrn ∧ (dramPut a l s).inj = s.inj ∧
    (dramPut a l s).cross = s.cross ∧ (dramPut a l s).rings = s.rings ∧ (dramPut a l s).locks = s.locks ∧
    (dramPut a l s).fleases = s.fleases ∧ (dramPut a l s).sessions = s.sessions ∧ (dramPut a l s).octIn = s.octIn ∧
    (dramPut a l s).ctlIn = s.ctlIn ∧ (dramPut a l s).octRun = s.octRun ∧ (dramPut a l s).facetAddr = s.facetAddr ∧
    (dramPut a l s).facetReset = s.facetReset ∧ (dramPut a l s).facetResets = s.facetResets ∧ (dramPut a l s).windows = s.windows ∧
    (dramPut a l s).accord = s.accord ∧ (dramPut a l s).cip = s.cip ∧ (dramPut a l s).wake = s.wake ∧ (dramPut a l s).power = s.power ∧
    (dramPut a l s).fw = s.fw ∧ (dramPut a l s).svc = s.svc := by
  and_intros <;> rfl

@[simp] theorem putArea_fields1 (n o : Nat) (l : List Byte) :
    (putArea n o l s).pending = s.pending ∧ (putArea n o l s).now = s.now ∧ (putArea n o l s).locus = s.locus ∧
    (putArea n o l s).fresh = s.fresh ∧ (putArea n o l s).resp = s.resp ∧ (putArea n o l s).outbox = s.outbox ∧
    (putArea n o l s).regs = s.regs ∧ (putArea n o l s).loHeld = s.loHeld ∧ (putArea n o l s).hiLatch = s.hiLatch ∧
    (putArea n o l s).baseline = s.baseline ∧ (putArea n o l s).counters = s.counters ∧ (putArea n o l s).faultLatch = s.faultLatch ∧
    (putArea n o l s).softReset = s.softReset ∧ (putArea n o l s).live = s.live ∧ (putArea n o l s).staging = s.staging ∧
    (putArea n o l s).drain = s.drain ∧ (putArea n o l s).shadow = s.shadow ∧ (putArea n o l s).drainShadow = s.drainShadow ∧
    (putArea n o l s).epoch = s.epoch ∧ (putArea n o l s).tags = s.tags ∧ (putArea n o l s).tagFrames = s.tagFrames ∧
    (putArea n o l s).quotaEp = s.quotaEp ∧ (putArea n o l s).ctxEp = s.ctxEp ∧ (putArea n o l s).seqs = s.seqs ∧
    (putArea n o l s).lastStamp = s.lastStamp ∧ (putArea n o l s).nextId = s.nextId ∧ (putArea n o l s).mp = s.mp := by
  simp [putArea]

@[simp] theorem putArea_fields2 (n o : Nat) (l : List Byte) :
    (putArea n o l s).mpRestarts = s.mpRestarts ∧ (putArea n o l s).loc = s.loc ∧ (putArea n o l s).domains = s.domains ∧
    (putArea n o l s).ptpOut = s.ptpOut ∧ (putArea n o l s).linkDelay = s.linkDelay ∧ (putArea n o l s).txq = s.txq ∧
    (putArea n o l s).syncs = s.syncs ∧ (putArea n o l s).caps = s.caps ∧ (putArea n o l s).plane = s.plane ∧
    (putArea n o l s).inputs = s.inputs ∧ (putArea n o l s).lanes = s.lanes ∧ (putArea n o l s).planeQ = s.planeQ ∧
    (putArea n o l s).queues = s.queues ∧ (putArea n o l s).egress = s.egress ∧ (putArea n o l s).mappedOut = s.mappedOut ∧
    (putArea n o l s).cellErrs = s.cellErrs ∧ (putArea n o l s).cellDue = s.cellDue ∧ (putArea n o l s).learnQ = s.learnQ ∧
    (putArea n o l s).unplaced = s.unplaced ∧ (putArea n o l s).rebuilding = s.rebuilding ∧ (putArea n o l s).reqRehash = s.reqRehash ∧
    (putArea n o l s).tblCompare = s.tblCompare ∧ (putArea n o l s).brgCompare = s.brgCompare ∧ (putArea n o l s).ageAt = s.ageAt ∧
    (putArea n o l s).cmds = s.cmds ∧ (putArea n o l s).meters = s.meters ∧ (putArea n o l s).blocked = s.blocked := by
  simp [putArea]

@[simp] theorem putArea_fields3 (n o : Nat) (l : List Byte) :
    (putArea n o l s).admission = s.admission ∧ (putArea n o l s).admitTurn = s.admitTurn ∧ (putArea n o l s).ctxs = s.ctxs ∧
    (putArea n o l s).issueTurn = s.issueTurn ∧ (putArea n o l s).codeLines = s.codeLines ∧ (putArea n o l s).lastIssue = s.lastIssue ∧
    (putArea n o l s).lastXfer = s.lastXfer ∧ (putArea n o l s).replayQ = s.replayQ ∧ (putArea n o l s).cells = s.cells ∧
    (putArea n o l s).checkTurn = s.checkTurn ∧ (putArea n o l s).checkAt = s.checkAt ∧ (putArea n o l s).segs = s.segs ∧
    (putArea n o l s).ps = s.ps ∧ (putArea n o l s).psBad = s.psBad ∧ (putArea n o l s).eth = s.eth ∧ (putArea n o l s).can = s.can ∧
    (putArea n o l s).lin = s.lin ∧ (putArea n o l s).bridge = s.bridge ∧ (putArea n o l s).jrn = s.jrn ∧ (putArea n o l s).inj = s.inj ∧
    (putArea n o l s).cross = s.cross ∧ (putArea n o l s).dram = s.dram ∧ (putArea n o l s).rings = s.rings ∧
    (putArea n o l s).locks = s.locks ∧ (putArea n o l s).fleases = s.fleases ∧ (putArea n o l s).sessions = s.sessions ∧
    (putArea n o l s).octIn = s.octIn ∧ (putArea n o l s).ctlIn = s.ctlIn ∧ (putArea n o l s).octRun = s.octRun ∧
    (putArea n o l s).facetAddr = s.facetAddr ∧ (putArea n o l s).facetReset = s.facetReset ∧
    (putArea n o l s).facetResets = s.facetResets ∧ (putArea n o l s).windows = s.windows ∧ (putArea n o l s).accord = s.accord ∧
    (putArea n o l s).wake = s.wake ∧ (putArea n o l s).power = s.power ∧ (putArea n o l s).fw = s.fw ∧ (putArea n o l s).svc = s.svc := by
  simp [putArea]

@[simp] theorem setUnit_fields1 (u : Nat) (c : ChkUnit) :
    (setUnit u c s).pending = s.pending ∧ (setUnit u c s).now = s.now ∧ (setUnit u c s).locus = s.locus ∧
    (setUnit u c s).fresh = s.fresh ∧ (setUnit u c s).resp = s.resp ∧ (setUnit u c s).outbox = s.outbox ∧ (setUnit u c s).regs = s.regs ∧
    (setUnit u c s).loHeld = s.loHeld ∧ (setUnit u c s).hiLatch = s.hiLatch ∧ (setUnit u c s).baseline = s.baseline ∧
    (setUnit u c s).counters = s.counters ∧ (setUnit u c s).faultLatch = s.faultLatch ∧ (setUnit u c s).softReset = s.softReset ∧
    (setUnit u c s).live = s.live ∧ (setUnit u c s).staging = s.staging ∧ (setUnit u c s).drain = s.drain ∧
    (setUnit u c s).shadow = s.shadow ∧ (setUnit u c s).drainShadow = s.drainShadow ∧ (setUnit u c s).epoch = s.epoch ∧
    (setUnit u c s).tags = s.tags ∧ (setUnit u c s).tagFrames = s.tagFrames ∧ (setUnit u c s).quotaEp = s.quotaEp ∧
    (setUnit u c s).ctxEp = s.ctxEp ∧ (setUnit u c s).seqs = s.seqs ∧ (setUnit u c s).lastStamp = s.lastStamp ∧
    (setUnit u c s).nextId = s.nextId ∧ (setUnit u c s).mp = s.mp := by
  and_intros <;> rfl

@[simp] theorem setUnit_fields2 (u : Nat) (c : ChkUnit) :
    (setUnit u c s).mpRestarts = s.mpRestarts ∧ (setUnit u c s).loc = s.loc ∧ (setUnit u c s).domains = s.domains ∧
    (setUnit u c s).ptpOut = s.ptpOut ∧ (setUnit u c s).linkDelay = s.linkDelay ∧ (setUnit u c s).txq = s.txq ∧
    (setUnit u c s).syncs = s.syncs ∧ (setUnit u c s).caps = s.caps ∧ (setUnit u c s).plane = s.plane ∧
    (setUnit u c s).inputs = s.inputs ∧ (setUnit u c s).lanes = s.lanes ∧ (setUnit u c s).planeQ = s.planeQ ∧
    (setUnit u c s).queues = s.queues ∧ (setUnit u c s).egress = s.egress ∧ (setUnit u c s).mappedOut = s.mappedOut ∧
    (setUnit u c s).cellErrs = s.cellErrs ∧ (setUnit u c s).cellDue = s.cellDue ∧ (setUnit u c s).learnQ = s.learnQ ∧
    (setUnit u c s).unplaced = s.unplaced ∧ (setUnit u c s).rebuilding = s.rebuilding ∧ (setUnit u c s).reqRehash = s.reqRehash ∧
    (setUnit u c s).tblCompare = s.tblCompare ∧ (setUnit u c s).brgCompare = s.brgCompare ∧ (setUnit u c s).ageAt = s.ageAt ∧
    (setUnit u c s).cmds = s.cmds ∧ (setUnit u c s).meters = s.meters ∧ (setUnit u c s).blocked = s.blocked := by
  and_intros <;> rfl

@[simp] theorem setUnit_fields3 (u : Nat) (c : ChkUnit) :
    (setUnit u c s).admission = s.admission ∧ (setUnit u c s).admitTurn = s.admitTurn ∧ (setUnit u c s).ctxs = s.ctxs ∧
    (setUnit u c s).issueTurn = s.issueTurn ∧ (setUnit u c s).codeLines = s.codeLines ∧ (setUnit u c s).lastIssue = s.lastIssue ∧
    (setUnit u c s).lastXfer = s.lastXfer ∧ (setUnit u c s).replayQ = s.replayQ ∧ (setUnit u c s).cells = s.cells ∧
    (setUnit u c s).checkTurn = s.checkTurn ∧ (setUnit u c s).checkAt = s.checkAt ∧ (setUnit u c s).segs = s.segs ∧
    (setUnit u c s).ps = s.ps ∧ (setUnit u c s).psBad = s.psBad ∧ (setUnit u c s).eth = s.eth ∧ (setUnit u c s).can = s.can ∧
    (setUnit u c s).lin = s.lin ∧ (setUnit u c s).bridge = s.bridge ∧ (setUnit u c s).jrn = s.jrn ∧ (setUnit u c s).inj = s.inj ∧
    (setUnit u c s).cross = s.cross ∧ (setUnit u c s).dram = s.dram ∧ (setUnit u c s).rings = s.rings ∧ (setUnit u c s).locks = s.locks ∧
    (setUnit u c s).fleases = s.fleases ∧ (setUnit u c s).sessions = s.sessions ∧ (setUnit u c s).octIn = s.octIn ∧
    (setUnit u c s).ctlIn = s.ctlIn ∧ (setUnit u c s).octRun = s.octRun ∧ (setUnit u c s).facetAddr = s.facetAddr ∧
    (setUnit u c s).facetReset = s.facetReset ∧ (setUnit u c s).facetResets = s.facetResets ∧ (setUnit u c s).windows = s.windows ∧
    (setUnit u c s).accord = s.accord ∧ (setUnit u c s).wake = s.wake ∧ (setUnit u c s).power = s.power ∧ (setUnit u c s).fw = s.fw ∧
    (setUnit u c s).svc = s.svc := by
  and_intros <;> rfl

/-! Reads after writes. -/

theorem RegFile.read_write (m : RegFile) (a b : Nat) (v : W32) : (m.write a v).read b = if b = a then v else m.read b := by
  unfold RegFile.write RegFile.read
  rw [SMap.get_put_key]

theorem State.reg_setReg (a b : Nat) (v : W32) : (setReg a v s).reg b = if b = a then v else s.reg b := RegFile.read_write s.regs a b v

@[simp] theorem State.reg_setReg_self (a : Nat) (v : W32) : (setReg a v s).reg a = v := by simp [State.reg_setReg]

theorem State.reg_setReg_other {a b : Nat} (v : W32) (h : b ≠ a) : (setReg a v s).reg b = s.reg b := by simp [State.reg_setReg, h]

theorem State.reg_setRegN (a b n : Nat) : (setRegN a n s).reg b = if b = a then w32 n else s.reg b := State.reg_setReg s a b (w32 n)

theorem State.reg_addSat (a b n : Nat) : (addSat a n s).reg b = if b = a then sat32 ((s.reg a).toNat + n) else s.reg b :=
  State.reg_setReg s a b _

theorem State.reg_bump (a b : Nat) : (bump a s).reg b = if b = a then sat32 ((s.reg a).toNat + 1) else s.reg b := State.reg_setReg s a b _

theorem State.reg_subReg (a b n : Nat) : (subReg a n s).reg b = if b = a then w32 ((s.reg a).toNat - n) else s.reg b :=
  State.reg_setReg s a b _

theorem State.cfg_setLive (a b : Nat) (v : W32) : (setLive a v s).cfg b = if b = a then v else s.cfg b := RegFile.read_write s.live.regs a b v

theorem State.stg_setStaged (a b : Nat) (v : W32) : (setStaged a v s).stg b = if b = a then v else s.stg b :=
  RegFile.read_write s.staging.regs a b v

theorem State.seqOf_takeSeq (v w t : Nat) : (takeSeq v t s).seqOf w = if w = v then s.seqOf v + 1 else s.seqOf w := by
  simp [State.seqOf, takeSeq, SMap.upd, SMap.get_put]

@[simp] theorem State.ethSt_setEth (v w : Nat) (e : EthSt) : (setEth v e s).ethSt w = if w = v then e else s.ethSt w := by
  simp [State.ethSt, setEth, SMap.get_put]

@[simp] theorem State.canSt_setCan (v w : Nat) (c : CanSt) : (setCan v c s).canSt w = if w = v then c else s.canSt w := by
  simp [State.canSt, setCan, SMap.get_put]

@[simp] theorem State.linSt_setLin (v w : Nat) (c : LinSt) : (setLin v c s).linSt w = if w = v then c else s.linSt w := by
  simp [State.linSt, setLin, SMap.get_put]

@[simp] theorem State.seg_setSeg (i j : Nat) (g : Segment) : (setSeg i g s).seg j = if j = i then g else s.seg j := by
  simp [State.seg, setSeg, SMap.get_put]

@[simp] theorem State.window_setWindow (i j : Nat) (w : WindowSt) : (setWindow i w s).window j = if j = i then w else s.window j := by
  simp [State.window, setWindow, SMap.get_put]

end Sys2Proof.Machine
end

