-- ==== Sys2Proof/Laws/Ops.lean ====
section
/-! SUPPORT. Laws of the shared operations. Raising events, staging records and writing fault records are everywhere in the meanings: what each
can do is said once, as `Calm`. -/

namespace Sys2Proof.Machine

/-! ## Completing -/

@[simp] theorem completes_ran (s t : State) (P : State → Prop) :
    Completes (ran s t) P ↔ P { t with pending := s.pending, now := s.now } :=
  ⟨fun ⟨_, h, hp⟩ => by cases h; exact hp, fun h => ⟨_, rfl, h⟩⟩

theorem ran_next {s t u : State} (h : ran s t = .next u) : u = { t with pending := s.pending, now := s.now } := by cases h; rfl

@[simp] theorem only_true (f : State → State) (s : State) : only true f s = f s := rfl

@[simp] theorem only_false (f : State → State) (s : State) : only false f s = s := rfl

theorem only_cases (c : Bool) (f : State → State) (s : State) : c = true ∧ only c f s = f s ∨ c = false ∧ only c f s = s := by
  cases c <;> simp

/-! ## What events, records and faults leave alone -/

/-- A state without what raising an event, staging a record or writing a fault record may write: registers, sequence numbers and stamps, item
numbers, plane inputs, event rings, the journal's areas before the ring, the planes' pace request and when it was cleared, and the fault
log. -/
def State.still (s : State) : State :=
  { s with regs := [], seqs := [], lastStamp := [], nextId := 0, planeQ := [], rings := [],
           jrn := { s.jrn with staging := [], lostStaging := 0, eventLane := [], coalesce := [] },
           power := { s.power with planeReq := false, reqClear := none },
           fw := { s.fw with flog := [], flogSec := 0, flogInSec := 0, flogTotal := 0 } }

/-- Registers that no event, record or fault record writes: those outside the header of a page but for three counters. -/
def steady (a : Nat) : Prop := 0x40 ≤ a % 0x1000 ∧ a ≠ A.jrnStageDrop ∧ a ≠ A.jrnCoalesced ∧ a ≠ A.updFlogSkipped

/-- All that events, records and fault records do to a state beside their own record: they leave the rest of it, every register outside the page
headers and three counters, and no bit of an EV_RAW register that was set is clear after them. -/
structure Calm (s t : State) : Prop where
  still : t.still = s.still
  regs : ∀ a, steady a → t.reg a = s.reg a
  raw : ∀ a i, a % 0x1000 = 0x10 → tst (s.reg a) i = true → tst (t.reg a) i = true

theorem Calm.refl (s : State) : Calm s s := ⟨rfl, fun _ _ => rfl, fun _ _ _ h => h⟩

theorem Calm.trans {s t u : State} (h : Calm s t) (k : Calm t u) : Calm s u :=
  ⟨k.still.trans h.still, fun a ha => (k.regs a ha).trans (h.regs a ha), fun a i ha hi => k.raw a i ha (h.raw a i ha hi)⟩

/-- An update of none of the registers that is invisible in `still` is calm. -/
theorem Calm.of_still {s t : State} (h : t.still = s.still) (hr : t.regs = s.regs) : Calm s t :=
  ⟨h, fun a _ => by simp [State.reg, hr], fun a i _ hi => by simpa [State.reg, hr] using hi⟩

/-- A write of a header register other than EV_RAW, or of one of the three counters. -/
theorem Calm.of_setReg {a : Nat} (v : W32) (s : State) (h : ¬ steady a) (h' : a % 0x1000 ≠ 0x10) : Calm s (setReg a v s) :=
  ⟨rfl, fun b hb => State.reg_setReg_other s v (fun e => h (e ▸ hb)), fun b i hb hi => by
    rw [State.reg_setReg_other s v (fun e => by subst e; exact h' hb)]; exact hi⟩

theorem ofNat_two_pow (i : Nat) : BitVec.ofNat 32 (2 ^ i) = BitVec.twoPow 32 i := by
  apply BitVec.eq_of_toNat_eq; simp [BitVec.toNat_twoPow]

theorem tst_setBit (w : W32) (i j : Nat) (h : tst w j = true) : tst (setBit w i true) j = true := by
  have hw : setBit w i true = w ||| BitVec.twoPow 32 i := by
    unfold setBit setFld fld bit w32
    by_cases hi : w.getLsbD i = true
    · have hb : w.toNat / 2 ^ i % 2 ^ 1 = 1 := by
        have := hi
        rw [BitVec.getLsbD, Nat.testBit_eq_decide_div_mod_eq] at this
        simpa using this
      have hle : 2 ^ i ≤ w.toNat := by
        rcases Nat.lt_or_ge w.toNat (2 ^ i) with hlt | hge
        · rw [Nat.div_eq_of_lt hlt] at hb; simp at hb
        · exact hge
      have hsum : w.toNat - w.toNat / 2 ^ i % 2 ^ 1 * 2 ^ i + (if true = true then 1 else 0) % 2 ^ 1 * 2 ^ i = w.toNat := by
        rw [hb]; simp; omega
      rw [hsum]
      apply BitVec.eq_of_getLsbD_eq
      intro k hk
      by_cases hki : k = i
      · subst hki; simp [hi]
      · simp [BitVec.getLsbD_twoPow, show ¬ i = k from fun e => hki e.symm]
    · have hb : w.toNat / 2 ^ i % 2 ^ 1 = 0 := by
        have := hi
        rw [BitVec.getLsbD, Nat.testBit_eq_decide_div_mod_eq] at this
        simp at this ⊢
        omega
      have hsum : w.toNat - w.toNat / 2 ^ i % 2 ^ 1 * 2 ^ i + (if true = true then 1 else 0) % 2 ^ 1 * 2 ^ i = w.toNat + 2 ^ i := by
        rw [hb]; simp
      rw [hsum, BitVec.ofNat_add, show BitVec.ofNat 32 w.toNat = w from by simp, ofNat_two_pow, ← BitVec.add_eq_or_of_and_eq_zero]
      apply BitVec.eq_of_getLsbD_eq
      intro k hk
      by_cases hki : k = i
      · subst hki; simp [hi]
      · simp [BitVec.getLsbD_twoPow, show ¬ i = k from fun e => hki e.symm]
  unfold tst at h ⊢
  rw [hw, BitVec.getLsbD_or, h, Bool.true_or]

theorem tst_setBit_self (w : W32) {i : Nat} (hi : i < 32) : tst (setBit w i true) i = true := by
  by_cases h : tst w i = true
  · exact tst_setBit w i i h
  · have hb : w.toNat / 2 ^ i % 2 ^ 1 = 0 := by
      have := h
      rw [tst, BitVec.getLsbD, Nat.testBit_eq_decide_div_mod_eq] at this
      simp at this ⊢
      omega
    have e : setBit w i true = w + BitVec.twoPow 32 i := by
      unfold setBit setFld fld bit w32
      rw [hb]
      rw [show w.toNat - 0 * 2 ^ i + (if true = true then 1 else 0) % 2 ^ 1 * 2 ^ i = w.toNat + 2 ^ i from by simp]
      rw [BitVec.ofNat_add, ofNat_two_pow, BitVec.ofNat_toNat, BitVec.setWidth_eq]
    have hz : w &&& BitVec.twoPow 32 i = 0#32 := by
      apply BitVec.eq_of_getLsbD_eq
      intro k hk
      by_cases hki : k = i
      · subst hki; simp [show w.getLsbD k = false by simpa [tst] using h]
      · simp [BitVec.getLsbD_twoPow, show ¬ i = k from fun e => hki e.symm]
    rw [e, BitVec.add_eq_or_of_and_eq_zero _ _ hz]
    simp [tst, hi]

/-- Setting a bit of an EV_RAW register. -/
theorem Calm.of_raw {a : Nat} (i : Nat) (s : State) (h : a % 0x1000 = 0x10) : Calm s (setReg a (setBit (s.reg a) i true) s) :=
  ⟨rfl, fun b hb => State.reg_setReg_other s _ (fun e => by subst e; unfold steady at hb; omega), fun b j hb hj => by
    rw [State.reg_setReg]; split
    · rename_i e; subst e; exact tst_setBit _ i j hj
    · exact hj⟩

theorem takeSeq_calm (v t : Nat) (s : State) : Calm s (takeSeq v t s) := Calm.of_still rfl rfl

theorem flushGap_calm (s : State) : Calm s (flushGap s) := by
  unfold flushGap; split
  · exact Calm.of_still rfl rfl
  · exact Calm.refl s

theorem addSat_calm {a : Nat} (n : Nat) (s : State) (h : ¬ steady a) (h' : a % 0x1000 ≠ 0x10) : Calm s (addSat a n s) :=
  Calm.of_setReg _ s h h'

theorem stageQuiet_calm (e : JEntry) (s : State) : Calm s (stageQuiet e s) := by
  refine (flushGap_calm s).trans ?_
  unfold stageQuiet
  dsimp only
  split
  · exact Calm.of_still rfl rfl
  · exact Calm.trans (t := { flushGap s with jrn := { (flushGap s).jrn with lostStaging := (flushGap s).jrn.lostStaging + (1 + bit e.ext.isSome) } })
      (Calm.of_still rfl rfl) (addSat_calm _ _ (by simp [steady, A.jrnStageDrop]) (by decide))

theorem ite_calm {c : Prop} [Decidable c] {s t u : State} (h : Calm s t) (k : Calm s u) : Calm s (if c then t else u) := by
  split <;> assumption

theorem planePace_calm (s : State) : Calm s (planePace s) := by
  unfold planePace
  exact ite_calm (Calm.of_still rfl rfl) (ite_calm (Calm.of_still rfl rfl) (Calm.refl s))

theorem placeCopy_calm (c : Copy) (s : State) : Calm s (placeCopy c s) := by
  have h : ∀ q : SMap (List Copy), Calm s { s with planeQ := q } := fun _ => Calm.of_still rfl rfl
  exact (h _).trans (planePace_calm _)

theorem sendQuiet_calm (v egress tc : Nat) (data : List Byte) (s : State) : Calm s (sendQuiet v egress tc data s) := by
  unfold sendQuiet
  dsimp only
  exact ite_calm (Calm.refl s) (Calm.trans (t := takeSeq v _ { s with nextId := s.nextId + 1 }) (Calm.of_still rfl rfl)
    ((stageQuiet_calm _ _).trans (placeCopy_calm _ _)))

theorem sendOct_calm (p : OctPeer) (l : List Byte) (s : State) : Calm s (sendOct p l s) := sendQuiet_calm 96 p.vertex _ _ s

theorem rings_calm (x : SMap EvRing) (s : State) : Calm s { s with rings := x } := Calm.of_still rfl rfl

theorem lane_calm (x : List JEntry) (s : State) : Calm s { s with jrn := { s.jrn with eventLane := x } } := Calm.of_still rfl rfl

theorem coalesce_calm (x : SMap Nat) (s : State) : Calm s { s with jrn := { s.jrn with coalesce := x } } := Calm.of_still rfl rfl

theorem pushRing_calm (f : Nat) (e : EvEntry) (s : State) : Calm s (pushRing f e s) := by
  unfold pushRing; dsimp only
  split
  · split
    · split
      · exact rings_calm _ s
      · exact (rings_calm _ s).trans (sendOct_calm _ _ _)
    · exact rings_calm _ s
  · exact rings_calm _ s

theorem foldl_calm {α : Type} (f : State → α → State) (h : ∀ s a, Calm s (f s a)) : ∀ (l : List α) (s : State), Calm s (l.foldl f s)
  | [], s => Calm.refl s
  | a :: l, s => (h s a).trans (foldl_calm f h l (f s a))

/-- Everything one occurrence does. -/
theorem occur_calm (o : Occ) (s : State) (h : o.page % 0x1000 = 0) : Calm s (occur o s) := by
  have h1 : Calm s (takeSeq (srcVertex o.src) (s.ownKey (srcVertex o.src)).1 (setReg (o.page + 0x10) (setBit (s.reg (o.page + 0x10)) o.bit true) s)) :=
    (Calm.of_raw o.bit s (by omega)).trans (takeSeq_calm _ _ _)
  have h2 := fun e l => h1.trans (foldl_calm (fun s f => pushRing f e s) (fun s f => pushRing_calm f e s) l _)
  unfold occur
  dsimp only
  split
  · exact (h2 _ _).trans (lane_calm _ _)
  · exact (h2 _ _).trans ((coalesce_calm _ _).trans (Calm.of_setReg _ _ (by simp [steady, A.jrnCoalesced]) (by decide)))

theorem srcPage_base (src : Nat) : (srcPage src).1 % 0x1000 = 0 := by
  have h : ∀ (c : Prop) [Decidable c] (a b : Nat), a % 0x1000 = 0 → b % 0x1000 = 0 → (if c then a else b) % 0x1000 = 0 := by
    intro c _ a b ha hb; split <;> assumption
  simp only [srcPage, apply_ite Prod.fst]
  repeat refine h _ _ _ (by omega) ?_
  omega

theorem occOf_page (src : Nat) (l : List Nat) : (occOf src l).page % 0x1000 = 0 := srcPage_base src

theorem settle_calm : ∀ (n : Nat) (a s : State), Calm s (settle n a s)
  | 0, _, s => Calm.refl s
  | n + 1, a, s => by
    have h := fun l : List Nat => foldl_calm (fun t _ => occur (occOf 5 []) t) (fun t _ => occur_calm (occOf 5 []) t (occOf_page 5 [])) l s
    have o := fun (k : Nat) (t : State) => occur_calm (occOf k []) t (occOf_page k [])
    unfold settle; dsimp only
    refine ite_calm (Calm.refl s) (Calm.trans ?_ (settle_calm n s _))
    exact ite_calm ((ite_calm ((h _).trans (o 279 _)) (h _)).trans (o 278 _)) (ite_calm ((h _).trans (o 279 _)) (h _))

theorem raiseOcc_calm (o : Occ) (s : State) (h : o.page % 0x1000 = 0) : Calm s (raiseOcc o s) := (occur_calm o s h).trans (settle_calm 6 s _)

theorem raiseTo_calm (src : Nat) (l : List Nat) (s : State) : Calm s (raiseTo src l s) := raiseOcc_calm _ s (occOf_page src l)

/-- Everything that raising an event does. -/
theorem raise_calm (src : Nat) (s : State) : Calm s (raise src s) := raiseTo_calm src [] s

theorem stage_calm (e : JEntry) (s : State) : Calm s (stage e s) := (stageQuiet_calm e s).trans (settle_calm 6 s _)

theorem record_calm (v typ : Nat) (w6 w7 : W32) (s : State) : Calm s (record v typ w6 w7 s) := (takeSeq_calm _ _ s).trans (stage_calm _ _)

theorem adminRec_calm (a b c : Nat) (w : W32) (s : State) : Calm s (adminRec a b c w s) := record_calm _ _ _ _ s

theorem raiseEth_calm (v b : Nat) (s : State) : Calm s (raiseEth v b s) := raiseOcc_calm _ s (by dsimp only; omega)

theorem raiseCan_calm (ch b : Nat) (s : State) : Calm s (raiseCan ch b s) := raiseOcc_calm _ s (by dsimp only; omega)

theorem raiseLin_calm (j b : Nat) (s : State) : Calm s (raiseLin j b s) := raiseOcc_calm _ s (by dsimp only; omega)

theorem flog_calm (l : List JRec) (a b c : Nat) (s : State) :
    Calm s { s with fw := { s.fw with flog := l, flogSec := a, flogInSec := b, flogTotal := c } } := Calm.of_still rfl rfl

theorem flogWrite_calm (r : JRec) (s : State) : Calm s (flogWrite r s) := by
  unfold flogWrite; dsimp only
  refine ite_calm ?_ ?_
  · exact ite_calm ((flog_calm _ _ _ _ s).trans (raise_calm 310 _)) (flog_calm _ _ _ _ s)
  · exact (flog_calm s.fw.flog _ _ s.fw.flogTotal s).trans (Calm.of_setReg _ _ (by simp [steady, A.updFlogSkipped]) (by decide))

theorem PageRef.base_mod (p : PageRef) : p.base % 0x1000 = 0 := by
  obtain ⟨k, i⟩ := p
  cases k <;> simp [PageRef.base, PageKind.base]

theorem faultAt_calm (p : PageRef) (d a t : Nat) (s : State) : Calm s (faultAt p d a t s) := by
  have hb := p.base_mod
  have key : ∀ k, k < 0x40 → k ≠ 0x10 → ¬ steady (p.base + k) ∧ (p.base + k) % 0x1000 ≠ 0x10 := by
    intro k hk hk'; unfold steady; omega
  have w : ∀ k v (s : State), k < 0x40 → k ≠ 0x10 → Calm s (setReg (p.base + k) v s) := fun k v s hk hk' =>
    Calm.of_setReg v s (key k hk hk').1 (key k hk hk').2
  unfold faultAt
  dsimp only
  refine Calm.trans ?_ ((takeSeq_calm _ _ _).trans ((stage_calm _ _).trans (flogWrite_calm _ _)))
  exact (w 0x24 _ s (by decide) (by decide)).trans ((w 0x20 _ _ (by decide) (by decide)).trans
    ((w 0x2C _ _ (by decide) (by decide)).trans ((w 0x28 _ _ (by decide) (by decide)).trans (w 0x0C _ _ (by decide) (by decide)))))

/-- Everything that writing a fault record does. -/
theorem fault_calm (p : PageRef) (d a : Nat) (s : State) : Calm s (fault p d a s) := faultAt_calm p d a s.ns s

/-- A raised event shows in its EV_RAW bit. -/
theorem raise_raised (src : Nat) (s : State) (h : (srcPage src).2 < 32) : (raise src s).raised src = true := by
  have ho := occOf_page src []
  refine (settle_calm 6 s (occur (occOf src []) s)).raw _ _ (by have := srcPage_base src; omega) ?_
  have hs : tst ((takeSeq (srcVertex src) (s.ownKey (srcVertex src)).1
      (setReg ((srcPage src).1 + 0x10) (setBit (s.reg ((srcPage src).1 + 0x10)) (srcPage src).2 true) s)).reg ((srcPage src).1 + 0x10)) (srcPage src).2 = true := by
    have : (takeSeq (srcVertex src) (s.ownKey (srcVertex src)).1
      (setReg ((srcPage src).1 + 0x10) (setBit (s.reg ((srcPage src).1 + 0x10)) (srcPage src).2 true) s)).reg ((srcPage src).1 + 0x10)
        = setBit (s.reg ((srcPage src).1 + 0x10)) (srcPage src).2 true := State.reg_setReg_self s _ _
    rw [this]; exact tst_setBit_self _ h
  have hr : ((srcPage src).1 + 0x10) % 0x1000 = 0x10 := by have := srcPage_base src; omega
  unfold occur
  dsimp only
  have hf := (foldl_calm (fun s f => pushRing f ⟨src, false, 1, (s.ownKey (srcVertex src)).1⟩ s) (fun s f => pushRing_calm f _ s))
  split
  · exact (foldl_calm _ (fun s f => pushRing_calm f _ s) _ _).raw _ _ hr hs
  · refine (Calm.of_setReg _ _ (by simp [steady, A.jrnCoalesced]) (by decide)).raw _ _ hr ?_
    exact (foldl_calm _ (fun s f => pushRing_calm f _ s) _ _).raw _ _ hr hs

/-- A raised event stays raised through what is calm. -/
theorem Calm.raised {s t : State} (h : Calm s t) {src : Nat} (hs : s.raised src = true) : t.raised src = true :=
  h.raw _ _ (by have := srcPage_base src; omega) hs

/-! ## Counts and drops -/

@[simp] theorem setReg_still (a : Nat) (v : W32) (s : State) : (setReg a v s).still = s.still := rfl

@[simp] theorem freeIn_still (v f n : Nat) (s : State) : (freeIn v f n s).still = s.still := rfl

@[simp] theorem bump_still (a : Nat) (s : State) : (bump a s).still = s.still := rfl

@[simp] theorem raise_still (src : Nat) (s : State) : (raise src s).still = s.still := (raise_calm src s).still

@[simp] theorem fault_still (p : PageRef) (d a : Nat) (s : State) : (fault p d a s).still = s.still := (fault_calm p d a s).still

@[simp] theorem stage_still (e : JEntry) (s : State) : (stage e s).still = s.still := (stage_calm e s).still

@[simp] theorem fate_still (c : Copy) (e r : Nat) (l : Bool) (s : State) : (fate c e r l s).still = s.still := stage_still _ s

/-- Counting a drop writes registers and raises its event. -/
@[simp] theorem countDrop_still (r f v c i : Nat) (s : State) : (countDrop r f v c i s).still = s.still := by
  have h : ∀ (c : Prop) [Decidable c] (a b : State), a.still = s.still → b.still = s.still → (if c then a else b).still = s.still := by
    intro c _ a b ha hb; split <;> assumption
  unfold countDrop
  repeat refine h _ _ _ (by simp) ?_
  rfl

@[simp] theorem dropItem_still (r : Nat) (i : Item) (s : State) : (dropItem r i s).still = s.still := by simp [dropItem]

/-- A state without what letting go of input records may write as well: the records, the cells due to be mapped out and the number mapped out. -/
def State.stillHeld (s : State) : State := { s.still with inputs := [], cellDue := [], mappedOut := 0 }

theorem stillHeld_of_still {s t : State} (h : t.still = s.still) : t.stillHeld = s.stillHeld := by rw [State.stillHeld, h]; rfl

theorem mapOut_stillHeld (c : Nat) (s : State) : (mapOut c s).stillHeld = s.stillHeld := by
  have one : ∀ m : Nat, (raise 84 (fault bufPage 0x111 c (setRegN A.bufMappedOut m { s with mappedOut := m }))).stillHeld = s.stillHeld :=
    fun m => by rw [stillHeld_of_still (raise_still _ _), stillHeld_of_still (fault_still _ _ _ _)]; rfl
  unfold mapOut
  dsimp only
  split
  · split
    · rw [stillHeld_of_still (raise_still _ _)]; exact one _
    · exact one _
  · rfl

theorem mapOuts_stillHeld : ∀ (l : List (Nat × Nat)) (s : State), (l.foldl (fun s p => mapOut p.2 s) s).stillHeld = s.stillHeld
  | [], _ => rfl
  | p :: l, s => (mapOuts_stillHeld l (mapOut p.2 s)).trans (mapOut_stillHeld p.2 s)

theorem stillHeld_cellDue (l : List (Nat × Nat)) (s : State) : ({ s with cellDue := l } : State).stillHeld = s.stillHeld := rfl

theorem stillHeld_inputs (l : List InputRec) (s : State) : ({ s with inputs := l } : State).stillHeld = s.stillHeld := rfl

/-- Letting an input record go writes its count, or removes it, returns its cells, and maps out those that are due for it. -/
@[simp] theorem release_stillHeld (id : Nat) (s : State) : (release id s).stillHeld = s.stillHeld := by
  unfold release
  split
  · rfl
  · split
    · rw [mapOutDue, mapOuts_stillHeld, stillHeld_cellDue, stillHeld_of_still (freeIn_still ..), stillHeld_inputs]
    · rw [stillHeld_inputs]

/-- A copy dropped at its input: its FATE record, its count, and one holder of its input record less. -/
@[simp] theorem dropAtInput_stillHeld (r : Nat) (c : Copy) (s : State) : (dropAtInput r c s).stillHeld = s.stillHeld := by
  rw [dropAtInput, release_stillHeld, stillHeld_of_still (countDrop_still ..), stillHeld_of_still (fate_still ..)]

/-! ## Fields that stay through what is still -/

/-- From two states alike in `still`, every field that `still` keeps. -/
theorem still_fields {s t : State} (h : t.still = s.still) :
    t.live = s.live ∧ t.staging = s.staging ∧ t.drain = s.drain ∧ t.epoch = s.epoch ∧ t.locus = s.locus ∧ t.mp = s.mp ∧ t.plane = s.plane ∧
      t.queues = s.queues ∧ t.egress = s.egress ∧ t.lanes = s.lanes ∧ t.ctxs = s.ctxs ∧ t.cells = s.cells ∧ t.segs = s.segs ∧ t.ps = s.ps ∧
      t.eth = s.eth ∧ t.can = s.can ∧ t.lin = s.lin ∧ t.dram = s.dram ∧ t.cip = s.cip ∧ t.locks = s.locks ∧ t.sessions = s.sessions ∧
      t.windows = s.windows ∧ t.accord = s.accord ∧ t.wake = s.wake ∧ t.svc = s.svc ∧ t.tags = s.tags ∧ t.inputs = s.inputs ∧
      t.domains = s.domains ∧ t.loc = s.loc ∧ t.cmds = s.cmds ∧ t.admission = s.admission ∧ t.resp = s.resp ∧ t.outbox = s.outbox := by
  have c := fun {α : Type} (f : State → α) => (congrArg f h : f t.still = f s.still)
  exact ⟨c State.live, c State.staging, c State.drain, c State.epoch, c State.locus, c State.mp, c State.plane, c State.queues,
    c State.egress, c State.lanes, c State.ctxs, c State.cells, c State.segs, c State.ps, c State.eth, c State.can,
    c State.lin, c State.dram, c State.cip, c State.locks, c State.sessions, c State.windows, c State.accord,
    c State.wake, c State.svc, c State.tags, c State.inputs, c State.domains, c State.loc, c State.cmds,
    c State.admission, c State.resp, c State.outbox⟩

/-- What is still burns no fuse. -/
theorem still_fuses {s t : State} (h : t.still = s.still) : t.fw.fuses = s.fw.fuses ∧ t.fw.floor = s.fw.floor := by
  have c := fun {α : Type} (f : State → α) => (congrArg f h : f t.still = f s.still)
  exact ⟨c (fun u => u.fw.fuses), c (fun u => u.fw.floor)⟩

end Sys2Proof.Machine
end

