-- ==== Sys2Proof/Laws/Memory.lean ====
section
/-! SUPPORT. Laws of the addressed memories (the ring region of DRAM, the cipher data areas, the program store) and of register files: every
operation that writes one keeps its canonical form. -/

namespace Sys2Proof.Machine

theorem reset_memWf : State.reset.memWf = true := rfl

theorem memWf_parts {s : State} (h : s.memWf = true) :
    SMap.canonical (fun _ => 0) s.dram = true ∧ SMap.canonical (fun _ => 0) s.cip.data = true ∧ SMap.canonical (fun _ => 0) s.ps = true := by
  simpa [State.memWf, and_assoc] using h

/-- The form rests on three fields. -/
theorem memWf_congr {s t : State} (hd : t.dram = s.dram) (hc : t.cip.data = s.cip.data) (hp : t.ps = s.ps) : t.memWf = s.memWf := by
  simp [State.memWf, hd, hc, hp]

theorem Calm.memWf {s t : State} (h : Calm s t) : t.memWf = s.memWf := by
  have c := fun {α : Type} (f : State → α) => (congrArg f h.still : f t.still = f s.still)
  exact memWf_congr (c State.dram) (c (fun u => u.cip.data)) (c State.ps)

theorem dramPut_memWf (a : Nat) (l : List Byte) {s : State} (h : s.memWf = true) : (dramPut a l s).memWf = true := by
  obtain ⟨h1, h2, h3⟩ := memWf_parts h
  simp only [State.memWf, Bool.and_eq_true]
  exact ⟨⟨SMap.canonical_foldl_put 0 (fun p : Nat × Byte => a + p.1) (fun p => p.2) _ h1, h2⟩, h3⟩

theorem dramPutWord_memWf (a : Nat) (v : W32) {s : State} (h : s.memWf = true) : (dramPutWord a v s).memWf = true := dramPut_memWf a _ h

theorem putArea_memWf (n off : Nat) (l : List Byte) {s : State} (h : s.memWf = true) : (putArea n off l s).memWf = true := by
  obtain ⟨h1, h2, h3⟩ := memWf_parts h
  simp only [State.memWf, Bool.and_eq_true]
  exact ⟨⟨h1, SMap.canonical_foldl_put 0 (fun p : Nat × Byte => n * 65536 + (off + p.1) % 65536) (fun p => p.2) _ h2⟩, h3⟩

theorem psDataWritten_memWf (v : W32) {s : State} (h : s.memWf = true) : (psDataWritten v s).2.memWf = true := by
  obtain ⟨h1, h2, h3⟩ := memWf_parts h
  unfold psDataWritten
  dsimp only
  split
  · exact h
  · split
    · exact h
    · simp only [State.memWf, Bool.and_eq_true]
      exact ⟨⟨h1, h2⟩, SMap.canonical_put (fun _ => 0) _ v h3⟩

/-- A device reset empties the three memories. -/
theorem dieOff_memWf (r : RegFile) (w : WakeSt) (p : PowerSt) (s : State) : (dieOff r w p s).memWf = true := rfl

/-- Writing a register keeps the canonical form of its file. -/
theorem RegFile.wf_write (m : RegFile) (a : Nat) (v : W32) (h : m.wf = true) : (m.write a v).wf = true := SMap.canonical_put resetOf a v h

/-- A byte of the ring region beside those that a write of one byte stores is as it was. -/
theorem dramPut_one (a b : Nat) (x : Byte) (s : State) : SMap.get 0 (dramPut a [x] s).dram b = if b = a then x else SMap.get 0 s.dram b := by
  simp [dramPut, SMap.get_put]

end Sys2Proof.Machine
end

