-- ==== Sys2Proof/Tests/States.lean ====
section
/-! SUPPORT. The small states on which the tests and the witnesses of the statements' hypotheses are evaluated. -/

namespace Sys2Proof.Tests
open Sys2Proof.Machine
/-- A module in RUN with its image past the backbone step. -/
def up : State :=
  { State.reset with mp := .running, fw := { FirmwareSt.reset with step := .backbone, backboneAt := some 0 },
                     power := { PowerSt.reset with preBackbone := false, xoOk := true, ircBoot := false, plls := [0, 1, 2, 3, 4, 5] } }
/-- Writes a live register. -/
def cfg (a : Nat) (v : W32) (s : State) : State := { s with live := { s.live with regs := s.live.regs.write a v } }
/-- The epoch machinery in a state. -/
def inState (c : CommitState) (s : State) : State := { s with epoch := { s.epoch with st := c } }
def locked (k f : Nat) (s : State) : State := { s with locks := SMap.put none s.locks k (some ⟨f, 100000000⟩) }
def later (n : Nat) (s : State) : State := { s with now := n }
def itm (v : Nat) (d : List Byte) : Item := { Item.nil with uid := 7, vertex := v, data := d, len := d.length + 4 }
def cpy (i : Item) (e tc : Nat) : Copy := copyOf i 0 e tc 0

def refused3 : State := locked 0x60 3 up
def armed : State := inState .armed up
def held1 : State := { up with loHeld := SMap.put none [] (halfKey 0x110108 0) (some 5) }
def latched1 : State := { up with hiLatch := SMap.put none [] (halfKey 0x2004C 0) (some 9) }
def evset : State := setReg 0x10 0xFF up
def validating : State := inState .validating up
def conflicting : State := { validating with epoch := { validating.epoch with atTime := some 5 }, regs := [(A.sysEpochAtNs, 0xFFFFFFFF)] }
def atTime200 : State := { validating with epoch := { validating.epoch with atTime := some 200000 } }
def near : State := later 5 { atTime200 with epoch := { atTime200.epoch with atTime := some 99999 } }
def deferredBy : State := { armed with epoch := { armed.epoch with draining := some 3 } }
def draining3 : State := { up with epoch := { up.epoch with draining := some 3, live := 4 } }
def draining3l : State := { later 20000000 up with epoch := { up.epoch with draining := some 3, live := 4 }, ctlIn := [{ itm 96 [] with epoch := 3 }] }
def restarting : State := { up with mp := .restarting }
def locking : State := { up with loc := { up.loc with st := .locked } }
def dom0 : State := cfg (A.locDomCtrl 0) 1 (cfg (A.locDomPortsLo 0) 0x100 up)
def setD (d : DomainSt) (s : State) : State := { s with domains := SMap.put DomainSt.reset s.domains 0 d }
def domSlave : State := setD { DomainSt.reset with role := 2 } dom0
def domMaster : State := setD { DomainSt.reset with role := 2, best := some ⟨[], 5, 0, 8, 0⟩ } (later 4000000000 { dom0 with loc := { up.loc with st := .locked } })
def slewing : State := { up with loc := { up.loc with slewing := true, slewFrac := 3 } }
def txq1 : State := { cfg (A.sysBind 8) 2 up with regs := [(A.locTxqSel 2, 8)], txq := [(8, ⟨[⟨1, 2, 3, false⟩], 0, ⟨0, 0, 0, false⟩⟩)] }
def capQ : State := { up with caps := [(1, { CapUnit.reset with fifo := [⟨5, true⟩] })] }
def so0 : State := cfg (A.locSoCtrl 0) 1 (cfg (A.locSoPeriodNs 0) 1000 (cfg (A.locSoWidthNs 0) 100 { up with locus := 65536 * 10 }))
def so0on : State := { so0 with syncs := [(0, ⟨true, 5, 1, false⟩)] }
def cap0 : State := cfg (A.locCapCtrl 0) 3 up
def cap0full : State := { cap0 with caps := [(0, { CapUnit.reset with fifo := List.replicate 16 ⟨5, true⟩, overruns := 65535 })] }
def servoOff : State := setReg A.locCtrl 0 up
def tenantReads : State := cfg 0x20030 0x40000 locking
def txq0 : State := { txq1 with txq := [] }
def rowFcap : RegRow := ⟨0x080, 16, 0x4, 1, 0x0, .rws, 0x00003EC0, 0x0003FFFF, .none⟩
def rowMcIndex : RegRow := ⟨0x200, 1, 0x0, 1, 0x0, .rw, 0x00000000, 0x00001FFF, .none⟩
def rowCells : RegRow := ⟨0x040, 1, 0x0, 1, 0x0, .ro, 0x00040000, 0xFFFFFFFF, .none⟩
def rowQuota : RegRow := (regRow 0x180).getD rowFcap
def rowMemLo : RegRow := (regRow 0xF004C).getD rowFcap
def rowMemHi : RegRow := (regRow 0xF0050).getD rowFcap
def rowTimeLo : RegRow := (regRow 0x20048).getD rowFcap
def rowTimeHi : RegRow := (regRow 0x2004C).getD rowFcap
def c7 : Copy := cpy (itm 8 (List.replicate 60 0)) 97 3
def inPlane (p : Nat) (c : Copy) (s : State) : State := { s with planeQ := SMap.put [] s.planeQ p [c] }
def inQueue (v c : Nat) (k : Copy) (s : State) : State := { s with queues := SMap.put [] s.queues (v * 8 + c) [k] }
def moving (b q since : Nat) (s : State) : State := { s with plane := { s.plane with move := some ⟨true, 1, [(b, q)], since, 0, 0⟩ } }
def crossed (v : Nat) (s : State) : State := { s with cross := SMap.put Crossing.reset s.cross v ⟨true, 0, none⟩ }
/-- An Ethernet vertex with its link up. -/
def ethUp (v : Nat) (s : State) : State :=
  setEth v { EthSt.reset with linkUp := true, rate := 4, phy := .up, phyRate := 4 } (cfg (vertexPage v + 8) 1 (cfg (A.ethCtrl v) 1 s))
def busUp (v : Nat) (s : State) : State := cfg (vertexPage v + 8) 1 s
def fine : PhyFinding := ⟨false, false, true, false⟩
def gateOn : State := cfg (selKey A.qMode 8) 4 (ethUp 8 up)
def verifies : State := cfg (selKey A.qMode 8) 8 (ethUp 8 up)
def port0 (s : State) : State := locked (portLock 0) 0 s
def key0 (k : Nat) (s : State) : State := setReg (A.tblCmdKey 0 0) (w32 k) s
def seqKey : BitVec 320 := 4
def seqH : Nat := bucketAt up.live.seed seqKey * 4
def entry0 : HashEntry := ⟨seqKey, 0, 0⟩
def dyn0 : HashEntry := ⟨1, BitVec.ofNat 64 (8 * 2 ^ 47), 255⟩
def camE : CamEntry := ⟨5, 0, 0, 0, 0⟩
def withHash (h : Nat) (e : HashEntry) (s : State) : State := { s with live := s.live.setHash h (some e), staging := s.staging.setHash h (some e) }
def withCam (i : Nat) (e : CamEntry) (s : State) : State :=
  { s with live := { s.live with cam := SMap.put none s.live.cam i (some e) }, staging := { s.staging with cam := SMap.put none s.staging.cam i (some e) } }
def searching : State := key0 4 (withHash seqH entry0 (port0 up))
def inserting : State := key0 4 (port0 up)
def cmd0 : PortCmd := ⟨0, 0, 1, 0, none, none, none, none, 0, none⟩
def running0 : State := { port0 up with cmds := [(0, some cmd0)], tags := [(0, some 0)] }
def learning : State := { cfg (A.tblLearnCap 0) 100 up with learnQ := [⟨itm 8 (List.replicate 60 1), 0⟩] }
def agedOut : State := setReg A.tblAgePeriod 1 { up with live := up.live.setHash 5 (some dyn0) }
def agesNothing : State := setReg A.tblAgePeriod 1 up
def flushes : State := cfg A.tblFlushDownLo 0x100 (withHash 5 dyn0 (ethUp 8 up))
/-- A job of dispatch entry 0 over a frame of 60 bytes from vertex 8. -/
def req0 : JobReq := ⟨itm 8 (List.replicate 60 5), 0, 0, none, none, 0, 0, 0, 0⟩
def job0 : Job := Job.fresh req0 0 0 0
def sealed0 : Segment := ⟨2, 0, 16, 0, 0, false, false⟩
/-- Dispatch entry 0 over the sealed segment 0, whose word 0 is an instruction. -/
def prog (w : Nat) : State :=
  cfg (selKey A.latDeCtrl 0) 5 (cfg (selKey A.latDeLen 0) 16 (cfg (selKey A.latDeBudget 0) 100 (cfg (selKey A.latDeConst 0) 8
    (cfg (selKey A.latDeConstLen 0) 16 (cfg (selKey A.latDeOutbytes 0) 1024 { up with segs := [(0, sealed0)], ps := SMap.put 0 [] 0 (w32 w), codeLines := [(0, [0])] })))))
def runs (w : Nat) (j : Job) : State := setJob 0 0 (some j) (prog w)
def op (o f : Nat) : Nat := o * 2 ^ 26 + f
def j1 : Job := { job0 with regs := (job0.regs.set! 1 7).set! 2 9 }
def rrr : Nat := 3 * 2 ^ 22 + 1 * 2 ^ 18 + 2 * 2 ^ 14
def rri : Nat := 3 * 2 ^ 22 + 1 * 2 ^ 18 + 5
def lookPending : Job := { job0 with looks := [⟨0, [0, 0, 100, 0], false, false⟩], lookCount := 1 }
def ruled : State := { runs (op 0x32 (3 * 2 ^ 22 + 1 * 2 ^ 18)) job0 with live := { (prog 0).live with chords := SMap.put none [] 0 (some ⟨[1, 0, 0x80000000, 0, 0, 0, 0, 0], 0⟩) } }
def looked : State := { setJob 0 0 (some lookPending) up with cip := { up.cip with answers := [⟨0, 0, 0, [1, 2]⟩] } }
def emitJob : Job := { job0 with local_ := [(6, 0), (7, 1), (11, 0), (15, 60)] }
def admitting : State := { cfg (A.sysTagQuota 0) 10 (cfg (A.latCtxQuota 0) 10 (prog 0)) with admission := [(0, [req0])] }
def lane0 (pend : Nat) : State := { up with lanes := [(8 * 64, [⟨itm 8 [], 0, pend, []⟩])] }
def cellIs (st : CellState) (no per inp : Bool) (s : State) : State := { s with cells := SMap.put (Cell.reset 0) s.cells 0 ⟨st, no, per, inp, 0⟩ }
def segIs (g : Segment) (s : State) : State := { s with segs := SMap.put Segment.reset s.segs 0 g }
/-- CAN channel 0 in a MODE, its live ENABLE set. -/
def canIs (m : Nat) (f : CanSt → CanSt) (s : State) : State := setCan 0 (f { CanSt.reset with ctrl := w32 m }) (busUp 48 s)
def canMsg0 : List Byte := [0, 0, 1, 0x23, 0, 0, 0, 1] ++ List.replicate 24 0 ++ [0x55]
def canCopy (v c : Nat) : Copy := cpy (itm 48 canMsg0) v c
def canPend : CanPending := ⟨canCopy 48 3, 0, none, none⟩
def linIs (m : Nat) (f : LinSt → LinSt) (s : State) : State := setLin 0 (f LinSt.reset) (cfg (A.linCtrl 0) m (busUp 72 s))
def linSub (d : Nat) (s : State) : State := cfg (A.linId 0 5) (d + 8) s
def shares (s : State) : State := cfg (A.sysTagQuota 0) 10 (cfg (A.latCtxQuota 0) 10 s)
def busCopy : Copy := canCopy 100 3
def tunnel0 : Copy := cpy (itm 8 (List.replicate 12 0 ++ [0x22, 0xF0, 0x82, 0, 0, 7] ++ List.replicate 50 0)) 100 3
def chord0 : RuleRec := ⟨[0, 0, 0xC0000000, 0x1FFFFFFF, 0, 0, 0, 0], 0⟩
def chordM : RuleRec := ⟨[0x123, 0x1FFFFFFF, 0xC0000000, 0, 0, 0, 0, 0], 0⟩
def tan0 : RuleRec := ⟨[0, 0, 0xC0400000, 0, 0, 0, 0, 0], 0⟩
def chords (r : RuleRec) (s : State) : State := { s with live := { s.live with chords := [(0, some r)] } }
def tangents (r : RuleRec) (s : State) : State := { s with live := { s.live with tangents := [(0, some r)] } }
def rcmd0 : PortCmd := ⟨0, 0, 1, 0, none, none, none, none, 0, none⟩
def rport (s : State) : State := locked (portLock 4) 0 s
def laneIs (f : LaneSt → LaneSt) (s : State) : State :=
  setEth 0 { EthSt.reset with lane := f { LaneSt.reset with st := .up, width := 0 } } (cfg (vertexPage 0 + 8) 1 (cfg (A.ethLaneCtrl 0) 1 s))
def cw0 (bad : Bool) : Codeword := ⟨bad, 0, Lcb.bytes (up.lcb 0), 0⟩
/-- A PHY vertex without a link: its PHY enabled at 1 Gbit/s and 100 Mbit/s. -/
def phyIs (v : Nat) (f : EthSt → EthSt) (s : State) : State :=
  setEth v (f { EthSt.reset with phy := .training }) (cfg (vertexPage v + 8) 1 (cfg (A.ethCtrl v) 1 (cfg (A.ethPhyCtrl v) (0x19 + 2 * 2 ^ 9) s)))
def segOn (f : EthSt → EthSt) (s : State) : State :=
  setEth 40 (f { EthSt.reset with linkUp := true, rate := 10, phy := .up }) (cfg (vertexPage 40 + 8) 1 (cfg (A.ethCtrl 40) 1 (cfg (A.ethPhyCtrl 40) 1 (cfg (A.ethPlcaCtrl 40) 3 s))))
def sCopy : Copy := cpy (itm 8 (List.replicate 60 5)) 40 3
def txF : TxFrame := ⟨sCopy, [1], 0, 0, 0, 0, 0⟩
def paused8 (n : Nat) : State := later n (setEth 8 { EthSt.reset with linkUp := true, rate := 1000, pauseUntil := [(2, 500)], pausedSince := [(2, 100)] } up)
def released8 : State := later 600 (setEth 8 { EthSt.reset with linkUp := true, rate := 1000, pauseUntil := [(2, 700)], releaseUntil := [(2, 600)] } up)
def jEnt : JEntry := ⟨{ JRec.nil with w4 := 0x100, w6 := 9 }, some JRec.nil⟩
def jrnIs (f : JournalSt → JournalSt) (s : State) : State := { s with jrn := f s.jrn }
def injIs (ctrl : Nat) (f : InjSt → InjSt) (s : State) : State := setReg (A.injCtrl 0) (w32 ctrl) { s with inj := [(0, f InjSt.reset)] }
def ring0 : State :=
  setReg (A.capTail 0) 2 (cfg (A.capLen 0) 4 (cfg (A.capBaseLo 0) (w32 ringLow) (cfg (A.capBaseHi 0) (w32 (ringLow / 2 ^ 32)) (cfg (A.capCtrl 0) 1
    (dramPut ringLow (leBytes 16 ((ringLow + 4096) + 2048 * 2 ^ 64)) (inQueue 99 0 c7 up))))))
def octBytes (op : List Byte) : List Byte := [1, 0, 0, 1, 0, 0, 0, 1, 0, 0, 0, 0] ++ op
def octItem (op : List Byte) : Item := itm 8 (octBytes op)
def peer0 : OctPeer := ⟨8, [0, 0, 0, 0, 0, 1], none, none⟩
def octWaits (d : List Byte) (f : Session → Session) : State := { up with octIn := [(itm 8 d, peer0)], sessions := [(0, f { Session.reset with isOpen := true })] }
def exec0 (o : OctOp) : OctExec := ⟨3, 0, 0, false, 0, 0, 0, 0, 8, 1, 0, 0, false, peer0, [o], [], false, false, false⟩
def octRuns (o : OctOp) (s : State) : State := { s with octRun := [exec0 o] }
def rd0 : OctOp := ⟨1, 2, 0, 0x40, []⟩
def arpItem : Item := itm 96 (List.replicate 12 0 ++ [8, 6] ++ [0, 1, 8, 0, 6, 4, 0, 1] ++ List.replicate 20 0)
def ringed : State := cfg 0x30 0 { up with rings := [(2, { EvRing.reset with entries := [⟨5, false, 1, 9⟩] })] }
def winUp (w : WindowSt) (s : State) : State := setWindow 0 w (cfg (A.sysTagQuota 0) 10 (cfg (A.brgWinCtrl 0) 3 { s with accord := { s.accord with peers := [(1, { PeerSt.reset with state := 1 })] } }))
def far0 : FarOp := ⟨1, 0x40, [], .command, 1⟩
def flight0 (o : FarOp) : FarFrame := ⟨[o], 1, 0, 1, 0, false, false⟩
def leased (s : State) : State := { s with locks := [(518, some ⟨0, 5⟩)] }
def accFrame (grp : Nat) : Item := itm 96 (List.replicate 12 0 ++ [0x88, 0xB5, 0x41, 1, 2, 0] ++ beBytes 4 grp ++ List.replicate 60 0)
def peerIs (r : Nat) (f : PeerSt → PeerSt) (s : State) : State := { s with accord := { s.accord with peers := [(r, f PeerSt.reset)] } }
def keyed (usage len : Nat) (s : State) : State :=
  { s with cip := { s.cip with keys := [(6, some ⟨(List.range len).map (BitVec.ofNat 8), usage, 0, 1, 0xCAFE, 5, 5, false, 0⟩)] } }
def key16 (usage : Nat) : KeyRole := ⟨(List.range 16).map (BitVec.ofNat 8), usage, 0, 1, 0xCAFE, 5, 5, false, 0⟩
def key32 : KeyRole := ⟨(List.range 32).map (BitVec.ofNat 8), 8, 0, 1, 0xCAFE, 5, 5, false, 0⟩
def desc (op len : Nat) (dst : Nat) : List W32 := [7, w32 (op + 3 * 16), w32 (dst * 65536), w32 len, 0, 0, 0, 0]
def cipWaits (d : List W32) (s : State) : State := cfg (A.sysTagQuota 0) 10 { s with cip := { s.cip with facets := [(0, { CipFacet.reset with queue := [d] })] } }
def cipRun0 : CipRun := ⟨0, 5, desc 3 16 0x1000, 0, 0, 0, 9, some [1, 2, 3], none, none, none, 0⟩
def cipRuns (r : CipRun) (s : State) : State := { s with tags := [(0, some 0)], cip := { s.cip with running := [r] } }
def wakeIs (f : WakeSt → WakeSt) (s : State) : State := { s with wake := f s.wake }
def pwrIs (f : PowerSt → PowerSt) (s : State) : State := { s with power := f s.power }
def dozing (l : List Nat) (s : State) : State := wakeIs (fun w => { w with mode := .doze, asleep := l }) s
def sleeping (l : List Nat) (s : State) : State := wakeIs (fun w => { w with mode := .sleep, asleep := l }) s
def pmFrame : Item := itm 8 ([0, 0, 0, 0, 0, 0] ++ [1, 2, 3, 4, 5, 6] ++ [0x88, 0xB5, 0x50, 1, 2, 0] ++ List.replicate 20 0 ++ [1, 9, 0, 5] ++ List.replicate 20 0)
def pmOn (s : State) : State := cfg (A.wakPmCtrl 0) 17 (cfg (A.wakPmMacLo 0) 0x03040506 (cfg (A.wakPmMacHi 0) 0x0102 s))
def patMsg : CanMsg := ⟨0, false, 0x123, false, false, false, false, 0, 0, 0, [1, 2]⟩
def patOn (s : State) : State := cfg (A.wakCanCtrl 0) 1 (cfg (A.wakCanPatCtrl 0 0) (1 + 2 * 2 + 64) s)
def fwIs (f : FirmwareSt → FirmwareSt) (s : State) : State := { s with fw := f s.fw }
def recIs (f : BootRec → BootRec) (s : State) : State := { s with fw := { s.fw with rec_ := f s.fw.rec_ } }
/-- A module whose ROM has the start before it. -/
def rom : State := fwIs (fun w => { w with step := .rom }) { up with mp := .boot }
def allGood : BootFindings := ⟨false, true, true, true, true, [], []⟩
def allBad : BootFindings := ⟨false, false, false, false, false, [], []⟩
def twin (s : State) : State := fwIs (fun w => { w with banks := [(0, ⟨3, 0, factoryHeader⟩), (1, ⟨2, 0, factoryHeader⟩)] }) s
def at_ (b : BootStep) (s : State) : State := fwIs (fun w => { w with step := b }) s
def lib63 (s : State) : State := { s with segs := [(63, ⟨2, 524287, 1, 0, 0, false, false⟩)] }
def snap : Snapshot := ⟨true, 4, Bank.reset, [], []⟩
def saved (v : Nat) (s : State) : State := fwIs (fun w => { w with sets := [(0, ⟨true, v, 4, snap, Snapshot.reset, [3]⟩)] }) s
def trial (s : State) : State := recIs (fun r => { r with trial := some (1, 1), left := 2 }) s
def inTrial0 (s : State) : State := trial (fwIs (fun w => { w with trialRun := true, runImage := 1, runSet := 1 }) (twin s))
def bankB (st : Nat) (s : State) : State := fwIs (fun w => { w with banks := [(0, ⟨3, 0, factoryHeader⟩), (1, ⟨st, 0, []⟩)] }) s
def asc (l : List Char) : List Byte := l.map (fun c => BitVec.ofNat 8 c.toNat)
def typed (l : List Byte) (s : State) : State := { s with svc := { s.svc with unlock := 2, lines := [{ itm 84 l with facet := 15 }] } }
def newer (s : State) : State := fwIs (fun w => { w with banks := [(0, ⟨3, 0, SMap.put 0 factoryHeader 5 2⟩)] }) s
/-- Vertex 8 with a default result that sends to vertex 9, or to the lattice by dispatch entry 3. -/
def defTo (v n : Nat) (s : State) : State := cfg (A.tblDefHi v) (w32 (n * 2 ^ 15)) (cfg (A.tblDefLo v) 0 s)
def defJob (s : State) : State := cfg (A.tblDefHi 8) 0x40000000 (cfg (A.tblDefLo 8) 0x60000000 s)
def shadowed0 (s : State) : State := { withCam 0 camE s with shadow := { s.shadow with cam := [(0, some { camE with res := 9 })] } }

/-! The states of the statements' clauses: each is named after its clause. -/

def stStepRunsFront : State := { up with pending := [.slewEnd] }
def stSoftendcell : State := { up with softReset := [0x82000] }
def stSoftendcan : State := { up with softReset := [0x101000] }
def stSoftendcansending : State := canIs 1 (fun c => { c with sending := some .fifo, fifo := [canPend] })
    { up with softReset := [0x101000] }
def stSoftendeth : State := { up with softReset := [0xC8000] }
def stSoftendlin : State := { up with softReset := [0x119000] }
def stLockstep3 : State := { up with mpRestarts := [0, 0] }
def stLocRatehold : State := { servoOff with loc := { up.loc with st := .holdover } }
def stDelayResp : State := cfg (A.locDomCtrl 0) 3 domSlave
def stPtpTx : State := later 9000000000 (setD { DomainSt.reset with role := 3 } dom0)
def stPtpTx2 : State := later 9000000000 dom0
def stTxqSel : State := { cfg (A.sysBind 8) 2 up with regs := [] }
def stPlaneTransfer : State := inPlane 1 c7 up
def stMarkerAck : State := moving 5 2 0 up
def stMarkerTimeout : State := moving 5 2 0 (later 8000 up)
def stResync : State := crossed 8 up
def stCrossTimeout : State := inQueue 8 3 (cpy (itm 9 []) 8 3) (crossed 8 up)
def stFrame : State := defTo 8 9 (ethUp 8 up)
def stFramejob : State := defJob (ethUp 8 up)
def stFramerefused : State := cfg (selKey A.qInLim 8) 0 (ethUp 8 up)
def stFrameshort : State := ethUp 8 up
def stFramebuscan : State := defTo 48 9 (busUp 48 up)
def stFramebuslin : State := defTo 83 9 (busUp 83 up)
def stEgressinternal : State := inQueue 97 3 c7 up
def stEgressinternal98 : State := inQueue 98 0 c7 up
def stEgressinternal96 : State := inQueue 96 7 c7 up
def stOpportunity : State := inQueue 8 3 c7 (ethUp 8 up)
def stAged : State := inQueue 97 3 c7 (later 9000000000 { up with locus := 65536 * 9000000000 })
def stTblread : State := withCam 0 camE (port0 up)
def stTblnextnone : State := port0 up
def stTblflush : State := setReg (A.tblCmdAux 0) 8 (withHash 5 dyn0 (port0 up))
def stTblclearreq : State := { port0 up with reqRehash := true }
def stTblcompleteflush : State := withHash 5 dyn0 { running0 with cmds := [(0, some { cmd0 with flush := some 8 })] }
def stRebuilt : State := { up with rebuilding := true }
def stAgeingnone : State := later 2000000000 agesNothing
def stAgeingone : State := later 2000000000 agedOut
def stShadowlost : State := shadowed0 up
def stRepairdrain : State := { shadowed0 up with drain := { up.drain with cam := [(0, some camE)] }, drainShadow := { up.drain with cam := [(0, some { camE with res := 9 })] }, epoch := { up.epoch with draining := some 3 } }
def stRepairdyn : State := withHash 5 dyn0 up
def stUnblock : State := { up with blocked := [0, 3] }
def stL3 : State := later 100000000 (port0 up)
def stL5 : State := locked (portLock 4) 0 up
def stL7 : State := locked (portLock 4) 0 (later 100000000 up)
def stL9 : State := locked 0 0 up
def stL10 : State := locked 0 3 up
def stL11 : State := locked 0 0 (later 100000000 up)
def stAr0 : State := runs (op 0 rrr) j1
def stAr1 : State := runs (op 1 rrr) j1
def stAr2 : State := runs (op 2 rrr) j1
def stAr3 : State := runs (op 3 rrr) j1
def stAr4 : State := runs (op 4 rrr) j1
def stAr5 : State := runs (op 5 rrr) j1
def stAr6 : State := runs (op 6 rrr) j1
def stAr7 : State := runs (op 7 rrr) j1
def stAr8 : State := runs (op 8 rrr) j1
def stIm0 : State := runs (op 12 rri) j1
def stIm1 : State := runs (op 13 rri) j1
def stIm2 : State := runs (op 14 rri) j1
def stIm3 : State := runs (op 15 rri) j1
def stIm4 : State := runs (op 16 rri) j1
def stIm5 : State := runs (op 17 rri) j1
def stIm6 : State := runs (op 18 rri) j1
def stIm7 : State := runs (op 20 (3 * 2 ^ 22 + 0x3FFFF)) j1
def stIm8 : State := runs (op 21 (3 * 2 ^ 22 + 5)) j1
def stIm9 : State := runs (op 11 (3 * 2 ^ 22 + 2 ^ 18)) j1
def stIm10 : State := runs (op 37 (3 * 2 ^ 22)) j1
def stIm11 : State := runs (op 26 (3 * 2 ^ 22 + 2 ^ 19)) j1
def stCmp : State := runs (op 9 (2 ^ 18 + 2 * 2 ^ 14)) j1
def stCmpi : State := runs (op 0x13 (2 ^ 18 + 0x3FFFF)) j1
def stSrdS : State := runs (op 0x22 (3 * 2 ^ 22 + 2 * 2 ^ 16)) j1
def stXwaitX : State := runs (op 0x30 0) j1
def stKeepflags1 : State := issued 0 0 (j1.wrote 3 16) (runs (op 0 rrr) j1)
def stFld0 : State := runs (op 22 (3 * 2 ^ 22 + 2 ^ 18 + 1 * 2 ^ 13 + 1 * 2 ^ 8)) j1
def stFld1 : State := runs (op 23 (3 * 2 ^ 22 + 2 ^ 18 + 28 * 2 ^ 13 + 3 * 2 ^ 8)) j1
def stFld2 : State := runs (op 24 (3 * 2 ^ 22 + 2 ^ 18)) j1
def stFld3 : State := runs (op 10 (rrr + 1)) j1
def stFld4 : State := runs (op 25 (2 * 2 ^ 22 + 2 ^ 18 + 5)) j1
def stFld5 : State := runs (op 49 (3 * 2 ^ 22 + 6)) j1
def stMem0 : State := runs (op 27 (3 * 2 ^ 22 + 2 * 2 ^ 16 + 4)) j1
def stMem1 : State := runs (op 29 (3 * 2 ^ 22 + 2 ^ 18 + 2 * 2 ^ 16 + 5)) j1
def stMem2 : State := runs (op 31 (3 * 2 ^ 22 + 2 ^ 18 + 2 * 2 ^ 16 + 5)) j1
def stMem3 : State := runs (op 28 (2 * 2 ^ 22 + 2 ^ 18 + 2 * 2 ^ 16 + 5)) j1
def stMem4 : State := runs (op 32 (2 * 2 ^ 22 + 2 ^ 18 + 2 * 2 ^ 16 + 5)) j1
def stMem5 : State := runs (op 33 (3 * 2 ^ 22 + 2 ^ 18 + 2 * 2 ^ 16 + 1)) j1
def stMem6 : State := runs (op 30 (2 * 2 ^ 22 + 2 ^ 18 + 2 * 2 ^ 14)) j1
def stMem7 : State := runs (op 34 (3 * 2 ^ 22 + 1 * 2 ^ 16)) j1
def stMem8 : State := runs (op 35 0) j1
def stMem9 : State := runs (op 36 (2 ^ 18)) j1
def stCtl0 : State := runs (op 42 2) j1
def stCtl1 : State := runs (op 42 (2 ^ 22 + 2)) j1
def stCtl2 : State := runs (op 43 2) j1
def stCtl3 : State := runs (op 44 0) ({ j1 with stack := [3] })
def stCtl4 : State := runs (op 45 (2 ^ 18)) j1
def stCtl5 : State := runs (op 46 (1 * 2 ^ 22 + 2)) ({ j1 with regs := j1.regs.set! 1 1 })
def stCtl6 : State := runs (op 46 (1 * 2 ^ 22 + 2)) j1
def stReq1 : State := runs (op 0x33 (2 ^ 18 + 3)) j1
def stReq2 : State := runs (op 0x2F (3 * 2 ^ 18)) j1
def stReq4 : State := runs (op 0x30 0) lookPending
def stEnd0 : State := runs (op 0x26 0) emitJob
def stEnd1 : State := runs (op 0x27 0) j1
def stEnd2 : State := runs (op 0x28 0) j1
def stEnd3 : State := runs (op 0x29 5) j1
def stEnd4 : State := runs (op 0x2A 0x7FFF0) j1
def stInOrder : State := runs (op 0x10 0) j1
def stLane : State := lane0 1
def stLane2 : State := lane0 0
def stAdmWait : State := later 5000 admitting
def stCache : State := { runs 0 job0 with codeLines := [] }
def stCache2 : State := runs 0 job0
def stCheck : State := later 1000000000000 up
def stDrain : State := cellIs .inService true true false up
def stCC : State := { cellIs .checking false false false up with cells := [(0, ⟨.checking, false, false, false, 0⟩), (64, ⟨.inService, false, false, false, 0⟩)] }
def stCC2 : State := cellIs .checking false false true up
def stSegOpen : State := setReg (selKey A.latSegLen 0) 16 up
def stSeal : State := segIs ⟨1, 0, 16, 0, 0, false, false⟩ up
def stSealC : State := segIs ⟨1, 0, 16, 0, 0, true, false⟩ up
def stSegFree : State := segIs ⟨2, 0, 16, 0, 0, false, false⟩ up
def stReload : State := segIs ⟨3, 0, 16, 0, 0, false, false⟩ up
def stErrt : State := canIs 1 (fun c => { c with tec := 250 }) up
def stErrr : State := canIs 1 (fun c => { c with rec_ := 250 }) up
def stErrr2 : State := canIs 2 (fun c => c) up
def stErro : State := canIs 1 (fun c => c) up
def stErrspared : State := canIs 1 (fun c => { c with tec := 250, err := .passive }) up
def stTimingdetect : State := cfg (A.canCtrl 0) 3 (canIs 3 (fun c => { c with timingPending := true, detectPending := true, cand := 2 }) up)
def stTimingdetect2 : State := cfg (A.canCtrl 0) 3 (canIs 3 (fun c => { c with timingPending := true, cand := 2 }) up)
def stErrt120 : State := canIs 1 (fun c => { c with tec := 120 }) up
def stErrboff : State := canIs 1 (fun c => { c with tec := 248 }) up
def stBoffdelay : State := canIs 129 (fun c => { c with err := .busOff }) (later 1000000000000 up)
def stRecover : State := canIs 1 (fun c => { c with err := .busOff }) up
def stRecovered : State := canIs 1 (fun c => { c with err := .busOff, recovering := true, tec := 256 }) up
def stTiming : State := canIs 1 (fun c => { c with timingPending := true }) up
def stTiming3 : State := cfg (A.canCtrl 0) 3 (canIs 1 (fun c => { c with timingPending := true }) up)
def stDwell : State := cfg (A.canRateCtrl 0) 0x10010 (canIs 3 (fun c => c) (later 1000000 up))
def stDwelllast : State := cfg (A.canRateCtrl 0) 0x10010 (canIs 3 (fun c => { c with cand := 1 }) (later 1000000 up))
def stRx1 : State := canIs 1 (fun c => { c with rec_ := 5 }) up
def stRx3 : State := cfg (A.canRateCtrl 0) 1 (canIs 3 (fun c => c) up)
def stTake : State := inQueue 48 3 (canCopy 48 3) (canIs 1 id up)
def stTakemb : State := cfg (A.canTxCtrl 0) 0x80000 (cfg (A.canMbCtrl 0 2) 0x80000000 (inQueue 48 3 (canCopy 48 3) (canIs 1 id up)))
def stArb : State := canIs 1 (fun c => { c with fifo := [canPend] }) up
def stArbnone : State := canIs 1 id up
def stSent : State := canIs 1 (fun c => { c with fifo := [canPend], sending := some .fifo }) up
def stTxErr : State := cfg (A.canTxCtrl 0) 3 (canIs 1 (fun c => { c with fifo := [canPend], sending := some .fifo }) up)
def stTxErr31 : State := cfg (A.canTxCtrl 0) 31 (canIs 1 (fun c => { c with fifo := [canPend], sending := some .fifo }) up)
def stTxErrBoff : State := cfg (A.canTxCtrl 0) 31 (canIs 1 (fun c => { c with tec := 250, err := .passive, fifo := [canPend], sending := some .fifo }) up)
def stTxAband : State := cfg (A.canTxCtrl 0) 0 (canIs 1 (fun c => { c with fifo := [canPend], sending := some .fifo }) up)
def stTxAbandBoff : State := cfg (A.canTxCtrl 0) 0 (canIs 1 (fun c => { c with tec := 250, err := .passive, fifo := [canPend], sending := some .fifo }) up)
def stTtDue : State := cfg (A.canTtCycleNs 0) 1000 (canIs 1 (fun c => { c with ttActive := true }) { up with locus := 65536 * 5500 })
def stTtDueArm : State := cfg (A.canTtCycleNs 0) 1000 (canIs 1 (fun c => { c with ttArmed := true }) { up with locus := 65536 * 5500 })
def stTtDue2 : State := cfg (A.canTtCycleNs 0) 1000 { up with locus := 65536 * 5500 }
def stTtWin : State := cfg (A.canTtTrigCtrl 0 3) 1 (cfg (A.canTtTrigLen 0 3) 100 (canIs 1
    (fun c => { c with ttActive := true, ttRefStart := some 0 }) up))
def stTtForeign : State := cfg (A.canTtRefId 0) 0x123 (canIs 1 (fun c => { c with ttActive := true }) up)
def stTtForeignrtr : State := cfg (A.canTtRefId 0) 0x123 (canIs 1 (fun c => { c with ttArmed := true }) up)
def stTtRestart : State := canIs 1 (fun c => { c with ttConflict := true }) up
def stSlot : State := linIs 1 (fun c => { c with running := true }) up
def stSlot2 : State := cfg (selKey (A.linTabEntry 0) 1) 0x30001 (linIs 1 (fun c => { c with running := true }) up)
def stHdr2 : State := linSub 2 (linIs 2 id up)
def stHdr1 : State := linSub 1 (linIs 2 id up)
def stHdr0 : State := linSub 0 (linIs 2 id up)
def stHdr1f : State := linSub 1 (linIs 2 (fun c => { c with bufs := [(5, ⟨[1], true, none⟩)] }) up)
def stRspgood : State := linSub 2 (linIs 1 (fun c => { c with expecting := some 5 }) up)
def stRspsent : State := linSub 1 (linIs 1 (fun c => { c with expecting := some 5, bufs := [(5, ⟨[1], true, some (canCopy 72 0)⟩)] }) up)
def stRspbit : State := linSub 1 (linIs 1 (fun c => { c with expecting := some 5 }) up)
def stRspcoll : State := cfg (selKey (A.linTabEntry 0) 0) 0x30002 (linSub 2 (linIs 1 (fun c => { c with expecting := some 5 }) up))
def stPublish : State := inQueue 72 3 (canCopy 72 3) (linIs 1 id up)
def stTrx : State := linIs 1 id up
def stNoRule : State := inQueue 100 3 busCopy up
def stChordwait : State := chords chordM (setReg 0 0 (inQueue 100 3 busCopy ({ up with admission := [(0, List.replicate 3000 { req0 with bridge := some 0 })] })))
def stChord : State := chords chordM (shares (inQueue 100 3 busCopy up))
def stMalformed : State := inQueue 100 3 (cpy (itm 8 []) 100 3) up
def stNet : State := tangents tan0 (shares (inQueue 100 3 tunnel0 up))
def stRulecomplete : State := { up with cmds := [(4, some rcmd0)], tags := [(0, some 0)] }
def stRuleread : State := chords chordM (rport (shares up))
def stRulewrite : State := setReg (A.brgRcmdRec 0 0) 5 (rport (shares up))
def stRuleclear : State := rport (shares up)
def stT0 : State := laneIs (fun x => { x with st := .down }) up
def stT1 : State := laneIs (fun x => { x with st := .training }) up
def stT2 : State := laneIs (fun x => { x with st := .training }) (later 100000000 up)
def stT3 : State := laneIs (fun x => { x with st := .down, silent := true }) (later 10000000 up)
def stT4 : State := laneIs (fun x => { x with st := .locking, good := 3, lastCwc := some 7 }) up
def stT5 : State := laneIs (fun x => x) up
def stT5b : State := laneIs (fun x => { x with bad := 7 }) up
def stT6 : State := laneIs (fun x => { x with corrWin := 5000000 }) (later 10000000 up)
def stU0 : State := laneIs (fun x => { x with width := 0 }) up
def stU1 : State := phyIs 8 id up
def stU2L : State := setEth 0 { EthSt.reset with linkUp := true, rate := 100000, lane := { LaneSt.reset with st := .up } } up
def stU3b : State := phyIs 8 (fun e => { e with fails := 1 }) up
def stS0 : State := segOn id up
def stS1 : State := segOn (fun e => { e with plcaActive := true }) (later 400000 up)
def stS2 : State := segOn (fun e => { e with plcaActive := true, contending := some sCopy }) up
def stS2b : State := segOn (fun e => { e with contending := some sCopy }) up
def stS3 : State := setOut 40 { EgressSt.reset with tx := some txF } (segOn id up)
def stS3b : State := setOut 40 { EgressSt.reset with tx := some txF } (segOn (fun e => { e with attempts := 15 }) up)
def stP0 : State := cfg (A.ethFcCtrl 8) 1 (ethUp 8 up)
def stP0b : State := cfg (A.ethFcCtrl 8) 2 (ethUp 8 up)
def stP2 : State := paused8 500
def stP3 : State := cfg (A.ethFcTimers 8) 0 (paused8 300)
def stP5 : State := cfg (A.ethFcCtrl 8) 4 (cfg (A.ethFcXoff 8) 0 (cfg (A.ethFcXon 8) 0 (ethUp 8 up)))
def stP6 : State := cfg (A.ethFcTimers 8) 0 (cfg (A.ethFcXon 8) 0 (setEth 8 { EthSt.reset with linkUp := true, rate := 1000, xoff := true } up))
def stJ0 : State := jrnIs (fun j => { j with staging := [jEnt] }) up
def stJ1 : State := setReg A.jrnCtrl 1 (jrnIs (fun j => { j with staging := [jEnt], wr := jrnCapacity }) up)
def stJ2 : State := jrnIs (fun j => { j with coalesce := [(5, 3), (8, 1)] }) up
def stJ4 : State := jrnIs (fun j => { j with wr := 2, ring := [(0, { JRec.nil with w0 := 5 })] }) up
def stE0 : State := cfg (A.jrnExpPack) 5 (jrnIs (fun j => { j with expOn := true, oldest := 3, wr := 9 }) up)
def stE1 : State := cfg (A.jrnExpPack) 5 (jrnIs (fun j => { j with expOn := true }) up)
def stE2 : State := cfg (A.jrnExpPack) 5 (cfg A.jrnExpCtrl 0xFFFF0000 (cfg A.jrnExpFacets 0xFFFF
    (jrnIs (fun j => { j with expOn := true, wr := 1, ring := [(0, jEnt.rec_)] }) up)))
def stE2b : State := cfg (A.jrnExpPack) 5 (cfg A.jrnExpCtrl 0 (cfg A.jrnExpFacets 0xFFFF
    (jrnIs (fun j => { j with expOn := true, wr := 1, ring := [(0, jEnt.rec_)] }) up)))
def stR0 : State := cfg (A.jrnExpPack) 5 (jrnIs (fun j => { j with store := [jEnt] }) { up with locus := 65536 * 10000000 })
def stF0 : State := cfg (A.jrnExpPack) 1 (cfg A.jrnExpCtrl (97 * 256) (jrnIs (fun j => { j with frame := [jEnt.rec_] }) up))
def stF1 : State := cfg (A.jrnExpPack) 2 (cfg A.jrnExpCtrl (97 * 256) (jrnIs (fun j => { j with frame := [jEnt.rec_] }) up))
def stC0 : State := inQueue 99 0 c7 up
def stI0 : State := injIs 1 id up
def stI0f : State := injIs 1 (fun i => { i with words := List.replicate 4096 0 }) up
def stI1 : State := injIs 1 (fun i => { i with words := List.replicate 20 0 }) up
def stI1b : State := injIs 1 (fun i => { i with words := List.replicate 2 0 }) up
def stI2 : State := injIs 3 (fun i => { i with words := List.replicate 20 0 }) up
def stI3 : State := injIs 1 (fun i => { i with closed := [[1]] }) up
def stI4 : State := setReg (A.injDest 0) 97 (injIs 1 (fun i => { i with closed := [List.replicate 60 1] }) up)
def stI5 : State := injIs 1 (fun i => { i with words := [1] }) (later 1000000 up)
def stCw : State := later 48 (laneIs (fun x => { x with localFault := true }) up)
def stO0 : State := octWaits [2, 0] id
def stO1 : State := octWaits (octBytes [1, 1, 0, 0, 0, 0, 0, 0x40]) id
def stO2 : State := octWaits (octBytes [1, 1, 0, 0, 0, 0, 0, 0x40]) (fun c => { c with high := 1, cache := [⟨1, w32 (crc32c (octBytes [1, 1, 0, 0, 0, 0, 0, 0x40])), [3]⟩] })
def stOp0 : State := octRuns rd0 (port0 up)
def stOp1 : State := octRuns (⟨2, 1, 0, 0x180, [5]⟩) (port0 up)
def stOp2 : State := octRuns (⟨3, 1, 0, 0x180, [0xFF, 5]⟩) (port0 up)
def stOp3 : State := octRuns (⟨4, 1, 0, 0x3C, []⟩) (port0 up)
def stOp4 : State := octRuns (⟨5, 1, 0, 0x3C, []⟩) (port0 up)
def stOp5 : State := octRuns (⟨6, 1, 0, A.tblCmdOp 0, [1]⟩) (port0 up)
def stOp6 : State := octRuns (⟨7, 1, 0, A.sysEpochCtrl, [1]⟩) (port0 up)
def stOp7 : State := octRuns (⟨1, 2, 0, 0x42, []⟩) (port0 up)
def stOp8 : State := octRuns (⟨6, 1, 0, 0x40, [1]⟩) (port0 up)
def stOp9 : State := octRuns (⟨7, 1, 0, 0x40, [1]⟩) (port0 up)
def stOp3l : State := octRuns (⟨4, 1, 0, 0x3C, []⟩) (locked 0 3 up)
def stOp4l : State := octRuns (⟨5, 1, 0, 0x3C, []⟩) (locked 0 0 up)
def stOp5p : State := octRuns (⟨6, 1, 0, A.tblCmdOp 0, [5]⟩) (port0 (cfg (A.sysTagQuota 0) 9 up))
def stArp : State := { up with ctlIn := [arpItem] }
def stLease : State := cfg (A.sysFlease 2) 1 { later 1000000 up with fleases := [(2, some 0)], sessions := [(8, { Session.reset with isOpen := true })] }
def stFResetW : State := setOut 8 { EgressSt.reset with tx := some { txF with copy := { c7 with item := { c7.item with facet := 2 } } } }
    { up with facetReset := some ⟨2, 0, 0, none⟩ }
def stFResetC : State := { up with facetReset := some ⟨2, 0, 0, none⟩, fleases := [(2, some 0)], sessions := [(8, { Session.reset with isOpen := true, high := 9 })] }
def stW0w : State := winUp ⟨[], none, .none, 0⟩ up
def stW2 : State := winUp ⟨[far0, far0], none, .none, 0⟩ up
def stW3 : State := cfg A.brgWRetry 0x30000 (winUp ⟨[], some (flight0 far0), .none, 0⟩ up)
def stW4 : State := { winUp ⟨[], some (flight0 far0), .none, 0⟩ up with tags := [(0, some 0)] }
def stL1 : State := winUp ⟨[], some (flight0 ⟨4, 0, [], .command, 0⟩), .requesting, 0⟩ up
def stL2 : State := leased (winUp ⟨[], none, .granted, 0⟩ up)
def stL4 : State := leased (winUp ⟨[], none, .granted, 0⟩ (later 50000000 up))
def stL5x : State := leased (winUp ⟨[], none, .granted, 0⟩ (later 50 up))
def stA0 : State := cfg A.brgAccCtrl 1 (later 10000000 up)
def stA1f : State := cfg A.brgAccCtrl 1 { up with ctlIn := [accFrame 5] }
def stA1f1 : State := cfg A.brgAccCtrl 1 up
def stA1 : State := cfg A.brgAccCtrl 1 { up with ctlIn := [accFrame 0] }
def stA1c : State := peerIs 2 (fun p => { p with state := 1, id := 9 }) (cfg A.brgAccCtrl 1 { up with ctlIn := [accFrame 0] })
def stA1c1 : State := peerIs 2 (fun p => { p with state := 1, id := 9 }) (cfg A.brgAccCtrl 1 up)
def stA2 : State := peerIs 2 (fun p => { p with state := 1 }) (later 50000000 up)
def stA3 : State := peerIs 2 (fun p => { p with state := 3, rival := some (9, 0) }) (later 50000000 up)
def stA4 : State := { up with accord := { up.accord with digestDue := true } }
def stQ0 : State := { up with cip := { up.cip with facets := [(0, { CipFacet.reset with queue := List.replicate 256 [] })] } }
def stQ2 : State := { up with cip := { up.cip with facets := [(0, { CipFacet.reset with window := [(0, some ⟨0, 5, 0, 0⟩)] })] } }
def stQ3b : State := { up with cip := { up.cip with facets := [(0, { CipFacet.reset with comps := [⟨0, 5, 0, 0⟩] })] } }
def stK0 : State := cipRuns cipRun0 up
def stK2 : State := cipRuns { cipRun0 with out := none, blob := some ⟨3, 0, key16 2⟩ } up
def stC1 : State := cipWaits (desc 1 16 0x1000) (keyed 2 16 up)
def stC2 : State := cipWaits (desc 2 16 0x1000) (keyed 2 16 up)
def stC3 : State := cipWaits (desc 3 16 0x1000) (keyed 4 16 up)
def stC4 : State := cipWaits (desc 4 16 0) (keyed 4 16 up)
def stC5 : State := cipWaits (desc 5 512 0x1000) (keyed 8 32 up)
def stC6 : State := cipWaits (desc 6 512 0x1000) (keyed 8 32 up)
def stC7 : State := cipWaits (desc 7 48 0) (keyed 16 16 up)
def stC8 : State := cipWaits ([7, 8, 0, 16, 0, 0, 0, 3]) (cfg (A.chkUCtrl 0) 0x2010 up)
def stPromote : State := setReg (A.cipKsSel 0) 3 ((fun s : State => { s with cip := { s.cip with keys := [(6, some (key16 2)), (7, some { key16 2 with version := 2 })] } }) up)
def stPromoterights : State := setReg (A.cipKsSel 2) 3 ((fun s : State => { s with cip := { s.cip with keys := [(6, some (key16 2)), (7, some { key16 2 with version := 2 })] } }) up)
def stKatok : State := later 10000000000 up
def stRunhi : State := cfg (A.chkUCtrl 0) 0x2010 up
def stScanbusy : State := setUnit 0 { ChkUnit.reset with scanning := some (0, 0, 4, false) } up
def stScanrights : State := cfg (A.chkUCtrl 0) 0x2013 up
def stScanC : State := cfg (A.chkUCtrl 0) 0x2010 (setUnit 0 { ChkUnit.reset with scanning := some (0, 0, 4, true) } up)
def stRun : State := dozing [8] up
def stDoze : State := cfg A.wakDozeSetLo 0x1000300 (ethUp 8 up)
def stSleep : State := pwrIs (fun p => { p with bOk := true }) up
def stSleep2 : State := wakeIs (fun w => { w with req := true }) up
def stSleep3 : State := pwrIs (fun p => { p with bOk := false }) up
def stCancel : State := wakeIs (fun w => { w with req := true, phase := .preparing, mode := .doze, prev := .doze, closed := true }) up
def stCancel2 : State := wakeIs (fun w => { w with req := true, phase := .round }) up
def stTc10ok : State := later 16000000 (wakeIs (fun w => { w with tc10 := [(8, some 0)] }) (ethUp 8 up))
def stKeep : State := setReg A.wakFacetKeep 0x21 up
def stResetKeep : State := { setReg A.wakFacetKeep 0x25 up with facetReset := some ⟨2, 0, 0, none⟩ }
def stEntry : State := wakeIs (fun w => { w with req := true, phase := .preparing }) up
def stDrainx : State := wakeIs (fun w => { w with req := true, phase := .preparing, closed := true }) up
def stDrain2 : State := inQueue 97 3 c7 (later 1000000000 (wakeIs (fun w => { w with req := true, phase := .preparing, closed := true }) up))
def stDark : State := wakeIs (fun w => { w with req := true, phase := .dark, closed := true }) up
def stRound : State := wakeIs (fun w => { w with req := true, phase := .waitRound }) up
def stRoundpm : State := pmOn (wakeIs (fun w => { w with req := true, phase := .waitRound }) up)
def stAnsnone : State := { up with ctlIn := [pmFrame] }
def stAns : State := pmOn (wakeIs (fun w => { w with req := true, phase := .round, token := some ⟨0, 1, 0⟩ })
    { up with ctlIn := [pmFrame] })
def stAns1 : State := pmOn (wakeIs (fun w => { w with req := true, phase := .round, token := some ⟨0, 1, 0⟩ }) up)
def stPto : State := pmOn (wakeIs (fun w => { w with req := true, phase := .round, token := some ⟨0, 1, 0⟩ }) (later 1000000000 up))
def stPto2 : State := pmOn (wakeIs (fun w => { w with req := true, phase := .round, token := some ⟨0, 2, 0⟩ }) (later 1000000000 up))
def stGroup : State := peerIs 2 (fun p => { p with state := 1 }) (wakeIs (fun w => { w with req := true, phase := .groupWait })
    (later 1000000000 up))
def stWk0s : State := (cfg (A.wakPin 0) 0x1003 (sleeping [8, 48, 72] up))
def stWk0d : State := (cfg (A.wakPin 0) 0x1003 (dozing [8, 48, 72] up))
def stWk0l : State := (cfg (A.wakPin 0) 0x1003 (wakeIs (fun w => { w with latched := some (9, 1, 0) }) (sleeping [8, 48, 72] up)))
def stWk1s : State := (cfg (A.wakCanCtrl 0) 0x400 (sleeping [8, 48, 72] up))
def stWk1d : State := (cfg (A.wakCanCtrl 0) 0x400 (dozing [8, 48, 72] up))
def stWk1l : State := (cfg (A.wakCanCtrl 0) 0x400 (wakeIs (fun w => { w with latched := some (9, 1, 0) }) (sleeping [8, 48, 72] up)))
def stWk2s : State := (patOn (cfg (A.wakCanPatId 0 0) 0x123 (cfg (A.wakCanPatMask 0 0) 0x7FF (sleeping [8, 48, 72] up))))
def stWk2d : State := (patOn (cfg (A.wakCanPatId 0 0) 0x123 (cfg (A.wakCanPatMask 0 0) 0x7FF (dozing [8, 48, 72] up))))
def stWk2l : State := (patOn (cfg (A.wakCanPatId 0 0) 0x123 (cfg (A.wakCanPatMask 0 0) 0x7FF
    (wakeIs (fun w => { w with latched := some (9, 1, 0) }) (sleeping [8, 48, 72] up)))))
def stWk3s : State := (cfg A.wakLinCtrl 1 (sleeping [8, 48, 72] up))
def stWk3d : State := (cfg A.wakLinCtrl 1 (dozing [8, 48, 72] up))
def stWk3l : State := (cfg A.wakLinCtrl 1 (wakeIs (fun w => { w with latched := some (9, 1, 0) }) (sleeping [8, 48, 72] up)))
def stWk4s : State := (cfg (A.ethPhyCtrl 8) 0x1000 (sleeping [8, 48, 72] up))
def stWk4d : State := (cfg (A.ethPhyCtrl 8) 0x1000 (dozing [8, 48, 72] up))
def stWk4l : State := (cfg (A.ethPhyCtrl 8) 0x1000 (wakeIs (fun w => { w with latched := some (9, 1, 0) }) (sleeping [8, 48, 72] up)))
def stWk5s : State := (cfg A.wakCtrl 2 (cfg A.wakTimer 0 (sleeping [8, 48, 72] up)))
def stWk5l : State := (cfg A.wakCtrl 2 (cfg A.wakTimer 0 (wakeIs (fun w => { w with latched := some (9, 1, 0) })
    (sleeping [8, 48, 72] up))))
def stWk6s : State := (sleeping [8, 48, 72] up)
def stWk6d : State := (dozing [8, 48, 72] up)
def stWk6l : State := (wakeIs (fun w => { w with latched := some (9, 1, 0) }) (sleeping [8, 48, 72] up))
def stAon : State := later 1000000000 up
def stStart : State := wakeIs (fun w => { w with latched := some (1, 2, 3), entryLocus := 777 }) (sleeping [] up)
def stStart0 : State := sleeping [] up
def stWlo : State := wakeIs (fun w => { w with wlo := [(1, some (5, true)), (2, some (9, false))] }) (later 5 up)
def stResetKeepW : State := setOut 8 { EgressSt.reset with tx := some { txF with copy := { c7 with item := { c7.item with facet := 3 } } } }
    { setReg A.wakFacetKeep 0x25 up with facetReset := some ⟨2, 0, 0, none⟩ }
def stInB : State := pwrIs (fun p => { p with aOk := false, bOk := false, holdup := true }) up
def stHoldupX : State := pwrIs (fun p => { p with holdup := true }) (later 8000000 up)
def stResume : State := pwrIs (fun p => { p with shed := true }) up
def stReserve : State := pwrIs (fun p => { p with shed := true, aOk := false, bOk := false }) (later 5000000 up)
def stXo : State := pwrIs (fun p => { p with xoOk := false }) up
def stXoR : State := pwrIs (fun p => { p with xoOk := false }) (later 1000000000 up)
def stMeas : State := later 100000 up
def stMeaslow : State := pwrIs (fun p => { p with belowSince := some 0 }) (cfg A.pwrPaceCtrl 0x01205000 (later 1000000000 up))
def stHold : State := pwrIs (fun p => { p with reqClear := some 0 }) (later 1000000 up)
def stStepU : State := pwrIs (fun p => { p with level := 3 }) up
def stStepD : State := pwrIs (fun p => { p with target := 2, divider := 5 }) up
def stDiv : State := pwrIs (fun p => { p with divider := 9 }) up
def stPor : State := pwrIs (fun p => { p with collapsed := true }) up
def stWd : State := cfg A.pwrWdogCtrl 0x10001 (later 1000000 up)
def stWdH : State := cfg A.pwrWdogCtrl 0x10001 (later 500000 up)
def stAlert : State := cfg (A.sysAlert 0) 0x12 ringed
def stAlertP : State := cfg (A.sysAlert 0) 0x32 ringed
def stAlertN : State := cfg (A.sysAlert 0) 0x31 ringed
def stAlertH : State := cfg (A.sysAlert 0) 0x10 { up with mpRestarts := [0, 0] }
def stPinAn : State := cfg (A.locSoCtrl 0) 5 so0
def stPinS : State := later 10000000 (wakeIs (fun w => { w with phase := .dark }) up)
def stVoid : State := fwIs (fun w => { w with fuses := [8, 8, 8] }) rom
def stLcok : State := recIs (fun r => { r with lcReq := some (1, true) }) rom
def stLcno : State := recIs (fun r => { r with lcReq := some (3, true) }) rom
def stLcsig : State := recIs (fun r => { r with lcReq := some (2, false) }) rom
def stLc0 : State := recIs (fun r => { r with lcReq := some (0, true) }) rom
def stLc4 : State := recIs (fun r => { r with lcReq := some (4, true) }) rom
def stProvens : State := saved 1 rom
def stOther : State := twin rom
def stTrial : State := trial (twin rom)
def stFall : State := recIs (fun r => { r with fallback := true }) (trial (twin rom))
def stFall0 : State := recIs (fun r => { r with left := 0 }) (trial (twin rom))
def stImage : State := at_ .image up
def stPhy : State := at_ .image (lib63 up)
def stSetnone : State := at_ .phyLoaded up
def stSet : State := saved 1 (at_ .phyLoaded up)
def stMigbad : State := saved 2 (at_ .phyLoaded up)
def stMig : State := newer (saved 1 (at_ .phyLoaded up))
def stJoin : State := at_ .settings up
def stSerdes : State := at_ .joined up
def stOpentrial : State := inTrial0 up
def stErased : State := fwIs (fun w => { w with busy := some 1 }) up
def stData : State := setReg A.updWrOffset 8 (bankB 1 up)
def stDatano : State := bankB 2 up
def stVerify : State := bankB 1 up
def stVerifyC : State := fwIs (fun w => { w with busy := some 2 }) (bankB 1 up)
def stVerifyCok : State := fwIs (fun w => { w with busy := some 2, banks := [(0, ⟨3, 0, factoryHeader⟩), (1, ⟨1, 0, factoryHeader⟩)] }) up
def stAuto : State := cfg A.updCtrl 0x102 (inTrial0 (later 1000000000 up))
def stSave : State := saved 1 up
def stSaveC : State := fwIs (fun w => { w with saving := true }) (saved 1 up)
def stForceLock : State := typed [] up
def stLn0r : State := cfg (selKey A.qInLim 84) 0 up
def stLnr : State := at_ .voidMonitor (typed (asc ['C', 'H', 'A', 'L']) (fwIs (fun w => { w with fuses := [8, 8, 8] }) up))
def stident : State := typed (asc ['I', 'D', 'E', 'N', 'T']) up
def sthelp : State := typed (asc ['H', 'E', 'L', 'P']) up
def ststatus : State := typed (asc ['S', 'T', 'A', 'T', 'U', 'S']) up
def stbank : State := typed (asc ['B', 'A', 'N', 'K']) up
def stbaud : State := typed (asc ['B', 'A', 'U', 'D', ' ', '9', '6', '0', '0']) up
def strevert : State := { later 10000000000 up with svc := { up.svc with rateAt := some 0, rate := 2 } }
def stecho : State := typed (asc ['E', 'C', 'H', 'O', ' ', 'O', 'N']) up
def stecho2 : State := typed (asc ['E', 'C', 'H', 'O', ' ', 'O', 'F', 'F']) up
def stflog : State := typed (asc ['F', 'L', 'O', 'G']) up
def strd : State := typed (asc ['R', 'D', ' ', '0']) up
def stwr : State := typed (asc ['W', 'R', ' ', '1', '8', '0', ' ', '5']) up
def stwr2 : State := typed (asc ['W', 'R', ' ', '1', '8', '1', '0', '7', '0', ' ', '5']) up
def stmw : State := typed (asc ['M', 'W', ' ', '1', '8', '0', ' ', 'F', 'F', ' ', '5']) up
def stchal : State := typed (asc ['C', 'H', 'A', 'L']) up
def stunl : State := { typed (asc ['U', 'N', 'L', 'O', 'C', 'K', ' ', 'O', ' ', '5', '5']) up with svc := { (typed (asc ['U', 'N', 'L', 'O', 'C', 'K', ' ', 'O', ' ', '5', '5']) up).svc with challenge := some [1] } }
def stunlno : State := { typed (asc ['U', 'N', 'L', 'O', 'C', 'K', ' ', 'V', ' ', '5', '5']) up with svc := { (typed (asc ['U', 'N', 'L', 'O', 'C', 'K', ' ', 'V', ' ', '5', '5']) up).svc with failsRow := 3 } }
def stunlno1 : State := typed (asc ['U', 'N', 'L', 'O', 'C', 'K', ' ', 'V', ' ', '5', '5']) up
def stunlno2 : State := { typed (asc ['U', 'N', 'L', 'O', 'C', 'K', ' ', 'V', ' ', '5', '5']) up with svc := { (typed (asc ['U', 'N', 'L', 'O', 'C', 'K', ' ', 'V', ' ', '5', '5']) up).svc with failsRow := 2 } }
def stunlwait : State := { typed (asc ['U', 'N', 'L', 'O', 'C', 'K', ' ', 'V', ' ', '5', '5']) up with svc := { (typed (asc ['U', 'N', 'L', 'O', 'C', 'K', ' ', 'V', ' ', '5', '5']) up).svc with refuseUntil := 3 } }
def stlock : State := typed (asc ['L', 'O', 'C', 'K']) up
def stidle : State := later 10000000000000 (typed [] up)
def streset : State := typed (asc ['R', 'E', 'S', 'E', 'T']) (up)
def strecover : State := typed (asc ['R', 'E', 'C', 'O', 'V', 'E', 'R']) (up)
def stload : State := typed (asc ['L', 'O', 'A', 'D', ' ', 'B']) (up)
def stloadr : State := typed (asc ['L', 'O', 'A', 'D', ' ', 'A']) (at_ .recovery up)
def stxmnak : State := { up with svc := { up.svc with load := some (1, 0) } }
def stxm : State := bankB 1 { up with svc := { up.svc with load := some (1, 0) } }
def stactr : State := typed (asc ['A', 'C', 'T', 'I', 'V', 'A', 'T', 'E', ' ', 'B']) (at_ .recovery (bankB 2 up))
def stact : State := typed (asc ['A', 'C', 'T', 'I', 'V', 'A', 'T', 'E', ' ', 'B']) (bankB 2 up)
def stactno : State := typed (asc ['A', 'C', 'T', 'I', 'V', 'A', 'T', 'E', ' ', 'B']) (bankB 1 up)
def stconfirm : State := typed (asc ['C', 'O', 'N', 'F', 'I', 'R', 'M']) (inTrial0 up)
def ststage : State := typed (asc ['S', 'T', 'A', 'G', 'E', ' ', '1', ' ', '5', '5']) (up)
end Sys2Proof.Tests
end

