-- ==== Sys2Proof/Tests/Slice0.lean ====
section
/-! SUPPORT. Tests: every check of WellFormed refuses an ill-formed command; the spec's worked examples and the published
answers of the algorithms it names come out. -/

namespace Sys2Proof.Tests
open Sys2Proof.Machine
set_option maxRecDepth 100000
set_option Elab.async false

/-- A CAN message to spoil: base identifier 0x123, two data bytes. -/
def msg : CanMsg := ⟨0, false, 0x123, false, false, false, false, 0, 0, 0, [1, 2]⟩

theorem test_wellFormed_can : (Instr.canReceive 0 msg 0).wellFormed = true := by decide
theorem test_wellFormed_can_format : (Instr.canReceive 0 { msg with format := 3 } 0).wellFormed = false := by decide
theorem test_wellFormed_can_id : (Instr.canReceive 0 { msg with id := 0x800 } 0).wellFormed = false := by decide
theorem test_wellFormed_can_length : (Instr.canReceive 0 { msg with data := List.replicate 9 0 } 0).wellFormed = false := by decide
theorem test_wellFormed_can_fd_length :
    (Instr.canReceive 0 { msg with fdf := true, data := List.replicate 9 0 } 0).wellFormed = false := by decide
theorem test_wellFormed_can_xl_empty : (Instr.canReceive 0 { msg with format := 2, data := [] } 0).wellFormed = false := by decide
theorem test_wellFormed_lin_empty : (Instr.linFrameReceive 0 (.good []) 0).wellFormed = false := by decide
theorem test_wellFormed_wake : (Instr.wakeFrameDecode 0 (.good { msg with format := 3 } 0)).wellFormed = false := by decide
theorem test_wellFormed_pause : (Instr.pauseFrameReceive 0 false [some 65536]).wellFormed = false := by decide
theorem test_wellFormed_pfc : (Instr.pauseFrameReceive 0 true [some 1]).wellFormed = false := by decide
theorem test_wellFormed_rate : (Instr.linkUp 8 40000 false 0 false).wellFormed = false := by decide
theorem test_wellFormed_far : (Instr.farReply 0 [⟨0, List.replicate 17 0⟩]).wellFormed = false := by decide
theorem test_wellFormed_xmodem : (Instr.xmodemBlock [1] true false true true).wellFormed = false := by decide


/-! The shuttle's camera rewrite (chapter 05, worked example): its words, run one at a time. -/

/-- A job whose general register `k` holds `v`. -/
def withReg (k : Nat) (v : W32) : Job := { job0 with regs := job0.regs.set! k v }
/-- Register `k` of the job after command `c` runs the word `w` in it. -/
def after (w : Nat) (j : Job) (c : Instr) (k : Nat) : Option W32 :=
  match exec c (runs w j) with
  | .next t => (t.jobAt 0 0).map (fun j => j.reg k)
  | _ => none

theorem test_shuttle_movi : after 0x51000040 job0 (.latMovi 0 0) 4 = some 64 := by decide +kernel
theorem test_shuttle_andi : after 0x3554F000 (withReg 5 0xE01E) (.latAndi 0 0) 5 = some 0xE000 := by decide +kernel
theorem test_shuttle_ori : after 0x39540082 (withReg 5 0xE000) (.latOri 0 0) 5 = some 0xE082 := by decide +kernel
theorem test_shuttle_lui : after 0x55800018 job0 (.latLui 0 0) 6 = some 0x60000 := by decide +kernel
theorem test_shuttle_addi : after 0x3207FFBC (withReg 1 8064) (.latAddi 0 0) 8 = some 7996 := by decide +kernel

/-! The plane page (chapter 14, worked example). -/

/-- What a read by F0 answers. -/
def answers (a : Nat) (s : State) : Rsp × W32 := ((readReg (s.plain 0) a s).1, (readReg (s.plain 0) a s).2.1)

theorem test_plane_page_id : answers 0x40000 up = (.ok, 0x00040001) := by decide +kernel
theorem test_plane_page_caps : answers 0x40004 up = (.ok, 0x00004050) := by decide +kernel

/-! Equal-length entries on the shuttle (chapter 04, worked example): 10.20.30.40 from vertex 1. -/

/-- The key of an IPv4 item of facet 1 from vertex 1 at the left-aligned address `a`. -/
def ipv4Key (a : Nat) : BitVec 176 := BitVec.ofNat 176 (a * 2 ^ 96 + 1 * 2 ^ 128 + 1 * 2 ^ 144)
/-- The example's live CAM with the job entry at index `k`. -/
def shuttleCam (k : Nat) : Bank :=
  (((Bank.reset.setCam 7 (some ⟨ipv4Key 0x0A141E00, 24, 0, 1, 0⟩)).setCam 12 (some ⟨ipv4Key 0x0A140000, 16, 0, 2, 0⟩)).setCam k
    (some ⟨ipv4Key 0x0A141E00, 24, 2, 3, 0⟩))

theorem test_shuttle_lowest_index : ((shuttleCam 40).camLookup (ipv4Key 0x0A141E28)).map (·.1) = some 7 := by decide +kernel
theorem test_shuttle_staged_lower : ((shuttleCam 3).camLookup (ipv4Key 0x0A141E28)).map (·.1) = some 3 := by decide +kernel

/-! A published answer: FIPS 197 appendix C.1 (AES-128). -/

theorem test_aes128 :
    aesEnc ((List.range 16).map (BitVec.ofNat 8)) ((List.range 16).map (fun i => BitVec.ofNat 8 (17 * i)))
      = [0x69, 0xC4, 0xE0, 0xD8, 0x6A, 0x7B, 0x04, 0x30, 0xD8, 0xCD, 0xB7, 0x80, 0x70, 0xB4, 0xC5, 0x5A] := by decide +kernel
end Sys2Proof.Tests
end

