-- ==== Sys2Proof/Tests/Witness1.lean ====
section
/-! SUPPORT. Witnesses: for every statement with premises, concrete states and operands that meet all of them,
one group a clause; a comment names the clause. -/

namespace Sys2Proof.Tests
open Sys2Proof.Machine
set_option maxRecDepth 100000
set_option Elab.async false

/-- The premises of `Obligations.StepRunsTheFrontCommand` hold together, clause by clause. -/
theorem witness_StepRunsTheFrontCommand :
    -- StepRunsFront
    (stStepRunsFront.pending = [Instr.slewEnd]) ∧
    -- Idle
    (up.pending = []) := by
  and_intros <;> decide +kernel

/-- The premises of `Obligations.RefusedWritesChangeNothing` hold together, clause by clause. -/
theorem witness_RefusedWritesChangeNothing :
    -- Refused1
    (up.coreOn = true ∧ up.power.resetDue = false ∧ farWindow 1 = none ∧ 1 % 4 ≠ 0) ∧
    -- Refused2
    (up.coreOn = true ∧ up.power.resetDue = false ∧ farWindow 0xfffffffc = none ∧ 0xfffffffc % 4 = 0 ∧
      pageOf 0xfffffffc = none) ∧
    -- Refused3
    (up.coreOn = true ∧ up.power.resetDue = false ∧ farWindow 384 = none ∧ 384 % 4 = 0 ∧
      pageOf 384 = some (PageRef.mk PageKind.sys 0) ∧
      up.mayWrite (up.plain 1) (PageRef.mk PageKind.sys 0) (384 % 0x1000) = false) ∧
    -- Refused4
    (refused3.coreOn = true ∧ refused3.power.resetDue = false ∧ farWindow 0x60080 = none ∧ 0x60080 % 4 = 0 ∧
      pageOf 0x60080 = some (PageRef.mk PageKind.tbl 0) ∧
      refused3.mayWrite (refused3.plain 0) (PageRef.mk PageKind.tbl 0) (0x60080 % 0x1000) = true ∧
      (PageRef.mk PageKind.tbl 0).kind ≠ PageKind.aperture ∧
      refused3.lockedOut (refused3.plain 0) (PageRef.mk PageKind.tbl 0) (0x60080 % 0x1000) 0 = true) ∧
    -- Staged
    (armed.granted 0 384 0 = true ∧ 384 % 4 = 0 ∧ farWindow 384 = none ∧ 64 ≤ 384 % 0x1000 ∧ regRow 384 = some rowQuota ∧
      rowQuota.acc = RegAccess.rws ∧ armed.epoch.st ≠ CommitState.idle) := by
  and_intros <;> decide +kernel

/-- The premises of `Obligations.WritesTakeEffect` hold together, clause by clause. -/
theorem witness_WritesTakeEffect :
    -- Writes rws
    (up.granted 0 0x41080 0 = true ∧ 0x41080 % 4 = 0 ∧ pageOf 0x41080 = some (PageRef.mk PageKind.buf 0) ∧
      (PageRef.mk PageKind.buf 0).kind.storesOnly = true ∧ 64 ≤ 0x41080 % 0x1000 ∧ regRow 0x41080 = some rowFcap ∧
      rowFcap.pair = PairHalf.none ∧ up.epoch.st = CommitState.idle) ∧
    -- Writes rw
    (up.granted 0 0x41200 0 = true ∧ 0x41200 % 4 = 0 ∧ pageOf 0x41200 = some (PageRef.mk PageKind.buf 0) ∧
      (PageRef.mk PageKind.buf 0).kind.storesOnly = true ∧ 64 ≤ 0x41200 % 0x1000 ∧ regRow 0x41200 = some rowMcIndex ∧
      rowMcIndex.pair = PairHalf.none ∧ up.epoch.st = CommitState.idle) ∧
    -- Writes ro
    (up.granted 0 0x41040 0 = true ∧ 0x41040 % 4 = 0 ∧ pageOf 0x41040 = some (PageRef.mk PageKind.buf 0) ∧
      (PageRef.mk PageKind.buf 0).kind.storesOnly = true ∧ 64 ≤ 0x41040 % 0x1000 ∧ regRow 0x41040 = some rowCells ∧
      rowCells.pair = PairHalf.none ∧ up.epoch.st = CommitState.idle) ∧
    -- Pair lo
    (up.granted 0 0xf004c 3 = true ∧ 0xf004c % 4 = 0 ∧ pageOf 0xf004c = some (PageRef.mk PageKind.ethCommon 0) ∧
      (PageRef.mk PageKind.ethCommon 0).kind.storesOnly = true ∧ 64 ≤ 0xf004c % 0x1000 ∧ regRow 0xf004c = some rowMemLo ∧
      rowMemLo.pair = PairHalf.lo ∧ (rowMemLo.acc = RegAccess.rw ∨ rowMemLo.acc = RegAccess.rws) ∧
      up.epoch.st = CommitState.idle) ∧
    -- Pair hi
    (up.granted 0 0xf0050 3 = true ∧ 0xf0050 % 4 = 0 ∧ pageOf 0xf0050 = some (PageRef.mk PageKind.ethCommon 0) ∧
      (PageRef.mk PageKind.ethCommon 0).kind.storesOnly = true ∧ 64 ≤ 0xf0050 % 0x1000 ∧ regRow 0xf0050 = some rowMemHi ∧
      rowMemHi.pair = PairHalf.hi ∧ regRow (0xf0050 - 4) = some rowMemLo ∧ rowMemLo.acc = rowMemHi.acc ∧
      (rowMemHi.acc = RegAccess.rw ∨ rowMemHi.acc = RegAccess.rws) ∧ up.epoch.st = CommitState.idle ∧
      up.keyAt (PageRef.mk PageKind.ethCommon 0) 0 (0xf0050 - 4) ≠ up.keyAt (PageRef.mk PageKind.ethCommon 0) 0 0xf0050) := by
  and_intros <;> decide +kernel

/-- The premises of `Obligations.PairReadsLatch` hold together, clause by clause. -/
theorem witness_PairReadsLatch :
    -- Read lo rights
    (up.coreOn = true ∧ 0x20048 % 4 = 0 ∧ pageOf 0x20048 = some (PageRef.mk PageKind.loc 0) ∧
      (PageRef.mk PageKind.loc 0).kind ≠ PageKind.aperture ∧ (PageRef.mk PageKind.loc 0).kind ≠ PageKind.rng ∧
      regRow 0x20048 = some rowTimeLo ∧ rowTimeLo.pair = PairHalf.lo ∧
      up.mayRead (up.plain 1) (PageRef.mk PageKind.loc 0) (0x20048 % 0x1000) = false) ∧
    -- Read lo
    (up.coreOn = true ∧ 0x20048 % 4 = 0 ∧ pageOf 0x20048 = some (PageRef.mk PageKind.loc 0) ∧
      (PageRef.mk PageKind.loc 0).kind ≠ PageKind.aperture ∧ (PageRef.mk PageKind.loc 0).kind ≠ PageKind.rng ∧
      regRow 0x20048 = some rowTimeLo ∧ rowTimeLo.pair = PairHalf.lo ∧
      up.mayRead (up.plain 0) (PageRef.mk PageKind.loc 0) (0x20048 % 0x1000) = true ∧ 0x20048 % 0x1000 ≠ 32) ∧
    -- Read hi
    (latched1.readable 0 0x2004c = true ∧ 0x2004c % 4 = 0 ∧ pageOf 0x2004c = some (PageRef.mk PageKind.loc 0) ∧
      (PageRef.mk PageKind.loc 0).kind ≠ PageKind.aperture ∧
      (0x2004c % 0x1000 < 2048 ∨ (PageRef.mk PageKind.loc 0).kind ≠ PageKind.rng) ∧ 0x2004c % 0x1000 ≠ 32 ∧
      regRow 0x2004c = some rowTimeHi ∧ rowTimeHi.pair = PairHalf.hi ∧
      SMap.get none latched1.hiLatch (halfKey 0x2004c 0) = some 9) := by
  and_intros <;> decide +kernel

/-- The premises of `Obligations.CountersAndHeaders` hold together, clause by clause. -/
theorem witness_CountersAndHeaders :
    -- Counter
    (up.readable 0 0xc0200 = true ∧ 0xc0200 % 4 = 0 ∧ counterAt 0xc0200 = true ∧
      pageOf 0xc0200 = some (PageRef.mk PageKind.eth 0) ∧ (PageRef.mk PageKind.eth 0).kind = PageKind.eth) ∧
    -- Header fault
    (up.readable 0 (0x1000 * 0 + 32) = true ∧ pageOf (0x1000 * 0 + 32) = some (PageRef.mk PageKind.sys 0) ∧
      (PageRef.mk PageKind.sys 0).kind ≠ PageKind.aperture) ∧
    -- Header evraw
    (evset.granted 0 (0x1000 * 0 + 16) 5 = true ∧ pageOf (0x1000 * 0 + 16) = some (PageRef.mk PageKind.sys 0) ∧
      (PageRef.mk PageKind.sys 0).kind ≠ PageKind.aperture) ∧
    -- Header view
    (up.granted 3 A.sysStageView 1 = true) ∧
    -- Headers readable
    (pageOf (0x1000 * 0 + [0, 4, 48, 60].getD 3 0) = some (PageRef.mk PageKind.sys 0)) ∧
    -- Headers readable2
    (pageOf (0x1000 * 96 + [0, 4, 48, 60].getD 3 0) = some (PageRef.mk PageKind.tbl 0)) := by
  and_intros <;> decide +kernel

/-- The premises of `Obligations.PagesAreControlled` hold together, clause by clause. -/
theorem witness_PagesAreControlled :
    -- Page enable
    (up.granted 0 (0x1000 * 200 + 8) 0 = true ∧ pageOf (0x1000 * 200 + 8) = some (PageRef.mk PageKind.eth 8) ∧
      (PageRef.mk PageKind.eth 8).kind.gate = true ∧ tst 0 2 = false ∧ up.epoch.st = CommitState.idle) ∧
    -- Page enable armed
    (armed.granted 0 (0x1000 * 200 + 8) 0 = true ∧ pageOf (0x1000 * 200 + 8) = some (PageRef.mk PageKind.eth 8) ∧
      (PageRef.mk PageKind.eth 8).kind.gate = true ∧ tst 0 2 = false ∧ armed.epoch.st ≠ CommitState.idle ∧
      tst 0 0 ≠ tst (armed.stg ((PageRef.mk PageKind.eth 8).base + 8)) 0) ∧
    -- Quiesce
    (up.granted 0 (0x1000 * 200 + 8) (up.pageCtrlNow (0x1000 * 200) true 0) = true ∧
      pageOf (0x1000 * 200 + 8) = some (PageRef.mk PageKind.eth 8) ∧ (PageRef.mk PageKind.eth 8).kind.quiesce = true) ∧
    -- Soft eth
    (up.granted 0 (pageVertexBase 8 + 8) (up.pageCtrlNow (pageVertexBase 8) (tst (up.reg (pageVertexBase 8 + 8)) 1) 4) = true ∧
      pageOf (pageVertexBase 8 + 8) = some (PageRef.mk PageKind.eth 8) ∧ up.softReset = []) ∧
    -- Soft eth0
    (up.granted 0 (pageVertexBase 0 + 8) (up.pageCtrlNow (pageVertexBase 0) (tst (up.reg (pageVertexBase 0 + 8)) 1) 4) = true ∧
      pageOf (pageVertexBase 0 + 8) = some (PageRef.mk PageKind.eth 0) ∧ up.softReset = []) ∧
    -- Soft can
    (up.granted 0 (pageVertexBase 50 + 8) (up.pageCtrlNow (pageVertexBase 50) (tst (up.reg (pageVertexBase 50 + 8)) 1) 4) = true ∧
      pageOf (pageVertexBase 50 + 8) = some (PageRef.mk PageKind.can 2) ∧ up.softReset = []) ∧
    -- Soft lin
    (up.granted 0 (pageVertexBase 72 + 8) (up.pageCtrlNow (pageVertexBase 72) (tst (up.reg (pageVertexBase 72 + 8)) 1) 4) = true ∧
      pageOf (pageVertexBase 72 + 8) = some (PageRef.mk PageKind.lin 0) ∧ up.softReset = []) ∧
    -- Soft cell
    (up.granted 0 (0x82000 + 0x1000 * 35 + 8) (up.pageCtrlNow (0x82000 + 0x1000 * 35) (tst (up.reg (0x82000 + 0x1000 * 35 + 8)) 1) 4) = true ∧
      up.softReset = []) ∧
    -- Soft cell0
    (up.granted 0 (0x82000 + 0x1000 * 0 + 8) (up.pageCtrlNow (0x82000 + 0x1000 * 0) (tst (up.reg (0x82000 + 0x1000 * 0 + 8)) 1) 4) = true ∧
      up.softReset = []) ∧
    -- Soft end cell
    (stSoftendcell.on = true ∧ stSoftendcell.softReset.contains (0x1000 * 130) = true ∧
      pageOf (0x1000 * 130) = some (PageRef.mk PageKind.latCell 0) ∧
      (PageRef.mk PageKind.latCell 0).kind = PageKind.latCell ∧
      (∀ (c : Nat), c ∈ cellsOfPage (PageRef.mk PageKind.latCell 0).inst → (stSoftendcell.cell c).st ≠ CellState.checking ∧ (stSoftendcell.cell c).noDispatch = false)) ∧
    -- Soft end can
    (stSoftendcan.on = true ∧ stSoftendcan.softReset.contains (0x1000 * 257) = true ∧
      pageOf (0x1000 * 257) = some (PageRef.mk PageKind.can 0) ∧ (PageRef.mk PageKind.can 0).kind = PageKind.can ∧
      (∀ (q : Nat × Copy), q ∈ stSoftendcan.flying → q.fst ≠ 48 + (PageRef.mk PageKind.can 0).inst)) ∧
    -- Soft end can sending
    (stSoftendcansending.on = true ∧ stSoftendcansending.softReset.contains (0x1000 * 257) = true ∧
      pageOf (0x1000 * 257) = some (PageRef.mk PageKind.can 0)) ∧
    -- Soft end eth
    (stSoftendeth.on = true ∧ stSoftendeth.softReset.contains (0x1000 * 200) = true ∧
      pageOf (0x1000 * 200) = some (PageRef.mk PageKind.eth 8) ∧ (PageRef.mk PageKind.eth 8).kind = PageKind.eth ∧
      (∀ (q : Nat × Copy), q ∈ stSoftendeth.flying → q.fst ≠ (PageRef.mk PageKind.eth 8).inst)) ∧
    -- Soft end lin
    (stSoftendlin.on = true ∧ stSoftendlin.softReset.contains (0x1000 * 281) = true ∧
      pageOf (0x1000 * 281) = some (PageRef.mk PageKind.lin 0) ∧ (PageRef.mk PageKind.lin 0).kind = PageKind.lin ∧
      (∀ (q : Nat × Copy), q ∈ stSoftendlin.flying → q.fst ≠ 72 + 2 * (PageRef.mk PageKind.lin 0).inst ∧ q.fst ≠ 73 + 2 * (PageRef.mk PageKind.lin 0).inst)) := by
  and_intros <;> decide +kernel

/-- The premises of `Obligations.CommitsAreRequestedAndJudged` hold together, clause by clause. -/
theorem witness_CommitsAreRequestedAndJudged :
    -- Commit
    (up.granted 0 A.sysEpochCtrl 1 = true ∧ up.epoch.st = CommitState.idle ∧ up.highestEpoch ≠ 0xffffffff) ∧
    -- CommitAt
    (up.granted 0 A.sysEpochCtrl 3 = true ∧ up.epoch.st = CommitState.idle ∧ up.highestEpoch ≠ 0xffffffff) ∧
    -- Cancel
    (armed.granted 0 A.sysEpochCtrl 4 = true ∧ (armed.epoch.st = CommitState.armed ∨ armed.epoch.st = CommitState.deferred)) ∧
    -- Commit2
    (armed.granted 0 A.sysEpochCtrl 1 = true ∧ armed.epoch.st ≠ CommitState.idle) ∧
    -- OnlyF0
    (3 ≠ 0 ∧ armed.granted 3 A.sysEpochCtrl 1 = true) := by
  and_intros <;> decide +kernel

/-- The premises of `Obligations.CommitsSwitchEpochs` hold together, clause by clause. -/
theorem witness_CommitsSwitchEpochs :
    -- Takes effect
    (armed.on = true ∧ armed.epoch.st = CommitState.armed ∧ armed.epoch.due ≤ armed.locus ∧ armed.epoch.draining = none) ∧
    -- Deferred
    (deferredBy.on = true ∧ deferredBy.epoch.st = CommitState.armed ∧ deferredBy.epoch.due ≤ deferredBy.locus ∧
      deferredBy.epoch.draining = some 3) ∧
    -- Retire
    (draining3.on = true ∧ draining3.epoch.draining = some 3 ∧ draining3.itemsOf 3 = 0 ∧
      draining3.epoch.st ≠ CommitState.deferred) ∧
    -- Discard
    (draining3l.on = true ∧ draining3l.epoch.draining = some 3 ∧ draining3l.epoch.drainStart + 10000000 ≤ draining3l.now ∧
      draining3l.epoch.st ≠ CommitState.deferred) ∧
    -- CopyForward
    (up.coreOn = true) := by
  and_intros <;> decide +kernel

/-- The premises of `Obligations.ProcessorRestarts` hold together, clause by clause. -/
theorem witness_ProcessorRestarts :
    -- Lockstep
    (up.mpOn = true) ∧
    -- Lockstep3
    (stLockstep3.mpOn = true) ∧
    -- MpRestarted
    (restarting.coreOn = true ∧ restarting.mp = MpState.restarting) := by
  and_intros <;> decide +kernel

/-- The premises of `Obligations.LocusFollowsItsMaster` hold together, clause by clause. -/
theorem witness_LocusFollowsItsMaster :
    -- LocRate
    (servoOff.granted 0 A.locRate 5 = true ∧ tst (servoOff.reg A.locCtrl) 0 = false) ∧
    -- LocRate hold
    (stLocRatehold.granted 0 A.locRate 5 = true ∧ tst (stLocRatehold.reg A.locCtrl) 0 = false) ∧
    -- PhaseAdjust
    (servoOff.granted 0 A.locAdjNs 999 = true ∧ tst (servoOff.reg A.locCtrl) 0 = false ∧ sx 32 999 ≤ 0x3b9ac9ff ∧
      -0x3b9ac9ff ≤ sx 32 999 ∧
      (servoOff.judge ((sx 32 (BitVec.toNat (servoOff.reg A.locAdjSec)) * 1000000000 + sx 32 999) * 0x10000)).fst = Correction.slewed) ∧
    -- DevEpochHi
    (up.granted 0 A.locDevEpochHi 5 = true ∧ up.loc.st = LocusState.free) ∧
    -- DevEpoch conflict hi
    ((locking.granted 0 (if true = true then A.locDevEpochHi else A.locDevEpochLo) 5 = true) ∧
      locking.loc.st ≠ LocusState.free) ∧
    -- DevEpoch conflict lo
    ((locking.granted 0 (if false = true then A.locDevEpochHi else A.locDevEpochLo) 5 = true) ∧
      locking.loc.st ≠ LocusState.free) ∧
    -- ForceHold
    (locking.granted 0 A.locCtrl 3 = true ∧ tst 3 1 = true ∧
      (locking.loc.st = LocusState.locking ∨ locking.loc.st = LocusState.locked)) ∧
    -- HoldCause
    (2 ≠ 0 ∧ tenantReads.readable 2 A.locStatus = true) ∧
    -- Sync
    (domSlave.mpOn = true ∧ domSlave.domOn 0 = true ∧ (domSlave.dom 0).role = 2) ∧
    -- Announce
    (dom0.mpOn = true ∧ dom0.domOn 0 = true ∧ dom0.domPort 0 8 = true ∧ (dom0.dom 0).best = none ∧
      tst (dom0.cfg (A.locDomCtrl 0)) 2 = false) ∧
    -- AnnounceTimeout
    (domMaster.mpOn = true ∧ domMaster.domOn 0 = true ∧ (domMaster.dom 0).best = some (AnnounceSet.mk [] 5 0 8 0) ∧
      domMaster.announceDue 0 (AnnounceSet.mk [] 5 0 8 0).at_ = true) ∧
    -- Pdelay
    (dom0.mpOn = true) ∧
    -- DelayResp
    (stDelayResp.mpOn = true ∧ stDelayResp.domOn 0 = true ∧ stDelayResp.domPort 0 8 = true ∧ stDelayResp.dom1588 0 = true) ∧
    -- PtpTx
    (stPtpTx.mpOn = true ∧ stPtpTx.domOn 0 = true ∧ stPtpTx.domPort 0 8 = true ∧
      SMap.get 0 (stPtpTx.dom 0).tx (8 * 4 + 0) + logInterval (fld (stPtpTx.cfg (A.locDomIntervals 0)) (8 * 0) 8) ≤ stPtpTx.now ∧
      (0 < 2 ∧ (stPtpTx.dom 0).role = 3 ∨ 0 = 2 ∧ stPtpTx.dom1588 0 = false)) ∧
    -- PtpTx2
    (stPtpTx2.mpOn = true ∧ stPtpTx2.domOn 0 = true ∧ stPtpTx2.domPort 0 8 = true ∧
      SMap.get 0 (stPtpTx2.dom 0).tx (8 * 4 + 2) + logInterval (fld (stPtpTx2.cfg (A.locDomIntervals 0)) (8 * 2) 8) ≤ stPtpTx2.now ∧
      (2 < 2 ∧ (stPtpTx2.dom 0).role = 3 ∨ 2 = 2 ∧ stPtpTx2.dom1588 0 = false)) ∧
    -- SlewEnd
    (slewing.loc.slewing = true ∧ slewing.loc.slew = 0) := by
  and_intros <;> decide +kernel

/-- The premises of `Obligations.StampsAndPulses` hold together, clause by clause. -/
theorem witness_StampsAndPulses :
    -- TxqSel
    (stTxqSel.granted 2 (A.locTxqSel 2) 8 = true ∧ stTxqSel.live.bound (fld 8 0 7) = 2) ∧
    -- TxqSel0
    (up.granted 0 (A.locTxqSel 0) 8 = true ∧ up.live.bound (fld 8 0 7) = 0) ∧
    -- TxqSel rights
    (up.granted 2 (A.locTxqSel 2) 8 = true ∧ 2 ≠ 0 ∧ up.live.bound (fld 8 0 7) ≠ 2) ∧
    -- TxqPop
    (txq1.granted 2 (A.locTxqPop 2) 1 = true ∧ tst 1 0 = true ∧
      (txq1.txQueue (fld (txq1.reg (A.locTxqSel 2)) 0 7)).entries = [TxStamp.mk 1 2 3 false]) ∧
    -- TxqUnder
    (txq0.granted 2 (A.locTxqPop 2) 1 = true ∧ tst 1 0 = true ∧
      (txq0.txQueue (fld (txq0.reg (A.locTxqSel 2)) 0 7)).entries = []) ∧
    -- CapPop
    (capQ.granted 0 (A.locCapPop 1) 1 = true ∧ tst 1 0 = true ∧ (capQ.cap 1).fifo = [CapStamp.mk 5 true]) ∧
    -- CapUnder
    (up.granted 0 (A.locCapPop 1) 1 = true ∧ tst 1 0 = true ∧ (up.cap 1).fifo = []) ∧
    -- SoAssert
    (so0.on = true ∧ (so0.live.syncCfg 0).mode = 1 ∧ (SMap.get SyncOut.reset so0.syncs 0).active = false ∧
      (so0.live.syncCfg 0).start + (SMap.get SyncOut.reset so0.syncs 0).next * (so0.live.syncCfg 0).period ≤ so0.locus ∧
      so0.quieted (so0.live.syncCfg 0) = false ∧ (0 < 12 ∨ so0.yields = false)) ∧
    -- SoRelease
    (so0on.on = true ∧ (SMap.get SyncOut.reset so0on.syncs 0).active = true ∧
      (SMap.get SyncOut.reset so0on.syncs 0).release ≤ so0on.locus) ∧
    -- CapEdge
    (cap0.on = true ∧ tst (cap0.cfg (A.locCapCtrl 0)) 0 = true ∧
      (tst (cap0.cfg (A.locCapCtrl 0)) (if true = true then 1 else 2) = true) ∧ tst (cap0.cfg (A.locCapCtrl 0)) 7 = false ∧
      fld (cap0.cfg (A.locCapCtrl 0)) 3 4 * 10 ≤ 100 ∧ (cap0.cap 0).fifo.length < 16 ∧ cap0.loc.st ≠ LocusState.apex) ∧
    -- CapFull
    (cap0full.on = true ∧ tst (cap0full.cfg (A.locCapCtrl 0)) 0 = true ∧
      (tst (cap0full.cfg (A.locCapCtrl 0)) (if true = true then 1 else 2) = true) ∧
      tst (cap0full.cfg (A.locCapCtrl 0)) 7 = false ∧ fld (cap0full.cfg (A.locCapCtrl 0)) 3 4 * 10 ≤ 100 ∧
      16 ≤ (cap0full.cap 0).fifo.length ∧ cap0full.loc.st ≠ LocusState.apex ∧ cap0full.jrn.lostStaging = 0 ∧
      entryCount cap0full.jrn.staging + 8 ≤ 0x2000) := by
  and_intros <;> decide +kernel

/-- The premises of `Obligations.PlanesCarryAndRetire` hold together, clause by clause. -/
theorem witness_PlanesCarryAndRetire :
    -- PlaneTransfer
    (stPlaneTransfer.coreOn = true ∧ stPlaneTransfer.plane.inService.contains 1 = true ∧
      nextCopy (stPlaneTransfer.planeIn 1) = some (c7, []) ∧ c7.cut = false ∧ c7.stomp ≠ Stomp.orDrop ∧
      stPlaneTransfer.merges c7.item.epoch c7.egress = false ∧
      (∀ (x : Nat × Nat), x ∈ stPlaneTransfer.cellDue → x.fst ≠ c7.src)) ∧
    -- MarkerAck
    (stMarkerAck.coreOn = true ∧ stMarkerAck.moveTarget 5 = some 2 ∧
      (∀ (p : Nat), p < 5 → ∀ (c : Copy), c ∈ stMarkerAck.planeIn p → c.held = false → bucketOf c.item.flow c.egress ≠ 5)) ∧
    -- MarkerTimeout
    (stMarkerTimeout.coreOn = true ∧ stMarkerTimeout.plane.move = some (PlaneMove.mk true 1 [(5, 2)] 0 0 0) ∧
      (PlaneMove.mk true 1 [(5, 2)] 0 0 0).since + 8000 ≤ stMarkerTimeout.now ∧ stMarkerTimeout.moveTarget 5 = some 2) ∧
    -- PlaneFault
    (up.coreOn = true ∧ up.planeGoing 1 = false ∧ up.plane.move = none ∧ up.bucketsOn 1 ≠ [] ∧
      (∃ q, q < 5 ∧ q ≠ 1 ∧ up.plane.inService.contains q = true)) ∧
    -- PlaneFault2
    (stMarkerAck.coreOn = true ∧ stMarkerAck.planeGoing 2 = false ∧ stMarkerAck.plane.move.isSome = true) ∧
    -- ForceRetire
    (up.granted 0 A.plnForceRetire 257 = true ∧ tst 257 8 = true ∧ up.plane.retired = [] ∧ up.plane.move = none ∧
      up.planeGoing (fld 257 0 3) = false ∧ up.bucketsOn (fld 257 0 3) ≠ [] ∧
      (∃ q, q < 5 ∧ q ≠ fld 257 0 3 ∧ up.plane.inService.contains q = true)) ∧
    -- PlnMove
    (up.granted 0 A.plnMove 0x12005 = true ∧ tst 0x12005 16 = true ∧ up.plane.move = none ∧
      up.plane.inService.contains (fld 0x12005 12 3) = true) ∧
    -- PlnMove rights
    (up.granted 3 A.plnMove 0x12005 = true ∧ 3 ≠ 0 ∧ tst 0x12005 16 = true) ∧
    -- Resync
    (stResync.on = true ∧ (stResync.crossing 8).gray = true) ∧
    -- CrossTimeout
    (stCrossTimeout.coreOn = true ∧ stCrossTimeout.offers 8 = some 3 ∧ (stCrossTimeout.crossing 8).waking = none) ∧
    -- Stall
    (stCrossTimeout.coreOn = true ∧ stCrossTimeout.offers 8 = some 3 ∧ stCrossTimeout.queue 8 3 = [cpy (itm 9 []) 8 3]) := by
  and_intros <;> decide +kernel

/-- The premises of `Obligations.FramesArrive` hold together, clause by clause. -/
theorem witness_FramesArrive :
    -- Frame
    (stFrame.takesFrame 8 (List.replicate 60 1) 0 fine = true ∧ fine.badDynamic = false ∧
      resAction (((stampItem 8 0 (List.replicate 60 1) ((List.replicate 60 1).length + 4) stFrame).snd.bankOf (stFrame.frameItem 8 (List.replicate 60 1) 0).epoch).classify (stFrame.frameItem 8 (List.replicate 60 1) 0)).res = 0 ∧
      ((stampItem 8 0 (List.replicate 60 1) ((List.replicate 60 1).length + 4) stFrame).snd.bankOf (stFrame.frameItem 8 (List.replicate 60 1) 0).epoch).dests (resGroup (((stampItem 8 0 (List.replicate 60 1) ((List.replicate 60 1).length + 4) stFrame).snd.bankOf (stFrame.frameItem 8 (List.replicate 60 1) 0).epoch).classify (stFrame.frameItem 8 (List.replicate 60 1) 0)).res) (resDest (((stampItem 8 0 (List.replicate 60 1) ((List.replicate 60 1).length + 4) stFrame).snd.bankOf (stFrame.frameItem 8 (List.replicate 60 1) 0).epoch).classify (stFrame.frameItem 8 (List.replicate 60 1) 0)).res) 8 = some [9] ∧
      [9] ≠ []) ∧
    -- Frame job
    (stFramejob.takesFrame 8 (List.replicate 60 1) 0 fine = true ∧ fine.badDynamic = false ∧
      resAction (((stampItem 8 0 (List.replicate 60 1) ((List.replicate 60 1).length + 4) stFramejob).snd.bankOf (stFramejob.frameItem 8 (List.replicate 60 1) 0).epoch).classify (stFramejob.frameItem 8 (List.replicate 60 1) 0)).res = 2) ∧
    -- Frame refused
    (stFramerefused.on = true ∧ 8 < 48 ∧ stFramerefused.macOn 8 = true ∧ (stFramerefused.ethSt 8).linkUp = true ∧
      fine.collided = false ∧ beAt (List.replicate 60 1) 12 2 ≠ 0x8808 ∧
      (stampItem 8 0 (List.replicate 60 1) ((List.replicate 60 1).length + 4) stFramerefused).snd.arrivalLost fine.fifoRoom = none ∧
      (((stampItem 8 0 (List.replicate 60 1) ((List.replicate 60 1).length + 4) stFramerefused).snd.inputRefused (stampItem 8 0 (List.replicate 60 1) ((List.replicate 60 1).length + 4) stFramerefused).fst).isSome = true ∨ (List.replicate 60 1).length + 4 < 64)) ∧
    -- Frame short
    (stFrameshort.on = true ∧ 8 < 48 ∧ stFrameshort.macOn 8 = true ∧ (stFrameshort.ethSt 8).linkUp = true ∧
      fine.collided = false ∧ beAt (List.replicate 30 1) 12 2 ≠ 0x8808 ∧
      (stampItem 8 0 (List.replicate 30 1) ((List.replicate 30 1).length + 4) stFrameshort).snd.arrivalLost fine.fifoRoom = none ∧
      (((stampItem 8 0 (List.replicate 30 1) ((List.replicate 30 1).length + 4) stFrameshort).snd.inputRefused (stampItem 8 0 (List.replicate 30 1) ((List.replicate 30 1).length + 4) stFrameshort).fst).isSome = true ∨ (List.replicate 30 1).length + 4 < 64)) ∧
    -- Frame mac
    (stFrameshort.on = true ∧ 8 < 48 ∧ stFrameshort.macOn 8 = true ∧ (stFrameshort.ethSt 8).linkUp = true ∧
      fine.badFcs = false ∧ 60 ≤ (List.replicate 12 0 ++ [136, 8, 0, 1] ++ List.replicate 44 0).length ∧
      (List.replicate 12 0 ++ [136, 8, 0, 1] ++ List.replicate 44 0).length + 4 ≤ stFrameshort.live.maxFrame 8 ∧
      beAt (List.replicate 12 0 ++ [136, 8, 0, 1] ++ List.replicate 44 0) 12 2 = 0x8808) ∧
    -- Frame bus can
    (stFramebuscan.takesMessage 48 (List.replicate 32 0) 0 fine = true ∧ fine.badDynamic = false ∧
      resAction (((stampItem 48 0 (List.replicate 32 0) (List.replicate 32 0).length stFramebuscan).snd.bankOf (stFramebuscan.busItem 48 (List.replicate 32 0) 0).epoch).classify (stFramebuscan.busItem 48 (List.replicate 32 0) 0)).res = 0 ∧
      ((stampItem 48 0 (List.replicate 32 0) (List.replicate 32 0).length stFramebuscan).snd.bankOf (stFramebuscan.busItem 48 (List.replicate 32 0) 0).epoch).dests (resGroup (((stampItem 48 0 (List.replicate 32 0) (List.replicate 32 0).length stFramebuscan).snd.bankOf (stFramebuscan.busItem 48 (List.replicate 32 0) 0).epoch).classify (stFramebuscan.busItem 48 (List.replicate 32 0) 0)).res) (resDest (((stampItem 48 0 (List.replicate 32 0) (List.replicate 32 0).length stFramebuscan).snd.bankOf (stFramebuscan.busItem 48 (List.replicate 32 0) 0).epoch).classify (stFramebuscan.busItem 48 (List.replicate 32 0) 0)).res) 48 = some [9] ∧
      [9] ≠ []) ∧
    -- Frame bus lin
    (stFramebuslin.takesMessage 83 (List.replicate 32 0) 0 fine = true ∧ fine.badDynamic = false ∧
      resAction (((stampItem 83 0 (List.replicate 32 0) (List.replicate 32 0).length stFramebuslin).snd.bankOf (stFramebuslin.busItem 83 (List.replicate 32 0) 0).epoch).classify (stFramebuslin.busItem 83 (List.replicate 32 0) 0)).res = 0 ∧
      ((stampItem 83 0 (List.replicate 32 0) (List.replicate 32 0).length stFramebuslin).snd.bankOf (stFramebuslin.busItem 83 (List.replicate 32 0) 0).epoch).dests (resGroup (((stampItem 83 0 (List.replicate 32 0) (List.replicate 32 0).length stFramebuslin).snd.bankOf (stFramebuslin.busItem 83 (List.replicate 32 0) 0).epoch).classify (stFramebuslin.busItem 83 (List.replicate 32 0) 0)).res) (resDest (((stampItem 83 0 (List.replicate 32 0) (List.replicate 32 0).length stFramebuslin).snd.bankOf (stFramebuslin.busItem 83 (List.replicate 32 0) 0).epoch).classify (stFramebuslin.busItem 83 (List.replicate 32 0) 0)).res) 83 = some [9] ∧
      [9] ≠ []) ∧
    -- Line
    (up.on = true ∧ fine.badFcs = false ∧ [65, 10].length ≤ 320 ∧ up.lineBytes + [65, 10].length ≤ 2048 ∧
      (stampItem 84 0 [65, 10] [65, 10].length up).snd.inputRefused (stampItem 84 0 [65, 10] [65, 10].length up).fst = none) := by
  and_intros <;> decide +kernel

/-- The premises of `Obligations.EgressActs` hold together, clause by clause. -/
theorem witness_EgressActs :
    -- Egress internal
    (stEgressinternal.coreOn = true ∧ 96 ≤ 97 ∧ 97 ≤ 98 ∧ 3 < 8 ∧ stEgressinternal.queue 97 3 = [c7] ∧
      (∀ (d : Nat), d < 8 → 3 < d → stEgressinternal.queue 97 d = [])) ∧
    -- Egress internal98
    (stEgressinternal98.coreOn = true ∧ 96 ≤ 98 ∧ 98 ≤ 98 ∧ 0 < 8 ∧ stEgressinternal98.queue 98 0 = [c7] ∧
      (∀ (d : Nat), d < 8 → 0 < d → stEgressinternal98.queue 98 d = [])) ∧
    -- Egress internal96
    (stEgressinternal96.coreOn = true ∧ 96 ≤ 96 ∧ 96 ≤ 98 ∧ 7 < 8 ∧ stEgressinternal96.queue 96 7 = [c7] ∧
      (∀ (d : Nat), d < 8 → 7 < d → stEgressinternal96.queue 96 d = [])) ∧
    -- Opportunity
    (stOpportunity.coreOn = true ∧ 8 < 40 ∧ (stOpportunity.out 8).tx = none ∧ (stOpportunity.out 8).suspended = none ∧
      (stOpportunity.out 8).merge = [] ∧ stOpportunity.mayStart 8 = true ∧ stOpportunity.quiescing 8 = false ∧ 3 < 8 ∧
      stOpportunity.queue 8 3 = [c7] ∧ (∀ (d : Nat), d < 8 → 3 < d → stOpportunity.queue 8 d = []) ∧ c7.outIdx = none ∧
      (∀ (o : PtpOut), o ∈ stOpportunity.ptpOut → o.uid ≠ c7.item.uid) ∧ stOpportunity.paused 8 3 = false ∧
      (stOpportunity.bankOf c7.item.epoch).gated 8 = false ∧ (stOpportunity.bankOf c7.item.epoch).shapes 8 3 = false ∧
      tst ((stOpportunity.bankOf c7.item.epoch).regs.read (selKey A.qMode 8)) 3 = false ∧
      stOpportunity.merges c7.item.epoch 8 = false ∧
      tst ((stOpportunity.bankOf c7.item.epoch).regs.read (A.ethPortVlan 8)) 19 = false ∧
      tst ((stOpportunity.bankOf c7.item.epoch).regs.read (A.ethSecCtrl 8)) 0 = false) ∧
    -- Gate
    (gateOn.coreOn = true ∧ gateOn.live.gated 8 = true) ∧
    -- Verify
    (verifies.on = true ∧ 8 < 24 ∧ tst (verifies.cfg (selKey A.qMode 8)) 3 = true ∧
      tst (verifies.cfg (selKey A.qMode 8)) 4 = false ∧ (verifies.ethSt 8).linkUp = true) ∧
    -- Verify no
    (verifies.on = true ∧ 8 < 24 ∧ tst (verifies.cfg (selKey A.qMode 8)) 3 = true ∧
      tst (verifies.cfg (selKey A.qMode 8)) 4 = false ∧ (verifies.ethSt 8).linkUp = true) ∧
    -- Aged
    (stAged.coreOn = true) := by
  and_intros <;> decide +kernel

/-- The premises of `Obligations.TableCommandsRun` hold together, clause by clause. -/
theorem witness_TableCommandsRun :
    -- Tbl search
    (searching.holds (portLock 0) 0 = true ∧ searching.cmd 0 = none ∧ searching.tagOk 0 = true ∧
      searching.granted 0 (A.tblCmdOp 0) (opWord 1 true true) = true ∧ (true = true ∨ searching.rebuilding = false) ∧
      hashKeyOk (searching.portHash 0) = true ∧
      (searching.cmdBank true).hashFind (searching.portHash 0) = some (seqH, entry0) ∧ sees 0 (resOwner entry0.res) = true) ∧
    -- Tbl search s
    (searching.holds (portLock 0) 0 = true ∧ searching.cmd 0 = none ∧ searching.tagOk 0 = true ∧
      searching.granted 0 (A.tblCmdOp 0) (opWord 1 true false) = true ∧ (false = true ∨ searching.rebuilding = false) ∧
      hashKeyOk (searching.portHash 0) = true ∧
      (searching.cmdBank false).hashFind (searching.portHash 0) = some (seqH, entry0) ∧ sees 0 (resOwner entry0.res) = true) ∧
    -- Tbl read
    (stTblread.holds (portLock 0) 0 = true ∧ stTblread.cmd 0 = none ∧ stTblread.tagOk 0 = true ∧
      stTblread.granted 0 (A.tblCmdOp 0) (opWord 6 false true) = true ∧ fld (stTblread.reg (A.tblCmdIndex 0)) 0 18 = 0 ∧
      0 < 0x8000 ∧ (stTblread.cmdBank true).camAt 0 = some camE ∧ sees 0 (resOwner camE.res) = true) ∧
    -- Tbl next none
    (stTblnextnone.holds (portLock 0) 0 = true ∧ stTblnextnone.cmd 0 = none ∧ stTblnextnone.tagOk 0 = true ∧
      stTblnextnone.granted 0 (A.tblCmdOp 0) (opWord 5 false true) = true ∧ (stTblnextnone.cmdBank true).cam = []) ∧
    -- Tbl next
    (stTblread.holds (portLock 0) 0 = true ∧ stTblread.cmd 0 = none ∧ stTblread.tagOk 0 = true ∧
      stTblread.granted 0 (A.tblCmdOp 0) (opWord 5 false true) = true ∧ (stTblread.cmdBank true).cam = [(0, some camE)] ∧
      fld (stTblread.reg (A.tblCmdIndex 0)) 0 18 ≤ 0 ∧ sees 0 (resOwner camE.res) = true) ∧
    -- Tbl insert
    (inserting.holds (portLock 0) 0 = true ∧ inserting.cmd 0 = none ∧ inserting.tagOk 0 = true ∧
      inserting.epoch.st = CommitState.idle ∧ inserting.rebuilding = false ∧
      inserting.granted 0 (A.tblCmdOp 0) (opWord 2 true false) = true ∧ resAction (inserting.portRes 0) ≤ 4 ∧
      hashKeyOk (inserting.portHash 0) = true ∧ inserting.hashMine 0 (inserting.portHash 0) = true ∧
      inserting.staging.hashFind (inserting.portHash 0) = none ∧
      inserting.staging.placeStatic (HashEntry.mk (inserting.portHash 0) (resStored (inserting.portRes 0) 0) 0) = some (seqH, inserting.staging.setHash seqH (some (HashEntry.mk 4 (resStored 0 0) 0)))) ∧
    -- Tbl update
    (searching.holds (portLock 0) 0 = true ∧ searching.cmd 0 = none ∧ searching.tagOk 0 = true ∧
      searching.epoch.st = CommitState.idle ∧ searching.rebuilding = false ∧
      searching.granted 0 (A.tblCmdOp 0) (opWord 3 true false) = true ∧ resAction (searching.portRes 0) ≤ 4 ∧
      hashKeyOk (searching.portHash 0) = true ∧ searching.staging.hashFind (searching.portHash 0) = some (seqH, entry0) ∧
      sees 0 (resOwner entry0.res) = true ∧ searching.hashMine 0 (searching.portHash 0) = true) ∧
    -- Tbl delete
    (searching.holds (portLock 0) 0 = true ∧ searching.cmd 0 = none ∧ searching.tagOk 0 = true ∧
      searching.epoch.st = CommitState.idle ∧ searching.rebuilding = false ∧
      searching.granted 0 (A.tblCmdOp 0) (opWord 4 true false) = true ∧ hashKeyOk (searching.portHash 0) = true ∧
      searching.staging.hashFind (searching.portHash 0) = some (seqH, entry0) ∧ sees 0 (resOwner entry0.res) = true ∧
      searching.hashMine 0 (searching.portHash 0) = true) ∧
    -- Tbl flush
    (stTblflush.holds (portLock 0) 0 = true ∧ stTblflush.cmd 0 = none ∧ stTblflush.tagOk 0 = true ∧
      stTblflush.epoch.st = CommitState.idle ∧ stTblflush.rebuilding = false ∧
      stTblflush.granted 0 (A.tblCmdOp 0) (opWord 7 true false) = true ∧
      (0 = 0 ∨ stTblflush.bound (fld (stTblflush.reg (A.tblCmdAux 0)) 0 7) = 0)) ∧
    -- Tbl clearreq
    (stTblclearreq.holds (portLock 0) 0 = true ∧ stTblclearreq.cmd 0 = none ∧ stTblclearreq.tagOk 0 = true ∧
      stTblclearreq.epoch.st = CommitState.idle ∧ stTblclearreq.rebuilding = false ∧
      stTblclearreq.granted 0 (A.tblCmdOp 0) (opWord 8 true false) = true ∧ 0 = 0) ∧
    -- Tbl complete
    (running0.coreOn = true ∧ running0.cmd 0 = some cmd0 ∧ cmd0.flush = none) ∧
    -- Tbl complete flush
    (stTblcompleteflush.coreOn = true ∧
      stTblcompleteflush.cmd 0 = some (PortCmd.mk cmd0.facet cmd0.tag cmd0.code cmd0.result cmd0.index cmd0.mask cmd0.res cmd0.key cmd0.count (some 8)) ∧
      (PortCmd.mk cmd0.facet cmd0.tag cmd0.code cmd0.result cmd0.index cmd0.mask cmd0.res cmd0.key cmd0.count (some 8)).flush = some 8) ∧
    -- Seed
    (up.granted 0 A.tblHashSeed 7 = true ∧ up.epoch.st = CommitState.idle) ∧
    -- Rebuilt
    (stRebuilt.coreOn = true ∧ stRebuilt.rebuilding = true) := by
  and_intros <;> decide +kernel

/-- The premises of `Obligations.TablesAreKept` hold together, clause by clause. -/
theorem witness_TablesAreKept :
    -- Learn
    (learning.coreOn = true ∧ learning.learnQ = [LearnReq.mk (itm 8 (List.replicate 60 1)) 0] ∧
      learning.live.hashFind (bridgeKey (LearnReq.mk (itm 8 (List.replicate 60 1)) 0).fid (slice (LearnReq.mk (itm 8 (List.replicate 60 1)) 0).item.data 6 6)) = none ∧
      learning.learnUse (learning.bound (LearnReq.mk (itm 8 (List.replicate 60 1)) 0).item.vertex) < fld (learning.cfg (A.tblLearnCap (learning.bound (LearnReq.mk (itm 8 (List.replicate 60 1)) 0).item.vertex))) 0 18 ∧
      learning.live.placeDyn (HashEntry.mk (bridgeKey (LearnReq.mk (itm 8 (List.replicate 60 1)) 0).fid (slice (LearnReq.mk (itm 8 (List.replicate 60 1)) 0).item.data 6 6)) (BitVec.ofNat 64 ((LearnReq.mk (itm 8 (List.replicate 60 1)) 0).item.vertex % 128 * 2 ^ 47 + 2 ^ 10)) 255) = some ((learning.live.placeDyn (HashEntry.mk (bridgeKey 0 (slice (List.replicate 60 1) 6 6)) (BitVec.ofNat 64 (8 * 2 ^ 47 + 2 ^ 10)) 255)).getD Bank.reset)) ∧
    -- Ageing none
    (stAgeingnone.coreOn = true ∧ stAgeingnone.ageDue = true ∧
      (∀ (p : Nat × Option HashEntry), p ∈ stAgeingnone.live.hash → ∀ (e : HashEntry), p.snd = some e → e.dyn = false)) ∧
    -- Ageing one
    (stAgeingone.coreOn = true ∧ stAgeingone.ageDue = true ∧ stAgeingone.live.hash = [(5, some dyn0)] ∧ dyn0.dyn = true ∧
      resHit dyn0.res = false ∧ stAgeingone.live.hashFind dyn0.key = some (5, dyn0)) ∧
    -- Shadow lost
    (stShadowlost.coreOn = true ∧ stShadowlost.live.shadowed StoreKind.cam 0 = true ∧
      stShadowlost.shadow.shadowed StoreKind.cam 0 = true) ∧
    -- Shadow differs
    (stShadowlost.coreOn = true ∧ stShadowlost.live.shadowed StoreKind.cam 0 = true ∧
      stShadowlost.shadow.shadowed StoreKind.cam 0 = true) ∧
    -- Repair drain
    (stRepairdrain.coreOn = true ∧ stRepairdrain.epoch.draining.isSome = true ∧
      stRepairdrain.drain.shadowed StoreKind.cam 0 = true ∧ stRepairdrain.drainShadow.shadowed StoreKind.cam 0 = true) ∧
    -- Repair dyn
    (stRepairdyn.coreOn = true ∧ stRepairdyn.live.hashAt 5 = some dyn0 ∧ dyn0.dyn = true) ∧
    -- Unblock
    (stUnblock.granted 0 A.tblSfUnblock 1 = true ∧ tst 1 0 = true) ∧
    -- Lost link fn
    (8 < 48 ∧ (flushes.ethSt 8).linkUp = true ∧
      pair (flushes.cfg A.tblFlushDownLo) (flushes.cfg A.tblFlushDownHi) / 2 ^ 8 % 2 = 1) ∧
    -- Lost link
    (flushes.on = true ∧ (flushes.ethSt 8).linkUp = true ∧
      pair (flushes.cfg A.tblFlushDownLo) (flushes.cfg A.tblFlushDownHi) / 2 ^ 8 % 2 = 1) := by
  and_intros <;> decide +kernel

/-- The premises of `Obligations.LocksAreLeases` hold together, clause by clause. -/
theorem witness_LocksAreLeases :
    -- L0
    (up.granted 0 (A.tblCmdLock 0) 16 = true ∧ up.lockOf (portLock 0) = none) ∧
    -- L1
    (stTblnextnone.granted 0 (A.tblCmdLock 0) 0 = true ∧ stTblnextnone.holds (portLock 0) 0 = true) ∧
    -- L2
    (stTblnextnone.granted 0 (A.tblCmdLock 0) 256 = true) ∧
    -- L3
    (stL3.on = true ∧ stL3.lockOf (portLock 0) = some (Lease.mk 0 100000000) ∧ (Lease.mk 0 100000000).deadline ≤ stL3.now) ∧
    -- L4
    (up.granted 0 (A.brgRcmdLock 0) 16 = true ∧ up.lockOf (portLock (4 + 0)) = none) ∧
    -- L5
    (stL5.granted 0 (A.brgRcmdLock 0) 0 = true ∧ stL5.holds (portLock (4 + 0)) 0 = true) ∧
    -- L6
    (stL5.granted 0 (A.brgRcmdLock 0) 256 = true) ∧
    -- L7
    (stL7.on = true ∧ stL7.lockOf (portLock (4 + 0)) = some (Lease.mk 0 100000000) ∧
      (Lease.mk 0 100000000).deadline ≤ stL7.now) ∧
    -- L8
    (pageOf (0x1000 * 0 + 60) = some (PageRef.mk PageKind.sys 0) ∧ (PageRef.mk PageKind.sys 0).kind ≠ PageKind.aperture ∧
      up.granted 0 (0x1000 * 0 + 60) 16 = true ∧ up.lockOf 0 = none) ∧
    -- L9
    (pageOf (0x1000 * 0 + 60) = some (PageRef.mk PageKind.sys 0) ∧ (PageRef.mk PageKind.sys 0).kind ≠ PageKind.aperture ∧
      stL9.granted 0 (0x1000 * 0 + 60) 0 = true ∧ stL9.holds 0 0 = true) ∧
    -- L10
    (pageOf (0x1000 * 0 + 60) = some (PageRef.mk PageKind.sys 0) ∧ (PageRef.mk PageKind.sys 0).kind ≠ PageKind.aperture ∧
      stL10.granted 0 (0x1000 * 0 + 60) 256 = true) ∧
    -- L11
    (stL11.coreOn = true ∧ stL11.lockOf 0 = some (Lease.mk 0 100000000) ∧ (Lease.mk 0 100000000).deadline ≤ stL11.now) := by
  and_intros <;> decide +kernel

/-- The premises of `Obligations.LatticeComputes` hold together, clause by clause. -/
theorem witness_LatticeComputes :
    -- Ar0
    (stAr0.issues 0 0 0 (mRd + mRa + mRb) j1 = true) ∧
    -- Ar1
    (stAr1.issues 0 0 1 (mRd + mRa + mRb) j1 = true) ∧
    -- Ar2
    (stAr2.issues 0 0 2 (mRd + mRa + mRb) j1 = true) ∧
    -- Ar3
    (stAr3.issues 0 0 3 (mRd + mRa + mRb) j1 = true) ∧
    -- Ar4
    (stAr4.issues 0 0 4 (mRd + mRa + mRb) j1 = true) ∧
    -- Ar5
    (stAr5.issues 0 0 5 (mRd + mRa + mRb) j1 = true) ∧
    -- Ar6
    (stAr6.issues 0 0 6 (mRd + mRa + mRb) j1 = true) ∧
    -- Ar7
    (stAr7.issues 0 0 7 (mRd + mRa + mRb) j1 = true) ∧
    -- Ar8
    (stAr8.issues 0 0 8 (mRd + mRa + mRb) j1 = true) ∧
    -- Im0
    (stIm0.issues 0 0 12 (mRd + mRa + mImm) j1 = true) ∧
    -- Im1
    (stIm1.issues 0 0 13 (mRd + mRa + mImm) j1 = true) ∧
    -- Im2
    (stIm2.issues 0 0 14 (mRd + mRa + mImm) j1 = true) ∧
    -- Im3
    (stIm3.issues 0 0 15 (mRd + mRa + mImm) j1 = true) ∧
    -- Im4
    (stIm4.issues 0 0 16 (mRd + mRa + 31) j1 = true) ∧
    -- Im5
    (stIm5.issues 0 0 17 (mRd + mRa + 31) j1 = true) ∧
    -- Im6
    (stIm6.issues 0 0 18 (mRd + mRa + 31) j1 = true) ∧
    -- Im7
    (stIm7.issues 0 0 20 (mRd + mImm) j1 = true) ∧
    -- Im8
    (stIm8.issues 0 0 21 (mRd + mImm) j1 = true) ∧
    -- Im9
    (stIm9.issues 0 0 11 (mRd + mRa) j1 = true) ∧
    -- Im10
    (stIm10.issues 0 0 37 mRd j1 = true) ∧
    -- Im11
    (stIm11.issues 0 0 26 (mRd + mWn) j1 = true) := by
  and_intros <;> decide +kernel

/-- The premises of `Obligations.LatticeFlags` hold together, clause by clause. -/
theorem witness_LatticeFlags :
    -- Cmp
    (stCmp.issues 0 0 9 (mRa + mRb) j1 = true) ∧
    -- Cmpi
    (stCmpi.issues 0 0 19 (mRa + mImm) j1 = true) ∧
    -- Srd S
    (stSrdS.issues 0 0 34 (mRd + mSize) j1 = true ∧ fSize (stSrdS.nextWord j1) < 3) ∧
    -- Xwait X
    (stXwaitX.issues 0 0 48 0 j1 = true ∧ (∀ (l : LookReq), l ∈ j1.looks → l.done = true)) := by
  and_intros <;> decide +kernel

/-- The premises of `Obligations.LatticeReachesMemory` hold together, clause by clause. -/
theorem witness_LatticeReachesMemory :
    -- Fld0
    (stFld0.issues 0 0 22 (mRd + mRa + mField) j1 = true ∧
      BitVec.toNat (stFld0.nextWord j1) / 2 ^ 13 % 32 + (BitVec.toNat (stFld0.nextWord j1) / 2 ^ 8 % 32 + 1) ≤ 32) ∧
    -- Fld1
    (stFld1.issues 0 0 23 (mRd + mRa + mField) j1 = true ∧
      BitVec.toNat (stFld1.nextWord j1) / 2 ^ 13 % 32 + (BitVec.toNat (stFld1.nextWord j1) / 2 ^ 8 % 32 + 1) ≤ 32) ∧
    -- Fld2
    (stFld2.issues 0 0 24 (mRd + mRa) j1 = true) ∧
    -- Fld3
    (stFld3.issues 0 0 10 (mRd + mRa + mRb + 15) j1 = true ∧ condOf j1.flags (fld (stFld3.nextWord j1) 0 4) = some false) ∧
    -- Fld4
    (stFld4.issues 0 0 25 (7 * 2 ^ 22 + mRa + mImm) j1 = true ∧
      j1.reg (fRa (stFld4.nextWord j1)) + BitVec.signExtend 32 (BitVec.extractLsb' 0 18 (stFld4.nextWord j1)) ≤ 255) ∧
    -- Fld5
    (stFld5.issues 0 0 49 (mRd + mImm) j1 = true ∧ metaOf j1 (BitVec.toNat (stFld5.nextWord j1) % 2 ^ 18) = some 64) ∧
    -- Mem0
    (stMem0.issues 0 0 27 (mRd + mWn + mSize + 255) j1 = true ∧ fSize (stMem0.nextWord j1) < 3 ∧
      j1.wptr[fld (stMem0.nextWord j1) 19 3]! + BitVec.toNat (stMem0.nextWord j1) % 256 + 2 ^ fSize (stMem0.nextWord j1) ≤ min 256 j1.req.item.len) ∧
    -- Mem1
    (stMem1.issues 0 0 29 (mRd + mRa + mSize + mOff) j1 = true ∧ fSize (stMem1.nextWord j1) < 3 ∧
      BitVec.toNat (j1.reg (fRa (stMem1.nextWord j1)) + BitVec.signExtend 32 (BitVec.extractLsb' 0 16 (stMem1.nextWord j1))) + 2 ^ fSize (stMem1.nextWord j1) ≤ 512) ∧
    -- Mem2
    (stMem2.issues 0 0 31 (mRd + mRa + mSize + mOff) j1 = true ∧ fSize (stMem2.nextWord j1) < 3 ∧
      BitVec.toNat (j1.reg (fRa (stMem2.nextWord j1)) + BitVec.signExtend 32 (BitVec.extractLsb' 0 16 (stMem2.nextWord j1))) + 2 ^ fSize (stMem2.nextWord j1) ≤ 2048 ∧
      BitVec.toNat (j1.reg (fRa (stMem2.nextWord j1)) + BitVec.signExtend 32 (BitVec.extractLsb' 0 16 (stMem2.nextWord j1))) % 2 ^ fSize (stMem2.nextWord j1) = 0) ∧
    -- Mem3
    (stMem3.issues 0 0 28 (mRd + mRa + mSize + mOff) j1 = true ∧ fSize (stMem3.nextWord j1) < 3 ∧
      BitVec.toNat (j1.reg (fRa (stMem3.nextWord j1)) + BitVec.signExtend 32 (BitVec.extractLsb' 0 16 (stMem3.nextWord j1))) + 2 ^ fSize (stMem3.nextWord j1) ≤ 512) ∧
    -- Mem4
    (stMem4.issues 0 0 32 (mRd + mRa + mSize + mOff) j1 = true ∧ fSize (stMem4.nextWord j1) < 3 ∧
      BitVec.toNat (j1.reg (fRa (stMem4.nextWord j1)) + BitVec.signExtend 32 (BitVec.extractLsb' 0 16 (stMem4.nextWord j1))) + 2 ^ fSize (stMem4.nextWord j1) ≤ 2048 ∧
      BitVec.toNat (j1.reg (fRa (stMem4.nextWord j1)) + BitVec.signExtend 32 (BitVec.extractLsb' 0 16 (stMem4.nextWord j1))) % 2 ^ fSize (stMem4.nextWord j1) = 0) ∧
    -- Mem5
    (stMem5.issues 0 0 33 (mRd + mRa + mSize + mOff) j1 = true ∧ fSize (stMem5.nextWord j1) = 2 ∧
      BitVec.toNat (j1.reg (fRa (stMem5.nextWord j1)) + BitVec.signExtend 32 (BitVec.extractLsb' 0 16 (stMem5.nextWord j1))) % 4 = 0 ∧
      BitVec.toNat (j1.reg (fRa (stMem5.nextWord j1)) + BitVec.signExtend 32 (BitVec.extractLsb' 0 16 (stMem5.nextWord j1))) + 4 ≤ (stMem5.deOf j1.req).constLen) ∧
    -- Mem6
    (stMem6.issues 0 0 30 (mRd + mRa + mRb) j1 = true ∧
      BitVec.toNat (j1.reg (fRa (stMem6.nextWord j1))) + BitVec.toNat (j1.reg (fRb (stMem6.nextWord j1))) ≤ min 256 j1.req.item.len ∧
      BitVec.toNat (j1.reg (fRd (stMem6.nextWord j1))) + BitVec.toNat (j1.reg (fRb (stMem6.nextWord j1))) ≤ 512) ∧
    -- Mem7
    (stMem7.issues 0 0 34 (mRd + mSize) j1 = true ∧ fSize (stMem7.nextWord j1) < 3) ∧
    -- Mem8
    (stMem8.issues 0 0 35 mRa j1 = true ∧ j1.pos + BitVec.toNat (j1.reg (fRa (stMem8.nextWord j1))) ≤ j1.req.item.len) ∧
    -- Mem9
    (stMem9.issues 0 0 36 mRa j1 = true ∧ BitVec.toNat (j1.reg (fRa (stMem9.nextWord j1))) ≤ j1.req.item.len) := by
  and_intros <;> decide +kernel

/-- The premises of `Obligations.LatticeBranchesAndAsks` hold together, clause by clause. -/
theorem witness_LatticeBranchesAndAsks :
    -- Ctl0
    (stCtl0.issues 0 0 42 (mRd + mBoff) j1 = true ∧ condOf j1.flags (fRd (stCtl0.nextWord j1)) = some true ∧
      ↑j1.pc + 1 + (BitVec.extractLsb' 0 19 (stCtl0.nextWord j1)).toInt = 3 ∧ 3 < (stCtl0.deOf j1.req).len) ∧
    -- Ctl1
    (stCtl1.issues 0 0 42 (mRd + mBoff) j1 = true ∧ condOf j1.flags (fRd (stCtl1.nextWord j1)) = some false) ∧
    -- Ctl2
    (stCtl2.issues 0 0 43 mBoff j1 = true ∧ j1.stack.length < 8 ∧
      ↑j1.pc + 1 + (BitVec.extractLsb' 0 19 (stCtl2.nextWord j1)).toInt = 3 ∧ 3 < (stCtl2.deOf j1.req).len) ∧
    -- Ctl3
    (stCtl3.issues 0 0 44 0 (Job.mk j1.req j1.tag j1.reservedCells j1.pc j1.regs j1.wptr j1.flags j1.ohb j1.local_ j1.pos [3] j1.outs j1.cnts j1.executed j1.looks j1.lookCount j1.cold j1.attempts) = true ∧
      (Job.mk j1.req j1.tag j1.reservedCells j1.pc j1.regs j1.wptr j1.flags j1.ohb j1.local_ j1.pos [3] j1.outs j1.cnts j1.executed j1.looks j1.lookCount j1.cold j1.attempts).stack = [3] ∧
      3 < (stCtl3.deOf (Job.mk j1.req j1.tag j1.reservedCells j1.pc j1.regs j1.wptr j1.flags j1.ohb j1.local_ j1.pos [3] j1.outs j1.cnts j1.executed j1.looks j1.lookCount j1.cold j1.attempts).req).len) ∧
    -- Ctl4
    (stCtl4.issues 0 0 45 mRa j1 = true ∧ BitVec.toNat (j1.reg (fRa (stCtl4.nextWord j1))) = 7 ∧
      7 < (stCtl4.deOf j1.req).len) ∧
    -- Ctl5
    (stCtl5.issues 0 0 46 (mRd + mBoff) (Job.mk j1.req j1.tag j1.reservedCells j1.pc (j1.regs.set! 1 1) j1.wptr j1.flags j1.ohb j1.local_ j1.pos j1.stack j1.outs j1.cnts j1.executed j1.looks j1.lookCount j1.cold j1.attempts) = true ∧
      (Job.mk j1.req j1.tag j1.reservedCells j1.pc (j1.regs.set! 1 1) j1.wptr j1.flags j1.ohb j1.local_ j1.pos j1.stack j1.outs j1.cnts j1.executed j1.looks j1.lookCount j1.cold j1.attempts).reg (fRd (stCtl5.nextWord (Job.mk j1.req j1.tag j1.reservedCells j1.pc (j1.regs.set! 1 1) j1.wptr j1.flags j1.ohb j1.local_ j1.pos j1.stack j1.outs j1.cnts j1.executed j1.looks j1.lookCount j1.cold j1.attempts))) = 1) ∧
    -- Ctl6
    (stCtl6.issues 0 0 46 (mRd + mBoff) j1 = true ∧ j1.reg (fRd (stCtl6.nextWord j1)) ≠ 1 ∧
      ↑j1.pc + 1 + (BitVec.extractLsb' 0 19 (stCtl6.nextWord j1)).toInt = 3 ∧ 3 < (stCtl6.deOf j1.req).len) ∧
    -- Req0
    (ruled.issues 0 0 50 (mRd + mRa + 1) job0 = true ∧
      (ruled.bankOf job0.req.item.epoch).rule (BitVec.toNat (job0.reg (fRa (ruled.nextWord job0)))) (tst (ruled.nextWord job0) 0) = some (RuleRec.mk [1, 0, 0x80000000, 0, 0, 0, 0, 0] 0) ∧
      (RuleRec.mk [1, 0, 0x80000000, 0, 0, 0, 0, 0] 0).valid = true ∧
      (BitVec.toNat (job0.reg (fRa (ruled.nextWord job0))) < if tst (ruled.nextWord job0) 0 = true then 0x1000 else 0x2000) ∧
      BitVec.toNat (job0.reg (fRd (ruled.nextWord job0))) + 32 ≤ 2048 ∧
      BitVec.toNat (job0.reg (fRd (ruled.nextWord job0))) % 4 = 0) ∧
    -- Req1
    (stReq1.issues 0 0 51 (mRa + 15) j1 = true) ∧
    -- Req2
    (stReq2.issues 0 0 47 mRa j1 = true ∧ BitVec.toNat (j1.reg (fRa (stReq2.nextWord j1))) + 16 ≤ 2048 ∧
      BitVec.toNat (j1.reg (fRa (stReq2.nextWord j1))) % 4 = 0 ∧ ((List.filter (fun l => !l.done) j1.looks).length < 4)) ∧
    -- Req3
    (stXwaitX.issues 0 0 48 0 j1 = true ∧ (∀ (l : LookReq), l ∈ j1.looks → l.done = true)) ∧
    -- Req4
    (stReq4.issues 0 0 48 0 lookPending = true ∧ (∃ l, l ∈ lookPending.looks ∧ l.done = false)) ∧
    -- Req5
    (looked.coreOn = true ∧ looked.jobAt 0 0 = some lookPending ∧
      (List.find? (fun l => decide (l.idx = 0 ∧ l.done = false)) lookPending.looks = some (LookReq.mk 0 [0, 0, 100, 0] false false)) ∧
      (List.find? (fun y => decide (y.tag = lookPending.tag ∧ y.idx = 0)) looked.cip.answers = some (LookAnswer.mk 0 0 0 [1, 2]))) := by
  and_intros <;> decide +kernel

/-- The premises of `Obligations.JobsRunAndEnd` hold together, clause by clause. -/
theorem witness_JobsRunAndEnd :
    -- End0
    (stEnd0.issues 0 0 38 mRa emitJob = true ∧ BitVec.toNat (emitJob.reg (fRa (stEnd0.nextWord emitJob))) + 16 ≤ 2048 ∧
      BitVec.toNat (emitJob.reg (fRa (stEnd0.nextWord emitJob))) % 4 = 0 ∧
      emitJob.outs.length < (stEnd0.deOf emitJob.req).outMax ∧
      fld (w32 (beAt (emitJob.localAt (BitVec.toNat (emitJob.reg (fRa (stEnd0.nextWord emitJob)))) 16) 0 4)) 30 2 = 0 ∧
      fld (w32 (beAt (emitJob.localAt (BitVec.toNat (emitJob.reg (fRa (stEnd0.nextWord emitJob)))) 16) 0 4)) 0 11 = 0 ∧
      fld (w32 (beAt (emitJob.localAt (BitVec.toNat (emitJob.reg (fRa (stEnd0.nextWord emitJob)))) 16) 4 4)) 10 6 = 0 ∧
      (tst (w32 (beAt (emitJob.localAt (BitVec.toNat (emitJob.reg (fRa (stEnd0.nextWord emitJob)))) 16) 0 4)) 29 = false → (stEnd0.bankOf emitJob.req.item.epoch).outVertex (fld (w32 (beAt (emitJob.localAt (BitVec.toNat (emitJob.reg (fRa (stEnd0.nextWord emitJob)))) 16) 0 4)) 16 7) = true) ∧
      (tst (w32 (beAt (emitJob.localAt (BitVec.toNat (emitJob.reg (fRa (stEnd0.nextWord emitJob)))) 16) 0 4)) 29 = true → ∃ vs, (stEnd0.bankOf emitJob.req.item.epoch).dests true (fld (w32 (beAt (emitJob.localAt (BitVec.toNat (emitJob.reg (fRa (stEnd0.nextWord emitJob)))) 16) 0 4)) 16 13) emitJob.req.item.vertex = some vs) ∧
      fld (w32 (beAt (emitJob.localAt (BitVec.toNat (emitJob.reg (fRa (stEnd0.nextWord emitJob)))) 16) 4 4)) 0 10 ≤ 512 ∧
      beAt (emitJob.localAt (BitVec.toNat (emitJob.reg (fRa (stEnd0.nextWord emitJob)))) 16) 8 4 + beAt (emitJob.localAt (BitVec.toNat (emitJob.reg (fRa (stEnd0.nextWord emitJob)))) 16) 12 4 ≤ emitJob.req.item.len ∧
      0 < fld (w32 (beAt (emitJob.localAt (BitVec.toNat (emitJob.reg (fRa (stEnd0.nextWord emitJob)))) 16) 4 4)) 0 10 + beAt (emitJob.localAt (BitVec.toNat (emitJob.reg (fRa (stEnd0.nextWord emitJob)))) 16) 12 4 ∧
      fld (w32 (beAt (emitJob.localAt (BitVec.toNat (emitJob.reg (fRa (stEnd0.nextWord emitJob)))) 16) 4 4)) 0 10 + beAt (emitJob.localAt (BitVec.toNat (emitJob.reg (fRa (stEnd0.nextWord emitJob)))) 16) 12 4 ≤ (stEnd0.deOf emitJob.req).outBytes) ∧
    -- End1
    (stEnd1.issues 0 0 39 0 j1 = true ∧ (∀ (p : Nat × W32), p ∈ j1.cnts → p.fst < 16)) ∧
    -- End2
    (stEnd2.issues 0 0 40 0 j1 = true) ∧
    -- End3
    (stEnd3.issues 0 0 41 255 j1 = true) ∧
    -- End4
    (stEnd4.issues 0 0 42 (mRd + mBoff) j1 = true ∧ condOf j1.flags (fRd (stEnd4.nextWord j1)) = some true ∧
      (¬(0 ≤ ↑j1.pc + 1 + (BitVec.extractLsb' 0 19 (stEnd4.nextWord j1)).toInt ∧ ↑j1.pc + 1 + (BitVec.extractLsb' 0 19 (stEnd4.nextWord j1)).toInt < ↑(stEnd4.deOf j1.req).len))) ∧
    -- InOrder
    (stInOrder.coreOn = true ∧ (stInOrder.cell 0).st = CellState.inService ∧ stInOrder.jobAt 0 0 = some j1 ∧
      stInOrder.loaded (stInOrder.deOf j1.req) = true ∧ stInOrder.libOf (stInOrder.deOf j1.req) = none ∧
      j1.pc < (stInOrder.deOf j1.req).len ∧ j1.executed + 1 ≤ (stInOrder.deOf j1.req).budget ∧
      opOf (stInOrder.nextWord j1) ≤ 51 ∧ opOf (stInOrder.nextWord j1) ≠ 0) ∧
    -- Admit
    (admitting.coreOn = true ∧ admitting.hopeless = [] ∧ admitting.replayQ = [] ∧ admitting.admitTurn = 0 ∧
      SMap.get [] admitting.admission 0 = [req0] ∧ admitting.admits req0 = true) ∧
    -- Lane
    (stLane.coreOn = true ∧ SMap.get [] stLane.lanes (8 * 64 + 0) = [LaneEntry.mk (itm 8 []) 0 1 []] ∧
      (LaneEntry.mk (itm 8 []) 0 1 []).pend ≠ 0) ∧
    -- Lane2
    (stLane2.coreOn = true ∧ SMap.get [] stLane2.lanes (8 * 64 + 0) = [LaneEntry.mk (itm 8 []) 0 0 []] ∧
      (LaneEntry.mk (itm 8 []) 0 0 []).pend = 0) ∧
    -- AdmWait
    (stAdmWait.coreOn = true ∧ req0 ∈ SMap.get [] stAdmWait.admission 0 ∧ req0.since + 5000 ≤ stAdmWait.now ∧
      stAdmWait.power.latReq = false) ∧
    -- Cache
    (stCache.coreOn = true ∧ stCache.jobAt 0 0 = some job0 ∧
      ((stCache.lines 0).contains (stCache.nextLine job0) = false ∨ false = true)) ∧
    -- Cache2
    (stCache2.coreOn = true ∧ stCache2.jobAt 0 0 = some job0 ∧
      ((stCache2.lines 0).contains (stCache2.nextLine job0) = false ∨ true = true)) ∧
    -- Cache3
    (stCache2.coreOn = true ∧ stCache2.jobAt 0 0 = some job0 ∧ (stCache2.lines 0).contains (stCache2.nextLine job0) = true) := by
  and_intros <;> first | decide +kernel | exact fun h => absurd h (by decide +kernel)

/-- The premises of `Obligations.CellsAndSegments` hold together, clause by clause. -/
theorem witness_CellsAndSegments :
    -- CellFault
    (up.coreOn = true ∧ (up.cell 0).st = CellState.inService) ∧
    -- CellFault2
    (up.coreOn = true ∧ (up.cell 0).st = CellState.inService) ∧
    -- Retire
    (up.granted 0 A.latForceRetire 259 = true ∧ fld 259 0 7 = 3 ∧ tst 259 8 = true ∧ (up.cell 3).st ≠ CellState.retired) ∧
    -- Check
    (stCheck.coreOn = true ∧
      stCheck.checkAt + fld (stCheck.reg A.latCheckPeriod) 0 16 * 1000000 / max 1 (stCheck.cellsIn CellState.inService).length ≤ stCheck.now ∧
      stCheck.checkTurn = 0 ∧ (stCheck.cell 0).st = CellState.inService ∧ (stCheck.cell 0).noDispatch = false) ∧
    -- Drain
    (stDrain.coreOn = true ∧ (stDrain.cell 0).st = CellState.inService ∧ (stDrain.cell 0).noDispatch = true ∧
      (stDrain.cell 0).periodic = true ∧
      ((∀ (x : Nat), x < 16 → stDrain.jobAt 0 x = none) ∨ (stDrain.cell 0).since + 50000 ≤ stDrain.now)) ∧
    -- CC
    (stCC.coreOn = true ∧ (stCC.cell 0).st = CellState.checking ∧ (stCC.cell 0).inPlace = false ∧
      64 ≤ (stCC.cellsIn CellState.inService).length) ∧
    -- CC2
    (stCC2.coreOn = true ∧ (stCC2.cell 0).st = CellState.checking ∧ (stCC2.cell 0).inPlace = true) ∧
    -- CC3
    (stCC2.coreOn = true ∧ (stCC2.cell 0).st = CellState.checking) ∧
    -- SegOpen
    (stSegOpen.granted 0 A.latSegCtrl 1 = true ∧ fld (stSegOpen.reg A.latSegIndex) 0 6 = 0 ∧ (stSegOpen.seg 0).busy = false ∧
      (stSegOpen.seg 0).st = 0 ∧ 0 < fld (stSegOpen.reg (selKey A.latSegLen 0)) 0 20 ∧
      fld (stSegOpen.reg (selKey A.latSegStart 0)) 0 19 + fld (stSegOpen.reg (selKey A.latSegLen 0)) 0 20 ≤ 0x80000 ∧
      (∀ (k : Nat), k < 64 → (stSegOpen.seg k).st = 0 ∨ fld (stSegOpen.reg (selKey A.latSegStart 0)) 0 19 + fld (stSegOpen.reg (selKey A.latSegLen 0)) 0 20 ≤ (stSegOpen.seg k).start ∨ (stSegOpen.seg k).start + (stSegOpen.seg k).len ≤ fld (stSegOpen.reg (selKey A.latSegStart 0)) 0 19)) ∧
    -- Seal
    (stSeal.granted 0 A.latSegCtrl 2 = true ∧ fld (stSeal.reg A.latSegIndex) 0 6 = 0 ∧ (stSeal.seg 0).busy = false ∧
      (stSeal.seg 0).st = 1) ∧
    -- SealC
    (stSealC.coreOn = true ∧ (stSealC.seg 0).busy = true) ∧
    -- SegFree
    (stSegFree.granted 0 A.latSegCtrl 3 = true ∧ fld (stSegFree.reg A.latSegIndex) 0 6 = 0 ∧ (stSegFree.seg 0).busy = false ∧
      (stSegFree.seg 0).st ≠ 0 ∧ 0 ≠ 63) ∧
    -- Ps
    (stSeal.granted 0 A.latPsData 77 = true ∧ stSeal.segAt (fld (stSeal.reg A.latPsAddr) 0 19) = some 0 ∧
      (stSeal.seg 0).st = 1) ∧
    -- Reload
    (stReload.mpOn = true ∧ (stReload.seg 0).st = 3) := by
  and_intros <;> decide +kernel

/-- The premises of `Obligations.CanChannelsConfine` hold together, clause by clause. -/
theorem witness_CanChannelsConfine :
    -- Err t
    (stErrt.on = true ∧ stErrt.canMode 0 ≠ 0 ∧ (stErrt.canSt 0).err ≠ CanErrState.busOff ∧
      (stErrt.canSt 0).selective = false) ∧
    -- Err r
    (stErrr.on = true ∧ stErrr.canMode 0 ≠ 0 ∧ (stErrr.canSt 0).err ≠ CanErrState.busOff ∧
      (stErrr.canSt 0).selective = false) ∧
    -- Err r2
    (stErrr2.on = true ∧ stErrr2.canMode 0 ≠ 0 ∧ (stErrr2.canSt 0).err ≠ CanErrState.busOff ∧
      (stErrr2.canSt 0).selective = false) ∧
    -- Err o
    (stErro.on = true ∧ stErro.canMode 0 ≠ 0 ∧ (stErro.canSt 0).err ≠ CanErrState.busOff ∧
      (stErro.canSt 0).selective = false) ∧
    -- Err spared
    (stErrspared.on = true ∧ stErrspared.canMode 0 ≠ 0 ∧ (stErrspared.canSt 0).err ≠ CanErrState.busOff ∧
      (stErrspared.canSt 0).selective = false) ∧
    -- Err spared2
    (stErrspared.on = true ∧ stErrspared.canMode 0 ≠ 0 ∧ (stErrspared.canSt 0).err ≠ CanErrState.busOff ∧
      (stErrspared.canSt 0).selective = false) ∧
    -- Timing detect
    (stTimingdetect.on = true ∧ (stTimingdetect.canSt 0).timingPending = true ∧ (stTimingdetect.canSt 0).sending = none) ∧
    -- Timing detect2
    (stTimingdetect2.on = true ∧ (stTimingdetect2.canSt 0).timingPending = true ∧ (stTimingdetect2.canSt 0).sending = none) ∧
    -- Err t120
    (stErrt120.on = true ∧ stErrt120.canMode 0 ≠ 0 ∧ (stErrt120.canSt 0).err ≠ CanErrState.busOff ∧
      (stErrt120.canSt 0).selective = false) ∧
    -- Err boff
    (stErrboff.on = true ∧ stErrboff.canActive 0 = true ∧ (stErrboff.canSt 0).err ≠ CanErrState.busOff ∧
      (stErrboff.canSt 0).selective = false ∧ 248 ≤ (stErrboff.canSt 0).tec) ∧
    -- Boff delay
    (stBoffdelay.on = true ∧ (stBoffdelay.canSt 0).err = CanErrState.busOff ∧ (stBoffdelay.canSt 0).recovering = false ∧
      tst (stBoffdelay.canSt 0).ctrl 7 = true ∧
      (stBoffdelay.canSt 0).boffAt + fld (stBoffdelay.cfg (A.canBoffDelay 0)) 0 16 * 1000000 ≤ stBoffdelay.now) ∧
    -- Recover
    (stRecover.granted 0 (A.canCmd 0) 1 = true ∧ (stRecover.canSt 0).err = CanErrState.busOff) ∧
    -- Recovered
    (stRecovered.on = true ∧ (stRecovered.canSt 0).err = CanErrState.busOff ∧ (stRecovered.canSt 0).recovering = true) ∧
    -- Timing
    (stTiming.on = true ∧ (stTiming.canSt 0).timingPending = true ∧ (stTiming.canSt 0).sending = none) ∧
    -- Timing3
    (stTiming3.on = true ∧ (stTiming3.canSt 0).timingPending = true ∧ (stTiming3.canSt 0).sending = none) ∧
    -- Dwell
    (stDwell.on = true ∧ stDwell.canMode 0 = 3 ∧ (stDwell.canSt 0).found = false ∧
      (stDwell.canSt 0).dwellStart + fld (stDwell.cfg (A.canRateCtrl 0)) 16 16 * 1000000 ≤ stDwell.now) ∧
    -- Dwell last
    (stDwelllast.on = true ∧ stDwelllast.canMode 0 = 3 ∧ (stDwelllast.canSt 0).found = false ∧
      (stDwelllast.canSt 0).dwellStart + fld (stDwelllast.cfg (A.canRateCtrl 0)) 16 16 * 1000000 ≤ stDwelllast.now) ∧
    -- Rx1
    (stRx1.on = true ∧ stRx1.canMode 0 ≠ 0 ∧ (stRx1.canSt 0).err ≠ CanErrState.busOff ∧ (stRx1.canSt 0).selective = false ∧
      (CanMsg.mk 0 false 291 false false false false 0 0 0 [1, 2]).fdf = false ∧
      (CanMsg.mk 0 false 291 false false false false 0 0 0 [1, 2]).format ≠ 2 ∧
      (CanMsg.mk 0 false 291 false false false false 0 0 0 [1, 2]).format ≠ 3) ∧
    -- Rx3
    (stRx3.on = true ∧ stRx3.canMode 0 ≠ 0 ∧ (stRx3.canSt 0).err ≠ CanErrState.busOff ∧ (stRx3.canSt 0).selective = false ∧
      (CanMsg.mk 0 false 291 false false false false 0 0 0 [1, 2]).fdf = false ∧
      (CanMsg.mk 0 false 291 false false false false 0 0 0 [1, 2]).format ≠ 2 ∧
      (CanMsg.mk 0 false 291 false false false false 0 0 0 [1, 2]).format ≠ 3) := by
  and_intros <;> decide +kernel

/-- The premises of `Obligations.CanChannelsSend` hold together, clause by clause. -/
theorem witness_CanChannelsSend :
    -- Take
    (stTake.coreOn = true ∧ stTake.canActive 0 = true ∧ 3 < 8 ∧ stTake.queue (48 + 0) 3 = [canCopy 48 3] ∧
      (∀ (n : Nat), n < 8 → 3 < n → stTake.queue (48 + 0) n = []) ∧
      formatReason (stTake.canSt 0).ctrl (canCopy 48 3).data = none ∧ stTake.canPlace 0 3 (canCopy 48 3) = some none) ∧
    -- Take mb
    (stTakemb.coreOn = true ∧ stTakemb.canActive 0 = true ∧ 3 < 8 ∧ stTakemb.queue (48 + 0) 3 = [canCopy 48 3] ∧
      (∀ (n : Nat), n < 8 → 3 < n → stTakemb.queue (48 + 0) n = []) ∧
      formatReason (stTakemb.canSt 0).ctrl (canCopy 48 3).data = none ∧
      stTakemb.canPlace 0 3 (canCopy 48 3) = some (some 2) ∧ (stTakemb.canSt 0).sending ≠ some (CanSource.mailbox 2)) ∧
    -- Arb
    (stArb.on = true ∧ stArb.canSends 0 = true ∧ (stArb.canSt 0).sending = none ∧ (stArb.canSt 0).ttActive = false) ∧
    -- Arb lost
    (stArb.on = true ∧ stArb.canSends 0 = true ∧ (stArb.canSt 0).sending = none ∧ (stArb.canSt 0).ttActive = false) ∧
    -- Arb none
    (stArbnone.on = true ∧ stArbnone.canSends 0 = true ∧ (stArbnone.canSt 0).sending = none ∧
      (stArbnone.canSt 0).ttActive = false) ∧
    -- Sent
    (stSent.on = true ∧ stSent.canActive 0 = true ∧ (stSent.canSt 0).err ≠ CanErrState.busOff ∧
      (stSent.canSt 0).sending = some CanSource.fifo ∧ (stSent.canSt 0).fifo = [canPend]) ∧
    -- TxErr
    (stTxErr.on = true ∧ (stTxErr.canSt 0).sending = some CanSource.fifo ∧ (stTxErr.canSt 0).fifo = [canPend] ∧
      (stTxErr.canSt 0).ttActive = false ∧
      (fld (stTxErr.cfg (A.canTxCtrl 0)) 0 5 = 31 ∨ canPend.errors < fld (stTxErr.cfg (A.canTxCtrl 0)) 0 5)) ∧
    -- TxErr31
    (stTxErr31.on = true ∧ (stTxErr31.canSt 0).sending = some CanSource.fifo ∧ (stTxErr31.canSt 0).fifo = [canPend] ∧
      (stTxErr31.canSt 0).ttActive = false ∧
      (fld (stTxErr31.cfg (A.canTxCtrl 0)) 0 5 = 31 ∨ canPend.errors < fld (stTxErr31.cfg (A.canTxCtrl 0)) 0 5)) ∧
    -- TxErrBoff
    (stTxErrBoff.on = true ∧ (stTxErrBoff.canSt 0).sending = some CanSource.fifo ∧ (stTxErrBoff.canSt 0).fifo = [canPend] ∧
      (stTxErrBoff.canSt 0).ttActive = false ∧
      (fld (stTxErrBoff.cfg (A.canTxCtrl 0)) 0 5 = 31 ∨ canPend.errors < fld (stTxErrBoff.cfg (A.canTxCtrl 0)) 0 5)) ∧
    -- TxAband
    (stTxAband.on = true ∧ (stTxAband.canSt 0).sending = some CanSource.fifo ∧ (stTxAband.canSt 0).fifo = [canPend] ∧
      fld (stTxAband.cfg (A.canTxCtrl 0)) 0 5 ≠ 31 ∧ fld (stTxAband.cfg (A.canTxCtrl 0)) 0 5 ≤ canPend.errors) ∧
    -- TxAbandBoff
    (stTxAbandBoff.on = true ∧ (stTxAbandBoff.canSt 0).sending = some CanSource.fifo ∧
      (stTxAbandBoff.canSt 0).fifo = [canPend] ∧ fld (stTxAbandBoff.cfg (A.canTxCtrl 0)) 0 5 ≠ 31 ∧
      fld (stTxAbandBoff.cfg (A.canTxCtrl 0)) 0 5 ≤ canPend.errors) ∧
    -- TtDue
    (stTtDue.on = true ∧ ((stTtDue.canSt 0).ttActive = true ∨ (stTtDue.canSt 0).ttArmed = true) ∧ stTtDue.canMode 0 = 1 ∧
      (stTtDue.canSt 0).ttRefDue < (stTtDue.ttDue 0).fst) ∧
    -- TtDueArm
    (stTtDueArm.on = true ∧ ((stTtDueArm.canSt 0).ttActive = true ∨ (stTtDueArm.canSt 0).ttArmed = true) ∧
      stTtDueArm.canMode 0 = 1 ∧ (stTtDueArm.canSt 0).ttRefDue < (stTtDueArm.ttDue 0).fst) ∧
    -- TtDue2
    (stTtDue2.ttBase 0 ≤ stTtDue2.ns ∧ 0 < stTtDue2.ttCycle 0) ∧
    -- TtWin
    (stTtWin.on = true ∧ (stTtWin.canSt 0).ttActive = true ∧ (stTtWin.canSt 0).ttRefStart = some 0 ∧
      stTtWin.ttTrig 0 3 = some (TtTrig.mk true 0 0 100) ∧ 0 + (TtTrig.mk true 0 0 100).mark ≤ stTtWin.ns ∧
      stTtWin.ns < 0 + (TtTrig.mk true 0 0 100).mark + (TtTrig.mk true 0 0 100).len) ∧
    -- TtForeign
    (stTtForeign.on = true ∧ stTtForeign.canMode 0 = 1 ∧ (stTtForeign.canSt 0).err ≠ CanErrState.busOff ∧
      (stTtForeign.canSt 0).selective = false ∧ patMsg.fdf = false ∧
      ((stTtForeign.canSt 0).ttActive = true ∨ (stTtForeign.canSt 0).ttArmed = true) ∧
      (patMsg.format.toNat = if tst (stTtForeign.cfg (A.canTtCtrl 0)) 4 = true then 1 else 0) ∧
      patMsg.id.toNat = fld (stTtForeign.cfg (A.canTtRefId 0)) 0 29) ∧
    -- TtForeign rtr
    (stTtForeignrtr.on = true ∧ stTtForeignrtr.canMode 0 = 1 ∧ (stTtForeignrtr.canSt 0).err ≠ CanErrState.busOff ∧
      (stTtForeignrtr.canSt 0).selective = false ∧
      (CanMsg.mk patMsg.format true patMsg.id patMsg.fdf patMsg.brs patMsg.esi patMsg.sec patMsg.vcid patMsg.sdt patMsg.af patMsg.data).fdf = false ∧
      ((stTtForeignrtr.canSt 0).ttActive = true ∨ (stTtForeignrtr.canSt 0).ttArmed = true) ∧
      ((CanMsg.mk patMsg.format true patMsg.id patMsg.fdf patMsg.brs patMsg.esi patMsg.sec patMsg.vcid patMsg.sdt patMsg.af patMsg.data).format.toNat = if tst (stTtForeignrtr.cfg (A.canTtCtrl 0)) 4 = true then 1 else 0) ∧
      (CanMsg.mk patMsg.format true patMsg.id patMsg.fdf patMsg.brs patMsg.esi patMsg.sec patMsg.vcid patMsg.sdt patMsg.af patMsg.data).id.toNat = fld (stTtForeignrtr.cfg (A.canTtRefId 0)) 0 29) ∧
    -- TtRestart
    (stTtRestart.granted 0 (A.canCmd 0) 2 = true ∧ (stTtRestart.canSt 0).ttConflict = true) := by
  and_intros <;> decide +kernel

end Sys2Proof.Tests
end

