-- ==== Sys2Proof/Tests/Witness2.lean ====
section
/-! SUPPORT. Witnesses: for every statement with premises, concrete states and operands that meet all of them,
one group a clause; a comment names the clause. -/

namespace Sys2Proof.Tests
open Sys2Proof.Machine
set_option maxRecDepth 100000
set_option Elab.async false

/-- The premises of `Obligations.LinChannelsServe` hold together, clause by clause. -/
theorem witness_LinChannelsServe :
    -- Slot
    (stSlot.on = true ∧ stSlot.linMode 0 = 1 ∧ (stSlot.linSt 0).running = true ∧ (stSlot.linSt 0).slotEnd ≤ stSlot.ns) ∧
    -- Slot2
    (stSlot2.on = true ∧ stSlot2.linMode 0 = 1 ∧ (stSlot2.linSt 0).running = true ∧ (stSlot2.linSt 0).slotEnd ≤ stSlot2.ns) ∧
    -- Sel
    (up.granted 0 (A.linSchedSel 0) 9 = true) ∧
    -- Hdr2
    (stHdr2.on = true ∧ stHdr2.linMode 0 = 2) ∧
    -- Hdr1
    (stHdr1.on = true ∧ stHdr1.linMode 0 = 2) ∧
    -- Hdr0
    (stHdr0.on = true ∧ stHdr0.linMode 0 = 2) ∧
    -- Hdr1f
    (stHdr1f.on = true ∧ stHdr1f.linMode 0 = 2) ∧
    -- Hdr parity
    (stHdr1f.on = true ∧ stHdr1f.linMode 0 = 2) ∧
    -- Rsp good
    (stRspgood.on = true ∧ stRspgood.linMode 0 ≠ 0 ∧ (stRspgood.linSt 0).expecting = some 5) ∧
    -- Rsp sent
    (stRspsent.on = true ∧ stRspsent.linMode 0 ≠ 0 ∧ (stRspsent.linSt 0).expecting = some 5) ∧
    -- Rsp sum
    (stRspgood.on = true ∧ stRspgood.linMode 0 ≠ 0 ∧ (stRspgood.linSt 0).expecting = some 5) ∧
    -- Rsp bit
    (stRspbit.on = true ∧ stRspbit.linMode 0 ≠ 0 ∧ (stRspbit.linSt 0).expecting = some 5) ∧
    -- Rsp coll
    (stRspcoll.on = true ∧ stRspcoll.linMode 0 ≠ 0 ∧ (stRspcoll.linSt 0).expecting = some 5) ∧
    -- Rsp to
    (stRspgood.on = true ∧ (stRspgood.linSt 0).expecting = some 5) ∧
    -- Publish
    (stPublish.coreOn = true ∧ stPublish.linMode 0 ≠ 0 ∧ 3 < 8 ∧ stPublish.queue (72 + 0) 3 = [canCopy 72 3] ∧
      (∀ (n : Nat), n < 8 → 3 < n → stPublish.queue (72 + 0) n = []) ∧ byteAt (canCopy 72 3).data 0 / 64 < 2 ∧
      tst (w32 (beAt (canCopy 72 3).data 4 4)) 31 = false ∧ 0 < fld (w32 (beAt (canCopy 72 3).data 4 4)) 0 12 ∧
      fld (w32 (beAt (canCopy 72 3).data 4 4)) 0 12 ≤ 8) ∧
    -- Trx
    (stTrx.on = true ∧ 24 ≤ 24 ∧ 24 - 24 = 0 ∧ (stTrx.linSt 0).trxFault = false) := by
  and_intros <;> decide +kernel

/-- The premises of `Obligations.BridgeRulesWork` hold together, clause by clause. -/
theorem witness_BridgeRulesWork :
    -- NoRule
    (stNoRule.coreOn = true ∧ stNoRule.bridgeHead 0 = some (3, busCopy) ∧
      ((firstRule (stNoRule.bankOf busCopy.item.epoch).chords fun r => r.busMatch busCopy.item) = none) ∧
      ((firstRule (stNoRule.bankOf busCopy.item.epoch).tangents fun r => r.busMatch busCopy.item && !r.unwraps) = none)) ∧
    -- Chord wait
    (stChordwait.coreOn = true ∧ stChordwait.bridgeHead 0 = some (3, busCopy) ∧ busCopy.errs ≠ 1 ∧
      ((firstRule (stChordwait.bankOf busCopy.item.epoch).chords fun r => r.busMatch busCopy.item) = some (0, chordM)) ∧
      stChordwait.bridgeRoom 0 busCopy.item.facet = false) ∧
    -- Chord
    (stChord.coreOn = true ∧ stChord.bridgeHead 0 = some (3, busCopy) ∧ busCopy.errs ≠ 1 ∧
      ((firstRule (stChord.bankOf busCopy.item.epoch).chords fun r => r.busMatch busCopy.item) = some (0, chordM)) ∧
      stChord.bridgeRoom 0 busCopy.item.facet = true) ∧
    -- Malformed
    (stMalformed.coreOn = true ∧ stMalformed.bridgeHead 1 = some (3, cpy (itm 8 []) 100 3) ∧
      tunnelOf (cpy (itm 8 []) 100 3).item = none) ∧
    -- Net
    (stNet.coreOn = true ∧ stNet.bridgeHead 1 = some (3, tunnel0) ∧ tunnelOf tunnel0.item = some (Tunnel.mk false 0 7) ∧
      ((firstRule (stNet.bankOf tunnel0.item.epoch).tangents fun r => r.netMatch tunnel0.item.vertex (Tunnel.mk false 0 7)) = some (0, tan0)) ∧
      stNet.bridgeRoom 1 tunnel0.item.facet = true) ∧
    -- Rule complete
    (stRulecomplete.coreOn = true ∧ stRulecomplete.cmd (4 + 0) = some rcmd0) ∧
    -- Rule read
    (stRuleread.holds (portLock (4 + 0)) 0 = true ∧ stRuleread.cmd (4 + 0) = none ∧ stRuleread.tagOk 0 = true ∧
      (fld (stRuleread.reg (A.brgRcmdIndex 0)) 0 13 < if false = true then 0x1000 else 0x2000) ∧
      stRuleread.granted 0 (A.brgRcmdOp 0) (opWord 1 false true) = true ∧
      SMap.get none ((stRuleread.cmdBank true).rules false) (fld (stRuleread.reg (A.brgRcmdIndex 0)) 0 13) = some chordM ∧
      (0 = 0 ∨ chordM.owner = 0)) ∧
    -- Rule write
    (stRulewrite.holds (portLock (4 + 0)) 0 = true ∧ stRulewrite.cmd (4 + 0) = none ∧ stRulewrite.tagOk 0 = true ∧
      (fld (stRulewrite.reg (A.brgRcmdIndex 0)) 0 13 < if false = true then 0x1000 else 0x2000) ∧
      stRulewrite.granted 0 (A.brgRcmdOp 0) (opWord 2 false false) = true ∧ stRulewrite.epoch.st = CommitState.idle ∧
      ruleOk false (stRulewrite.portRule 0) = true ∧
      SMap.get none (stRulewrite.staging.rules false) (fld (stRulewrite.reg (A.brgRcmdIndex 0)) 0 13) = none ∧
      (0 = 0 ∨ tst ((stRulewrite.portRule 0).getD 2 0) 30 = false ∧ stRulewrite.bound (fld ((stRulewrite.portRule 0).getD 2 0) 23 7) = 0)) ∧
    -- Rule write t
    (stRulewrite.holds (portLock (4 + 0)) 0 = true ∧ stRulewrite.cmd (4 + 0) = none ∧ stRulewrite.tagOk 0 = true ∧
      (fld (stRulewrite.reg (A.brgRcmdIndex 0)) 0 13 < if true = true then 0x1000 else 0x2000) ∧
      stRulewrite.granted 0 (A.brgRcmdOp 0) (opWord 2 true false) = true ∧ stRulewrite.epoch.st = CommitState.idle ∧
      ruleOk true (stRulewrite.portRule 0) = true ∧
      SMap.get none (stRulewrite.staging.rules true) (fld (stRulewrite.reg (A.brgRcmdIndex 0)) 0 13) = none ∧
      (0 = 0 ∨ tst ((stRulewrite.portRule 0).getD 2 0) 30 = false ∧ stRulewrite.bound (fld ((stRulewrite.portRule 0).getD 2 0) 23 7) = 0)) ∧
    -- Rule clear
    (stRuleclear.holds (portLock (4 + 0)) 0 = true ∧ stRuleclear.cmd (4 + 0) = none ∧ stRuleclear.tagOk 0 = true ∧
      (fld (stRuleclear.reg (A.brgRcmdIndex 0)) 0 13 < if true = true then 0x1000 else 0x2000) ∧
      stRuleclear.granted 0 (A.brgRcmdOp 0) (opWord 3 true false) = true ∧ stRuleclear.epoch.st = CommitState.idle ∧
      (∀ (r : RuleRec), SMap.get none (stRuleclear.staging.rules true) (fld (stRuleclear.reg (A.brgRcmdIndex 0)) 0 13) = some r → 0 = 0 ∨ r.owner = 0)) := by
  and_intros <;> decide +kernel

/-- The premises of `Obligations.LinksTrainAndFall` hold together, clause by clause. -/
theorem witness_LinksTrainAndFall :
    -- T0
    (stT0.on = true ∧ stT0.laneOn 0 = true ∧ (stT0.lane 0).st = LaneState.down ∧ (stT0.lane 0).silent = false) ∧
    -- T1
    (stT1.on = true ∧ stT1.laneOn 0 = true ∧ (stT1.lane 0).st = LaneState.training) ∧
    -- T2
    (stT2.on = true ∧ (stT2.lane 0).st = LaneState.training ∧ (stT2.lane 0).since + 100000000 ≤ stT2.now) ∧
    -- T3
    (stT3.on = true ∧ stT3.laneOn 0 = true ∧ (stT3.lane 0).silent = true ∧ (stT3.lane 0).since + 10000000 ≤ stT3.now) ∧
    -- T4
    (stT4.on = true ∧ stT4.laneOn 0 = true ∧ (stT4.lane 0).st = LaneState.locking ∧
      (Codeword.mk (cw0 false).uncorrectable (cw0 false).corrected (Lcb.mk (up.lcb 0).version (up.lcb 0).lane (up.lcb 0).width true (up.lcb 0).remoteFault (up.lcb 0).degraded 8 77).bytes (cw0 false).skew).uncorrectable = false ∧
      (stT4.lane 0).lastCwc = some ((Lcb.ofBytes (Codeword.mk (cw0 false).uncorrectable (cw0 false).corrected (Lcb.mk (up.lcb 0).version (up.lcb 0).lane (up.lcb 0).width true (up.lcb 0).remoteFault (up.lcb 0).degraded 8 77).bytes (cw0 false).skew).lcb).cwc - 1) ∧
      (stT4.lane 0).good = 3) ∧
    -- T5
    (stT5.on = true ∧ stT5.laneOn 0 = true ∧ (stT5.lane 0).st = LaneState.up ∧ (cw0 true).uncorrectable = true) ∧
    -- T5b
    (stT5b.on = true ∧ stT5b.laneOn 0 = true ∧ (stT5b.lane 0).st = LaneState.up ∧ (cw0 true).uncorrectable = true) ∧
    -- T6
    (stT6.on = true ∧ stT6.laneOn 0 = true ∧ (stT6.lane 0).winStart + 10000000 ≤ stT6.now ∧
      BitVec.toNat (stT6.reg (A.ethLaneDegThresh 0)) < (stT6.lane 0).corrWin) ∧
    -- U0
    (stU0.on = true ∧ 0 < 8 ∧ (stU0.ethSt 0).linkUp = false ∧ stU0.vertexOn 0 = true ∧ stU0.live.member 0 = false ∧
      stU0.portReady 0 = true) ∧
    -- U1
    (stU1.on = true ∧ 8 ≤ 8 ∧ 8 < 40 ∧ (stU1.ethSt 8).linkUp = false ∧ stU1.phyOn 8 = true ∧ stU1.phyTries 8 = [4, 3] ∧
      rateOf 4 = 1000) ∧
    -- U2
    (stFrameshort.on = true ∧ (stFrameshort.ethSt 8).linkUp = true) ∧
    -- U2L
    (stU2L.on = true ∧ (stU2L.ethSt 0).linkUp = true) ∧
    -- U3
    (stU1.on = true ∧ 8 ≤ 8 ∧ 8 < 40 ∧ stU1.phyOn 8 = true ∧ (stU1.ethSt 8).linkUp = false) ∧
    -- U3b
    (stU3b.on = true ∧ 8 ≤ 8 ∧ 8 < 40 ∧ stU3b.phyOn 8 = true ∧ (stU3b.ethSt 8).linkUp = false) := by
  and_intros <;> decide +kernel

/-- The premises of `Obligations.MediaAreShared` hold together, clause by clause. -/
theorem witness_MediaAreShared :
    -- S0
    (40 ≤ 40 ∧ stS0.coreOn = true ∧ stS0.plcaOn 40 = true) ∧
    -- S1
    (40 ≤ 40 ∧ stS1.coreOn = true ∧ stS1.plcaOn 40 = true ∧ fld (stS1.cfg (A.ethPlcaCtrl 40)) 1 3 ≠ 0 ∧
      (stS1.ethSt 40).fallback = false ∧ (stS1.ethSt 40).lastBeacon + 400000 ≤ stS1.now) ∧
    -- S2
    (40 ≤ 40 ∧ stS2.coreOn = true ∧ stS2.mayStart 40 = true ∧ (stS2.out 40).tx = none ∧
      (stS2.ethSt 40).contending = some sCopy ∧ stS2.merges sCopy.item.epoch 40 = false ∧
      stS2.oneStep sCopy.item.uid 40 (stS2.ns + wireTime 8 (stS2.macRate 40)) = none ∧
      tst ((stS2.bankOf sCopy.item.epoch).regs.read (A.ethPortVlan 40)) 19 = false ∧
      secTransmit (stS2.bankOf sCopy.item.epoch) 40 (stS2.egressBytes sCopy) stS2 = (some (up.egressBytes sCopy), stS2) ∧
      (stS2.ethSt 40).plcaActive = true) ∧
    -- S2b
    (40 ≤ 40 ∧ stS2b.coreOn = true ∧ stS2b.mayStart 40 = true ∧ (stS2b.out 40).tx = none ∧
      (stS2b.ethSt 40).contending = some sCopy ∧ stS2b.merges sCopy.item.epoch 40 = false ∧
      stS2b.oneStep sCopy.item.uid 40 (stS2b.ns + wireTime 8 (stS2b.macRate 40)) = none ∧
      tst ((stS2b.bankOf sCopy.item.epoch).regs.read (A.ethPortVlan 40)) 19 = false ∧
      secTransmit (stS2b.bankOf sCopy.item.epoch) 40 (stS2b.egressBytes sCopy) stS2b = (some (up.egressBytes sCopy), stS2b) ∧
      (stS2b.ethSt 40).plcaActive = false ∧ (stS2b.ethSt 40).backoffUntil ≤ stS2b.now) ∧
    -- S3
    (40 ≤ 40 ∧ stS3.coreOn = true ∧ (stS3.out 40).tx = some txF) ∧
    -- S3b
    (40 ≤ 40 ∧ stS3b.coreOn = true ∧ (stS3b.out 40).tx = some txF) ∧
    -- P0
    (stP0.on = true ∧ stP0.macOn 8 = true ∧ (stP0.ethSt 8).linkUp = true) ∧
    -- P0b
    (stP0b.on = true ∧ stP0b.macOn 8 = true ∧ (stP0b.ethSt 8).linkUp = true) ∧
    -- P0c
    (stP0.on = true ∧ stP0.macOn 8 = true ∧ (stP0.ethSt 8).linkUp = true) ∧
    -- P1
    (stP0b.on = true ∧ stP0b.macOn 8 = true ∧ (stP0b.ethSt 8).linkUp = true) ∧
    -- P2
    (SMap.get 0 (stP2.ethSt 8).pauseUntil 2 ≠ 0 ∧ SMap.get 0 (stP2.ethSt 8).pauseUntil 2 ≤ stP2.now) ∧
    -- P3
    (stP3.on = true ∧ stP3.paused 8 2 = true ∧ SMap.get 0 (stP3.ethSt 8).pausedSince 2 + (stP3.wdogNs 8).fst ≤ stP3.now) ∧
    -- P4
    (SMap.get 0 (released8.ethSt 8).releaseUntil 2 ≠ 0 ∧ SMap.get 0 (released8.ethSt 8).releaseUntil 2 ≤ released8.now) ∧
    -- P5
    (stP5.coreOn = true ∧ 8 < 40 ∧ fld (stP5.cfg (A.ethFcCtrl 8)) 2 2 ≠ 0 ∧ stP5.macOn 8 = true ∧
      (stP5.ethSt 8).linkUp = true ∧ stP5.pauseOwed 8 = some true ∧ (stP5.out 8).tx = none ∧
      (stP5.out 8).busyUntil ≤ stP5.now) ∧
    -- P6
    (stP6.coreOn = true ∧ (stP6.ethSt 8).xoff = true ∧ (stP6.ethSt 8).linkUp = true ∧
      (stP6.ethSt 8).xoffAt + fld (stP6.cfg (A.ethFcTimers 8)) 0 16 * 256000 / max 1 (stP6.macRate 8) ≤ stP6.now ∧
      fld (stP6.cfg (A.ethFcXon 8)) 0 18 ≤ BitVec.toNat (stP6.reg (inUseKey 8))) ∧
    -- P7
    (up.granted 0 (A.ethSecTxAn 8) 7 = true) := by
  and_intros <;> decide +kernel

/-- The premises of `Obligations.JournalRecords` hold together, clause by clause. -/
theorem witness_JournalRecords :
    -- J0
    (stJ0.coreOn = true ∧ stJ0.jrn.eventLane = [] ∧ stJ0.jrn.lostStaging = 0 ∧ stJ0.jrn.lostPolicy = 0 ∧
      stJ0.jrn.staging = [jEnt] ∧ tst (stJ0.reg A.jrnCtrl) 0 = false) ∧
    -- J1
    (stJ1.coreOn = true ∧ stJ1.jrn.eventLane = [] ∧ stJ1.jrn.lostStaging = 0 ∧ stJ1.jrn.lostPolicy = 0 ∧
      stJ1.jrn.staging = [jEnt] ∧ tst (stJ1.reg A.jrnCtrl) 0 = true ∧
      jrnCapacity < stJ1.jrn.wr - stJ1.protect + jEnt.records.length) ∧
    -- J2
    (stJ2.coreOn = true ∧ stJ2.jrn.coalesce ≠ [] ∧ stJ2.jrn.eventLane.length < 512 ∧ stJ2.jrn.lostStaging = 0 ∧
      entryCount stJ2.jrn.staging + List.length stJ2.jrn.coalesce ≤ 0x2000) ∧
    -- J3
    (up.granted 0 A.jrnCtrl 1 = true) ∧
    -- J4
    (stJ4.granted 0 A.jrnRdReq 2 = true ∧ 0 < fld 2 0 7 ∧ fld 2 0 7 ≤ 64 ∧
      stJ4.jrn.oldest ≤ pair (stJ4.reg A.jrnRdPosLo) (stJ4.reg A.jrnRdPosHi) ∧
      pair (stJ4.reg A.jrnRdPosLo) (stJ4.reg A.jrnRdPosHi) + fld 2 0 7 ≤ stJ4.jrn.wr ∧ stJ4.jrn.wr < 2 ^ 63 ∧
      stJ4.jrn.corruptSlots = []) ∧
    -- E0
    (stE0.coreOn = true ∧ stE0.jrn.expOn = true ∧ stE0.expFull = false ∧ entryCount stE0.jrn.store < 0x8000 ∧
      stE0.jrn.cursor < stE0.jrn.oldest) ∧
    -- E1
    (stE1.coreOn = true ∧ stE1.jrn.expOn = true ∧ stE1.expFull = false ∧ entryCount stE1.jrn.store < 0x8000 ∧
      stE1.jrn.oldest ≤ stE1.jrn.cursor ∧ stE1.jrn.expReplay = false ∧ stE1.jrn.wr ≤ stE1.jrn.cursor) ∧
    -- E2
    (stE2.coreOn = true ∧ stE2.jrn.expOn = true ∧ stE2.expFull = false ∧ entryCount stE2.jrn.store < 0x8000 ∧
      stE2.jrn.oldest ≤ stE2.jrn.cursor ∧ stE2.jrn.expReplay = false ∧ stE2.jrn.cursor + 1 = stE2.jrn.wr ∧
      stE2.jrn.corruptSlots = [] ∧ fld (SMap.get JRec.nil stE2.jrn.ring (stE2.jrn.cursor % jrnCapacity)).w4 8 4 ≠ 15) ∧
    -- E2b
    (stE2b.coreOn = true ∧ stE2b.jrn.expOn = true ∧ stE2b.expFull = false ∧ entryCount stE2b.jrn.store < 0x8000 ∧
      stE2b.jrn.oldest ≤ stE2b.jrn.cursor ∧ stE2b.jrn.expReplay = false ∧ stE2b.jrn.cursor + 1 = stE2b.jrn.wr ∧
      stE2b.jrn.corruptSlots = [] ∧ fld (SMap.get JRec.nil stE2b.jrn.ring (stE2b.jrn.cursor % jrnCapacity)).w4 8 4 ≠ 15) ∧
    -- R0
    (stR0.coreOn = true ∧ stR0.expFull = false ∧ stR0.expDue = some (jEnt, false) ∧ stR0.jrn.expMax = none) ∧
    -- F0
    (stF0.coreOn = true ∧ stF0.jrn.frame ≠ [] ∧ 0 < stF0.expRecs ∧
      stF0.ownFits 99 stF0.expDest (fld (stF0.cfg A.jrnExpCtrl) 4 3) (stF0.expBytes (List.take stF0.expRecs stF0.jrn.frame)) = true ∧
      stF0.expFull = true) ∧
    -- F1
    (stF1.coreOn = true ∧ stF1.jrn.frame ≠ [] ∧ 0 < stF1.expRecs ∧
      stF1.ownFits 99 stF1.expDest (fld (stF1.cfg A.jrnExpCtrl) 4 3) (stF1.expBytes (List.take stF1.expRecs stF1.jrn.frame)) = true ∧
      stF1.jrn.frameAt + fld (stF1.cfg A.jrnExpPack) 16 10 * 1000 ≤ stF1.ns) := by
  and_intros <;> decide +kernel

/-- The premises of `Obligations.RingsReachMemory` hold together, clause by clause. -/
theorem witness_RingsReachMemory :
    -- C0
    (stC0.coreOn = true ∧ stC0.queue 99 0 = [c7] ∧ stC0.capOwned 0 = 0) ∧
    -- C1
    (ring0.coreOn = true ∧ ring0.queue 99 0 = [c7] ∧ ring0.capOwned 0 ≠ 0 ∧
      inRing (ring0.descAddr 0 (fld (ring0.reg (A.capHead 0)) 0 16)) 16 = true ∧
      inRing (pair (ring0.dramWord (ring0.descAddr 0 (fld (ring0.reg (A.capHead 0)) 0 16))) (w32 (fld (ring0.dramWord (ring0.descAddr 0 (fld (ring0.reg (A.capHead 0)) 0 16) + 4)) 0 3))) (fld (ring0.dramWord (ring0.descAddr 0 (fld (ring0.reg (A.capHead 0)) 0 16) + 8)) 0 16) = true ∧
      pair (ring0.dramWord (ring0.descAddr 0 (fld (ring0.reg (A.capHead 0)) 0 16))) (w32 (fld (ring0.dramWord (ring0.descAddr 0 (fld (ring0.reg (A.capHead 0)) 0 16) + 4)) 0 3)) % 64 = 0 ∧
      c7.data.length ≤ fld (ring0.dramWord (ring0.descAddr 0 (fld (ring0.reg (A.capHead 0)) 0 16) + 8)) 0 16 ∧
      (ring0.descAddr 0 (fld (ring0.reg (A.capHead 0)) 0 16) + 16 ≤ pair (ring0.dramWord (ring0.descAddr 0 (fld (ring0.reg (A.capHead 0)) 0 16))) (w32 (fld (ring0.dramWord (ring0.descAddr 0 (fld (ring0.reg (A.capHead 0)) 0 16) + 4)) 0 3)) ∨ pair (ring0.dramWord (ring0.descAddr 0 (fld (ring0.reg (A.capHead 0)) 0 16))) (w32 (fld (ring0.dramWord (ring0.descAddr 0 (fld (ring0.reg (A.capHead 0)) 0 16) + 4)) 0 3)) + fld (ring0.dramWord (ring0.descAddr 0 (fld (ring0.reg (A.capHead 0)) 0 16) + 8)) 0 16 ≤ ring0.descAddr 0 (fld (ring0.reg (A.capHead 0)) 0 16))) ∧
    -- C2
    (up.granted 0 (A.capTail 0) 5 = true) ∧
    -- I0
    (stI0.granted 0 (A.injData 0) 5 = true ∧ tst (stI0.reg (A.injCtrl 0)) 0 = true ∧ (stI0.injSt 0).bad = false) ∧
    -- I0f
    (stI0f.granted 0 (A.injData 0) 5 = true ∧ tst (stI0f.reg (A.injCtrl 0)) 0 = true ∧ (stI0f.injSt 0).bad = false) ∧
    -- I1
    (stI1.granted 0 (A.injEnd 0) 4 = true ∧ tst (stI1.reg (A.injCtrl 0)) 0 = true ∧ stI1.pingPong 0 = false ∧
      (stI1.injSt 0).flush = false ∧ (stI1.injSt 0).bad = false) ∧
    -- I1b
    (stI1b.granted 0 (A.injEnd 0) 4 = true ∧ tst (stI1b.reg (A.injCtrl 0)) 0 = true ∧ stI1b.pingPong 0 = false ∧
      (stI1b.injSt 0).flush = false ∧ (stI1b.injSt 0).bad = false) ∧
    -- I2
    (stI2.granted 0 (A.injCmd 0) (w32 (2 + 4 * 4)) = true ∧ tst (stI2.reg (A.injCtrl 0)) 0 = true ∧ stI2.pingPong 0 = true ∧
      (stI2.injSt 0).halves.length < 2 ∧ (stI2.injSt 0).flush = false ∧ (stI2.injSt 0).bad = false ∧
      stI2.injFits 0 4 (packetOf (stI2.injSt 0).words 4) = true) ∧
    -- I3
    (stI3.granted 0 (A.injCmd 0) 1 = true ∧ (stI3.injSt 0).words = [] ∧ (stI3.injSt 0).bad = false) ∧
    -- I4
    (stI4.coreOn = true ∧ (stI4.injSt 0).closed = [List.replicate 60 1] ∧
      stI4.ownFits 96 (fld (stI4.reg (A.injDest 0)) 0 7) (fld (stI4.reg (A.injDest 0)) 8 3) (List.replicate 60 1) = true) ∧
    -- I5
    (stI5.coreOn = true ∧ ((stI5.injSt 0).words ≠ [] ∨ (stI5.injSt 0).bad = true) ∧
      (stI5.injSt 0).lastWrite + 1000000 ≤ stI5.now) := by
  and_intros <;> decide +kernel

/-- The premises of `Obligations.LanesSendCodewords` hold together, clause by clause. -/
theorem witness_LanesSendCodewords :
    -- Lcb
    ((Lcb.mk 7 3 2 true false true 8 77).version < 256 ∧ (Lcb.mk 7 3 2 true false true 8 77).lane < 4 ∧
      (Lcb.mk 7 3 2 true false true 8 77).width < 4) ∧
    -- Cw
    (stCw.pending = [] ∧ stCw.on = true ∧ stCw.live.portWidth 0 = 1 ∧
      (∀ (b : LaneBlock), b ∈ (stCw.lane 0).blocks → b.bytes.length = 8) ∧ stCw.framing 0 = true ∧
      cwcAt (stCw.now + 1) ≠ cwcAt stCw.now) := by
  and_intros <;> decide +kernel

/-- The premises of `Obligations.OctFramesRun` hold together, clause by clause. -/
theorem witness_OctFramesRun :
    -- O0
    (stO0.coreOn = true ∧ stO0.octIn = [(itm 8 [2, 0], peer0)] ∧ octRead (itm 8 [2, 0]).data = OctKind.unknown) ∧
    -- O1
    (stO1.coreOn = true ∧ stO1.octIn = [(octItem [1, 1, 0, 0, 0, 0, 0, 64], peer0)] ∧
      octRead (octItem [1, 1, 0, 0, 0, 0, 0, 64]).data = OctKind.request (OctReq.mk false false 0 false 0 1 [OctOp.mk 1 1 0 64 []] 20) ∧
      (OctReq.mk false false 0 false 0 1 [OctOp.mk 1 1 0 64 []] 20).peer = false ∧
      (OctReq.mk false false 0 false 0 1 [OctOp.mk 1 1 0 64 []] 20).opens = false ∧
      replyFrame peer0 (OctReq.mk false false 0 false 0 1 [OctOp.mk 1 1 0 64 []] 20).ops ≤ (stO1.bankOf (octItem [1, 1, 0, 0, 0, 0, 0, 64]).epoch).maxFrame (octItem [1, 1, 0, 0, 0, 0, 0, 64]).vertex ∧
      (stO1.session ((octItem [1, 1, 0, 0, 0, 0, 0, 64]).facet * 4 + (OctReq.mk false false 0 false 0 1 [OctOp.mk 1 1 0 64 []] 20).sid)).isOpen = true ∧
      (List.find? (fun x => decide (x.sess = (octItem [1, 1, 0, 0, 0, 0, 0, 64]).facet * 4 + (OctReq.mk false false 0 false 0 1 [OctOp.mk 1 1 0 64 []] 20).sid) && !x.stale && decide (x.seqNo = (OctReq.mk false false 0 false 0 1 [OctOp.mk 1 1 0 64 []] 20).seqNo)) stO1.octRun = none) ∧
      (List.find? (fun e => decide (e.seq = (OctReq.mk false false 0 false 0 1 [OctOp.mk 1 1 0 64 []] 20).seqNo)) (stO1.session ((octItem [1, 1, 0, 0, 0, 0, 0, 64]).facet * 4 + (OctReq.mk false false 0 false 0 1 [OctOp.mk 1 1 0 64 []] 20).sid)).cache = none) ∧
      serialBefore (stO1.session ((octItem [1, 1, 0, 0, 0, 0, 0, 64]).facet * 4 + (OctReq.mk false false 0 false 0 1 [OctOp.mk 1 1 0 64 []] 20).sid)).high (OctReq.mk false false 0 false 0 1 [OctOp.mk 1 1 0 64 []] 20).seqNo = true ∧
      ((List.filter (fun x => decide (x.sess = (octItem [1, 1, 0, 0, 0, 0, 0, 64]).facet * 4 + (OctReq.mk false false 0 false 0 1 [OctOp.mk 1 1 0 64 []] 20).sid)) stO1.octRun).length < 8)) ∧
    -- O2
    (stO2.coreOn = true ∧ stO2.octIn = [(octItem [1, 1, 0, 0, 0, 0, 0, 64], peer0)] ∧
      octRead (octItem [1, 1, 0, 0, 0, 0, 0, 64]).data = OctKind.request (OctReq.mk false false 0 false 0 1 [OctOp.mk 1 1 0 64 []] 20) ∧
      (OctReq.mk false false 0 false 0 1 [OctOp.mk 1 1 0 64 []] 20).peer = false ∧
      (OctReq.mk false false 0 false 0 1 [OctOp.mk 1 1 0 64 []] 20).opens = false ∧
      replyFrame peer0 (OctReq.mk false false 0 false 0 1 [OctOp.mk 1 1 0 64 []] 20).ops ≤ (stO2.bankOf (octItem [1, 1, 0, 0, 0, 0, 0, 64]).epoch).maxFrame (octItem [1, 1, 0, 0, 0, 0, 0, 64]).vertex ∧
      (stO2.session ((octItem [1, 1, 0, 0, 0, 0, 0, 64]).facet * 4 + (OctReq.mk false false 0 false 0 1 [OctOp.mk 1 1 0 64 []] 20).sid)).isOpen = true ∧
      (List.find? (fun x => decide (x.sess = (octItem [1, 1, 0, 0, 0, 0, 0, 64]).facet * 4 + (OctReq.mk false false 0 false 0 1 [OctOp.mk 1 1 0 64 []] 20).sid) && !x.stale && decide (x.seqNo = (OctReq.mk false false 0 false 0 1 [OctOp.mk 1 1 0 64 []] 20).seqNo)) stO2.octRun = none) ∧
      (List.find? (fun e => decide (e.seq = (OctReq.mk false false 0 false 0 1 [OctOp.mk 1 1 0 64 []] 20).seqNo)) (stO2.session ((octItem [1, 1, 0, 0, 0, 0, 0, 64]).facet * 4 + (OctReq.mk false false 0 false 0 1 [OctOp.mk 1 1 0 64 []] 20).sid)).cache = some (CacheEnt.mk 1 (w32 (crc32c (octBytes [1, 1, 0, 0, 0, 0, 0, 64]))) [3])) ∧
      (CacheEnt.mk 1 (w32 (crc32c (octBytes [1, 1, 0, 0, 0, 0, 0, 64]))) [3]).crc = w32 (crc32c (List.take (OctReq.mk false false 0 false 0 1 [OctOp.mk 1 1 0 64 []] 20).size (octItem [1, 1, 0, 0, 0, 0, 0, 64]).data))) ∧
    -- D0
    ((OctExec.mk (exec0 rd0).id (exec0 rd0).sess (exec0 rd0).facet (exec0 rd0).peer (exec0 rd0).rank (exec0 rd0).sid (exec0 rd0).epoch (exec0 rd0).stamp (exec0 rd0).vertex (exec0 rd0).seqNo (exec0 rd0).itemSeq (exec0 rd0).crc (exec0 rd0).stop (exec0 rd0).dst [rd0, rd0] (exec0 rd0).done (exec0 rd0).held (exec0 rd0).stale (exec0 rd0).resets).done.length + 1 < (OctExec.mk (exec0 rd0).id (exec0 rd0).sess (exec0 rd0).facet (exec0 rd0).peer (exec0 rd0).rank (exec0 rd0).sid (exec0 rd0).epoch (exec0 rd0).stamp (exec0 rd0).vertex (exec0 rd0).seqNo (exec0 rd0).itemSeq (exec0 rd0).crc (exec0 rd0).stop (exec0 rd0).dst [rd0, rd0] (exec0 rd0).done (exec0 rd0).held (exec0 rd0).stale (exec0 rd0).resets).ops.length ∧
      ((OctExec.mk (exec0 rd0).id (exec0 rd0).sess (exec0 rd0).facet (exec0 rd0).peer (exec0 rd0).rank (exec0 rd0).sid (exec0 rd0).epoch (exec0 rd0).stamp (exec0 rd0).vertex (exec0 rd0).seqNo (exec0 rd0).itemSeq (exec0 rd0).crc (exec0 rd0).stop (exec0 rd0).dst [rd0, rd0] (exec0 rd0).done (exec0 rd0).held (exec0 rd0).stale (exec0 rd0).resets).stop = false ∨ (OctRes.mk Rsp.ok [1]).rsp = Rsp.ok)) ∧
    -- D1
    ((exec0 rd0).stale = false ∧ (exec0 rd0).resets = false ∧ (exec0 rd0).done.length + 1 = (exec0 rd0).ops.length) ∧
    -- D2
    ((OctExec.mk (exec0 rd0).id (exec0 rd0).sess (exec0 rd0).facet (exec0 rd0).peer (exec0 rd0).rank (exec0 rd0).sid (exec0 rd0).epoch (exec0 rd0).stamp (exec0 rd0).vertex (exec0 rd0).seqNo (exec0 rd0).itemSeq (exec0 rd0).crc true (exec0 rd0).dst [rd0, rd0] (exec0 rd0).done (exec0 rd0).held (exec0 rd0).stale (exec0 rd0).resets).stale = false ∧
      (OctExec.mk (exec0 rd0).id (exec0 rd0).sess (exec0 rd0).facet (exec0 rd0).peer (exec0 rd0).rank (exec0 rd0).sid (exec0 rd0).epoch (exec0 rd0).stamp (exec0 rd0).vertex (exec0 rd0).seqNo (exec0 rd0).itemSeq (exec0 rd0).crc true (exec0 rd0).dst [rd0, rd0] (exec0 rd0).done (exec0 rd0).held (exec0 rd0).stale (exec0 rd0).resets).resets = false ∧
      (OctExec.mk (exec0 rd0).id (exec0 rd0).sess (exec0 rd0).facet (exec0 rd0).peer (exec0 rd0).rank (exec0 rd0).sid (exec0 rd0).epoch (exec0 rd0).stamp (exec0 rd0).vertex (exec0 rd0).seqNo (exec0 rd0).itemSeq (exec0 rd0).crc true (exec0 rd0).dst [rd0, rd0] (exec0 rd0).done (exec0 rd0).held (exec0 rd0).stale (exec0 rd0).resets).done.length + 1 < (OctExec.mk (exec0 rd0).id (exec0 rd0).sess (exec0 rd0).facet (exec0 rd0).peer (exec0 rd0).rank (exec0 rd0).sid (exec0 rd0).epoch (exec0 rd0).stamp (exec0 rd0).vertex (exec0 rd0).seqNo (exec0 rd0).itemSeq (exec0 rd0).crc true (exec0 rd0).dst [rd0, rd0] (exec0 rd0).done (exec0 rd0).held (exec0 rd0).stale (exec0 rd0).resets).ops.length ∧
      (OctExec.mk (exec0 rd0).id (exec0 rd0).sess (exec0 rd0).facet (exec0 rd0).peer (exec0 rd0).rank (exec0 rd0).sid (exec0 rd0).epoch (exec0 rd0).stamp (exec0 rd0).vertex (exec0 rd0).seqNo (exec0 rd0).itemSeq (exec0 rd0).crc true (exec0 rd0).dst [rd0, rd0] (exec0 rd0).done (exec0 rd0).held (exec0 rd0).stale (exec0 rd0).resets).stop = true ∧
      (OctRes.mk Rsp.rights []).rsp ≠ Rsp.ok) := by
  and_intros <;> decide +kernel

/-- The premises of `Obligations.OctOperationsExecute` hold together, clause by clause. -/
theorem witness_OctOperationsExecute :
    -- Op0
    (stOp0.coreOn = true ∧ (List.find? (fun y => decide (y.id = 3)) stOp0.octRun = some (exec0 rd0)) ∧
      (exec0 rd0).next = some rd0 ∧ stOp0.facetReset = none ∧ (exec0 rd0).held = false ∧ rd0.code = 1 ∧
      farWindow (rd0.addr + 4 * (rd0.n - 1)) = none ∧
      (readWords (exec0 rd0).req rd0.addr rd0.n stOp0).snd.snd.facetReset = none ∧
      (readWords (exec0 rd0).req rd0.addr rd0.n stOp0).snd.snd.power.resetDue = false) ∧
    -- Op1
    (stOp1.coreOn = true ∧ (List.find? (fun y => decide (y.id = 3)) stOp1.octRun = some (exec0 (OctOp.mk 2 1 0 384 [5]))) ∧
      (exec0 (OctOp.mk 2 1 0 384 [5])).next = some (OctOp.mk 2 1 0 384 [5]) ∧ stOp1.facetReset = none ∧
      (exec0 (OctOp.mk 2 1 0 384 [5])).held = false ∧ (OctOp.mk 2 1 0 384 [5]).code = 2 ∧
      farWindow ((OctOp.mk 2 1 0 384 [5]).addr + 4 * ((OctOp.mk 2 1 0 384 [5]).n - 1)) = none ∧
      (writeWords (exec0 (OctOp.mk 2 1 0 384 [5])).req (OctOp.mk 2 1 0 384 [5]).addr (OctOp.mk 2 1 0 384 [5]).words stOp1).snd.facetReset = none ∧
      (writeWords (exec0 (OctOp.mk 2 1 0 384 [5])).req (OctOp.mk 2 1 0 384 [5]).addr (OctOp.mk 2 1 0 384 [5]).words stOp1).snd.power.resetDue = false) ∧
    -- Op2
    (stOp2.coreOn = true ∧
      (List.find? (fun y => decide (y.id = 3)) stOp2.octRun = some (exec0 (OctOp.mk 3 1 0 384 [255, 5]))) ∧
      (exec0 (OctOp.mk 3 1 0 384 [255, 5])).next = some (OctOp.mk 3 1 0 384 [255, 5]) ∧ stOp2.facetReset = none ∧
      (exec0 (OctOp.mk 3 1 0 384 [255, 5])).held = false ∧ (OctOp.mk 3 1 0 384 [255, 5]).code = 3 ∧
      farWindow (OctOp.mk 3 1 0 384 [255, 5]).addr = none ∧
      farWindow ((OctOp.mk 3 1 0 384 [255, 5]).addr + 4 * ((OctOp.mk 3 1 0 384 [255, 5]).n - 1)) = none ∧
      badSpan (OctOp.mk 3 1 0 384 [255, 5]).addr 1 = none ∧
      (writeAny (exec0 (OctOp.mk 3 1 0 384 [255, 5])).req (OctOp.mk 3 1 0 384 [255, 5]).addr (stOp2.oldWord (exec0 (OctOp.mk 3 1 0 384 [255, 5])).req (OctOp.mk 3 1 0 384 [255, 5]).addr &&& ~~~(OctOp.mk 3 1 0 384 [255, 5]).words.getD 0 0 ||| (OctOp.mk 3 1 0 384 [255, 5]).words.getD 1 0 &&& (OctOp.mk 3 1 0 384 [255, 5]).words.getD 0 0) stOp2).snd.facetReset = none ∧
      (writeAny (exec0 (OctOp.mk 3 1 0 384 [255, 5])).req (OctOp.mk 3 1 0 384 [255, 5]).addr (stOp2.oldWord (exec0 (OctOp.mk 3 1 0 384 [255, 5])).req (OctOp.mk 3 1 0 384 [255, 5]).addr &&& ~~~(OctOp.mk 3 1 0 384 [255, 5]).words.getD 0 0 ||| (OctOp.mk 3 1 0 384 [255, 5]).words.getD 1 0 &&& (OctOp.mk 3 1 0 384 [255, 5]).words.getD 0 0) stOp2).snd.power.resetDue = false) ∧
    -- Op3
    (stOp3.coreOn = true ∧ (List.find? (fun y => decide (y.id = 3)) stOp3.octRun = some (exec0 (OctOp.mk 4 1 0 60 []))) ∧
      (exec0 (OctOp.mk 4 1 0 60 [])).next = some (OctOp.mk 4 1 0 60 []) ∧ stOp3.facetReset = none ∧
      (exec0 (OctOp.mk 4 1 0 60 [])).held = false ∧ (OctOp.mk 4 1 0 60 []).code = 4 ∧
      stOp3.badLock (exec0 (OctOp.mk 4 1 0 60 [])).req (OctOp.mk 4 1 0 60 []).addr = none) ∧
    -- Op4
    (stOp4.coreOn = true ∧ (List.find? (fun y => decide (y.id = 3)) stOp4.octRun = some (exec0 (OctOp.mk 5 1 0 60 []))) ∧
      (exec0 (OctOp.mk 5 1 0 60 [])).next = some (OctOp.mk 5 1 0 60 []) ∧ stOp4.facetReset = none ∧
      (exec0 (OctOp.mk 5 1 0 60 [])).held = false ∧ (OctOp.mk 5 1 0 60 []).code = 5 ∧
      stOp4.badLock (exec0 (OctOp.mk 5 1 0 60 [])).req (OctOp.mk 5 1 0 60 []).addr = none) ∧
    -- Op5
    (stOp5.coreOn = true ∧
      (List.find? (fun y => decide (y.id = 3)) stOp5.octRun = some (exec0 (OctOp.mk 6 1 0 (A.tblCmdOp 0) [1]))) ∧
      (exec0 (OctOp.mk 6 1 0 (A.tblCmdOp 0) [1])).next = some (OctOp.mk 6 1 0 (A.tblCmdOp 0) [1]) ∧ stOp5.facetReset = none ∧
      (exec0 (OctOp.mk 6 1 0 (A.tblCmdOp 0) [1])).held = false ∧ (OctOp.mk 6 1 0 (A.tblCmdOp 0) [1]).code = 6) ∧
    -- Op6
    (stOp6.coreOn = true ∧
      (List.find? (fun y => decide (y.id = 3)) stOp6.octRun = some (exec0 (OctOp.mk 7 1 0 A.sysEpochCtrl [1]))) ∧
      (exec0 (OctOp.mk 7 1 0 A.sysEpochCtrl [1])).next = some (OctOp.mk 7 1 0 A.sysEpochCtrl [1]) ∧ stOp6.facetReset = none ∧
      (exec0 (OctOp.mk 7 1 0 A.sysEpochCtrl [1])).held = false ∧ (OctOp.mk 7 1 0 A.sysEpochCtrl [1]).code = 7) ∧
    -- Op7
    (stOp7.coreOn = true ∧ (List.find? (fun y => decide (y.id = 3)) stOp7.octRun = some (exec0 (OctOp.mk 1 2 0 66 []))) ∧
      (exec0 (OctOp.mk 1 2 0 66 [])).next = some (OctOp.mk 1 2 0 66 []) ∧ stOp7.facetReset = none ∧
      (exec0 (OctOp.mk 1 2 0 66 [])).held = false ∧ (OctOp.mk 1 2 0 66 []).code = 1 ∧
      farWindow ((OctOp.mk 1 2 0 66 []).addr + 4 * ((OctOp.mk 1 2 0 66 []).n - 1)) = none ∧
      (readWords (exec0 (OctOp.mk 1 2 0 66 [])).req (OctOp.mk 1 2 0 66 []).addr (OctOp.mk 1 2 0 66 []).n stOp7).snd.snd.facetReset = none ∧
      (readWords (exec0 (OctOp.mk 1 2 0 66 [])).req (OctOp.mk 1 2 0 66 []).addr (OctOp.mk 1 2 0 66 []).n stOp7).snd.snd.power.resetDue = false) ∧
    -- Op8
    (stOp8.coreOn = true ∧ (List.find? (fun y => decide (y.id = 3)) stOp8.octRun = some (exec0 (OctOp.mk 6 1 0 64 [1]))) ∧
      (exec0 (OctOp.mk 6 1 0 64 [1])).next = some (OctOp.mk 6 1 0 64 [1]) ∧ stOp8.facetReset = none ∧
      (exec0 (OctOp.mk 6 1 0 64 [1])).held = false ∧ (OctOp.mk 6 1 0 64 [1]).code = 6) ∧
    -- Op9
    (stOp9.coreOn = true ∧ (List.find? (fun y => decide (y.id = 3)) stOp9.octRun = some (exec0 (OctOp.mk 7 1 0 64 [1]))) ∧
      (exec0 (OctOp.mk 7 1 0 64 [1])).next = some (OctOp.mk 7 1 0 64 [1]) ∧ stOp9.facetReset = none ∧
      (exec0 (OctOp.mk 7 1 0 64 [1])).held = false ∧ (OctOp.mk 7 1 0 64 [1]).code = 7) ∧
    -- Op3l
    (stOp3l.coreOn = true ∧ (List.find? (fun y => decide (y.id = 3)) stOp3l.octRun = some (exec0 (OctOp.mk 4 1 0 60 []))) ∧
      (exec0 (OctOp.mk 4 1 0 60 [])).next = some (OctOp.mk 4 1 0 60 []) ∧ stOp3l.facetReset = none ∧
      (exec0 (OctOp.mk 4 1 0 60 [])).held = false ∧ (OctOp.mk 4 1 0 60 []).code = 4 ∧
      stOp3l.badLock (exec0 (OctOp.mk 4 1 0 60 [])).req (OctOp.mk 4 1 0 60 []).addr = none) ∧
    -- Op4l
    (stOp4l.coreOn = true ∧ (List.find? (fun y => decide (y.id = 3)) stOp4l.octRun = some (exec0 (OctOp.mk 5 1 0 60 []))) ∧
      (exec0 (OctOp.mk 5 1 0 60 [])).next = some (OctOp.mk 5 1 0 60 []) ∧ stOp4l.facetReset = none ∧
      (exec0 (OctOp.mk 5 1 0 60 [])).held = false ∧ (OctOp.mk 5 1 0 60 []).code = 5 ∧
      stOp4l.badLock (exec0 (OctOp.mk 5 1 0 60 [])).req (OctOp.mk 5 1 0 60 []).addr = none) ∧
    -- Op5p
    (stOp5p.coreOn = true ∧
      (List.find? (fun y => decide (y.id = 3)) stOp5p.octRun = some (exec0 (OctOp.mk 6 1 0 (A.tblCmdOp 0) [5]))) ∧
      (exec0 (OctOp.mk 6 1 0 (A.tblCmdOp 0) [5])).next = some (OctOp.mk 6 1 0 (A.tblCmdOp 0) [5]) ∧
      stOp5p.facetReset = none ∧ (exec0 (OctOp.mk 6 1 0 (A.tblCmdOp 0) [5])).held = false ∧
      (OctOp.mk 6 1 0 (A.tblCmdOp 0) [5]).code = 6) := by
  and_intros <;> decide +kernel

/-- The premises of `Obligations.FacetsAreReset` hold together, clause by clause. -/
theorem witness_FacetsAreReset :
    -- Arp
    (stArp.mpOn = true ∧ takeCtl isArp stArp = some (arpItem, up)) ∧
    -- Lease
    (stLease.coreOn = true ∧ stLease.facetReset = none ∧ stLease.leaseOut 2 = true) ∧
    -- FReset
    (up.granted 0 A.sysFacetReset 258 = true ∧ tst 258 8 = true ∧ up.facetReset = none ∧ (0 = 0 ∨ fld 258 0 4 = 0)) ∧
    -- FReset self
    (up.granted 2 A.sysFacetReset 258 = true ∧ tst 258 8 = true ∧ up.facetReset = none ∧ (2 = 0 ∨ fld 258 0 4 = 2)) ∧
    -- FReset rights
    (up.granted 3 A.sysFacetReset 258 = true ∧ tst 258 8 = true ∧ up.facetReset = none ∧ 3 ≠ 0 ∧ fld 258 0 4 ≠ 3) ∧
    -- FResetW
    (stFResetW.coreOn = true ∧ stFResetW.facetReset = some (FacetReset.mk 2 0 0 none) ∧
      (stFResetW.out 8).tx = some (TxFrame.mk (Copy.mk (Item.mk c7.item.uid c7.item.stamp c7.item.vertex c7.item.seq c7.item.epoch 2 c7.item.data c7.item.len c7.item.vid c7.item.pcp c7.item.tagged c7.item.verified c7.item.tc c7.item.flow c7.item.res c7.item.rule) c7.src c7.egress c7.tc c7.data c7.len c7.outIdx c7.txId c7.reserved c7.cut c7.stomp c7.built c7.held c7.errs c7.late) txF.bytes txF.sof txF.sent txF.piece txF.began txF.endAt) ∧
      (TxFrame.mk (Copy.mk (Item.mk c7.item.uid c7.item.stamp c7.item.vertex c7.item.seq c7.item.epoch 2 c7.item.data c7.item.len c7.item.vid c7.item.pcp c7.item.tagged c7.item.verified c7.item.tc c7.item.flow c7.item.res c7.item.rule) c7.src c7.egress c7.tc c7.data c7.len c7.outIdx c7.txId c7.reserved c7.cut c7.stomp c7.built c7.held c7.errs c7.late) txF.bytes txF.sof txF.sent txF.piece txF.began txF.endAt).copy.item.facet = (FacetReset.mk 2 0 0 none).facet ∧
      (∀ (x : OctExec), x ∈ stFResetW.octRun → x.resets = false)) ∧
    -- FResetC
    (stFResetC.coreOn = true ∧ stFResetC.facetReset = some (FacetReset.mk 2 0 0 none) ∧
      (∀ (p : Nat × Copy), p ∈ stFResetC.flying → p.snd.item.facet ≠ (FacetReset.mk 2 0 0 none).facet) ∧
      (∀ (x : OctExec), x ∈ stFResetC.octRun → x.resets = false)) ∧
    -- Pop
    (2 ≠ 0 ∧ ringed.granted 2 A.sysEvPop 1 = true ∧ tst 1 0 = true ∧ (ringed.ring 2).entries = [EvEntry.mk 5 false 1 9]) := by
  and_intros <;> decide +kernel

/-- The premises of `Obligations.WindowsReachFar` hold together, clause by clause. -/
theorem witness_WindowsReachFar :
    -- W0w
    (stW0w.coreOn = true ∧ stW0w.windowUp 0 = true ∧ (stW0w.window 0).queue.length < 64 ∧
      stW0w.mayUseWindow (stW0w.plain 0) 0 = true ∧ 64 ≤ 64 ∧ 64 % 4 = 0) ∧
    -- W0r
    (stW0w.coreOn = true ∧ stW0w.windowUp 0 = true ∧ (stW0w.window 0).queue.length < 64 ∧
      stW0w.mayUseWindow (stW0w.plain 0) 0 = true ∧ 64 ≤ 4092 ∧ 4092 % 4 = 0) ∧
    -- W1
    (stW0w.coreOn = true ∧ stW0w.windowRoom 0 = true ∧ stW0w.mayUseWindow (stW0w.plain 3) 0 = false ∧ 64 ≤ 64 ∧ 64 % 4 = 0) ∧
    -- W1r
    (stW0w.coreOn = true ∧ stW0w.windowRoom 0 = true ∧ stW0w.mayUseWindow (stW0w.plain 3) 0 = false ∧ 64 ≤ 64 ∧ 64 % 4 = 0) ∧
    -- W2
    (stW2.coreOn = true ∧ (stW2.window 0).flight = none ∧ (stW2.window 0).queue ≠ [] ∧ stW2.windowUp 0 = true ∧
      stW2.tagOk (stW2.winFacet 0) = true) ∧
    -- W3
    (stW3.coreOn = true ∧ (stW3.window 0).flight = some (flight0 far0) ∧
      (flight0 far0).sentAt + fld (stW3.cfg A.brgWRetry) 0 16 * 1000 ≤ stW3.now ∧ stW3.windowUp 0 = true ∧
      (flight0 far0).tries < fld (stW3.cfg A.brgWRetry) 16 4) ∧
    -- W4
    (stW4.coreOn = true ∧ (stW4.window 0).flight = some (flight0 far0) ∧ (flight0 far0).dropped = false ∧
      (flight0 far0).ops = [far0] ∧ far0.code = 1 ∧ far0.waiter = FarFor.command ∧ [77].length = far0.flags) ∧
    -- L0
    (stW0w.coreOn = true ∧ stW0w.windowUp 0 = true ∧ stW0w.granted 0 (A.brgWinLock 0) 1 = true ∧
      (stW0w.window 0).lock = FarLock.none) ∧
    -- L1
    (stL1.coreOn = true ∧ stL1.windowUp 0 = true ∧
      (stL1.window 0).flight = some (flight0 (FarOp.mk 4 0 [] FarFor.command 0)) ∧
      (flight0 (FarOp.mk 4 0 [] FarFor.command 0)).dropped = false ∧
      (flight0 (FarOp.mk 4 0 [] FarFor.command 0)).ops = [FarOp.mk 4 0 [] FarFor.command 0] ∧
      (FarOp.mk 4 0 [] FarFor.command 0).code = 4 ∧ (FarOp.mk 4 0 [] FarFor.command 0).flags % 2 = 0 ∧
      (stL1.window 0).lock = FarLock.requesting) ∧
    -- L2
    (stL2.coreOn = true ∧ stL2.windowUp 0 = true ∧ stL2.granted 0 (A.brgWinLock 0) 0 = true ∧
      (stL2.window 0).lock = FarLock.granted) ∧
    -- L3
    (stL2.coreOn = true ∧ stL2.windowUp 0 = true ∧ stL2.granted 0 (A.brgWinLock 0) 256 = true ∧
      (stL2.window 0).lock = FarLock.granted) ∧
    -- L4
    (stL4.coreOn = true ∧ stL4.windowUp 0 = true ∧ (stL4.window 0).lock = FarLock.granted ∧
      (stL4.window 0).lastFar + 50000000 ≤ stL4.now) ∧
    -- L5
    (stL5x.coreOn = true ∧ stL5x.windowUp 0 = true ∧ stL5x.lockOf (518 + 0) = some (Lease.mk 0 5) ∧
      (Lease.mk 0 5).deadline ≤ stL5x.now ∧ (stL5x.window 0).lock = FarLock.granted) := by
  and_intros <;> decide +kernel

/-- The premises of `Obligations.AccordKeepsPeers` hold together, clause by clause. -/
theorem witness_AccordKeepsPeers :
    -- A0
    (stA0.mpOn = true ∧ stA0.accordOn = true ∧ stA0.accord.lastSent + 10000000 ≤ stA0.now) ∧
    -- A1f
    (stA1f.mpOn = true ∧ stA1f.accordOn = true ∧ takeCtl isAccord stA1f = some (accFrame 5, stA1f1) ∧
      byteAt (List.drop (ctlOff (accFrame 5).data + 2) (accFrame 5).data) 1 = 1 ∧
      56 ≤ (List.drop (ctlOff (accFrame 5).data + 2) (accFrame 5).data).length ∧
      w32 (beAt (List.drop (ctlOff (accFrame 5).data + 2) (accFrame 5).data) 4 4) ≠ stA1f.cfg A.brgAccGroup) ∧
    -- A1
    (stA1.mpOn = true ∧ stA1.accordOn = true ∧ takeCtl isAccord stA1 = some (accFrame 0, stA1f1) ∧
      byteAt (List.drop (ctlOff (accFrame 0).data + 2) (accFrame 0).data) 1 = 1 ∧
      56 ≤ (List.drop (ctlOff (accFrame 0).data + 2) (accFrame 0).data).length ∧
      w32 (beAt (List.drop (ctlOff (accFrame 0).data + 2) (accFrame 0).data) 4 4) = stA1.cfg A.brgAccGroup ∧
      byteAt (List.drop (ctlOff (accFrame 0).data + 2) (accFrame 0).data) 2 % 8 ≠ stA1.ownRank ∧
      (stA1.peer (byteAt (List.drop (ctlOff (accFrame 0).data + 2) (accFrame 0).data) 2 % 8)).state ≠ 3 ∧
      ((stA1.peer (byteAt (List.drop (ctlOff (accFrame 0).data + 2) (accFrame 0).data) 2 % 8)).state = 1 → BitVec.ofNat 64 (beAt (List.drop (ctlOff (accFrame 0).data + 2) (accFrame 0).data) 8 8) = (stA1.peer (byteAt (List.drop (ctlOff (accFrame 0).data + 2) (accFrame 0).data) 2 % 8)).id)) ∧
    -- A1c
    (stA1c.mpOn = true ∧ stA1c.accordOn = true ∧ takeCtl isAccord stA1c = some (accFrame 0, stA1c1) ∧
      byteAt (List.drop (ctlOff (accFrame 0).data + 2) (accFrame 0).data) 1 = 1 ∧
      56 ≤ (List.drop (ctlOff (accFrame 0).data + 2) (accFrame 0).data).length ∧
      w32 (beAt (List.drop (ctlOff (accFrame 0).data + 2) (accFrame 0).data) 4 4) = stA1c.cfg A.brgAccGroup ∧
      byteAt (List.drop (ctlOff (accFrame 0).data + 2) (accFrame 0).data) 2 % 8 ≠ stA1c.ownRank ∧
      (stA1c.peer (byteAt (List.drop (ctlOff (accFrame 0).data + 2) (accFrame 0).data) 2 % 8)).state = 1 ∧
      BitVec.ofNat 64 (beAt (List.drop (ctlOff (accFrame 0).data + 2) (accFrame 0).data) 8 8) ≠ (stA1c.peer (byteAt (List.drop (ctlOff (accFrame 0).data + 2) (accFrame 0).data) 2 % 8)).id) ∧
    -- A2
    (stA2.coreOn = true ∧ (stA2.peer 2).state = 1 ∧ (stA2.peer 2).heard + 50000000 ≤ stA2.now) ∧
    -- A3
    (stA3.coreOn = true ∧ (stA3.peer 2).state = 3 ∧ (stA3.peer 2).rival = some (9, 0) ∧ 0 + 50000000 ≤ stA3.now ∧
      2 ≠ stA3.ownRank) ∧
    -- A4
    (stA4.mpOn = true ∧ stA4.accord.digestDue = true) := by
  and_intros <;> decide +kernel

/-- The premises of `Obligations.CipherRequestsRun` hold together, clause by clause. -/
theorem witness_CipherRequestsRun :
    -- Q0
    (tst 1 0 = true ∧ stQ0.granted 0 (A.cipRqSubmit 0) 1 = true ∧
      256 ≤ (stQ0.cipFacet 0).queue.length + (stQ0.cipRunning 0).length + (stQ0.cipFacet 0).comps.length) ∧
    -- Q1
    (tst 1 0 = true ∧ up.granted 0 (A.cipRqSubmit 0) 1 = true ∧
      (up.cipFacet 0).queue.length + (up.cipRunning 0).length + (up.cipFacet 0).comps.length < 256 ∧
      (List.find? (fun p => decide (p.fst = (List.map (fun k => up.reg (A.cipRqD 0 k)) (List.range 8)).getD 0 0)) (up.cipFacet 0).window = none)) ∧
    -- Q2
    (tst 1 0 = true ∧ stQ2.granted 0 (A.cipRqSubmit 0) 1 = true ∧
      (stQ2.cipFacet 0).queue.length + (stQ2.cipRunning 0).length + (stQ2.cipFacet 0).comps.length < 256 ∧
      (List.find? (fun p => decide (p.fst = (List.map (fun k => stQ2.reg (A.cipRqD 0 k)) (List.range 8)).getD 0 0)) (stQ2.cipFacet 0).window = some ((List.map (fun k => stQ2.reg (A.cipRqD 0 k)) (List.range 8)).getD 0 0, some (CipComp.mk 0 5 0 0)))) ∧
    -- Q3
    (tst 1 0 = true ∧ up.granted 0 (A.cipCqPop 0) 1 = true) ∧
    -- Q3b
    (tst 1 0 = true ∧ stQ3b.granted 0 (A.cipCqPop 0) 1 = true) ∧
    -- K0
    (stK0.coreOn = true ∧ stK0.cipRunning 0 = [cipRun0] ∧ cipRun0.unit = none ∧ cipRun0.blob = none ∧
      cipRun0.out = some [1, 2, 3] ∧ fld (cipRun0.desc.getD 2 0) 16 16 + [1, 2, 3].length ≤ 0x10000) ∧
    -- K1
    (stK0.coreOn = true ∧ stK0.cipRunning 0 = [cipRun0] ∧ cipRun0.unit = none ∧ cipRun0.blob = none) ∧
    -- K2
    (stK2.coreOn = true ∧
      stK2.cipRunning 0 = [CipRun.mk cipRun0.facet cipRun0.id cipRun0.desc cipRun0.tag cipRun0.status cipRun0.keyUsed cipRun0.value none (some (Blob.mk 3 0 (key16 2))) cipRun0.unit cipRun0.run cipRun0.pipe] ∧
      (CipRun.mk cipRun0.facet cipRun0.id cipRun0.desc cipRun0.tag cipRun0.status cipRun0.keyUsed cipRun0.value none (some (Blob.mk 3 0 (key16 2))) cipRun0.unit cipRun0.run cipRun0.pipe).unit = none ∧
      (CipRun.mk cipRun0.facet cipRun0.id cipRun0.desc cipRun0.tag cipRun0.status cipRun0.keyUsed cipRun0.value none (some (Blob.mk 3 0 (key16 2))) cipRun0.unit cipRun0.run cipRun0.pipe).blob = some (Blob.mk 3 0 (key16 2)) ∧
      stK2.cip.running = [CipRun.mk cipRun0.facet cipRun0.id cipRun0.desc cipRun0.tag cipRun0.status cipRun0.keyUsed cipRun0.value none (some (Blob.mk 3 0 (key16 2))) cipRun0.unit cipRun0.run cipRun0.pipe] ∧
      (CipRun.mk cipRun0.facet cipRun0.id cipRun0.desc cipRun0.tag cipRun0.status cipRun0.keyUsed cipRun0.value none (some (Blob.mk 3 0 (key16 2))) cipRun0.unit cipRun0.run cipRun0.pipe).out = none ∧
      stK2.keyOf (Blob.mk 3 0 (key16 2)).slot (Blob.mk 3 0 (key16 2)).role = none ∧
      stK2.keyOf (Blob.mk 3 0 (key16 2)).slot (1 - (Blob.mk 3 0 (key16 2)).role) = none) := by
  and_intros <;> decide +kernel

/-- The premises of `Obligations.CipherOperationsRun` hold together, clause by clause. -/
theorem witness_CipherOperationsRun :
    -- C1
    (stC1.coreOn = true ∧ (stC1.cipFacet 0).queue = [desc 1 16 0x1000] ∧ stC1.cipTurn = some 0 ∧
      descOk (desc 1 16 0x1000) = true ∧ fld ((desc 1 16 0x1000).getD 3 0) 0 15 ≤ 0x4000 ∧
      fld ((desc 1 16 0x1000).getD 3 0) 16 15 ≤ 0x4000 ∧
      (rangesOk (fld ((desc 1 16 0x1000).getD 2 0) 0 16) (fld ((desc 1 16 0x1000).getD 3 0) 0 15 + fld ((desc 1 16 0x1000).getD 3 0) 16 15 + if descOp (desc 1 16 0x1000) = 2 ∨ descOp (desc 1 16 0x1000) = 4 then (tagLenOf (fld ((desc 1 16 0x1000).getD 1 0) 24 4)).getD 16 else 0) (fld ((desc 1 16 0x1000).getD 2 0) 16 16) (if descOp (desc 1 16 0x1000) = 1 then fld ((desc 1 16 0x1000).getD 3 0) 0 15 + (tagLenOf (fld ((desc 1 16 0x1000).getD 1 0) 24 4)).getD 16 else if descOp (desc 1 16 0x1000) = 2 ∨ descOp (desc 1 16 0x1000) = 5 ∨ descOp (desc 1 16 0x1000) = 6 then fld ((desc 1 16 0x1000).getD 3 0) 0 15 else if descOp (desc 1 16 0x1000) = 3 then (tagLenOf (fld ((desc 1 16 0x1000).getD 1 0) 24 4)).getD 16 else 0) = true) ∧
      descOp (desc 1 16 0x1000) ≤ 6 ∧ stC1.mayUse 0 (fld ((desc 1 16 0x1000).getD 1 0) 4 9) = true ∧
      (tagLenOf (fld ((desc 1 16 0x1000).getD 1 0) 24 4)).isSome = true ∧
      stC1.keyOf (fld ((desc 1 16 0x1000).getD 1 0) 4 9) 0 = some (key16 2) ∧
      stC1.keyOf (fld ((desc 1 16 0x1000).getD 1 0) 4 9) 1 = none ∧ descOp (desc 1 16 0x1000) = 1 ∧
      (key16 2).usage / 2 % 2 = 1 ∧ (key16 2).exhausted = false ∧ (key16 2).count ≠ 0xffffffffffffffff) ∧
    -- C2
    (stC2.coreOn = true ∧ (stC2.cipFacet 0).queue = [desc 2 16 0x1000] ∧ stC2.cipTurn = some 0 ∧
      descOk (desc 2 16 0x1000) = true ∧ fld ((desc 2 16 0x1000).getD 3 0) 0 15 ≤ 0x4000 ∧
      fld ((desc 2 16 0x1000).getD 3 0) 16 15 ≤ 0x4000 ∧
      (rangesOk (fld ((desc 2 16 0x1000).getD 2 0) 0 16) (fld ((desc 2 16 0x1000).getD 3 0) 0 15 + fld ((desc 2 16 0x1000).getD 3 0) 16 15 + if descOp (desc 2 16 0x1000) = 2 ∨ descOp (desc 2 16 0x1000) = 4 then (tagLenOf (fld ((desc 2 16 0x1000).getD 1 0) 24 4)).getD 16 else 0) (fld ((desc 2 16 0x1000).getD 2 0) 16 16) (if descOp (desc 2 16 0x1000) = 1 then fld ((desc 2 16 0x1000).getD 3 0) 0 15 + (tagLenOf (fld ((desc 2 16 0x1000).getD 1 0) 24 4)).getD 16 else if descOp (desc 2 16 0x1000) = 2 ∨ descOp (desc 2 16 0x1000) = 5 ∨ descOp (desc 2 16 0x1000) = 6 then fld ((desc 2 16 0x1000).getD 3 0) 0 15 else if descOp (desc 2 16 0x1000) = 3 then (tagLenOf (fld ((desc 2 16 0x1000).getD 1 0) 24 4)).getD 16 else 0) = true) ∧
      descOp (desc 2 16 0x1000) ≤ 6 ∧ stC2.mayUse 0 (fld ((desc 2 16 0x1000).getD 1 0) 4 9) = true ∧
      (tagLenOf (fld ((desc 2 16 0x1000).getD 1 0) 24 4)).isSome = true ∧
      stC2.keyOf (fld ((desc 2 16 0x1000).getD 1 0) 4 9) 0 = some (key16 2) ∧
      stC2.keyOf (fld ((desc 2 16 0x1000).getD 1 0) 4 9) 1 = none ∧ descOp (desc 2 16 0x1000) = 2 ∧
      (key16 2).usage / 2 % 2 = 1) ∧
    -- C3
    (stC3.coreOn = true ∧ (stC3.cipFacet 0).queue = [desc 3 16 0x1000] ∧ stC3.cipTurn = some 0 ∧
      descOk (desc 3 16 0x1000) = true ∧ fld ((desc 3 16 0x1000).getD 3 0) 0 15 ≤ 0x4000 ∧
      fld ((desc 3 16 0x1000).getD 3 0) 16 15 ≤ 0x4000 ∧
      (rangesOk (fld ((desc 3 16 0x1000).getD 2 0) 0 16) (fld ((desc 3 16 0x1000).getD 3 0) 0 15 + fld ((desc 3 16 0x1000).getD 3 0) 16 15 + if descOp (desc 3 16 0x1000) = 2 ∨ descOp (desc 3 16 0x1000) = 4 then (tagLenOf (fld ((desc 3 16 0x1000).getD 1 0) 24 4)).getD 16 else 0) (fld ((desc 3 16 0x1000).getD 2 0) 16 16) (if descOp (desc 3 16 0x1000) = 1 then fld ((desc 3 16 0x1000).getD 3 0) 0 15 + (tagLenOf (fld ((desc 3 16 0x1000).getD 1 0) 24 4)).getD 16 else if descOp (desc 3 16 0x1000) = 2 ∨ descOp (desc 3 16 0x1000) = 5 ∨ descOp (desc 3 16 0x1000) = 6 then fld ((desc 3 16 0x1000).getD 3 0) 0 15 else if descOp (desc 3 16 0x1000) = 3 then (tagLenOf (fld ((desc 3 16 0x1000).getD 1 0) 24 4)).getD 16 else 0) = true) ∧
      descOp (desc 3 16 0x1000) ≤ 6 ∧ stC3.mayUse 0 (fld ((desc 3 16 0x1000).getD 1 0) 4 9) = true ∧
      (tagLenOf (fld ((desc 3 16 0x1000).getD 1 0) 24 4)).isSome = true ∧
      stC3.keyOf (fld ((desc 3 16 0x1000).getD 1 0) 4 9) 0 = some (key16 4) ∧
      stC3.keyOf (fld ((desc 3 16 0x1000).getD 1 0) 4 9) 1 = none ∧ descOp (desc 3 16 0x1000) = 3 ∧
      (key16 4).usage / 4 % 2 = 1) ∧
    -- C4
    (stC4.coreOn = true ∧ (stC4.cipFacet 0).queue = [desc 4 16 0] ∧ stC4.cipTurn = some 0 ∧ descOk (desc 4 16 0) = true ∧
      fld ((desc 4 16 0).getD 3 0) 0 15 ≤ 0x4000 ∧ fld ((desc 4 16 0).getD 3 0) 16 15 ≤ 0x4000 ∧
      (rangesOk (fld ((desc 4 16 0).getD 2 0) 0 16) (fld ((desc 4 16 0).getD 3 0) 0 15 + fld ((desc 4 16 0).getD 3 0) 16 15 + if descOp (desc 4 16 0) = 2 ∨ descOp (desc 4 16 0) = 4 then (tagLenOf (fld ((desc 4 16 0).getD 1 0) 24 4)).getD 16 else 0) (fld ((desc 4 16 0).getD 2 0) 16 16) (if descOp (desc 4 16 0) = 1 then fld ((desc 4 16 0).getD 3 0) 0 15 + (tagLenOf (fld ((desc 4 16 0).getD 1 0) 24 4)).getD 16 else if descOp (desc 4 16 0) = 2 ∨ descOp (desc 4 16 0) = 5 ∨ descOp (desc 4 16 0) = 6 then fld ((desc 4 16 0).getD 3 0) 0 15 else if descOp (desc 4 16 0) = 3 then (tagLenOf (fld ((desc 4 16 0).getD 1 0) 24 4)).getD 16 else 0) = true) ∧
      descOp (desc 4 16 0) ≤ 6 ∧ stC4.mayUse 0 (fld ((desc 4 16 0).getD 1 0) 4 9) = true ∧
      (tagLenOf (fld ((desc 4 16 0).getD 1 0) 24 4)).isSome = true ∧
      stC4.keyOf (fld ((desc 4 16 0).getD 1 0) 4 9) 0 = some (key16 4) ∧
      stC4.keyOf (fld ((desc 4 16 0).getD 1 0) 4 9) 1 = none ∧ descOp (desc 4 16 0) = 4 ∧ (key16 4).usage / 4 % 2 = 1) ∧
    -- C5
    (stC5.coreOn = true ∧ (stC5.cipFacet 0).queue = [desc 5 512 0x1000] ∧ stC5.cipTurn = some 0 ∧
      descOk (desc 5 512 0x1000) = true ∧ fld ((desc 5 512 0x1000).getD 3 0) 0 15 ≤ 0x4000 ∧
      fld ((desc 5 512 0x1000).getD 3 0) 16 15 ≤ 0x4000 ∧
      (rangesOk (fld ((desc 5 512 0x1000).getD 2 0) 0 16) (fld ((desc 5 512 0x1000).getD 3 0) 0 15 + fld ((desc 5 512 0x1000).getD 3 0) 16 15 + if descOp (desc 5 512 0x1000) = 2 ∨ descOp (desc 5 512 0x1000) = 4 then (tagLenOf (fld ((desc 5 512 0x1000).getD 1 0) 24 4)).getD 16 else 0) (fld ((desc 5 512 0x1000).getD 2 0) 16 16) (if descOp (desc 5 512 0x1000) = 1 then fld ((desc 5 512 0x1000).getD 3 0) 0 15 + (tagLenOf (fld ((desc 5 512 0x1000).getD 1 0) 24 4)).getD 16 else if descOp (desc 5 512 0x1000) = 2 ∨ descOp (desc 5 512 0x1000) = 5 ∨ descOp (desc 5 512 0x1000) = 6 then fld ((desc 5 512 0x1000).getD 3 0) 0 15 else if descOp (desc 5 512 0x1000) = 3 then (tagLenOf (fld ((desc 5 512 0x1000).getD 1 0) 24 4)).getD 16 else 0) = true) ∧
      descOp (desc 5 512 0x1000) ≤ 6 ∧ stC5.mayUse 0 (fld ((desc 5 512 0x1000).getD 1 0) 4 9) = true ∧
      (tagLenOf (fld ((desc 5 512 0x1000).getD 1 0) 24 4)).isSome = true ∧
      stC5.keyOf (fld ((desc 5 512 0x1000).getD 1 0) 4 9) 0 = some key32 ∧
      stC5.keyOf (fld ((desc 5 512 0x1000).getD 1 0) 4 9) 1 = none ∧ descOp (desc 5 512 0x1000) = 5 ∧
      key32.usage / 8 % 2 = 1 ∧ 16 ≤ fld ((desc 5 512 0x1000).getD 3 0) 0 15 ∧
      ((fld ((desc 5 512 0x1000).getD 3 0) 0 15 % if tst ((desc 5 512 0x1000).getD 1 0) 28 = true then 0x1000 else 512) = 0 ∨ 16 ≤ fld ((desc 5 512 0x1000).getD 3 0) 0 15 % if tst ((desc 5 512 0x1000).getD 1 0) 28 = true then 0x1000 else 512)) ∧
    -- C6
    (stC6.coreOn = true ∧ (stC6.cipFacet 0).queue = [desc 6 512 0x1000] ∧ stC6.cipTurn = some 0 ∧
      descOk (desc 6 512 0x1000) = true ∧ fld ((desc 6 512 0x1000).getD 3 0) 0 15 ≤ 0x4000 ∧
      fld ((desc 6 512 0x1000).getD 3 0) 16 15 ≤ 0x4000 ∧
      (rangesOk (fld ((desc 6 512 0x1000).getD 2 0) 0 16) (fld ((desc 6 512 0x1000).getD 3 0) 0 15 + fld ((desc 6 512 0x1000).getD 3 0) 16 15 + if descOp (desc 6 512 0x1000) = 2 ∨ descOp (desc 6 512 0x1000) = 4 then (tagLenOf (fld ((desc 6 512 0x1000).getD 1 0) 24 4)).getD 16 else 0) (fld ((desc 6 512 0x1000).getD 2 0) 16 16) (if descOp (desc 6 512 0x1000) = 1 then fld ((desc 6 512 0x1000).getD 3 0) 0 15 + (tagLenOf (fld ((desc 6 512 0x1000).getD 1 0) 24 4)).getD 16 else if descOp (desc 6 512 0x1000) = 2 ∨ descOp (desc 6 512 0x1000) = 5 ∨ descOp (desc 6 512 0x1000) = 6 then fld ((desc 6 512 0x1000).getD 3 0) 0 15 else if descOp (desc 6 512 0x1000) = 3 then (tagLenOf (fld ((desc 6 512 0x1000).getD 1 0) 24 4)).getD 16 else 0) = true) ∧
      descOp (desc 6 512 0x1000) ≤ 6 ∧ stC6.mayUse 0 (fld ((desc 6 512 0x1000).getD 1 0) 4 9) = true ∧
      (tagLenOf (fld ((desc 6 512 0x1000).getD 1 0) 24 4)).isSome = true ∧
      stC6.keyOf (fld ((desc 6 512 0x1000).getD 1 0) 4 9) 0 = some key32 ∧
      stC6.keyOf (fld ((desc 6 512 0x1000).getD 1 0) 4 9) 1 = none ∧ descOp (desc 6 512 0x1000) = 6 ∧
      key32.usage / 8 % 2 = 1 ∧ 16 ≤ fld ((desc 6 512 0x1000).getD 3 0) 0 15 ∧
      ((fld ((desc 6 512 0x1000).getD 3 0) 0 15 % if tst ((desc 6 512 0x1000).getD 1 0) 28 = true then 0x1000 else 512) = 0 ∨ 16 ≤ fld ((desc 6 512 0x1000).getD 3 0) 0 15 % if tst ((desc 6 512 0x1000).getD 1 0) 28 = true then 0x1000 else 512)) ∧
    -- C7
    (stC7.coreOn = true ∧ (stC7.cipFacet 0).queue = [desc 7 48 0] ∧ stC7.cipTurn = some 0 ∧ descOk (desc 7 48 0) = true ∧
      fld ((desc 7 48 0).getD 3 0) 0 15 ≤ 0x4000 ∧ fld ((desc 7 48 0).getD 3 0) 16 15 ≤ 0x4000 ∧
      (rangesOk (fld ((desc 7 48 0).getD 2 0) 0 16) (fld ((desc 7 48 0).getD 3 0) 0 15 + fld ((desc 7 48 0).getD 3 0) 16 15 + if descOp (desc 7 48 0) = 2 ∨ descOp (desc 7 48 0) = 4 then (tagLenOf (fld ((desc 7 48 0).getD 1 0) 24 4)).getD 16 else 0) (fld ((desc 7 48 0).getD 2 0) 16 16) (if descOp (desc 7 48 0) = 1 then fld ((desc 7 48 0).getD 3 0) 0 15 + (tagLenOf (fld ((desc 7 48 0).getD 1 0) 24 4)).getD 16 else if descOp (desc 7 48 0) = 2 ∨ descOp (desc 7 48 0) = 5 ∨ descOp (desc 7 48 0) = 6 then fld ((desc 7 48 0).getD 3 0) 0 15 else if descOp (desc 7 48 0) = 3 then (tagLenOf (fld ((desc 7 48 0).getD 1 0) 24 4)).getD 16 else 0) = true) ∧
      descOp (desc 7 48 0) = 7 ∧
      (fld ((desc 7 48 0).getD 3 0) 0 15 = 48 ∨ fld ((desc 7 48 0).getD 3 0) 0 15 = 64 ∨ fld ((desc 7 48 0).getD 3 0) 0 15 = 96)) ∧
    -- C8
    (stC8.coreOn = true ∧ (stC8.cipFacet 0).queue = [[7, 8, 0, 16, 0, 0, 0, 3]] ∧ stC8.cipTurn = some 0 ∧
      descOk [7, 8, 0, 16, 0, 0, 0, 3] = true ∧ fld ([7, 8, 0, 16, 0, 0, 0, 3].getD 3 0) 0 15 ≤ 0x4000 ∧
      fld ([7, 8, 0, 16, 0, 0, 0, 3].getD 3 0) 16 15 ≤ 0x4000 ∧
      (rangesOk (fld ([7, 8, 0, 16, 0, 0, 0, 3].getD 2 0) 0 16) (fld ([7, 8, 0, 16, 0, 0, 0, 3].getD 3 0) 0 15 + fld ([7, 8, 0, 16, 0, 0, 0, 3].getD 3 0) 16 15 + if descOp [7, 8, 0, 16, 0, 0, 0, 3] = 2 ∨ descOp [7, 8, 0, 16, 0, 0, 0, 3] = 4 then (tagLenOf (fld ([7, 8, 0, 16, 0, 0, 0, 3].getD 1 0) 24 4)).getD 16 else 0) (fld ([7, 8, 0, 16, 0, 0, 0, 3].getD 2 0) 16 16) (if descOp [7, 8, 0, 16, 0, 0, 0, 3] = 1 then fld ([7, 8, 0, 16, 0, 0, 0, 3].getD 3 0) 0 15 + (tagLenOf (fld ([7, 8, 0, 16, 0, 0, 0, 3].getD 1 0) 24 4)).getD 16 else if descOp [7, 8, 0, 16, 0, 0, 0, 3] = 2 ∨ descOp [7, 8, 0, 16, 0, 0, 0, 3] = 5 ∨ descOp [7, 8, 0, 16, 0, 0, 0, 3] = 6 then fld ([7, 8, 0, 16, 0, 0, 0, 3].getD 3 0) 0 15 else if descOp [7, 8, 0, 16, 0, 0, 0, 3] = 3 then (tagLenOf (fld ([7, 8, 0, 16, 0, 0, 0, 3].getD 1 0) 24 4)).getD 16 else 0) = true) ∧
      descOp [7, 8, 0, 16, 0, 0, 0, 3] = 8 ∧
      (0 = 0 ∨ (stC8.live.chk (fld ([7, 8, 0, 16, 0, 0, 0, 3].getD 1 0) 29 3)).facet = 0) ∧
      (stC8.unit (fld ([7, 8, 0, 16, 0, 0, 0, 3].getD 1 0) 29 3)).inUse = false ∧
      (stC8.unit (fld ([7, 8, 0, 16, 0, 0, 0, 3].getD 1 0) 29 3)).scanning = none ∧
      (stC8.live.chk (fld ([7, 8, 0, 16, 0, 0, 0, 3].getD 1 0) 29 3)).cmp = false) ∧
    -- C1tag
    (stC1.coreOn = true ∧ (stC1.cipFacet 0).queue = [desc 1 16 0x1000] ∧ stC1.cipTurn = some 0 ∧
      descOk (desc 1 16 0x1000) = true ∧ fld ((desc 1 16 0x1000).getD 3 0) 0 15 ≤ 0x4000 ∧
      fld ((desc 1 16 0x1000).getD 3 0) 16 15 ≤ 0x4000 ∧
      (rangesOk (fld ((desc 1 16 0x1000).getD 2 0) 0 16) (fld ((desc 1 16 0x1000).getD 3 0) 0 15 + fld ((desc 1 16 0x1000).getD 3 0) 16 15 + if descOp (desc 1 16 0x1000) = 2 ∨ descOp (desc 1 16 0x1000) = 4 then (tagLenOf (fld ((desc 1 16 0x1000).getD 1 0) 24 4)).getD 16 else 0) (fld ((desc 1 16 0x1000).getD 2 0) 16 16) (if descOp (desc 1 16 0x1000) = 1 then fld ((desc 1 16 0x1000).getD 3 0) 0 15 + (tagLenOf (fld ((desc 1 16 0x1000).getD 1 0) 24 4)).getD 16 else if descOp (desc 1 16 0x1000) = 2 ∨ descOp (desc 1 16 0x1000) = 5 ∨ descOp (desc 1 16 0x1000) = 6 then fld ((desc 1 16 0x1000).getD 3 0) 0 15 else if descOp (desc 1 16 0x1000) = 3 then (tagLenOf (fld ((desc 1 16 0x1000).getD 1 0) 24 4)).getD 16 else 0) = true) ∧
      descOp (desc 1 16 0x1000) ≤ 6 ∧ stC1.mayUse 0 (fld ((desc 1 16 0x1000).getD 1 0) 4 9) = true ∧
      (tagLenOf (fld ((desc 1 16 0x1000).getD 1 0) 24 4)).isSome = true ∧
      stC1.keyOf (fld ((desc 1 16 0x1000).getD 1 0) 4 9) 0 = some (key16 2) ∧
      stC1.keyOf (fld ((desc 1 16 0x1000).getD 1 0) 4 9) 1 = none ∧ descOp (desc 1 16 0x1000) = 1 ∧
      (key16 2).usage / 2 % 2 = 1 ∧ (key16 2).exhausted = false ∧ (key16 2).count ≠ 0xffffffffffffffff) := by
  and_intros <;> decide +kernel

/-- The premises of `Obligations.KeysPipelinesAndScans` hold together, clause by clause. -/
theorem witness_KeysPipelinesAndScans :
    -- Promote
    (stPromote.granted 0 (A.cipKsCmd 0) 1 = true) ∧
    -- Promote rights
    (stPromoterights.granted 2 (A.cipKsCmd 2) 1 = true) ∧
    -- EraseN
    (stPromote.granted 0 (A.cipKsCmd 0) 2 = true ∧ stPromote.mayLoad 0 (fld (stPromote.reg (A.cipKsSel 0)) 0 9) = true) ∧
    -- EraseA
    (stPromote.granted 0 (A.cipKsCmd 0) 3 = true ∧ stPromote.mayLoad 0 (fld (stPromote.reg (A.cipKsSel 0)) 0 9) = true) ∧
    -- Kat
    (up.coreOn = true ∧ 1 ∈ up.cip.inService ∧ up.cip.spares = [5] ∧ 5 ≠ 1) ∧
    -- Kat ok
    (stKatok.coreOn = true ∧ 1 ∈ stKatok.cip.inService ++ stKatok.cip.spares ∧
      SMap.get 0 stKatok.cip.katAt 1 + fld (stKatok.reg A.cipKatPeriod) 0 16 * 1000000 ≤ stKatok.now) ∧
    -- Run lo
    ((up.unit 0).inUse = false ∧ (up.unit 0).scanning = none ∧ up.granted 0 (A.chkURunLo 0) 7 = true) ∧
    -- Run hi
    ((stRunhi.unit 0).inUse = false ∧ (stRunhi.unit 0).scanning = none ∧ stRunhi.granted 0 (A.chkURunHi 0) 0 = true ∧
      SMap.get none stRunhi.loHeld (halfKey (A.chkURunLo 0) 0) = none ∧ (stRunhi.live.chk 0).width ≤ 64) ∧
    -- Scan busy
    (stScanbusy.granted 0 (A.chkUScanCmd 0) 256 = true ∧ tst 256 8 = true ∧ (stScanbusy.unit 0).scanning ≠ none) ∧
    -- Scan
    (up.granted 0 (A.chkUScanCmd 0) 264 = true ∧ tst 264 8 = true ∧ (up.unit 0).inUse = false ∧ (up.unit 0).scanning = none ∧
      fld 264 0 2 = 0 ∧
      pair (up.reg (A.chkUScanAddrLo 0)) (up.reg (A.chkUScanAddrHi 0)) % 2 ^ 35 + BitVec.toNat (up.reg (A.chkUScanLen 0)) ≤ 0x10000 ∧
      tst 264 2 = false) ∧
    -- Scan rights
    (stScanrights.granted 3 (A.chkUScanCmd 0) 257 = true ∧ tst 257 8 = true ∧ 3 ≠ 0 ∧ (stScanrights.unit 0).inUse = false ∧
      (stScanrights.unit 0).scanning = none ∧ (fld 257 0 2 = 1 ∨ fld 257 0 2 = 2)) ∧
    -- ScanC
    (stScanC.coreOn = true ∧ (stScanC.unit 0).scanning = some (0, 0, 4, true) ∧ (stScanC.live.chk 0).cmp = false) := by
  and_intros <;> decide +kernel

/-- The premises of `Obligations.PowerModesChange` hold together, clause by clause. -/
theorem witness_PowerModesChange :
    -- Run
    (stRun.granted 0 A.wakCmd 1 = true ∧ stRun.wake.mode = PowerMode.doze ∧ stRun.wake.phase ≠ SleepPhase.dark) ∧
    -- Doze
    (stDoze.granted 0 A.wakCmd 2 = true ∧ stDoze.wake.mode = PowerMode.run ∧ stDoze.wake.phase ≠ SleepPhase.dark) ∧
    -- Sleep
    (stSleep.granted 0 A.wakCmd 3 = true ∧ stSleep.wake.req = false ∧ stSleep.power.bOk = true ∧
      stSleep.mp = MpState.running) ∧
    -- Sleep2
    (stSleep2.granted 0 A.wakCmd 3 = true ∧ stSleep2.wake.req = true) ∧
    -- Sleep3
    (stSleep3.granted 0 A.wakCmd 3 = true ∧ stSleep3.wake.req = false ∧ stSleep3.power.bOk = false) ∧
    -- Cancel
    (stCancel.granted 0 A.wakCmd 16 = true ∧ stCancel.wake.req = true) ∧
    -- Cancel2
    (stCancel2.granted 0 A.wakCmd 16 = true ∧ stCancel2.wake.req = true) ∧
    -- Tc10 ok
    (8 ≤ 8 ∧ stTc10ok.on = true ∧ SMap.get none stTc10ok.wake.tc10 8 = some 0) ∧
    -- Tc10 no
    (8 ≤ 8 ∧ stTc10ok.on = true ∧ SMap.get none stTc10ok.wake.tc10 8 = some 0) ∧
    -- Tc10 to
    (8 ≤ 8 ∧ stTc10ok.on = true ∧ SMap.get none stTc10ok.wake.tc10 8 = some 0 ∧ 0 + 16000000 ≤ stTc10ok.now) ∧
    -- Keep
    (3 ≠ 0 ∧ stKeep.granted 3 A.wakFacetKeep 8 = true ∧ stKeep.entering = false) ∧
    -- ResetKeep
    (stResetKeep.coreOn = true ∧ stResetKeep.facetReset = some (FacetReset.mk 2 0 0 none) ∧
      (FacetReset.mk 2 0 0 none).facet < 16 ∧
      (∀ (p : Nat × Copy), p ∈ stResetKeep.flying → p.snd.item.facet ≠ (FacetReset.mk 2 0 0 none).facet)) ∧
    -- Entry
    (stEntry.mpOn = true ∧ stEntry.wake.req = true ∧ stEntry.wake.closed = false ∧ stEntry.wake.phase = SleepPhase.preparing) ∧
    -- Drain
    (stDrainx.on = true ∧ stDrainx.wake.phase = SleepPhase.preparing ∧ stDrainx.wake.closed = true ∧
      ((∀ (q : Nat × List Copy), q ∈ stDrainx.queues → q.snd = []) ∨ stDrainx.wake.drainAt + fld (stDrainx.cfg A.wakDrainMax) 0 7 * 1000000 ≤ stDrainx.now)) ∧
    -- Drain2
    (stDrain2.on = true ∧ stDrain2.wake.phase = SleepPhase.preparing ∧ stDrain2.wake.closed = true ∧
      ((∀ (q : Nat × List Copy), q ∈ stDrain2.queues → q.snd = []) ∨ stDrain2.wake.drainAt + fld (stDrain2.cfg A.wakDrainMax) 0 7 * 1000000 ≤ stDrain2.now)) ∧
    -- Dark
    (stDark.on = true ∧ stDark.wake.phase = SleepPhase.dark ∧
      (stDark.wake.tc10 = [] ∨ stDark.wake.groupAt + 10000000 ≤ stDark.now)) ∧
    -- ResetKeepW
    (stResetKeepW.coreOn = true ∧ stResetKeepW.facetReset = some (FacetReset.mk 2 0 0 none) ∧
      (FacetReset.mk 2 0 0 none).facet < 16 ∧
      (∀ (p : Nat × Copy), p ∈ stResetKeepW.flying → p.snd.item.facet ≠ (FacetReset.mk 2 0 0 none).facet)) := by
  and_intros <;> decide +kernel

/-- The premises of `Obligations.PerimeterRounds` hold together, clause by clause. -/
theorem witness_PerimeterRounds :
    -- Round
    (stRound.mpOn = true ∧ stRound.wake.req = true ∧ stRound.wake.phase = SleepPhase.waitRound ∧
      stRound.wake.nextRound ≤ stRound.now) ∧
    -- Round pm
    (stRoundpm.mpOn = true ∧ stRoundpm.wake.req = true ∧ stRoundpm.wake.phase = SleepPhase.waitRound ∧
      stRoundpm.wake.nextRound ≤ stRoundpm.now) ∧
    -- Ans none
    (stAnsnone.mpOn = true ∧ takeCtl isPerimeter stAnsnone = some (pmFrame, up) ∧ stAnsnone.wake.token = none) ∧
    -- Ans
    (stAns.mpOn = true ∧ takeCtl isPerimeter stAns = some (pmFrame, stAns1) ∧ stAns.wake.token = some (Token.mk 0 1 0) ∧
      byteAt (List.drop (ctlOff pmFrame.data + 2) pmFrame.data) 1 = 1 ∧
      byteAt (List.drop (ctlOff pmFrame.data + 2) pmFrame.data) 2 = 2 ∧
      byteAt (List.drop (ctlOff pmFrame.data + 2) pmFrame.data) 3 = (Token.mk 0 1 0).member ∧ (Token.mk 0 1 0).member < 32 ∧
      beAt (List.drop (ctlOff pmFrame.data + 2) pmFrame.data) 4 4 = BitVec.toNat (stAns.reg A.wakRound) ∧
      pmFrame.vertex = stAns.pmVertex (Token.mk 0 1 0).member ∧ slice pmFrame.data 6 6 = stAns.pmMac (Token.mk 0 1 0).member) ∧
    -- Pto
    (stPto.mpOn = true ∧ stPto.wake.token = some (Token.mk 0 1 0) ∧
      (Token.mk 0 1 0).sentAt + fld (stPto.cfg A.wakPmTimeout) 0 8 * 1000000 ≤ stPto.now ∧ (Token.mk 0 1 0).member < 32 ∧
      (Token.mk 0 1 0).tries < 2) ∧
    -- Pto2
    (stPto2.mpOn = true ∧ stPto2.wake.token = some (Token.mk 0 2 0) ∧
      (Token.mk 0 2 0).sentAt + fld (stPto2.cfg A.wakPmTimeout) 0 8 * 1000000 ≤ stPto2.now ∧ (Token.mk 0 2 0).member < 32 ∧
      2 ≤ (Token.mk 0 2 0).tries) ∧
    -- Group
    (stGroup.mpOn = true ∧ stGroup.wake.phase = SleepPhase.groupWait ∧ stGroup.wake.groupAt + 1000000000 ≤ stGroup.now ∧
      stGroup.peersQuiet = false ∧ stGroup.wake.req = true) := by
  and_intros <;> decide +kernel

/-- The premises of `Obligations.WakesStartTheModule` hold together, clause by clause. -/
theorem witness_WakesStartTheModule :
    -- Wk0s
    (stWk0s.aonOn = true ∧ tst (stWk0s.cfg (A.wakPin 0)) 0 = true ∧ tst (stWk0s.cfg (A.wakPin 0)) 1 = true ∧
      tst (stWk0s.cfg (A.wakPin 0)) 12 = true ∧ fld (stWk0s.cfg (A.wakPin 0)) 4 8 * 10000 ≤ 10000) ∧
    -- Wk0d
    (stWk0d.aonOn = true ∧ tst (stWk0d.cfg (A.wakPin 0)) 0 = true ∧ tst (stWk0d.cfg (A.wakPin 0)) 1 = true ∧
      tst (stWk0d.cfg (A.wakPin 0)) 12 = true ∧ fld (stWk0d.cfg (A.wakPin 0)) 4 8 * 10000 ≤ 10000) ∧
    -- Wk0l
    (stWk0l.aonOn = true ∧ tst (stWk0l.cfg (A.wakPin 0)) 0 = true ∧ tst (stWk0l.cfg (A.wakPin 0)) 1 = true ∧
      tst (stWk0l.cfg (A.wakPin 0)) 12 = true ∧ fld (stWk0l.cfg (A.wakPin 0)) 4 8 * 10000 ≤ 10000) ∧
    -- Wk1s
    (stWk1s.aonOn = true ∧ stWk1s.wake.asleep.contains (48 + 0) = true ∧ tst (stWk1s.cfg (A.wakCanCtrl 0)) 10 = true) ∧
    -- Wk1d
    (stWk1d.aonOn = true ∧ stWk1d.wake.asleep.contains (48 + 0) = true ∧ tst (stWk1d.cfg (A.wakCanCtrl 0)) 10 = true) ∧
    -- Wk1l
    (stWk1l.aonOn = true ∧ stWk1l.wake.asleep.contains (48 + 0) = true ∧ tst (stWk1l.cfg (A.wakCanCtrl 0)) 10 = true) ∧
    -- Wk2s
    (stWk2s.aonOn = true ∧ stWk2s.wake.asleep.contains (48 + 0) = true ∧ tst (stWk2s.cfg (A.wakCanCtrl 0)) 0 = true ∧
      tst (stWk2s.cfg (A.wakCanCtrl 0)) 1 = false ∧ 0 < 4 ∧ stWk2s.patMatches 0 0 patMsg = true ∧
      (∀ (q : Nat), q < 0 → stWk2s.patMatches 0 q patMsg = false) ∧ tst (stWk2s.cfg (A.wakCanPatCtrl 0 0)) 6 = true) ∧
    -- Wk2d
    (stWk2d.aonOn = true ∧ stWk2d.wake.asleep.contains (48 + 0) = true ∧ tst (stWk2d.cfg (A.wakCanCtrl 0)) 0 = true ∧
      tst (stWk2d.cfg (A.wakCanCtrl 0)) 1 = false ∧ 0 < 4 ∧ stWk2d.patMatches 0 0 patMsg = true ∧
      (∀ (q : Nat), q < 0 → stWk2d.patMatches 0 q patMsg = false) ∧ tst (stWk2d.cfg (A.wakCanPatCtrl 0 0)) 6 = true) ∧
    -- Wk2l
    (stWk2l.aonOn = true ∧ stWk2l.wake.asleep.contains (48 + 0) = true ∧ tst (stWk2l.cfg (A.wakCanCtrl 0)) 0 = true ∧
      tst (stWk2l.cfg (A.wakCanCtrl 0)) 1 = false ∧ 0 < 4 ∧ stWk2l.patMatches 0 0 patMsg = true ∧
      (∀ (q : Nat), q < 0 → stWk2l.patMatches 0 q patMsg = false) ∧ tst (stWk2l.cfg (A.wakCanPatCtrl 0 0)) 6 = true) ∧
    -- Wk3s
    (stWk3s.aonOn = true ∧ stWk3s.wake.asleep.contains (72 + 0) = true ∧ tst (stWk3s.cfg A.wakLinCtrl) 0 = true ∧ 150 ≤ 150) ∧
    -- Wk3d
    (stWk3d.aonOn = true ∧ stWk3d.wake.asleep.contains (72 + 0) = true ∧ tst (stWk3d.cfg A.wakLinCtrl) 0 = true ∧ 150 ≤ 150) ∧
    -- Wk3l
    (stWk3l.aonOn = true ∧ stWk3l.wake.asleep.contains (72 + 0) = true ∧ tst (stWk3l.cfg A.wakLinCtrl) 0 = true ∧ 150 ≤ 150) ∧
    -- Wk4s
    (stWk4s.aonOn = true ∧ 8 ≤ 8 ∧ 8 < 40 ∧ stWk4s.wake.asleep.contains 8 = true ∧
      tst (stWk4s.cfg (A.ethPhyCtrl 8)) 12 = true) ∧
    -- Wk4d
    (stWk4d.aonOn = true ∧ 8 ≤ 8 ∧ 8 < 40 ∧ stWk4d.wake.asleep.contains 8 = true ∧
      tst (stWk4d.cfg (A.ethPhyCtrl 8)) 12 = true) ∧
    -- Wk4l
    (stWk4l.aonOn = true ∧ 8 ≤ 8 ∧ 8 < 40 ∧ stWk4l.wake.asleep.contains 8 = true ∧
      tst (stWk4l.cfg (A.ethPhyCtrl 8)) 12 = true) ∧
    -- Wk5s
    (stWk5s.aonOn = true ∧ stWk5s.wake.mode = PowerMode.sleep ∧ tst (stWk5s.cfg A.wakCtrl) 1 = true ∧
      stWk5s.wake.entryAon + BitVec.toNat (stWk5s.cfg A.wakTimer) * 1000000000 ≤ stWk5s.now) ∧
    -- Wk5l
    (stWk5l.aonOn = true ∧ stWk5l.wake.mode = PowerMode.sleep ∧ tst (stWk5l.cfg A.wakCtrl) 1 = true ∧
      stWk5l.wake.entryAon + BitVec.toNat (stWk5l.cfg A.wakTimer) * 1000000000 ≤ stWk5l.now) ∧
    -- Wk6s
    (stWk6s.aonOn = true) ∧
    -- Wk6d
    (stWk6d.aonOn = true) ∧
    -- Wk6l
    (stWk6l.aonOn = true) ∧
    -- Aon
    (stAon.on = true ∧ stAon.wake.mode = PowerMode.run ∧ stAon.wake.measuredAt + 1000000000 ≤ stAon.now) ∧
    -- Start
    (stStart.wake.mode = PowerMode.sleep ∧ stStart.wake.latched = some (1, 2, 3)) ∧
    -- Start0
    (stStart0.wake.mode = PowerMode.sleep ∧ stStart0.wake.latched = none) ∧
    -- Wlo
    (stWlo.aonOn = true ∧ SMap.get none stWlo.wake.wlo 1 = some (5, true) ∧ 5 ≤ stWlo.now) := by
  and_intros <;> decide +kernel

/-- The premises of `Obligations.SuppliesAndClocks` hold together, clause by clause. -/
theorem witness_SuppliesAndClocks :
    -- LostA
    (stSleep3.power.aOk = true ∧ stSleep3.power.bOk = false ∧ stSleep3.power.collapsed = false ∧
      stSleep3.wake.mode = PowerMode.run) ∧
    -- LostB
    (stSleep.power.aOk = true ∧ stSleep.power.bOk = true ∧ stSleep.power.collapsed = false ∧
      stSleep.wake.mode = PowerMode.run) ∧
    -- InB
    (stInB.power.bOk = false ∧ stInB.power.aOk = false ∧ stInB.power.holdup = true ∧ stInB.power.shed = false) ∧
    -- Crank
    (stSleep.power.bOk = true) ∧
    -- HoldupX
    (stHoldupX.power.holdup = true ∧ stHoldupX.power.shed = false ∧ stHoldupX.holdupSpent = true) ∧
    -- Resume
    (stResume.power.shed = true ∧ (stResume.power.aOk = true ∨ stResume.power.bOk = true)) ∧
    -- Reserve
    (stReserve.power.shed = true ∧ stReserve.power.aOk = false ∧ stReserve.power.bOk = false ∧
      stReserve.power.lostAt + 5000000 ≤ stReserve.now) ∧
    -- Over
    (up.on = true ∧ up.power.over125 = false) ∧
    -- Rail
    (up.on = true ∧ 3 ≠ 0) ∧
    -- Crit
    (up.power.collapsed = false) ∧
    -- Xo
    (stXo.on = true ∧ stXo.power.xoOk = false) ∧
    -- XoR
    (stXoR.on = true ∧ stXoR.power.xoOk = false ∧ stXoR.power.xoDue ≤ stXoR.now) ∧
    -- XoL
    (up.on = true ∧ up.power.xoOk = true) ∧
    -- Pll
    (up.on = true ∧ up.power.xoOk = true ∧ 2 ∈ up.power.plls) := by
  and_intros <;> decide +kernel

/-- The premises of `Obligations.PaceAndResets` hold together, clause by clause. -/
theorem witness_PaceAndResets :
    -- Meas
    (stMeas.on = true ∧ stMeas.power.shed = false ∧ stMeas.power.planeReq = false ∧ stMeas.power.latReq = false ∧
      stMeas.power.reqClear = none ∧ stMeas.power.preBackbone = false ∧ stMeas.power.lastMeasure + 100000 ≤ stMeas.now) ∧
    -- Meas low
    (stMeaslow.on = true ∧ stMeaslow.power.shed = false ∧ stMeaslow.power.planeReq = false ∧ stMeaslow.power.latReq = false ∧
      stMeaslow.power.reqClear = none ∧ stMeaslow.power.preBackbone = false ∧
      stMeaslow.power.lastMeasure + 100000 ≤ stMeaslow.now) ∧
    -- Hold
    (stHold.on = true ∧ stHold.power.reqClear = some 0 ∧ 0 + 1000000 ≤ stHold.now ∧ stHold.power.planeReq = false ∧
      stHold.power.latReq = false) ∧
    -- StepU
    (stStepU.on = true ∧ stStepU.power.shed = false ∧ stStepU.power.level < stStepU.paceTarget) ∧
    -- StepD
    (stStepD.on = true ∧ stStepD.power.shed = false ∧ stStepD.paceTarget < stStepD.power.level ∧
      paceDivider (stStepD.power.level - 1) ≤ stStepD.power.divider) ∧
    -- Div
    (stDiv.on = true ∧ stDiv.power.shed = false ∧ stDiv.power.divider ≠ stDiv.dividerGoal) ∧
    -- Por
    (stPor.power.collapsed = true ∧ (stPor.power.aOk = true ∨ stPor.power.bOk = true) ∧ stPor.power.thermal = false) ∧
    -- Pin
    (up.on = true ∧ 0x2774 ≤ 0x2774) ∧
    -- Pin short
    (0x26ab < 0x26ac) ∧
    -- Cmd
    (up.granted 0 0x1007c 0x1a5c3 = true ∧ (0 = 0 ∨ 0 = 15) ∧ fld 0x1a5c3 0 16 = 0xa5c3 ∧ tst 0x1a5c3 16 = true) ∧
    -- Cmd15
    (up.granted 15 0x1007c 0x1a5c3 = true ∧ (15 = 0 ∨ 15 = 15) ∧ fld 0x1a5c3 0 16 = 0xa5c3 ∧ tst 0x1a5c3 16 = true) ∧
    -- Wd
    (stWd.on = true ∧ tst (stWd.cfg A.pwrWdogCtrl) 0 = true ∧ stWd.power.wdogAt + stWd.wdogTimeout ≤ stWd.now) ∧
    -- WdH
    (stWdH.on = true ∧ tst (stWdH.cfg A.pwrWdogCtrl) 0 = true ∧ stWdH.power.wdogHalf = false ∧
      stWdH.power.wdogAt + stWdH.wdogTimeout / 2 ≤ stWdH.now) ∧
    -- Feed
    (up.mpOn = true) := by
  and_intros <;> decide +kernel

/-- The premises of `Obligations.OutputPinsFollow` hold together, clause by clause. -/
theorem witness_OutputPinsFollow :
    -- Alert
    (stAlert.pinsLive = true ∧ tst (stAlert.cfg (A.sysAlert 0)) 4 = true ∧
      ((stAlert.ring (fld (stAlert.cfg (A.sysAlert 0)) 0 4)).entries ≠ [] ∨ (stAlert.ring (fld (stAlert.cfg (A.sysAlert 0)) 0 4)).ovf ≠ [])) ∧
    -- AlertP
    (stAlertP.pinsLive = true ∧ tst (stAlertP.cfg (A.sysAlert 0)) 4 = true ∧
      ((stAlertP.ring (fld (stAlertP.cfg (A.sysAlert 0)) 0 4)).entries ≠ [] ∨ (stAlertP.ring (fld (stAlertP.cfg (A.sysAlert 0)) 0 4)).ovf ≠ [])) ∧
    -- AlertN
    (stAlertN.pinsLive = true ∧
      (tst (stAlertN.cfg (A.sysAlert 0)) 4 = false ∨ (stAlertN.ring (fld (stAlertN.cfg (A.sysAlert 0)) 0 4)).entries = [] ∧ (stAlertN.ring (fld (stAlertN.cfg (A.sysAlert 0)) 0 4)).ovf = [] ∧ stAlertN.mp ≠ MpState.halted)) ∧
    -- AlertH
    (stAlertH.mpOn = true ∧
      (2 ≤ (List.filter (fun t => decide (stAlertH.now < t + 60000000000)) stAlertH.mpRestarts).length)) ∧
    -- PinA
    (so0.pinsLive = true ∧ (so0.live.syncCfg 0).mode = 1 ∧ (SMap.get SyncOut.reset so0.syncs 0).active = false ∧
      (so0.live.syncCfg 0).start + (SMap.get SyncOut.reset so0.syncs 0).next * (so0.live.syncCfg 0).period ≤ so0.locus ∧
      so0.quieted (so0.live.syncCfg 0) = false) ∧
    -- PinAn
    (stPinAn.pinsLive = true ∧ (stPinAn.live.syncCfg 0).mode = 1 ∧ (SMap.get SyncOut.reset stPinAn.syncs 0).active = false ∧
      (stPinAn.live.syncCfg 0).start + (SMap.get SyncOut.reset stPinAn.syncs 0).next * (stPinAn.live.syncCfg 0).period ≤ stPinAn.locus ∧
      stPinAn.quieted (stPinAn.live.syncCfg 0) = false) ∧
    -- PinR
    (so0on.pinsLive = true ∧ (SMap.get SyncOut.reset so0on.syncs 0).active = true ∧
      (SMap.get SyncOut.reset so0on.syncs 0).release ≤ so0on.locus) ∧
    -- PinS
    (stPinS.on = true ∧ stPinS.wake.phase = SleepPhase.dark ∧
      (stPinS.wake.tc10 = [] ∨ stPinS.wake.groupAt + 10000000 ≤ stPinS.now)) := by
  and_intros <;> decide +kernel

/-- The premises of `Obligations.StartsSelectAndLoad` hold together, clause by clause. -/
theorem witness_StartsSelectAndLoad :
    -- Void
    (stVoid.coreOn = true ∧ stVoid.fw.step = BootStep.rom ∧ (burnFuses stVoid).stage = 4) ∧
    -- Lc ok
    (stLcok.coreOn = true ∧ stLcok.fw.step = BootStep.rom ∧ (burnFuses stLcok).stage < 4 ∧
      stLcok.fw.rec_.lcReq = some (1, true)) ∧
    -- Lc no
    (stLcno.coreOn = true ∧ stLcno.fw.step = BootStep.rom ∧ (burnFuses stLcno).stage < 4 ∧
      stLcno.fw.rec_.lcReq = some (3, true)) ∧
    -- Lc sig
    (stLcsig.coreOn = true ∧ stLcsig.fw.step = BootStep.rom ∧ (burnFuses stLcsig).stage < 4 ∧
      stLcsig.fw.rec_.lcReq = some (2, false)) ∧
    -- Lc 0
    (stLc0.coreOn = true ∧ stLc0.fw.step = BootStep.rom ∧ (burnFuses stLc0).stage < 4 ∧ stLc0.fw.rec_.lcReq = some (0, true)) ∧
    -- Lc 4
    (stLc4.coreOn = true ∧ stLc4.fw.step = BootStep.rom ∧ (burnFuses stLc4).stage < 4 ∧ stLc4.fw.rec_.lcReq = some (4, true)) ∧
    -- Break
    (rom.coreOn = true ∧ rom.fw.step = BootStep.rom ∧ (burnFuses rom).stage < 4 ∧ rom.fw.rec_.lcReq = none ∧
      ((BootFindings.mk true allGood.sigA allGood.hashA allGood.sigB allGood.hashB allGood.planes allGood.cells).break_ = true ∨ rom.fw.rec_.recover = true)) ∧
    -- Proven
    (rom.coreOn = true ∧ rom.fw.step = BootStep.rom ∧ (burnFuses rom).stage < 4 ∧ rom.fw.rec_.lcReq = none ∧
      allGood.break_ = false ∧ rom.fw.rec_.recover = false ∧ rom.fw.rec_.trial = none ∧
      ((burnFuses rom).imageCheck (rom.bank rom.fw.rec_.image) (if rom.fw.rec_.image = 0 then allGood.sigA else allGood.sigB) (if rom.fw.rec_.image = 0 then allGood.hashA else allGood.hashB) = 0)) ∧
    -- Proven s
    (stProvens.coreOn = true ∧ stProvens.fw.step = BootStep.rom ∧ (burnFuses stProvens).stage < 4 ∧
      stProvens.fw.rec_.lcReq = none ∧ allGood.break_ = false ∧ stProvens.fw.rec_.recover = false ∧
      stProvens.fw.rec_.trial = none ∧
      ((burnFuses stProvens).imageCheck (stProvens.bank stProvens.fw.rec_.image) (if stProvens.fw.rec_.image = 0 then allGood.sigA else allGood.sigB) (if stProvens.fw.rec_.image = 0 then allGood.hashA else allGood.hashB) = 0)) ∧
    -- Other
    (stOther.coreOn = true ∧ stOther.fw.step = BootStep.rom ∧ (burnFuses stOther).stage < 4 ∧ stOther.fw.rec_.lcReq = none ∧
      (BootFindings.mk allGood.break_ false allGood.hashA allGood.sigB allGood.hashB allGood.planes allGood.cells).break_ = false ∧
      stOther.fw.rec_.recover = false ∧ stOther.fw.rec_.trial = none ∧
      ((burnFuses stOther).imageCheck (stOther.bank stOther.fw.rec_.image) (if stOther.fw.rec_.image = 0 then (BootFindings.mk allGood.break_ false allGood.hashA allGood.sigB allGood.hashB allGood.planes allGood.cells).sigA else (BootFindings.mk allGood.break_ false allGood.hashA allGood.sigB allGood.hashB allGood.planes allGood.cells).sigB) (if stOther.fw.rec_.image = 0 then (BootFindings.mk allGood.break_ false allGood.hashA allGood.sigB allGood.hashB allGood.planes allGood.cells).hashA else (BootFindings.mk allGood.break_ false allGood.hashA allGood.sigB allGood.hashB allGood.planes allGood.cells).hashB) ≠ 0) ∧
      ((burnFuses stOther).imageCheck (stOther.bank (1 - stOther.fw.rec_.image)) (if 1 - stOther.fw.rec_.image = 0 then (BootFindings.mk allGood.break_ false allGood.hashA allGood.sigB allGood.hashB allGood.planes allGood.cells).sigA else (BootFindings.mk allGood.break_ false allGood.hashA allGood.sigB allGood.hashB allGood.planes allGood.cells).sigB) (if 1 - stOther.fw.rec_.image = 0 then (BootFindings.mk allGood.break_ false allGood.hashA allGood.sigB allGood.hashB allGood.planes allGood.cells).hashA else (BootFindings.mk allGood.break_ false allGood.hashA allGood.sigB allGood.hashB allGood.planes allGood.cells).hashB) = 0)) ∧
    -- NoneOk
    (rom.coreOn = true ∧ rom.fw.step = BootStep.rom ∧ (burnFuses rom).stage < 4 ∧ rom.fw.rec_.lcReq = none ∧
      allBad.break_ = false ∧ rom.fw.rec_.recover = false ∧ rom.fw.rec_.trial = none ∧
      ((burnFuses rom).imageCheck (rom.bank rom.fw.rec_.image) (if rom.fw.rec_.image = 0 then allBad.sigA else allBad.sigB) (if rom.fw.rec_.image = 0 then allBad.hashA else allBad.hashB) ≠ 0) ∧
      ((burnFuses rom).imageCheck (rom.bank (1 - rom.fw.rec_.image)) (if 1 - rom.fw.rec_.image = 0 then allBad.sigA else allBad.sigB) (if 1 - rom.fw.rec_.image = 0 then allBad.hashA else allBad.hashB) ≠ 0)) ∧
    -- Trial
    (stTrial.coreOn = true ∧ stTrial.fw.step = BootStep.rom ∧ (burnFuses stTrial).stage < 4 ∧ stTrial.fw.rec_.lcReq = none ∧
      allGood.break_ = false ∧ stTrial.fw.rec_.recover = false ∧ stTrial.fw.rec_.trial = some (1, 1) ∧
      stTrial.fw.rec_.fallback = false ∧ 0 < stTrial.fw.rec_.left ∧
      ((burnFuses stTrial).imageCheck (stTrial.bank 1) (if 1 = 0 then allGood.sigA else allGood.sigB) (if 1 = 0 then allGood.hashA else allGood.hashB) = 0)) ∧
    -- Fall
    (stFall.coreOn = true ∧ stFall.fw.step = BootStep.rom ∧ (burnFuses stFall).stage < 4 ∧ stFall.fw.rec_.lcReq = none ∧
      allGood.break_ = false ∧ stFall.fw.rec_.recover = false ∧ stFall.fw.rec_.trial = some (1, 1) ∧
      (stFall.fw.rec_.fallback = true ∨ stFall.fw.rec_.left = 0)) ∧
    -- Fall0
    (stFall0.coreOn = true ∧ stFall0.fw.step = BootStep.rom ∧ (burnFuses stFall0).stage < 4 ∧ stFall0.fw.rec_.lcReq = none ∧
      allBad.break_ = false ∧ stFall0.fw.rec_.recover = false ∧ stFall0.fw.rec_.trial = some (1, 1) ∧
      (stFall0.fw.rec_.fallback = true ∨ stFall0.fw.rec_.left = 0)) ∧
    -- Image
    (stImage.mpOn = true ∧ stImage.fw.step = BootStep.image ∧ (stImage.seg 63).st = 0) ∧
    -- Image bad
    (stImage.mpOn = true ∧ stImage.fw.step = BootStep.image ∧ (stImage.seg 63).st = 0) ∧
    -- Phy
    (stPhy.mpOn = true ∧ stPhy.fw.step = BootStep.image ∧ (stPhy.seg 63).st = 2) ∧
    -- Phy bad
    (stPhy.mpOn = true ∧ stPhy.fw.step = BootStep.image ∧ (stPhy.seg 63).st = 2) ∧
    -- Set none
    (stSetnone.mpOn = true ∧ stSetnone.fw.step = BootStep.phyLoaded ∧ stSetnone.mustMigrate = false ∧
      (stSetnone.setBank stSetnone.fw.runSet).newest = none) ∧
    -- Set
    (stSet.mpOn = true ∧ stSet.fw.step = BootStep.phyLoaded ∧ stSet.mustMigrate = false ∧
      (stSet.setBank stSet.fw.runSet).newest = some snap ∧ (∀ (v : Nat), v < 48 → (stSet.ethSt v).linkUp = false)) ∧
    -- Mig bad
    (stMigbad.mpOn = true ∧ stMigbad.fw.step = BootStep.phyLoaded ∧ stMigbad.mustMigrate = true ∧
      (stMigbad.setBank stMigbad.migrates.fst).newest = some snap) ∧
    -- Mig
    (stMig.mpOn = true ∧ stMig.fw.step = BootStep.phyLoaded ∧ stMig.mustMigrate = true ∧
      (stMig.setBank stMig.migrates.fst).newest = some snap ∧
      BitVec.toNat ((stMig.bank stMig.fw.runImage).word 6) ≤ (stMig.setBank stMig.migrates.fst).version ∧
      (stMig.setBank stMig.migrates.fst).version ≤ BitVec.toNat ((stMig.bank stMig.fw.runImage).word 5)) ∧
    -- Join
    (stJoin.mpOn = true ∧ stJoin.fw.step = BootStep.settings) ∧
    -- Serdes
    (stSerdes.mpOn = true ∧ stSerdes.fw.step = BootStep.joined) ∧
    -- Serdes bad
    (stSerdes.mpOn = true ∧ stSerdes.fw.step = BootStep.joined) ∧
    -- Plane
    (rom.coreOn = true ∧ rom.fw.step = BootStep.rom ∧
      (BootFindings.mk allGood.break_ allGood.sigA allGood.hashA allGood.sigB allGood.hashB [2] allGood.cells).planes = [2] ∧
      rom.plane.move = none ∧ rom.plane.pendingRetire = [] ∧ 2 ∈ rom.plane.inService ∧
      (∃ q, q < 5 ∧ q ≠ 2 ∧ q ∈ rom.plane.inService)) := by
  and_intros <;> decide +kernel

/-- The premises of `Obligations.UpdatesGoThroughTheBank` hold together, clause by clause. -/
theorem witness_UpdatesGoThroughTheBank :
    -- Open trial
    (stOpentrial.granted 0 A.updCmd 1 = true ∧ stOpentrial.fw.rec_.trial.isSome = true) ∧
    -- Open
    (up.granted 0 A.updCmd 1 = true ∧ up.fw.rec_.trial = none ∧ up.fw.xmodem = false ∧ up.freeBank = some 1) ∧
    -- Erased
    (stErased.mpOn = true ∧ stErased.fw.busy = some 1 ∧ stErased.freeBank = some 1) ∧
    -- Data
    (stData.granted 0 A.updWrData 77 = true ∧ stData.freeIn [1] = some 1) ∧
    -- Data no
    (stDatano.granted 0 A.updWrData 77 = true ∧ stDatano.freeIn [1] = none) ∧
    -- Verify
    (stVerify.granted 0 A.updCmd 2 = true ∧ (stVerify.freeIn [1]).isSome = true) ∧
    -- VerifyC
    (stVerifyC.mpOn = true ∧ stVerifyC.fw.busy = some 2 ∧ stVerifyC.freeIn [1] = some 1) ∧
    -- VerifyC ok
    (stVerifyCok.mpOn = true ∧ stVerifyCok.fw.busy = some 2 ∧ stVerifyCok.freeIn [1] = some 1) ∧
    -- Activate
    (stDatano.granted 0 A.updCmd 3 = true ∧ stDatano.freeIn [2] = some 1) ∧
    -- Confirm
    (stOpentrial.inTrial = true ∧ stOpentrial.fw.rec_.trial = some (1, 1) ∧ stOpentrial.granted 0 A.updCmd 4 = true) ∧
    -- Auto
    (stAuto.inTrial = true ∧ stAuto.fw.rec_.trial = some (1, 1) ∧ stAuto.mpOn = true ∧ stAuto.fw.rec_.fallback = false ∧
      stAuto.fw.backboneAt = some 0 ∧ fld (stAuto.cfg A.updCtrl) 8 8 ≠ 0 ∧
      0 + fld (stAuto.cfg A.updCtrl) 8 8 * 1000000000 ≤ stAuto.now) ∧
    -- Abort
    (stDatano.granted 0 A.updCmd 7 = true ∧ stDatano.freeIn [1, 2] = some 1) ∧
    -- Fallback
    (stOpentrial.granted 0 A.updCmd 5 = true ∧ stOpentrial.inTrial = true) ∧
    -- Save
    (stSave.granted 0 A.updCmd 6 = true ∧ stSave.fw.saving = false) ∧
    -- Save first
    (up.granted 0 A.updCmd 6 = true ∧ up.fw.saving = false) ∧
    -- SaveC
    (stSaveC.mpOn = true ∧ stSaveC.fw.saving = true) ∧
    -- Lc
    (up.coreOn = true ∧ up.mayWrite (up.plain 0) updPage 176 = true ∧ up.lockedOut (up.plain 0) updPage 176 258 = false ∧
      tst 258 8 = true) ∧
    -- ForceLock
    (stForceLock.granted 0 A.svcForceLock 1 = true ∧ tst 1 0 = true ∧ stForceLock.svc.unlock ≠ 0) := by
  and_intros <;> decide +kernel

/-- The premises of `Obligations.MonitorAnswers` hold together, clause by clause. -/
theorem witness_MonitorAnswers :
    -- Ln0
    (up.on = true ∧ [65].length ≤ 320 ∧ up.lineBytes + [65].length ≤ 2048 ∧
      (stampItem 84 5 [65] [65].length up).snd.inputRefused (stampItem 84 5 [65] [65].length up).fst = none) ∧
    -- Ln0r
    (stLn0r.on = true ∧ [65].length ≤ 320 ∧ stLn0r.lineBytes + [65].length ≤ 2048 ∧
      (stampItem 84 5 [65] [65].length stLn0r).snd.inputRefused (stampItem 84 5 [65] [65].length stLn0r).fst = some 1) ∧
    -- Ln1
    (up.on = true ∧ 320 < (List.replicate 321 65).length) ∧
    -- Ln r
    (stLnr.monOn = true ∧ stLnr.svc.held = false ∧ stLnr.svc.load = none ∧
      stLnr.svc.lines = [Item.mk (itm 84 (asc ['C', 'H', 'A', 'L'])).uid (itm 84 (asc ['C', 'H', 'A', 'L'])).stamp (itm 84 (asc ['C', 'H', 'A', 'L'])).vertex (itm 84 (asc ['C', 'H', 'A', 'L'])).seq (itm 84 (asc ['C', 'H', 'A', 'L'])).epoch 15 (itm 84 (asc ['C', 'H', 'A', 'L'])).data (itm 84 (asc ['C', 'H', 'A', 'L'])).len (itm 84 (asc ['C', 'H', 'A', 'L'])).vid (itm 84 (asc ['C', 'H', 'A', 'L'])).pcp (itm 84 (asc ['C', 'H', 'A', 'L'])).tagged (itm 84 (asc ['C', 'H', 'A', 'L'])).verified (itm 84 (asc ['C', 'H', 'A', 'L'])).tc (itm 84 (asc ['C', 'H', 'A', 'L'])).flow (itm 84 (asc ['C', 'H', 'A', 'L'])).res (itm 84 (asc ['C', 'H', 'A', 'L'])).rule] ∧
      monLine (Item.mk (itm 84 (asc ['C', 'H', 'A', 'L'])).uid (itm 84 (asc ['C', 'H', 'A', 'L'])).stamp (itm 84 (asc ['C', 'H', 'A', 'L'])).vertex (itm 84 (asc ['C', 'H', 'A', 'L'])).seq (itm 84 (asc ['C', 'H', 'A', 'L'])).epoch 15 (itm 84 (asc ['C', 'H', 'A', 'L'])).data (itm 84 (asc ['C', 'H', 'A', 'L'])).len (itm 84 (asc ['C', 'H', 'A', 'L'])).vid (itm 84 (asc ['C', 'H', 'A', 'L'])).pcp (itm 84 (asc ['C', 'H', 'A', 'L'])).tagged (itm 84 (asc ['C', 'H', 'A', 'L'])).verified (itm 84 (asc ['C', 'H', 'A', 'L'])).tc (itm 84 (asc ['C', 'H', 'A', 'L'])).flow (itm 84 (asc ['C', 'H', 'A', 'L'])).res (itm 84 (asc ['C', 'H', 'A', 'L'])).rule).data = some (MonCmd.chal, []) ∧
      stLnr.monMay MonCmd.chal = false) ∧
    -- ident
    (stident.monReady MonCmd.ident [] = true) ∧
    -- help
    (sthelp.monReady MonCmd.help [] = true) ∧
    -- status
    (ststatus.monReady MonCmd.status [] = true) ∧
    -- bank
    (stbank.monReady MonCmd.bank [] = true) ∧
    -- baud
    (stbaud.monReady MonCmd.baud [asc ['9', '6', '0', '0']] = true ∧
      decArg (asc ['9', '6', '0', '0']) = some (baudRates.getD 0 0)) ∧
    -- revert
    (strevert.svc.rateAt = some 0 ∧ strevert.monOn = true ∧ 0 + 10000000000 ≤ strevert.now) ∧
    -- echo
    (stecho.monReady MonCmd.echo [[79, 78]] = true) ∧
    -- echo2
    (stecho2.monReady MonCmd.echo [[79, 70, 70]] = true) ∧
    -- flog
    (stflog.monReady MonCmd.flog [] = true) ∧
    -- rd
    (hexArg (asc ['0']) = some 0 ∧ hexArg (asc ['5']) = some 5 ∧ hexArg (asc ['F', 'F']) = some 255 ∧ 0 % 4 = 0 ∧
      (pageOf 0).isSome = true ∧ farWindow 0 = none ∧ strd.monReady MonCmd.rd [asc ['0']] = true ∧
      (readReg strd.monReq 0 strd).fst = Rsp.ok) ∧
    -- wr
    (hexArg (asc ['1', '8', '0']) = some 384 ∧ hexArg (asc ['5']) = some 5 ∧ hexArg (asc ['F', 'F']) = some 255 ∧
      384 % 4 = 0 ∧ (pageOf 384).isSome = true ∧ farWindow 384 = none ∧
      stwr.monReady MonCmd.wr [asc ['1', '8', '0'], asc ['5']] = true ∧
      (writeAny stwr.monReq 384 5 stwr).snd.power.resetDue = false) ∧
    -- wr2
    (hexArg (asc ['1', '8', '1', '0', '7', '0']) = some 0x181070 ∧ hexArg (asc ['5']) = some 5 ∧
      hexArg (asc ['F', 'F']) = some 255 ∧ 0x181070 % 4 = 0 ∧ (pageOf 0x181070).isSome = true ∧ farWindow 0x181070 = none ∧
      stwr2.monReady MonCmd.wr [asc ['1', '8', '1', '0', '7', '0'], asc ['5']] = true ∧
      (writeAny stwr2.monReq 0x181070 5 stwr2).snd.power.resetDue = false) ∧
    -- mw
    (hexArg (asc ['1', '8', '0']) = some 384 ∧ hexArg (asc ['5']) = some 5 ∧ hexArg (asc ['F', 'F']) = some 255 ∧
      384 % 4 = 0 ∧ (pageOf 384).isSome = true ∧ farWindow 384 = none ∧
      stmw.monReady MonCmd.mw [asc ['1', '8', '0'], asc ['F', 'F'], asc ['5']] = true ∧
      (writeAny stmw.monReq 384 (merged (stmw.oldWord stmw.monReq 384) 255 5) stmw).snd.power.resetDue = false) := by
  and_intros <;> decide +kernel

/-- The premises of `Obligations.UnlockNeedsTheKey` hold together, clause by clause. -/
theorem witness_UnlockNeedsTheKey :
    -- chal
    (stchal.monReady MonCmd.chal [] = true) ∧
    -- unl
    (stunl.monReady MonCmd.unlock [asc ['O'], asc ['5', '5']] = true ∧
      (asc ['O'] = [79] ∧ 1 = 1 ∨ asc ['O'] = [86] ∧ 1 = 2) ∧ stunl.svc.refuseUntil ≤ stunl.now ∧
      stunl.svc.challenge.isSome = true) ∧
    -- unl no
    (stunlno.monReady MonCmd.unlock [asc ['V'], asc ['5', '5']] = true ∧
      (asc ['V'] = [79] ∧ 2 = 1 ∨ asc ['V'] = [86] ∧ 2 = 2) ∧ stunlno.svc.refuseUntil ≤ stunlno.now) ∧
    -- unl no1
    (stunlno1.monReady MonCmd.unlock [asc ['V'], asc ['5', '5']] = true ∧
      (asc ['V'] = [79] ∧ 2 = 1 ∨ asc ['V'] = [86] ∧ 2 = 2) ∧ stunlno1.svc.refuseUntil ≤ stunlno1.now) ∧
    -- unl no2
    (stunlno2.monReady MonCmd.unlock [asc ['V'], asc ['5', '5']] = true ∧
      (asc ['V'] = [79] ∧ 2 = 1 ∨ asc ['V'] = [86] ∧ 2 = 2) ∧ stunlno2.svc.refuseUntil ≤ stunlno2.now) ∧
    -- unl wait
    (stunlwait.monReady MonCmd.unlock [asc ['V'], asc ['5', '5']] = true ∧
      (asc ['V'] = [79] ∧ 2 = 1 ∨ asc ['V'] = [86] ∧ 2 = 2) ∧ stunlwait.now < stunlwait.svc.refuseUntil) ∧
    -- lock
    (stlock.monReady MonCmd.lock [] = true) ∧
    -- idle
    (stidle.monOn = true ∧ stidle.svc.unlock ≠ 0 ∧
      stidle.svc.lastLine + fld (stidle.cfg A.svcUnlockIdle) 0 16 * 1000000000 ≤ stidle.now) := by
  and_intros <;> decide +kernel

/-- The premises of `Obligations.MonitorUpdates` hold together, clause by clause. -/
theorem witness_MonitorUpdates :
    -- reset
    (streset.monReady MonCmd.reset [] = true) ∧
    -- recover
    (strecover.monReady MonCmd.recover [] = true) ∧
    -- load
    (stload.monReady MonCmd.load [asc ['B']] = true ∧ bankArg (asc ['B']) = some 1 ∧ stload.fw.busy = none ∧
      (stload.fw.step = BootStep.recovery ∨ stload.fw.rec_.trial = none ∧ stload.freeBank = some 1)) ∧
    -- load r
    (stloadr.monReady MonCmd.load [asc ['A']] = true ∧ bankArg (asc ['A']) = some 0 ∧ stloadr.fw.busy = none ∧
      (stloadr.fw.step = BootStep.recovery ∨ stloadr.fw.rec_.trial = none ∧ stloadr.freeBank = some 0)) ∧
    -- xm nak
    (stxmnak.monOn = true ∧ stxmnak.svc.load = some (1, 0)) ∧
    -- xm
    (stxm.monOn = true ∧ stxm.svc.load = some (1, 0) ∧
      ((List.replicate 128 7).length = 1024 ∨ (List.replicate 128 7).length = 128)) ∧
    -- xm last
    (stxm.monOn = true ∧ stxm.svc.load = some (1, 0) ∧
      ((List.replicate 128 7).length = 1024 ∨ (List.replicate 128 7).length = 128)) ∧
    -- act r
    (stactr.monReady MonCmd.activate [asc ['B']] = true ∧ bankArg (asc ['B']) = some 1 ∧ stactr.fw.step = BootStep.recovery ∧
      (stactr.bank 1).st = 2) ∧
    -- act
    (stact.monReady MonCmd.activate [asc ['B']] = true ∧ bankArg (asc ['B']) = some 1 ∧ stact.fw.step ≠ BootStep.recovery ∧
      stact.freeIn [2] = some 1) ∧
    -- act no
    (stactno.monReady MonCmd.activate [asc ['B']] = true ∧ bankArg (asc ['B']) = some 1 ∧
      stactno.fw.step ≠ BootStep.recovery ∧ stactno.freeIn [2] = none) ∧
    -- confirm
    (stconfirm.monReady MonCmd.confirm [] = true ∧ stconfirm.inTrial = true ∧ stconfirm.fw.rec_.trial = some (1, 1)) ∧
    -- stage
    (ststage.monReady MonCmd.stage [asc ['1'], asc ['5', '5']] = true ∧ decArg (asc ['1']) = some 1 ∧ 1 < 5) := by
  and_intros <;> decide +kernel

end Sys2Proof.Tests
end

