-- ==== Sys2Proof/Tests/Witness3.lean ====
section
/-! SUPPORT. Witnesses of the statements over one step, and of the judging of a commit. -/

namespace Sys2Proof.Tests
open Sys2Proof.Machine
set_option maxRecDepth 100000
set_option Elab.async false

/-- The premises of `Obligations.LocusNeverDecreases` hold together. -/
theorem witness_LocusNeverDecreases :
    ∃ t, step up = .next t ∧ t.fw.starts = up.fw.starts ∧ t.power.collapsed = false :=
  ⟨tick up, rfl, by and_intros <;> decide +kernel⟩

/-- The premises of `Obligations.StepKeepsMemory` hold together, at reset and in a state that lists a cell. -/
theorem witness_StepKeepsMemory :
    (State.reset.memWf = true ∧ ∃ t, step State.reset = .next t) ∧ (ring0.memWf = true ∧ ∃ t, step ring0 = .next t) :=
  ⟨⟨by decide +kernel, tick State.reset, rfl⟩, by decide +kernel, tick ring0, rfl⟩

/-- The premise of `Obligations.NoStepClearsFuse` holds. -/
theorem witness_NoStepClearsFuse : ∃ t, step State.reset = .next t := ⟨tick State.reset, rfl⟩

/-- The premises of `Obligations.EventsKeepTheConfiguration` hold together. -/
theorem witness_EventsKeepTheConfiguration :
    Instr.slewEnd.keepsConfiguration = true ∧ (∃ t, exec .slewEnd slewing = .next t)
      ∧ (∀ r, Instr.slewEnd ≠ .captureRingReceive r) ∧ ∀ n e, Instr.slewEnd ≠ .cipComplete n e :=
  ⟨by decide +kernel, ⟨_, rfl⟩, fun _ h => (by cases h), fun _ _ h => by cases h⟩

/-- The premises of the clause of `Obligations.LatticeFlags` on the commands that set no flag hold together. -/
theorem witness_LatticeFlags_kept :
    (Instr.latAdd 0 0).latAt = some (0, 0) ∧ (Instr.latAdd 0 0).setsFlags = false ∧ stAr0.jobAt 0 0 = some j1 ∧
      ∃ t, exec (Instr.latAdd 0 0) stAr0 = .next t ∧ t.jobAt 0 0 = some (j1.wrote 3 16) :=
  ⟨by decide +kernel, by decide +kernel, by decide +kernel, stKeepflags1, by rfl, by decide +kernel⟩

/-! The judging clauses of `Obligations.CommitsAreRequestedAndJudged`: the staging copy of a reset has no conflict, shown check by check. -/

theorem clean_time : up.staging.chkSync ++ up.staging.chkCapture ++ up.staging.chkDomains ++ chkPins up.staging up.live = [] := by decide +kernel
theorem clean_buffer : up.staging.chkBuffer = [] := by decide +kernel
theorem clean_tables : up.chkTables up.staging ++ up.chkLattice up.staging = [] := by decide +kernel
theorem clean_can : ((List.range 24).map (chkCan up.staging up.live)).flatten = [] := by decide +kernel
theorem clean_lin : ((List.range 12).map up.staging.chkLin).flatten ++ up.staging.chkBridge = [] := by decide +kernel
theorem clean_eth : ((List.range 48).map (chkEth up.staging up.live)).flatten ++ up.staging.chkBond ++ up.staging.chkExport = [] := by
  decide +kernel
theorem clean_rest : up.staging.chkFacets ++ up.staging.chkOwners ++ up.chkAccord up.staging ++ up.staging.chkUnits ++ up.staging.chkWake
    ++ up.staging.chkPower = [] := by decide +kernel

theorem clean : up.conflicts = [] := by
  have h1 := clean_time
  have h2 := clean_tables
  have h3 := clean_lin
  have h4 := clean_eth
  have h5 := clean_rest
  simp only [List.append_eq_nil_iff] at h1 h2 h3 h4 h5
  simp only [State.conflicts, h1, h2, h3, h4, h5, clean_buffer, clean_can, List.append_nil]

theorem witness_Validation_conflict :
    conflicting.mpOn = true ∧ conflicting.mayValidate = true ∧ conflicting.conflict = some ⟨A.sysEpochAtNs, 0⟩ :=
  ⟨by decide +kernel, by decide +kernel, by
    rw [State.conflict, show conflicting.conflicts = [] from clean]; decide +kernel⟩

theorem witness_Validation_at :
    (atTime200.mpOn = true ∧ atTime200.mayValidate = true ∧ atTime200.conflict = none ∧ atTime200.epoch.atTime = some 200000 ∧
      atTime200.locus + 100000 * 65536 ≤ 200000 * 65536) ∧
    (near.mpOn = true ∧ near.mayValidate = true ∧ near.conflict = none ∧ near.epoch.atTime = some 99999 ∧
      99999 * 65536 < near.locus + 100000 * 65536) := by
  refine ⟨⟨by decide +kernel, by decide +kernel, ?_, by decide +kernel, by decide +kernel⟩,
    by decide +kernel, by decide +kernel, ?_, by decide +kernel, by decide +kernel⟩
  · rw [State.conflict, show atTime200.conflicts = [] from clean]; decide +kernel
  · rw [State.conflict, show near.conflicts = [] from clean]; decide +kernel

theorem witness_Validation_now :
    validating.mpOn = true ∧ validating.mayValidate = true ∧ validating.conflict = none ∧ validating.epoch.atTime = none :=
  ⟨by decide +kernel, by decide +kernel, by
    rw [State.conflict, show validating.conflicts = [] from clean]; decide +kernel, by decide +kernel⟩

end Sys2Proof.Tests
end

section
/-! PROOF. Commits (R31, R34–R42): what a commit puts in force stays through everything that follows from it in the blocks; what a taken
write of SYS_EPOCH_CTRL does; what validation does up to the judgement of T. -/

namespace Sys2Proof.Machine

/-! ## What a commit puts in force

Every block takes the new settings at a commit (`commitHooks`). None of that touches the live registers, the bank that drains or the commit
machinery, which is said for each operation in turn. -/

/-- What a commit puts in force: the live registers, the bank that drains and the commit machinery. -/
def State.inForce (s : State) : RegFile × Bank × EpochSt := (s.live.regs, s.drain, s.epoch)

theorem inForce_of_still {s t : State} (h : t.still = s.still) : t.inForce = s.inForce := by
  obtain ⟨hl, -, hd, he, -⟩ := still_fields h
  simp only [State.inForce, hl, hd, he]

theorem Calm.inForce {s t : State} (h : Calm s t) : t.inForce = s.inForce := inForce_of_still h.still

theorem ite_inForce {c : Prop} [Decidable c] {s t u : State} (ht : t.inForce = s.inForce) (hu : u.inForce = s.inForce) :
    (if c then t else u).inForce = s.inForce := by
  split <;> assumption

theorem foldl_inForce {α : Type} (f : State → α → State) (h : ∀ s a, (f s a).inForce = s.inForce) :
    ∀ (l : List α) (s : State), (l.foldl f s).inForce = s.inForce
  | [], _ => rfl
  | a :: l, s => (foldl_inForce f h l (f s a)).trans (h s a)

@[simp] theorem raise_inForce (src : Nat) (s : State) : (raise src s).inForce = s.inForce := (raise_calm src s).inForce

/-! ### Field updates -/

@[simp] theorem setReg_inForce (a : Nat) (v : W32) (s : State) : (setReg a v s).inForce = s.inForce := rfl

@[simp] theorem setDom_inForce (d : Nat) (x : DomainSt) (s : State) : (setDom d x s).inForce = s.inForce := rfl

@[simp] theorem setEth_inForce (v : Nat) (e : EthSt) (s : State) : (setEth v e s).inForce = s.inForce := rfl

@[simp] theorem setLane_inForce (l : Nat) (x : LaneSt) (s : State) : (setLane l x s).inForce = s.inForce := rfl

@[simp] theorem setOut_inForce (v : Nat) (e : EgressSt) (s : State) : (setOut v e s).inForce = s.inForce := rfl

@[simp] theorem setCan_inForce (ch : Nat) (c : CanSt) (s : State) : (setCan ch c s).inForce = s.inForce := rfl

@[simp] theorem setLin_inForce (j : Nat) (c : LinSt) (s : State) : (setLin j c s).inForce = s.inForce := rfl

@[simp] theorem markAsleep_inForce (v : Nat) (s : State) : (markAsleep v s).inForce = s.inForce := rfl

/-! ### The sync outputs and the locus -/

@[simp] theorem syncSkip_inForce (n k : Nat) (s : State) : (syncSkip n k s).inForce = s.inForce := ite_inForce rfl (raise_inForce _ _)

@[simp] theorem soCommit_inForce (old : Bank) (t n : Nat) (s : State) : (soCommit old t n s).inForce = s.inForce :=
  ite_inForce rfl (ite_inForce (syncSkip_inForce _ _ _) (ite_inForce (syncSkip_inForce _ _ _) rfl))

@[simp] theorem enterLocus_inForce (st : LocusState) (cause : Nat) (s : State) : (enterLocus st cause s).inForce = s.inForce := by
  unfold enterLocus
  extract_lets forced st' cause' age l src l' s1 s2 s3
  have h1 : s1.inForce = s.inForce := (record_calm 96 8 _ _ _).inForce
  have h2 : s2.inForce = s.inForce := (raise_inForce _ _).trans h1
  have h3 : s3.inForce = s.inForce := ite_inForce ((raise_inForce _ _).trans h2) h2
  exact ite_inForce rfl (ite_inForce ((raise_inForce _ _).trans h3) h3)

@[simp] theorem holdover_inForce (cause : Nat) (s : State) : (holdover cause s).inForce = s.inForce := ite_inForce (enterLocus_inForce _ _ _) rfl

@[simp] theorem setRole_inForce (d role : Nat) (s : State) : (setRole d role s).inForce = s.inForce := ite_inForce rfl (raise_inForce _ _)

@[simp] theorem locCommit_inForce (old : Bank) (s : State) : (locCommit old s).inForce = s.inForce := by
  unfold locCommit
  extract_lets src s1 oldDom s2 loc
  have h1 : s1.inForce = s.inForce := by
    refine foldl_inForce _ (fun s d => ?_) _ s
    exact ite_inForce ((setRole_inForce _ _ _).trans (setDom_inForce _ _ _))
      (ite_inForce ((setDom_inForce _ _ _).trans (setRole_inForce _ _ _)) rfl)
  have h2 : s2.inForce = s.inForce := ite_inForce ((setRole_inForce _ _ _).trans h1) h1
  refine ite_inForce h1 (ite_inForce ?_ (ite_inForce h2 (ite_inForce ?_ ?_)))
  · exact (enterLocus_inForce _ _ _).trans ((setRole_inForce _ _ _).trans h2)
  · exact (enterLocus_inForce _ _ _).trans h2
  · exact (holdover_inForce _ _).trans h2

/-! ### Leases, checks, keys, accord -/

@[simp] theorem leaseCommit_inForce (old : Bank) (s : State) : (leaseCommit old s).inForce = s.inForce := by
  unfold leaseCommit
  refine foldl_inForce _ (fun s n => ?_) _ s
  exact ite_inForce rfl rfl

@[simp] theorem chkCommit_inForce (old : Bank) (s : State) : (chkCommit old s).inForce = s.inForce := by
  unfold chkCommit
  refine foldl_inForce _ (fun s u => ?_) _ s
  refine ite_inForce ?_ rfl
  rw [setRun, setReg_inForce, setReg_inForce]

@[simp] theorem eraseRole_inForce (slot role : Nat) (s : State) : (eraseRole slot role s).inForce = s.inForce := rfl

@[simp] theorem keyCommit_inForce (old : Bank) (s : State) : (keyCommit old s).inForce = s.inForce := by
  unfold keyCommit
  refine foldl_inForce _ (fun s slot => ?_) _ s
  refine ite_inForce ((raiseTo_calm _ _ _).inForce.trans ?_) rfl
  rw [eraseRole_inForce, eraseRole_inForce]

@[simp] theorem accordCommit_inForce (s : State) : (accordCommit s).inForce = s.inForce := by
  refine ite_inForce rfl ?_
  exact foldl_inForce _ (fun _ _ => raise_inForce _ _) _ _

/-! ### Ethernet vertices -/

@[simp] theorem flushVertex_inForce (v : Nat) (s : State) : (flushVertex v s).inForce = s.inForce := by
  unfold flushVertex flushFirst
  refine foldl_inForce _ (fun s k => ?_) _ s
  rfl

@[simp] theorem ethCount_inForce (v k n : Nat) (s : State) : (ethCount v k n s).inForce = s.inForce := rfl

@[simp] theorem lostFrame_inForce (v : Nat) (c : Copy) (s : State) : (ethCount v 15 1 (freeCopy c (unnamedFate c s))).inForce = s.inForce := by
  have free (s : State) : (freeCopy c s).inForce = s.inForce := rfl
  have fresh (s : State) : (freshen s).inForce = s.inForce := rfl
  rw [ethCount_inForce, free, unnamedFate, fresh, fate]
  exact (stage_calm _ s).inForce

@[simp] theorem abortTx_inForce (v : Nat) (s : State) : (abortTx v s).inForce = s.inForce := by
  unfold abortTx
  extract_lets o lose
  have lose_inForce : ∀ (f : Option TxFrame) (s : State), (lose f s).inForce = s.inForce
    | none, _ => rfl
    | some f, s => lostFrame_inForce v f.copy s
  exact (lose_inForce _ _).trans (lose_inForce _ s)

@[simp] theorem linkLost_inForce (v : Nat) (medium : Bool) (s : State) : (linkLost v medium s).inForce = s.inForce := by
  unfold linkLost
  extract_lets e waits s1 s2 out s3 eth s4 s5 s6
  have h2 : s2.inForce = s.inForce := by
    refine Eq.trans ?_ (abortTx_inForce v s)
    clear_value waits
    cases waits <;> rfl
  have h4 : s4.inForce = s.inForce := (setEth_inForce _ _ _).trans ((setOut_inForce _ _ _).trans h2)
  have h5 : s5.inForce = s.inForce := (raiseEth_calm _ _ _).inForce.trans ((ethCount_inForce _ _ _ _).trans h4)
  have h6 : s6.inForce = s.inForce := ite_inForce ((fault_calm _ _ _ _).inForce.trans h5) h5
  exact ite_inForce rfl (ite_inForce ((flushVertex_inForce _ _).trans h6) h6)

@[simp] theorem ethOff_inForce (v : Nat) (s : State) : (ethOff v s).inForce = s.inForce := by
  unfold ethOff
  extract_lets s1 lane s2
  have h1 : s1.inForce = s.inForce := linkLost_inForce _ _ _
  have h2 : s2.inForce = s.inForce := ite_inForce ((setLane_inForce _ _ _).trans h1) h1
  exact (markAsleep_inForce _ _).trans ((setEth_inForce _ _ _).trans h2)

@[simp] theorem ethCommit_inForce (old : Bank) (s : State) : (ethCommit old s).inForce = s.inForce := by
  have verify (v : Nat) (s : State) : (verifyCommit old v s).inForce = s.inForce := ite_inForce (setOut_inForce _ _ _) rfl
  have plca (v : Nat) (s : State) : (plcaCommit old v s).inForce = s.inForce := ite_inForce rfl (setEth_inForce _ _ _)
  unfold ethCommit
  rw [foldl_inForce _ (fun s v => verify v s), foldl_inForce _ (fun s v => plca v s)]
  refine foldl_inForce _ (fun s v => ?_) _ s
  extract_lets gone lane eth s1
  have h1 : s1.inForce = s.inForce := (linkLost_inForce _ _ _).trans ((linkLost_inForce _ _ _).trans (linkLost_inForce _ _ _))
  refine ite_inForce (ite_inForce ?_ ?_) (ite_inForce ?_ ?_)
  · exact ite_inForce (setLane_inForce _ _ _) rfl
  · exact ite_inForce (setEth_inForce _ _ _) rfl
  · exact ite_inForce h1 ((setLane_inForce _ _ _).trans h1)
  · exact (setEth_inForce _ _ _).trans h1

/-! ### Buses and the stream of journal records -/

@[simp] theorem canCommit_inForce (old : Bank) (s : State) : (canCommit old s).inForce = s.inForce := by
  unfold canCommit
  refine foldl_inForce _ (fun s ch => ?_) _ s
  extract_lets diff again c timing was s1
  have h1 : s1.inForce = s.inForce := ite_inForce (setCan_inForce _ _ _) rfl
  have tt (s : State) : (ttStart ch s).inForce = s.inForce := setCan_inForce _ _ _
  exact ite_inForce ((tt _).trans h1) h1

@[simp] theorem linCommit_inForce (old : Bank) (s : State) : (linCommit old s).inForce = s.inForce := by
  unfold linCommit
  refine foldl_inForce _ (fun s j => ?_) _ s
  extract_lets c changed s1 lin s2
  have h1 : s1.inForce = s.inForce := ite_inForce (setLin_inForce _ _ _) rfl
  have h2 : s2.inForce = s.inForce := ite_inForce h1 ((setLin_inForce _ _ _).trans h1)
  exact ite_inForce h2 ((setLin_inForce _ _ _).trans h2)

@[simp] theorem bridgeCommit_inForce (old : Bank) (s : State) : (bridgeCommit old s).inForce = s.inForce := rfl

@[simp] theorem expCommit_inForce (old : Bank) (s : State) : (expCommit old s).inForce = s.inForce := ite_inForce rfl (ite_inForce rfl rfl)

/-! ### Sleep and power -/

@[simp] theorem wakeVertex_inForce (v : Nat) (s : State) : (wakeVertex v s).inForce = s.inForce := by
  unfold wakeVertex
  extract_lets wake s1
  have h1 : s1.inForce = s.inForce := rfl
  refine ite_inForce ?_ (ite_inForce ?_ (ite_inForce ?_ h1))
  · exact (setLane_inForce _ _ _).trans h1
  · exact (setEth_inForce _ _ _).trans h1
  · exact (setCan_inForce _ _ _).trans h1

@[simp] theorem emit_inForce (v : Nat) (l : List Byte) (bad : Bool) (sof : Nat) (s : State) : (emit v l bad sof s).inForce = s.inForce := by
  unfold emit feedLane
  exact ite_inForce rfl rfl

@[simp] theorem sleepVertex_inForce (v : Nat) (s : State) : (sleepVertex v s).inForce = s.inForce := by
  unfold sleepVertex
  extract_lets wake can j cmd s1 lin
  have h1 : s1.inForce = s.inForce := ite_inForce (emit_inForce _ _ _ _ _) rfl
  refine ite_inForce rfl (ite_inForce (ite_inForce rfl rfl) (ite_inForce (ethOff_inForce v s) (ite_inForce ?_ ?_)))
  · exact (markAsleep_inForce _ _).trans (setCan_inForce _ _ _)
  · exact (markAsleep_inForce _ _).trans ((setLin_inForce _ _ _).trans h1)

@[simp] theorem wakeCommit_inForce (old : Bank) (s : State) : (wakeCommit old s).inForce = s.inForce := by
  unfold wakeCommit
  extract_lets changed now s1
  have h1 : s1.inForce = s.inForce := foldl_inForce _ (fun s v => wakeVertex_inForce v s) _ s
  exact ite_inForce ((foldl_inForce _ (fun s v => sleepVertex_inForce v s) _ _).trans h1) rfl

@[simp] theorem powerCommit_inForce (old : Bank) (s : State) : (powerCommit old s).inForce = s.inForce := by
  unfold powerCommit
  extract_lets s1
  have h1 : s1.inForce = s.inForce := rfl
  exact ite_inForce h1 h1

@[simp] theorem endQuota_inForce (s : State) : (endQuota s).inForce = s.inForce := rfl

@[simp] theorem endCtxQuota_inForce (s : State) : (endCtxQuota s).inForce = s.inForce := rfl

/-- What follows from a commit in the blocks leaves what it put in force. -/
@[simp] theorem commitHooks_inForce (old : Bank) (t : Nat) (s : State) : (commitHooks old t s).inForce = s.inForce := by
  unfold commitHooks
  extract_lets s1 s2 s3
  have h1 : s1.inForce = s.inForce := by
    rw [foldl_inForce _ (fun s n => soCommit_inForce old t n s), locCommit_inForce, leaseCommit_inForce]
  have h2 : s2.inForce = s.inForce := by
    rw [canCommit_inForce, ethCommit_inForce, keyCommit_inForce, chkCommit_inForce, h1]
  have h3 : s3.inForce = s.inForce := by
    rw [powerCommit_inForce, wakeCommit_inForce, expCommit_inForce, bridgeCommit_inForce, linCommit_inForce, h2]
  rw [endQuota_inForce, endCtxQuota_inForce, accordCommit_inForce, h3]

/-- A commit that takes effect: the staged registers are live, the live bank drains, and the machinery is idle under the number logged. -/
theorem takeEffect_fields (t : Nat) (s : State) :
    (takeEffect t s).live.regs = s.staging.regs ∧ (takeEffect t s).drain = s.live ∧ (takeEffect t s).epoch =
      { s.epoch with live := s.highestEpoch, draining := some s.epoch.live, drainStart := s.now, st := .idle, atTime := none, copyTbl := true,
                     copyDe := true, copyRules := true, switchNs := t / 65536, prev := s.epoch.live } := by
  have recorded (t : Nat) (was n : W32) (s : State) : (epochRecord t was n s).inForce = s.inForce :=
    (stage_calm _ _).inForce.trans (takeSeq_calm _ _ _).inForce
  unfold takeEffect
  extract_lets n old was ns e after acc s1 s2 s3
  have h1 : s1.inForce = (s.staging.regs, s.live, after) := rfl
  have h2 : s2.inForce = s1.inForce := rfl
  have h3 : s3.inForce = s2.inForce := recorded _ _ _ _
  have h4 : (commitHooks old t (raise 7 s3)).inForce = (s.staging.regs, s.live, after) := by
    rw [commitHooks_inForce, raise_inForce, h3, h2, h1]
  simpa only [State.inForce, Prod.mk.injEq] using h4

/-! ## The epoch log (R43, R599) -/

/-- The step of `highest`. -/
def larger (a n : W32) : W32 := if a.toNat < n.toNat then n else a

theorem highest_eq (l : List W32) : highest l = l.foldl larger 0 := rfl

theorem larger_ge (a n : W32) : a.toNat ≤ (larger a n).toNat ∧ n.toNat ≤ (larger a n).toNat := by
  unfold larger
  split <;> omega

theorem larger_of_le {a n : W32} (h : n.toNat ≤ a.toNat) : larger a n = a := if_neg (Nat.not_lt.2 h)

theorem larger_zero (n : W32) : larger 0 n = n := by
  unfold larger
  split
  · rfl
  · next h => exact (BitVec.eq_of_toNat_eq (Nat.le_zero.1 (Nat.not_lt.1 h))).symm

theorem foldl_larger_ge (l : List W32) (a : W32) : a.toNat ≤ (l.foldl larger a).toNat ∧ ∀ x ∈ l, x.toNat ≤ (l.foldl larger a).toNat := by
  induction l generalizing a with
  | nil => exact ⟨Nat.le_refl _, fun x hx => absurd hx List.not_mem_nil⟩
  | cons y l ih =>
    obtain ⟨hacc, hmem⟩ := ih (larger a y)
    obtain ⟨ha, hy⟩ := larger_ge a y
    exact ⟨Nat.le_trans ha hacc, List.forall_mem_cons.2 ⟨Nat.le_trans hy hacc, hmem⟩⟩

theorem le_highest {l : List W32} {x : W32} (h : x ∈ l) : x.toNat ≤ (highest l).toNat := (foldl_larger_ge l 0).2 x h

theorem foldl_larger_of_le {n : W32} : ∀ {l : List W32}, (∀ x ∈ l, x.toNat ≤ n.toNat) → l.foldl larger n = n
  | [], _ => rfl
  | x :: l, h => by
    rw [List.foldl_cons, larger_of_le (h x List.mem_cons_self)]
    exact foldl_larger_of_le fun y hy => h y (List.mem_cons_of_mem _ hy)

/-- A number not below those logged is the highest once it is logged itself, though the oldest may go. -/
theorem highest_cons_take {n : W32} {l : List W32} (k : Nat) (h : (highest l).toNat ≤ n.toNat) : highest ((n :: l).take (k + 1)) = n := by
  rw [highest_eq, List.take_succ_cons, List.foldl_cons, larger_zero]
  exact foldl_larger_of_le fun x hx => Nat.le_trans (le_highest (List.mem_of_mem_take hx)) h

theorem highestEpoch_le_nextEpoch (s : State) : s.highestEpoch.toNat ≤ s.nextEpoch.toNat := by
  unfold State.nextEpoch
  split
  · next h => exact Nat.le_of_eq (congrArg BitVec.toNat h)
  · next h =>
    have hne : s.highestEpoch.toNat ≠ 0xFFFFFFFF := fun e => h (BitVec.eq_of_toNat_eq e)
    have hlt := s.highestEpoch.isLt
    have hsucc : (s.highestEpoch + 1).toNat = s.highestEpoch.toNat + 1 :=
      BitVec.toNat_add_of_lt (show s.highestEpoch.toNat + 1 < 2 ^ 32 by omega)
    omega

/-- Logging the next number makes it the highest. -/
theorem highestEpoch_logEpoch_next (s : State) : (logEpoch s.nextEpoch s).highestEpoch = s.nextEpoch := by
  have hb : (logEpoch s.nextEpoch s).setBank s.fw.runSet
      = { s.setBank s.fw.runSet with log := (s.nextEpoch :: (s.setBank s.fw.runSet).log).take 49152 } := SMap.get_put_self _ _ _ _
  exact (congrArg (fun b => highest b.log) hb).trans (highest_cons_take 49151 (highestEpoch_le_nextEpoch s))

theorem Calm.highestEpoch {s t : State} (h : Calm s t) : t.highestEpoch = s.highestEpoch := by
  have c := fun {α : Type} (f : State → α) => (congrArg f h.still : f t.still = f s.still)
  exact c State.highestEpoch

/-! ## Requests (R31, R34, R37, R38) -/

theorem refuseCommit_calm (r : Nat) (s : State) : Calm { s with epoch := { s.epoch with result := r } } (refuseCommit r s) := raise_calm 8 _

/-- A refused request shows its result, raises event 8, and leaves the settings as they are. -/
theorem refuseCommit_fields (r : Nat) (s : State) :
    (refuseCommit r s).epoch = { s.epoch with result := r } ∧ (refuseCommit r s).live = s.live ∧ (refuseCommit r s).staging = s.staging ∧
      (refuseCommit r s).raised 8 = true := by
  obtain ⟨hlive, hstaging, -, hepoch, -⟩ := still_fields (refuseCommit_calm r s).still
  exact ⟨hepoch, hlive, hstaging, raise_raised 8 _ (by decide)⟩

theorem Calm.resetDue {s t : State} (h : Calm s t) : t.power.resetDue = s.power.resetDue := by
  have c := fun {α : Type} (f : State → α) => (congrArg f h.still : f t.still = f s.still)
  exact c (fun u => u.power.resetDue)

theorem requestCommit_idle {s : State} (a : Bool) (hidle : s.epoch.st = .idle) (hmax : s.highestEpoch ≠ 0xFFFFFFFF) :
    requestCommit a s = (.ok, { s with
      loHeld := SMap.put none s.loHeld (A.sysEpochAtSecLo * 16) none,
      epoch := { s.epoch with st := .validating, result := 0, reqNo := s.epoch.reqNo + 1, atTime := if a then some s.atTime else none } }) := by
  unfold requestCommit
  exact (if_neg fun h => h hidle).trans (if_neg hmax)

theorem requestCommit_busy {s : State} (a : Bool) (hbusy : s.epoch.st ≠ .idle) :
    requestCommit a s = (.armed, refuseCommit 4 { s with loHeld := SMap.put none s.loHeld (A.sysEpochAtSecLo * 16) none }) := if_pos hbusy

theorem requestCommit_resetDue (a : Bool) (s : State) : (requestCommit a s).2.power.resetDue = s.power.resetDue := by
  unfold requestCommit
  dsimp only
  split
  · exact (refuseCommit_calm 4 _).resetDue
  · split
    · exact (refuseCommit_calm 5 _).resetDue
    · rfl

theorem epochCtrlWritten_resetDue (f : Nat) (v : W32) (s : State) : (epochCtrlWritten f v s).2.power.resetDue = s.power.resetDue := by
  have hcancel (s : State) : (cancelCommit s).power.resetDue = s.power.resetDue := by unfold cancelCommit; split <;> rfl
  have hfirst : (if tst v 2 then cancelCommit s else s).power.resetDue = s.power.resetDue := by
    split
    · exact hcancel s
    · rfl
  unfold epochCtrlWritten
  split
  · exact (refuseCommit_calm 2 s).resetDue
  · dsimp only
    split
    · exact (requestCommit_resetDue _ _).trans hfirst
    · exact hfirst

/-! ## A write of SYS_EPOCH_CTRL that is taken -/

theorem pageOf_epochCtrl : pageOf A.sysEpochCtrl = some sysPage := by decide

theorem farWindow_epochCtrl : farWindow A.sysEpochCtrl = none := by decide

theorem regRow_epochCtrl : regRow A.sysEpochCtrl = some ⟨0x100, 1, 0, 1, 0, .wo, 0, 7, .none⟩ := by decide

theorem granted_epochCtrl {s : State} {f : Nat} {v : W32} (h : s.granted f A.sysEpochCtrl v = true) :
    s.coreOn = true ∧ s.power.resetDue = false ∧ s.mayWrite (s.plain f) sysPage (A.sysEpochCtrl % 0x1000) = true ∧
      s.lockedOut (s.plain f) sysPage (A.sysEpochCtrl % 0x1000) v = false := by
  unfold State.granted at h
  rw [pageOf_epochCtrl] at h
  simpa only [Bool.and_eq_true, Bool.not_eq_true', and_assoc] using h

/-- Renewing a lease writes locks alone. -/
theorem renewAccess_locks (q : Req) (p : PageRef) (off : Nat) (s : State) : ∃ l, renewAccess q p off s = { s with locks := l } := by
  have one (k f : Nat) (s : State) : ∃ l, renewLock k f s = { s with locks := l } := by
    unfold renewLock
    split
    · exact ⟨_, rfl⟩
    · exact ⟨s.locks, rfl⟩
  unfold renewAccess
  obtain ⟨l, hl⟩ := one (p.base / 0x1000) q.facet s
  rw [hl]
  dsimp only
  split
  · exact ⟨l, rfl⟩
  · obtain ⟨l', hl'⟩ := one (portLock _) q.facet { s with locks := l }
    exact ⟨l', hl'⟩

theorem writeBlock_epochCtrl (q : Req) (v : W32) (s : State) : writeBlock q sysPage A.sysEpochCtrl v s = epochCtrlWritten q.facet v s := by
  unfold writeBlock
  rw [regRow_epochCtrl]
  rfl

/-- A write of SYS_EPOCH_CTRL that is taken does what `epochCtrlWritten` says, beside renewing leases, and the writer has its answer. -/
theorem rowWrite_epochCtrl {f : Facet} {v : W32} {s : State} (h : s.granted f A.sysEpochCtrl v = true) :
    ∃ l, rowWrite f A.sysEpochCtrl v s
      = ran s (answer (epochCtrlWritten f v { s with locks := l }).1 [] (epochCtrlWritten f v { s with locks := l }).2) := by
  obtain ⟨hon, hdue, hmay, hlock⟩ := granted_epochCtrl h
  obtain ⟨l, hl⟩ := renewAccess_locks (s.plain f) sysPage (A.sysEpochCtrl % 0x1000) s
  have hreg : writeReg (s.plain f) A.sysEpochCtrl v s = epochCtrlWritten f v { s with locks := l } := by
    unfold writeReg
    rw [pageOf_epochCtrl, if_neg (by decide)]
    dsimp only
    rw [hmay, if_neg (by decide), if_neg (by decide), hlock, if_neg (by decide), if_neg (by decide), hl]
    exact writeBlock_epochCtrl _ _ _
  have hany : writeAny (s.plain f) A.sysEpochCtrl v s = epochCtrlWritten f v { s with locks := l } := by
    have hwin (k : Nat) : A.sysEpochCtrl ≠ A.brgWinLock k := by unfold A.brgWinLock A.sysEpochCtrl; omega
    unfold writeAny
    rw [farWindow_epochCtrl]
    dsimp only
    rw [hreg, if_neg fun h => hwin _ h.2.1]
  have hkept : (epochCtrlWritten f v { s with locks := l }).2.power.resetDue = false := (epochCtrlWritten_resetDue _ _ _).trans hdue
  refine ⟨l, ?_⟩
  unfold rowWrite
  rw [hon, only_true, hany]
  exact congrArg (ran s) (if_neg fun h => Bool.noConfusion (hkept.symm.trans h))

/-! ## A commit request, and its refusals -/

theorem epochCtrlWritten_request (a : Bool) (s : State) : epochCtrlWritten 0 (if a then 3 else 1) s = requestCommit a s := by
  cases a <;> rfl

/-- A request of F0 that finds the machinery idle enters VALIDATING, with T when it asks for a time. -/
theorem request_accepted {s : State} (a : Bool) (hg : s.granted 0 A.sysEpochCtrl (if a then 3 else 1) = true)
    (hidle : s.epoch.st = .idle) (hmax : s.highestEpoch ≠ 0xFFFFFFFF) :
    Completes (rowWrite 0 A.sysEpochCtrl (if a then 3 else 1) s) fun t =>
      t.resp = ⟨.ok, []⟩ ∧ t.epoch.st = .validating ∧ t.epoch.atTime = (if a then some s.atTime else none) ∧
        t.epoch.reqNo = s.epoch.reqNo + 1 ∧ t.staging = s.staging ∧ t.live = s.live := by
  obtain ⟨l, hw⟩ := rowWrite_epochCtrl (f := 0) hg
  have hreq := (epochCtrlWritten_request a { s with locks := l }).trans (requestCommit_idle a hidle hmax)
  rw [hw, completes_ran, Fin.val_zero, hreq]
  exact ⟨rfl, rfl, rfl, rfl, rfl, rfl⟩

theorem request_refused {s : State} (hg : s.granted 0 A.sysEpochCtrl 1 = true) (hbusy : s.epoch.st ≠ .idle) :
    Completes (rowWrite 0 A.sysEpochCtrl 1 s) fun t =>
      t.resp = ⟨.armed, []⟩ ∧ t.epoch = { s.epoch with result := 4 } ∧ t.staging = s.staging := by
  obtain ⟨l, hw⟩ := rowWrite_epochCtrl (f := 0) hg
  have hreq := (epochCtrlWritten_request false { s with locks := l }).trans (requestCommit_busy false hbusy)
  rw [hw, completes_ran, Fin.val_zero, show (1 : W32) = if false then 3 else 1 from rfl, hreq]
  obtain ⟨hepoch, -, hstaging, -⟩ :=
    refuseCommit_fields 4 { s with locks := l, loHeld := SMap.put none s.loHeld (A.sysEpochAtSecLo * 16) none }
  exact ⟨rfl, hepoch, hstaging⟩

theorem cancel_disarms {s : State} (hg : s.granted 0 A.sysEpochCtrl 4 = true) (hst : s.epoch.st = .armed ∨ s.epoch.st = .deferred) :
    Completes (rowWrite 0 A.sysEpochCtrl 4 s) fun t =>
      t.resp = ⟨.ok, []⟩ ∧ t.epoch = { s.epoch with st := .idle, result := 6 } ∧ t.staging = s.staging ∧ t.live = s.live := by
  obtain ⟨l, hw⟩ := rowWrite_epochCtrl (f := 0) hg
  have hcancel : cancelCommit { s with locks := l } = { s with locks := l, epoch := { s.epoch with st := .idle, result := 6 } } := if_pos hst
  have hctrl : epochCtrlWritten 0 4 { s with locks := l } = (.ok, cancelCommit { s with locks := l }) := rfl
  rw [hw, completes_ran, Fin.val_zero, hctrl, hcancel]
  exact ⟨rfl, rfl, rfl, rfl⟩

/-- R31: only F0 commits. -/
theorem tenant_refused {f : Facet} {v : W32} {s : State} (hf : f ≠ 0) (hg : s.granted f A.sysEpochCtrl v = true) :
    Completes (rowWrite f A.sysEpochCtrl v s) fun t =>
      t.resp = ⟨.rights, []⟩ ∧ t.epoch = { s.epoch with result := 2 } ∧ t.raised 8 = true ∧ t.live = s.live ∧ t.staging = s.staging := by
  obtain ⟨l, hw⟩ := rowWrite_epochCtrl hg
  have hctrl : epochCtrlWritten f v { s with locks := l } = (.rights, refuseCommit 2 { s with locks := l }) := if_pos (Fin.val_ne_of_ne hf)
  rw [hw, completes_ran, hctrl]
  obtain ⟨hepoch, hlive, hstaging, hraised⟩ := refuseCommit_fields 2 { s with locks := l }
  exact ⟨rfl, hepoch, hraised, hlive, hstaging⟩

theorem exec_registerWrite_epochCtrl (f : Facet) (v : W32) (s : State) :
    exec (.registerWrite f (w32 A.sysEpochCtrl) v) s = rowWrite f A.sysEpochCtrl v s := by
  have haddr : (w32 A.sysEpochCtrl).toNat = A.sysEpochCtrl := by decide
  show execRegisterWrite f (w32 A.sysEpochCtrl) v s = _
  unfold execRegisterWrite
  rw [haddr, farWindow_epochCtrl]
  rfl

/-! ## Validation (R34–R37) -/

theorem validation_conflict {s : State} {c : Conflict} (hmp : s.mpOn = true) (hmay : s.mayValidate = true) (hc : s.conflict = some c) :
    Completes (execValidation s) fun t =>
      t.epoch = { s.epoch with st := .idle, atTime := none, result := 1 } ∧ t.reg A.sysEpochConflict = w32 c.addr ∧
        t.reg A.sysEpochConflictIndex = w32 c.word ∧ t.highestEpoch = s.highestEpoch ∧ t.staging = s.staging ∧ t.live = s.live := by
  unfold execValidation
  rw [hmp, hmay, Bool.and_true, only_true, hc, completes_ran]
  have hcalm := refuseCommit_calm 1 { setRegN A.sysEpochConflictIndex c.word (setRegN A.sysEpochConflict c.addr s) with
    epoch := { s.epoch with st := .idle, atTime := none } }
  obtain ⟨hlive, hstaging, -, hepoch, -⟩ := still_fields hcalm.still
  have hshown (a : Nat) (ha : steady a) := (hcalm.regs a ha).trans
    (State.reg_setRegN (setRegN A.sysEpochConflict c.addr s) A.sysEpochConflictIndex a c.word)
  refine ⟨hepoch, (hshown _ ?_).trans ?_, (hshown _ ?_).trans ?_, hcalm.highestEpoch, hstaging, hlive⟩
  · unfold steady; decide
  · exact (if_neg (by decide)).trans (State.reg_setReg_self s _ _)
  · unfold steady; decide
  · exact if_pos rfl

theorem warnRecord_calm (w : Conflict × Conflict) (s : State) : Calm s (warnRecord w s) := by
  unfold warnRecord
  exact (takeSeq_calm _ _ _).trans (stage_calm _ _)

/-- A copy without conflicts whose number is logged and whose warnings are out, before T is judged. -/
structure Logged (s u : State) : Prop where
  epoch : ∃ w, u.epoch = { s.epoch with warn := w }
  staging : u.staging = s.staging
  live : u.live = s.live
  locus : u.locus = s.locus
  highest : u.highestEpoch = s.nextEpoch

/-- `validated` up to the judgement of T: the number is logged, and the warnings come (R35, R37, R599). -/
def announced (s : State) : State :=
  let l := logEpoch s.nextEpoch s
  let w := l.staging.warnings
  let u := w.foldl (fun s w => warnRecord w s) { l with epoch := { l.epoch with warn := decide (w ≠ []) } }
  if w = [] then u else raise 9 u

theorem announced_logged (s : State) : Logged s (announced s) := by
  unfold announced
  extract_lets l w e u
  have hu : Calm { l with epoch := { l.epoch with warn := decide (w ≠ []) } } (if w = [] then u else raise 9 u) := by
    have hwarned := foldl_calm (fun s w => warnRecord w s) (fun s w => warnRecord_calm w s) w
      { l with epoch := { l.epoch with warn := decide (w ≠ []) } }
    exact ite_calm hwarned (hwarned.trans (raise_calm 9 _))
  obtain ⟨hlive, hstaging, -, hepoch, hlocus, -⟩ := still_fields hu.still
  exact ⟨⟨_, hepoch⟩, hstaging, hlive, hlocus, hu.highestEpoch.trans (highestEpoch_logEpoch_next s)⟩

/-- The judgement of T that ends `validated` (R37): at once, PAST, or ARMED. -/
def judged (u : State) : State :=
  match u.epoch.atTime with
  | none => dueNow { u with epoch := { u.epoch with due := u.locus } }
  | some t =>
    if t * 65536 < u.locus + 100000 * 65536 then refuseCommit 3 { u with epoch := { u.epoch with st := .idle, atTime := none } }
    else { u with epoch := { u.epoch with st := .armed, due := t * 65536 } }

theorem validated_eq (s : State) : validated s = judged (announced s) := rfl

theorem judged_past {u : State} {due : Nat} (h : u.epoch.atTime = some due) (hpast : due * 65536 < u.locus + 100000 * 65536) :
    judged u = refuseCommit 3 { u with epoch := { u.epoch with st := .idle, atTime := none } } := by
  unfold judged
  rw [h]
  exact if_pos hpast

theorem judged_armed {u : State} {due : Nat} (h : u.epoch.atTime = some due) (hahead : u.locus + 100000 * 65536 ≤ due * 65536) :
    judged u = { u with epoch := { u.epoch with st := .armed, due := due * 65536 } } := by
  unfold judged
  rw [h]
  exact if_neg (Nat.not_lt.2 hahead)

theorem judged_deferred {u : State} (h : u.epoch.atTime = none) (hd : u.epoch.draining.isSome = true) :
    judged u = { u with epoch := { u.epoch with due := u.locus, st := .deferred } } := by
  unfold judged
  rw [h]
  exact if_pos hd

theorem judged_effect {u : State} (h : u.epoch.atTime = none) (hd : u.epoch.draining.isSome = false) :
    judged u = takeEffect u.locus { u with epoch := { u.epoch with due := u.locus } } := by
  unfold judged
  rw [h]
  exact if_neg (by rw [hd]; decide)

theorem execValidation_clean {s : State} (hmp : s.mpOn = true) (hmay : s.mayValidate = true) (hnone : s.conflict = none) :
    ∃ u, Logged s u ∧ execValidation s = ran s (judged u) := by
  refine ⟨announced s, announced_logged s, ?_⟩
  unfold execValidation
  rw [hmp, hmay, Bool.and_true, only_true, hnone]
  rfl

/-- R37: an at-time request that leaves at least 100 µs is ARMED for its instant, and one that does not ends with PAST. -/
theorem validation_atTime {s : State} {due : Nat} (hmp : s.mpOn = true) (hmay : s.mayValidate = true) (hnone : s.conflict = none)
    (hat : s.epoch.atTime = some due) :
    Completes (execValidation s) fun t =>
      t.staging = s.staging ∧ t.live = s.live ∧ t.epoch.live = s.epoch.live ∧ (s.highestEpoch ≠ 0xFFFFFFFF → t.highestEpoch = s.nextEpoch) ∧
        (s.locus + 100000 * 65536 ≤ due * 65536 → t.epoch.st = .armed ∧ t.epoch.due = due * 65536) ∧
        (due * 65536 < s.locus + 100000 * 65536 → t.epoch.st = .idle ∧ t.epoch.atTime = none ∧ t.epoch.result = 3) := by
  obtain ⟨u, ⟨⟨w, hepoch⟩, hstaging, hlive, hlocus, hhighest⟩, hval⟩ := execValidation_clean hmp hmay hnone
  have hatu : u.epoch.atTime = some due := by rw [hepoch]; exact hat
  have hlu : u.epoch.live = s.epoch.live := by rw [hepoch]
  rw [hval, completes_ran]
  rcases Nat.lt_or_ge (due * 65536) (s.locus + 100000 * 65536) with hpast | hahead
  · rw [judged_past hatu (by rw [hlocus]; exact hpast)]
    have hcalm := refuseCommit_calm 3 { u with epoch := { u.epoch with st := .idle, atTime := none } }
    obtain ⟨hlive', hstaging', -, hepoch', -⟩ := still_fields hcalm.still
    refine ⟨hstaging'.trans hstaging, hlive'.trans hlive, (congrArg EpochSt.live hepoch').trans hlu,
      fun _ => hcalm.highestEpoch.trans hhighest, fun h => absurd h (Nat.not_le.2 hpast), fun _ => ?_⟩
    exact ⟨congrArg EpochSt.st hepoch', congrArg EpochSt.atTime hepoch', congrArg EpochSt.result hepoch'⟩
  · rw [judged_armed hatu (by rw [hlocus]; exact hahead)]
    exact ⟨hstaging, hlive, hlu, fun _ => hhighest, fun _ => ⟨rfl, rfl⟩, fun h => absurd hahead (Nat.not_le.2 h)⟩

/-- R36, R42: a request at once takes effect under the number logged, or waits for the epoch that drains. -/
theorem validation_now {s : State} (hmp : s.mpOn = true) (hmay : s.mayValidate = true) (hnone : s.conflict = none)
    (hat : s.epoch.atTime = none) :
    Completes (execValidation s) fun t =>
      if s.epoch.draining.isSome then t.epoch.st = .deferred ∧ t.epoch.live = s.epoch.live ∧ t.staging = s.staging ∧ t.live = s.live
      else t.epoch.st = .idle ∧ t.epoch.live = s.nextEpoch ∧ t.epoch.draining = some s.epoch.live ∧ t.live.regs = s.staging.regs ∧
        t.drain = s.live := by
  obtain ⟨u, ⟨⟨w, hepoch⟩, hstaging, hlive, -, hhighest⟩, hval⟩ := execValidation_clean hmp hmay hnone
  have hatu : u.epoch.atTime = none := by rw [hepoch]; exact hat
  have hlu : u.epoch.live = s.epoch.live := by rw [hepoch]
  have hdu : u.epoch.draining = s.epoch.draining := by rw [hepoch]
  rw [hval, completes_ran]
  split
  · next hd =>
    rw [judged_deferred hatu (by rw [hdu]; exact hd)]
    exact ⟨rfl, hlu, hstaging, hlive⟩
  · next hd =>
    rw [judged_effect hatu (by rw [hdu]; exact Bool.not_eq_true _ ▸ hd)]
    obtain ⟨hregs, hdrain, heff⟩ := takeEffect_fields u.locus { u with epoch := { u.epoch with due := u.locus } }
    generalize takeEffect u.locus { u with epoch := { u.epoch with due := u.locus } } = t at hregs hdrain heff ⊢
    exact ⟨congrArg EpochSt.st heff, (congrArg EpochSt.live heff).trans hhighest,
      (congrArg EpochSt.draining heff).trans (congrArg some hlu), hregs.trans (congrArg Bank.regs hstaging), hdrain.trans hlive⟩

/-- Settles O14: requests and refusals by what a taken write of SYS_EPOCH_CTRL does, validation by what it does up to the judgement of T, and
a commit that takes effect by `takeEffect_fields`. -/
theorem commitsAreRequestedAndJudged : Obligations.CommitsAreRequestedAndJudged := by
  unfold Obligations.CommitsAreRequestedAndJudged
  refine ⟨⟨?_, ?_, ?_, ?_⟩, ?_, ?_, ?_, ?_⟩
  · exact fun s hg hidle hmax => request_accepted false hg hidle hmax
  · exact fun s hg hidle hmax => request_accepted true hg hidle hmax
  · exact fun s hg hst => cancel_disarms hg hst
  · exact fun s hg hbusy => request_refused hg hbusy
  · intro f v s hf hg
    rw [exec_registerWrite_epochCtrl]
    exact tenant_refused hf hg
  · exact fun s c hmp hmay hc => validation_conflict hmp hmay hc
  · exact fun s due hmp hmay hnone hat => validation_atTime hmp hmay hnone hat
  · exact fun s hmp hmay hnone hat => validation_now hmp hmay hnone hat

end Sys2Proof.Machine
end

section
/-! PROOF. Care of the forwarding tables (R196–R205, R217–R220): what a flush leaves of a vertex's entries, what learning, ageing, the shadow
compare and a repair make of the banks, and what a taken write of a block register does. -/

namespace Sys2Proof.Machine

/-- A command whose last effects are calm ends in some state that is calm after `u`; which one does not matter. -/
theorem completes_calm {s u t : State} {P : State → Prop} (h : Calm u t)
    (hP : ∀ w, Calm u w → P { w with pending := s.pending, now := s.now }) : Completes (ran s t) P :=
  ⟨_, rfl, hP t h⟩

theorem still_shadow {s t : State} (h : t.still = s.still) : t.shadow = s.shadow := (congrArg State.shadow h : t.still.shadow = s.still.shadow)

theorem still_ageAt {s t : State} (h : t.still = s.still) : t.ageAt = s.ageAt := (congrArg State.ageAt h : t.still.ageAt = s.still.ageAt)

theorem both_live (f : Bank → Bank) (s : State) : (both f s).live = f s.live := rfl

/-! ## A flush of a vertex (R205)

`flushVertex` removes the entries one key at a time. The keys are those of all dynamic entries with the DEST, of either bank, so that none is left
in either. -/

/-- No dynamic entry of the bank has this DEST. -/
def Bank.noDest (b : Bank) (v : Nat) : Prop := ∀ h e, (h, some e) ∈ b.hash → e.dyn = true → resDest e.res ≠ v

theorem mem_destKeys {b : Bank} {h : Nat} {e : HashEntry} (hm : (h, some e) ∈ b.hash) (hd : e.dyn = true) : e.key ∈ b.destKeys (resDest e.res) :=
  List.mem_filterMap.2 ⟨_, hm, if_pos (by simpa using hd)⟩

theorem mem_flushKeys {s : State} {v : Nat} {k : BitVec 320} : k ∈ s.flushKeys v ↔ k ∈ s.live.destKeys v ∨ k ∈ s.staging.destKeys v := by
  by_cases hk : k ∈ s.live.destKeys v <;> simp [State.flushKeys, hk]

theorem mem_dropDest {b : Bank} {v h : Nat} {k : BitVec 320} {e : HashEntry} :
    (h, some e) ∈ (b.dropDest v k).hash ↔ (h, some e) ∈ b.hash ∧ ¬ (e.key = k ∧ e.dyn = true ∧ resDest e.res = v) := by
  simp only [Bank.dropDest, List.mem_filter, Option.any_some, Bool.not_eq_true', Bool.and_eq_false_iff, decide_eq_false_iff_not,
    Decidable.not_and_iff_not_or_not, Bool.not_eq_true, or_assoc]

/-- An entry that is left after keys are dropped was there, and is no dynamic one of the DEST with one of the keys. -/
theorem mem_dropDests {v h : Nat} {e : HashEntry} : ∀ {l : List (BitVec 320)} {b : Bank},
    (h, some e) ∈ (l.foldl (fun b k => b.dropDest v k) b).hash →
      (h, some e) ∈ b.hash ∧ (e.dyn = true → resDest e.res = v → e.key ∉ l)
  | [], _, hm => ⟨hm, fun _ _ => List.not_mem_nil⟩
  | k :: l, b, hm => by
    obtain ⟨hk, hl⟩ := mem_dropDests (l := l) (b := b.dropDest v k) hm
    obtain ⟨hb, hne⟩ := mem_dropDest.1 hk
    refine ⟨hb, fun hd hv => ?_⟩
    rw [List.mem_cons, not_or]
    exact ⟨fun he => hne ⟨he, hd, hv⟩, hl hd hv⟩

theorem foldl_both_banks {α : Type} (f : α → Bank → Bank) : ∀ (l : List α) (s : State),
    (l.foldl (fun s a => both (f a) s) s).live = l.foldl (fun b a => f a b) s.live ∧
      (l.foldl (fun s a => both (f a) s) s).staging = l.foldl (fun b a => f a b) s.staging
  | [], _ => ⟨rfl, rfl⟩
  | a :: l, s => foldl_both_banks f l (both (f a) s)

/-- A flush is one run through its keys, in both banks. -/
theorem flushVertex_banks (v : Nat) (s : State) :
    (flushVertex v s).live = (s.flushKeys v).foldl (fun b k => b.dropDest v k) s.live ∧
      (flushVertex v s).staging = (s.flushKeys v).foldl (fun b k => b.dropDest v k) s.staging := by
  unfold flushVertex flushFirst State.flushCount
  rw [List.take_length]
  exact foldl_both_banks (fun k b => b.dropDest v k) _ s

theorem noDest_dropDests {v : Nat} {l : List (BitVec 320)} {b : Bank} (hl : ∀ k ∈ b.destKeys v, k ∈ l) :
    (l.foldl (fun b k => b.dropDest v k) b).noDest v := by
  rintro h e hm hd rfl
  obtain ⟨hb, hkept⟩ := mem_dropDests hm
  exact hkept hd rfl (hl _ (mem_destKeys hb hd))

/-- R205: a flush leaves no dynamic entry with its DEST. -/
theorem flushVertex_noDest (v : Nat) (s : State) : (flushVertex v s).live.noDest v ∧ (flushVertex v s).staging.noDest v := by
  obtain ⟨hlive, hstaging⟩ := flushVertex_banks v s
  rw [hlive, hstaging]
  exact ⟨noDest_dropDests fun _ hk => mem_flushKeys.2 (.inl hk), noDest_dropDests fun _ hk => mem_flushKeys.2 (.inr hk)⟩

/-! ## A link that is lost (R205) -/

/-- Whether the loss of a vertex's link flushes its entries: its bit of TBL_FLUSH_DOWN. -/
def State.flushesDown (s : State) (v : Nat) : Prop := pair (s.cfg A.tblFlushDownLo) (s.cfg A.tblFlushDownHi) / 2 ^ v % 2 = 1

theorem flushesDown_of_inForce {s t : State} (h : t.inForce = s.inForce) (v : Nat) : t.flushesDown v ↔ s.flushesDown v := by
  have hregs : t.live.regs = s.live.regs := congrArg Prod.fst h
  simp only [State.flushesDown, State.cfg, hregs]

/-- The loss of an UP link ends in a flush, or not, by the settings as they are then. -/
theorem linkLost_up {v : Nat} (medium : Bool) {s : State} (hup : (s.ethSt v).linkUp = true) :
    ∃ u : State, linkLost v medium s
      = if pair (u.cfg A.tblFlushDownLo) (u.cfg A.tblFlushDownHi) / 2 ^ v % 2 = 1 then flushVertex v u else u := by
  unfold linkLost
  extract_lets e waits s1 s2 out s3 eth s4 s5 s6
  exact ⟨s6, if_neg (by simp [e, hup])⟩

/-- The loss of an UP link whose vertex has its bit set ends in a flush: it changes no settings (`linkLost_inForce`), so the bit is still set. -/
theorem linkLost_ends_in_flush {v : Nat} (medium : Bool) {s : State} (hup : (s.ethSt v).linkUp = true) (hbit : s.flushesDown v) :
    ∃ u, linkLost v medium s = flushVertex v u := by
  have hkept := (flushesDown_of_inForce (linkLost_inForce v medium s) v).2 hbit
  obtain ⟨u, hu⟩ := linkLost_up medium hup
  by_cases hlast : u.flushesDown v
  · exact ⟨u, hu.trans (if_pos hlast)⟩
  · rw [hu.trans (if_neg hlast)] at hkept
    exact absurd hkept hlast

theorem linkLost_noDest {v : Nat} (medium : Bool) {s : State} (hup : (s.ethSt v).linkUp = true) (hbit : s.flushesDown v) :
    (linkLost v medium s).live.noDest v ∧ (linkLost v medium s).staging.noDest v := by
  obtain ⟨u, hu⟩ := linkLost_ends_in_flush medium hup hbit
  rw [hu]
  exact flushVertex_noDest v u

theorem linkDown_noDest {v : EthV} {s : State} (hon : s.on = true) (hup : (s.ethSt v).linkUp = true) (hbit : s.flushesDown v) :
    Completes (execLinkDown v s) fun t => t.live.noDest v ∧ t.staging.noDest v := by
  unfold execLinkDown
  rw [hon, hup, Bool.and_true, only_true, completes_ran]
  dsimp only
  split <;> exact linkLost_noDest true hup hbit

/-! ## Learning (R197) -/

theorem learn_unknown {r : LearnReq} {s : State} {b : Bank} (hnone : s.live.hashFind (bridgeKey r.fid (slice r.item.data 6 6)) = none)
    (hcap : s.learnUse (s.bound r.item.vertex) < fld (s.cfg (A.tblLearnCap (s.bound r.item.vertex))) 0 18)
    (hplace : s.live.placeDyn ⟨bridgeKey r.fid (slice r.item.data 6 6), BitVec.ofNat 64 (r.item.vertex % 128 * 2 ^ 47 + 2 ^ 10), 255⟩ = some b) :
    ∃ c, learn r s = { s with live := b, staging := c } := by
  unfold learn
  dsimp only
  rw [hnone]
  dsimp only
  rw [if_neg (by simpa using hcap), hplace]
  exact ⟨_, rfl⟩

theorem execLearn_cons {r : LearnReq} {l : List LearnReq} {s : State} (hon : s.coreOn = true) (hq : s.learnQ = r :: l) :
    execLearn s = ran s (learn r { s with learnQ := l }) := by
  unfold execLearn
  rw [hon, only_true, hq]

/-! ## Ageing (R203) -/

/-- The dynamic entries of a bank, in the order of their handles. -/
def Bank.dyns (b : Bank) : List HashEntry :=
  b.hash.filterMap (fun p => match p.2 with
    | some e => if e.dyn then some e else none
    | none => none)

/-- The ageing of one dynamic entry: it goes without HIT, and loses HIT otherwise. -/
def ageEntry (s : State) (e : HashEntry) : State :=
  if resHit e.res then both (fun b => b.setDyn e.key (fun x => { x with res := resSet x.res 10 1 0 })) s
  else both (fun b => b.dropDyn e.key) s

theorem execAgeingScan_due {s : State} (hon : s.coreOn = true) (hdue : s.ageDue = true) :
    execAgeingScan s = ran s (raise 126 (s.live.dyns.foldl ageEntry { s with ageAt := s.now })) := by
  unfold execAgeingScan
  rw [hon, hdue, Bool.and_true, only_true]
  rfl

theorem dyns_eq_nil {b : Bank} (h : ∀ p ∈ b.hash, ∀ e, p.2 = some e → e.dyn = false) : b.dyns = [] := by
  refine List.filterMap_eq_nil_iff.2 fun p hp => ?_
  obtain ⟨i, _ | e⟩ := p
  · rfl
  · exact if_neg (by rw [h _ hp e rfl]; decide)

theorem ageing_without_dyns {s : State} (hon : s.coreOn = true) (hdue : s.ageDue = true)
    (hnone : ∀ p ∈ s.live.hash, ∀ e, p.2 = some e → e.dyn = false) :
    Completes (execAgeingScan s) fun t => t.live = s.live ∧ t.staging = s.staging := by
  rw [execAgeingScan_due hon hdue, dyns_eq_nil hnone, List.foldl_nil]
  refine completes_calm (raise_calm 126 _) fun t hcalm => ?_
  obtain ⟨hlive, hstaging, -⟩ := still_fields hcalm.still
  exact ⟨hlive, hstaging⟩

theorem dropDyn_single {b : Bank} {h : Nat} {e : HashEntry} (hb : b.hash = [(h, some e)]) (hd : e.dyn = true)
    (hf : b.hashFind e.key = some (h, e)) : (b.dropDyn e.key).hash = [] := by
  have hdrop : b.dropDyn e.key = b.setHash h none := by
    unfold Bank.dropDyn
    rw [hf]
    exact if_pos hd
  rw [hdrop]
  simp [Bank.setHash, SMap.put, SMap.erase, hb]

theorem ageing_removes_unhit {h : Nat} {e : HashEntry} {s : State} (hon : s.coreOn = true) (hdue : s.ageDue = true)
    (hb : s.live.hash = [(h, some e)]) (hd : e.dyn = true) (hhit : resHit e.res = false) (hf : s.live.hashFind e.key = some (h, e)) :
    Completes (execAgeingScan s) fun t => t.live.hash = [] ∧ t.ageAt = s.now := by
  have hdyns : s.live.dyns = [e] := by simp [Bank.dyns, hb, hd]
  have hage (u : State) : ageEntry u e = both (fun b => b.dropDyn e.key) u := if_neg (by rw [hhit]; decide)
  rw [execAgeingScan_due hon hdue, hdyns, List.foldl_cons, List.foldl_nil, hage]
  refine completes_calm (raise_calm 126 _) fun t hcalm => ?_
  obtain ⟨hlive, -⟩ := still_fields hcalm.still
  rw [both_live] at hlive
  exact ⟨(congrArg Bank.hash hlive).trans (dropDyn_single hb hd hf), still_ageAt hcalm.still⟩

/-! ## The shadow (R217–R219) -/

/-- A count that is reported by a fault record and an event. -/
theorem counted_calm (src : Nat) (p : PageRef) (d i a : Nat) (s : State) : Calm (bump a s) (raise src (fault p d i (bump a s))) :=
  (fault_calm p d i _).trans (raise_calm src _)

/-- The counter of the repairs of a store. -/
def repairCounter : StoreKind → Nat
  | .chord | .tangent => A.brgRepairs
  | .cam | .hash | .vlan => A.tblRepairs

theorem tellRepair_calm (k : StoreKind) (i : Nat) (s : State) : Calm (bump (repairCounter k) s) (tellRepair k i s) := by
  cases k <;> exact counted_calm _ _ _ _ _ s

theorem steady_repairCounter (k : StoreKind) : steady (repairCounter k) := by
  cases k <;> (unfold steady; decide)

theorem steady_tblShadowLost : steady A.tblShadowLost := by unfold steady; decide

theorem steady_tblDynDrop : steady A.tblDynDrop := by unfold steady; decide

/-- A counter is one more after it is bumped in a state with the registers of `s`, and after what is calm. -/
theorem Calm.reg_bumped {a : Nat} {s u t : State} (h : Calm (bump a u) t) (hu : u.regs = s.regs) (ha : steady a) :
    t.reg a = sat32 ((s.reg a).toNat + 1) := by
  rw [h.regs a ha, State.reg_bump, if_pos rfl, State.reg, hu, State.reg]

theorem Calm.reg_other {a b : Nat} {s u t : State} (h : Calm (bump a u) t) (hu : u.regs = s.regs) (hb : steady b) (hne : b ≠ a) :
    t.reg b = s.reg b := by
  rw [h.regs b hb, State.reg_bump, if_neg hne, State.reg, hu, State.reg]

/-- The compare's own progress leaves the banks and every register but the count of passes. -/
theorem comparing_keeps (k : StoreKind) (i : Nat) (s : State) :
    (comparing k i s).live = s.live ∧ (comparing k i s).shadow = s.shadow ∧ (comparing k i s).staging = s.staging ∧
      ∀ a, a ≠ A.tblComparePasses → (comparing k i s).reg a = s.reg a := by
  cases k with
  | hash =>
    unfold comparing
    dsimp only
    split
    · exact ⟨rfl, rfl, rfl, fun a ha => (State.reg_bump { s with tblCompare := false } _ a).trans (if_neg ha)⟩
    · exact ⟨rfl, rfl, rfl, fun _ _ => rfl⟩
  | cam => exact ⟨rfl, rfl, rfl, fun _ _ => rfl⟩
  | vlan => exact ⟨rfl, rfl, rfl, fun _ _ => rfl⟩
  | chord => exact ⟨rfl, rfl, rfl, fun _ _ => rfl⟩
  | tangent => exact ⟨rfl, rfl, rfl, fun _ _ => rfl⟩

/-- What the compare does with what it found of an entry that both banks keep. -/
def compared (k : StoreKind) (i : Nat) : CompareFinding → State → State
  | .same, s => s
  | .differs, s => repaired false k i s
  | .shadowLost, s => invalidated false k i s

theorem execShadowCompare_shadowed {k : StoreKind} {i : Nat} {s : State} (found : CompareFinding) (hon : s.coreOn = true)
    (hlive : s.live.shadowed k i = true) (hshadow : s.shadow.shadowed k i = true) :
    execShadowCompare k i found s = ran s (compared k i found (comparing k i s)) := by
  obtain ⟨hl, hs, -⟩ := comparing_keeps k i s
  unfold execShadowCompare
  rw [hon, only_true]
  dsimp only
  rw [hl, hs, hlive, hshadow, if_neg (by decide)]
  cases found <;> rfl

theorem camAt_setCam (b : Bank) (i : Nat) (e : Option CamEntry) : (b.setCam i e).camAt i = e := SMap.get_put_self _ _ _ _

/-- A state without a live CAM entry, its shadow word and the staged copy that copy-forward made of it. -/
def State.withoutCam (i : Nat) (s : State) : State :=
  { s with live := s.live.cleared .cam i, shadow := s.shadow.cleared .cam i,
           staging := if s.staging.sameEntry s.live .cam i then s.staging.cleared .cam i else s.staging }

theorem invalidated_cam_calm (i : Nat) (s : State) : Calm (bump A.tblShadowLost (s.withoutCam i)) (invalidated false .cam i s) :=
  counted_calm 117 tblPage 0x10A i A.tblShadowLost (s.withoutCam i)

theorem invalidated_live_cam (i : Nat) (s : State) :
    (invalidated false .cam i s).live.camAt i = none ∧ (invalidated false .cam i s).shadow.camAt i = none ∧
      (s.staging.sameEntry s.live .cam i = true → (invalidated false .cam i s).staging.camAt i = none) ∧
      (invalidated false .cam i s).reg A.tblShadowLost = sat32 ((s.reg A.tblShadowLost).toNat + 1) := by
  have hcalm := invalidated_cam_calm i s
  generalize invalidated false .cam i s = t at hcalm ⊢
  obtain ⟨hlive, hstaging, -⟩ := still_fields hcalm.still
  rw [hlive, hstaging, still_shadow hcalm.still]
  have hcount := hcalm.reg_bumped (s := s) rfl steady_tblShadowLost
  refine ⟨camAt_setCam _ _ _, camAt_setCam _ _ _, fun hsame => ?_, hcount⟩
  exact (congrArg (Bank.camAt · i) (if_pos hsame)).trans (camAt_setCam _ _ _)

theorem compare_invalidates_lost {i : Nat} {s : State} (hon : s.coreOn = true) (hlive : s.live.shadowed .cam i = true)
    (hshadow : s.shadow.shadowed .cam i = true) :
    Completes (execShadowCompare .cam i .shadowLost s) fun t =>
      t.live.camAt i = none ∧ t.shadow.camAt i = none ∧ (s.staging.sameEntry s.live .cam i = true → t.staging.camAt i = none) ∧
        t.reg A.tblShadowLost = sat32 ((s.reg A.tblShadowLost).toNat + 1) := by
  obtain ⟨hl, -, hst, hregs⟩ := comparing_keeps .cam i s
  obtain ⟨hcleared, hforgotten, hunstaged, hcount⟩ := invalidated_live_cam i (comparing .cam i s)
  rw [hl, hst] at hunstaged
  rw [hregs _ (by decide)] at hcount
  rw [execShadowCompare_shadowed _ hon hlive hshadow, compared, completes_ran]
  generalize invalidated false .cam i (comparing .cam i s) = t at hcleared hforgotten hunstaged hcount ⊢
  exact ⟨hcleared, hforgotten, hunstaged, hcount⟩

/-- A repair of the live bank. -/
theorem repaired_live (k : StoreKind) (i : Nat) (s : State) :
    (repaired false k i s).live = s.live.restored s.shadow k i ∧ (repaired false k i s).staging = s.staging ∧
      (repaired false k i s).reg (repairCounter k) = sat32 ((s.reg (repairCounter k)).toNat + 1) := by
  unfold repaired
  rw [if_neg Bool.false_ne_true]
  have hcalm := tellRepair_calm k i { s with live := s.live.restored s.shadow k i }
  obtain ⟨hlive, hstaging, -⟩ := still_fields hcalm.still
  have hcount := hcalm.reg_bumped (s := s) rfl (steady_repairCounter k)
  exact ⟨hlive, hstaging, hcount⟩

theorem compare_rewrites_differing {k : StoreKind} {i : Nat} {s : State} (hon : s.coreOn = true) (hlive : s.live.shadowed k i = true)
    (hshadow : s.shadow.shadowed k i = true) :
    Completes (execShadowCompare k i .differs s) fun t =>
      t.live = s.live.restored s.shadow k i ∧ t.staging = s.staging ∧
        (k = .cam → t.live.camAt i = s.shadow.camAt i ∧ t.reg A.tblRepairs = sat32 ((s.reg A.tblRepairs).toNat + 1)) := by
  obtain ⟨hl, hs, hst, hregs⟩ := comparing_keeps k i s
  obtain ⟨hrewritten, hstaging, hcount⟩ := repaired_live k i (comparing k i s)
  rw [hl, hs] at hrewritten
  rw [hst] at hstaging
  rw [execShadowCompare_shadowed _ hon hlive hshadow, compared, completes_ran]
  generalize repaired false k i (comparing k i s) = t at hrewritten hstaging hcount ⊢
  refine ⟨hrewritten, hstaging, ?_⟩
  rintro rfl
  rw [repairCounter, hregs _ (by decide)] at hcount
  exact ⟨(congrArg (Bank.camAt · i) hrewritten).trans (camAt_setCam _ _ _), hcount⟩

/-! ## Repairs by a lookup (R218, R220) -/

theorem steady_sysSvcDelay (f : Facet) : steady (A.sysSvcDelay f) := by
  have := f.isLt
  unfold steady A.sysSvcDelay A.jrnStageDrop A.jrnCoalesced A.updFlogSkipped
  omega

theorem sysSvcDelay_ne_repairCounter (f : Facet) (k : StoreKind) : A.sysSvcDelay f ≠ repairCounter k := by
  have := f.isLt
  cases k <;> (simp only [A.sysSvcDelay, repairCounter, A.brgRepairs, A.tblRepairs]; omega)

theorem repair_of_draining {k : StoreKind} {i : Nat} {f : Facet} {s : State} (hon : s.coreOn = true) (hdraining : s.epoch.draining.isSome = true)
    (hdrain : s.drain.shadowed k i = true) (himage : s.drainShadow.shadowed k i = true) :
    Completes (execEntryRepair k i f ⟨true, false⟩ s) fun t =>
      t.drain = s.drain.restored s.drainShadow k i ∧ t.live = s.live ∧
        t.reg (A.sysSvcDelay f) = sat32 ((s.reg (A.sysSvcDelay f)).toNat + 1) := by
  have hrun : execEntryRepair k i f ⟨true, false⟩ s = ran s (repaired true k i (svcDelay f 1 s)) := by
    unfold execEntryRepair
    rw [hon, hdraining, Bool.or_true, Bool.and_true, only_true]
    dsimp only
    rw [if_pos rfl, if_pos rfl, hdrain, himage]
    rfl
  rw [hrun]
  refine completes_calm (tellRepair_calm k i { svcDelay f 1 s with drain := s.drain.restored s.drainShadow k i }) fun t hcalm => ?_
  obtain ⟨hlive, -, hdrain, -⟩ := still_fields hcalm.still
  have hdelay := hcalm.reg_other (s := svcDelay f 1 s) rfl (steady_sysSvcDelay f) (sysSvcDelay_ne_repairCounter f k)
  exact ⟨hdrain, hlive, hdelay.trans ((State.reg_addSat s _ _ 1).trans (if_pos rfl))⟩

theorem repair_removes_dynamic {i : Nat} {f : Facet} {e : HashEntry} {s : State} (hon : s.coreOn = true) (hat : s.live.hashAt i = some e)
    (hd : e.dyn = true) :
    Completes (execEntryRepair .hash i f ⟨false, false⟩ s) fun t =>
      t.live = s.live.dropDyn e.key ∧ t.reg A.tblDynDrop = sat32 ((s.reg A.tblDynDrop).toNat + 1) := by
  have hunkept : s.live.shadowed .hash i = false := by simp [Bank.shadowed, hat, hd]
  have hrun : execEntryRepair .hash i f ⟨false, false⟩ s = ran s (dynLost false i e.key s) := by
    unfold execEntryRepair
    rw [hon, Bool.not_false, Bool.true_or, Bool.and_true, only_true]
    dsimp only
    rw [if_neg Bool.false_ne_true, if_neg Bool.false_ne_true, hunkept, Bool.false_and, if_neg Bool.false_ne_true, hat]
    exact congrArg (ran s) (if_pos hd)
  rw [hrun]
  refine completes_calm (counted_calm 118 tblPage 0x102 i A.tblDynDrop (both (fun b => b.dropDyn e.key) s)) fun t hcalm => ?_
  obtain ⟨hlive, -⟩ := still_fields hcalm.still
  have hcount := hcalm.reg_bumped (s := s) rfl steady_tblDynDrop
  exact ⟨hlive, hcount⟩

/-! ## A write of a block register that is taken -/

/-- A taken write of a block register near by does what `writeBlock` says, beside renewing leases, and the writer has its answer. -/
theorem rowWrite_block {f : Facet} {addr : Nat} {v : W32} {p : PageRef} {s : State} (hg : s.granted f addr v = true) (hp : pageOf addr = some p)
    (halign : addr % 4 = 0) (hblock : 0x40 ≤ addr % 0x1000) (hkind : p.kind ≠ .aperture) (hnear : farWindow addr = none)
    (hlock : ∀ k, addr ≠ A.brgWinLock k) :
    ∃ l, rowWrite f addr v s
      = ran s (resetIfDue (answer (writeBlock (s.plain f) p addr v { s with locks := l }).1 []
          (writeBlock (s.plain f) p addr v { s with locks := l }).2)) := by
  unfold State.granted at hg
  rw [hp] at hg
  simp only [Bool.and_eq_true, Bool.not_eq_true'] at hg
  obtain ⟨⟨hon, -⟩, hmay, hfree⟩ := hg
  obtain ⟨l, hl⟩ := renewAccess_locks (s.plain f) p (addr % 0x1000) s
  have hreg : writeReg (s.plain f) addr v s = writeBlock (s.plain f) p addr v { s with locks := l } := by
    unfold writeReg
    rw [hp, if_neg (by omega)]
    dsimp only
    rw [hmay, if_neg (by decide), if_neg hkind, hfree, if_neg (by decide), if_neg (by omega), hl]
  have hany : writeAny (s.plain f) addr v s = writeBlock (s.plain f) p addr v { s with locks := l } := by
    unfold writeAny
    rw [hnear]
    dsimp only
    rw [hreg, if_neg fun h => hlock _ h.2.1]
  refine ⟨l, ?_⟩
  unfold rowWrite
  rw [hon, only_true, hany]

/-! ## SF_UNBLOCK (R196) -/

theorem writeBlock_sfUnblock (q : Req) (v : W32) (s : State) : writeBlock q tblPage A.tblSfUnblock v s = (.ok, sfUnblock v s) := by
  have hrow : regRow A.tblSfUnblock = some ⟨0x81C, 1, 0, 1, 0, .wo, 0, 1, .none⟩ := by decide
  unfold writeBlock
  rw [hrow]
  rfl

theorem rowWrite_sfUnblock {f : Facet} {v : W32} {s : State} (hg : s.granted f A.tblSfUnblock v = true) :
    ∃ l, rowWrite f A.tblSfUnblock v s = ran s (answer .ok [] (sfUnblock v { s with locks := l })) := by
  have hdue : s.power.resetDue = false := by
    unfold State.granted at hg
    simp only [Bool.and_eq_true, Bool.not_eq_true'] at hg
    exact hg.1.2
  obtain ⟨l, hw⟩ := rowWrite_block hg (p := tblPage) (by decide) (by decide) (by decide) (by decide) (by decide)
    (fun k => by unfold A.brgWinLock A.tblSfUnblock; omega)
  refine ⟨l, ?_⟩
  rw [hw, writeBlock_sfUnblock]
  have hkept : (sfUnblock v { s with locks := l }).power.resetDue = s.power.resetDue := by
    unfold sfUnblock
    split <;> rfl
  exact congrArg (ran s) (if_neg fun h => Bool.noConfusion ((hkept.trans hdue).symm.trans h))

theorem unblock_frees_selected {f : Facet} {v : W32} {s : State} (hg : s.granted f A.tblSfUnblock v = true) (hv : tst v 0 = true) :
    Completes (execSfUnblock f v s) fun t =>
      t.resp = ⟨.ok, []⟩ ∧ fld (s.reg A.tblSfIndex) 0 10 ∉ t.blocked ∧
        ∀ k, k ≠ fld (s.reg A.tblSfIndex) 0 10 → (k ∈ t.blocked ↔ k ∈ s.blocked) := by
  obtain ⟨l, hw⟩ := rowWrite_sfUnblock hg
  have hfree : sfUnblock v { s with locks := l } = { s with locks := l, blocked := dropFrom s.blocked (fld (s.reg A.tblSfIndex) 0 10) } := if_pos hv
  unfold execSfUnblock
  rw [hw, hfree, completes_ran]
  refine ⟨rfl, ?_, fun k hk => ?_⟩
  · simp [answer, dropFrom]
  · simp [answer, dropFrom, hk]

/-- Settles O23: learning, ageing, the compare, repairs and SF_UNBLOCK by the law of each; the flush of R205 by `flushVertex_noDest`, as the loss
of a link ends in it. -/
theorem tablesAreKept : Obligations.TablesAreKept := by
  unfold Obligations.TablesAreKept
  refine ⟨⟨?_, ?_, ?_, ?_, ?_, ?_, ?_, ?_⟩, ?_, ?_⟩
  · intro r l b s hon hq _ _ hnone hcap hplace
    obtain ⟨c, hc⟩ := learn_unknown (s := { s with learnQ := l }) hnone hcap hplace
    show Completes (execLearn s) _
    rw [execLearn_cons hon hq, hc, completes_ran]
    exact ⟨rfl, rfl⟩
  · exact fun s hon hdue hnone => ageing_without_dyns hon hdue hnone
  · exact fun h e s hon hdue hb hd hhit hf => ageing_removes_unhit hon hdue hb hd hhit hf
  · exact fun i s hon hlive hshadow => compare_invalidates_lost hon hlive hshadow
  · exact fun k i s hon hlive hshadow => compare_rewrites_differing hon hlive hshadow
  · exact fun k i f s hon hdraining hdrain himage => repair_of_draining hon hdraining hdrain himage
  · exact fun i f e s hon hat hd => repair_removes_dynamic hon hat hd
  · exact fun f v s hg hv => unblock_frees_selected hg hv
  · intro v medium s _ hup hbit h e hm
    obtain ⟨hlive, hstaging⟩ := linkLost_noDest medium hup hbit
    exact hm.elim (hlive h e) (hstaging h e)
  · intro v s hon hup hbit
    obtain ⟨t, ht, hlive, hstaging⟩ := linkDown_noDest hon hup hbit
    exact ⟨t, ht, fun h e hm => hm.elim (hlive h e) (hstaging h e)⟩

end Sys2Proof.Machine
end

section
/-! PROOF. The flags of a job (R236): what the table's condition codes and compares are in plain terms, what an instruction that issues does, and
that no row but CMP, CMPI, SRD and XWAIT touches a flag. -/

namespace Sys2Proof.Machine

/-! ## Compares (R236) -/

theorem sub_overflow_eq (a b : W32) :
    (a.msb != b.msb && (a - b).msb != a.msb) = decide (a.toInt - b.toInt < -2147483648 ∨ 2147483647 < a.toInt - b.toInt) := by
  calc (a.msb != b.msb && (a - b).msb != a.msb)
      = a.ssubOverflow b := by rw [BitVec.ssubOverflow_eq]; cases a.msb <;> cases b.msb <;> cases (a - b).msb <;> rfl
    _ = _ := by
      rw [BitVec.ssubOverflow, ← Bool.decide_or]
      exact decide_eq_decide.2 (by omega)

theorem sub_eq_zero_iff_eq (a b : W32) : a - b = 0 ↔ a = b := by
  refine ⟨fun h => ?_, fun h => h ▸ BitVec.sub_self a⟩
  have hcancel : a - b + b = a := BitVec.sub_add_cancel a b
  exact hcancel.symm.trans ((congrArg (· + b) h).trans (BitVec.zero_add b))

/-- The flags of a compare, in the operands alone. -/
theorem cmpFlags_eq (f : LatFlags) (a b : W32) :
    cmpFlags f a b = { f with
      z := decide (a = b), n := (a - b).getLsbD 31, c := decide (a < b),
      v := decide (a.toInt - b.toInt < -2147483648 ∨ 2147483647 < a.toInt - b.toInt) } := by
  have hz : decide (a - b = 0) = decide (a = b) := decide_eq_decide.2 (sub_eq_zero_iff_eq a b)
  have hn : (a - b).msb = (a - b).getLsbD 31 := BitVec.msb_eq_getLsbD_last _
  unfold cmpFlags
  dsimp only
  rw [hz, sub_overflow_eq, hn]
  rfl

/-- The signed immediate of an instruction word, as the bits that hold it. -/
theorem fSimm_eq (w : W32) : fSimm w = (w.extractLsb' 0 18).signExtend 32 := by
  have hbits : (w.extractLsb' 0 18).toNat = fImm w := by
    rw [BitVec.extractLsb'_toNat, Nat.shiftRight_zero, fImm, fld, Nat.pow_zero, Nat.div_one]
  have himm : sx 18 (fImm w) = (w.extractLsb' 0 18).toInt := by
    rw [BitVec.toInt_eq_toNat_cond, sx, hbits]
    have hlt : fImm w < 2 ^ 18 := Nat.mod_lt _ (by decide)
    rw [Nat.mod_eq_of_lt hlt]
    exact ite_congr (propext (by omega)) (fun _ => rfl) fun _ => rfl
  exact congrArg (BitVec.ofInt 32) himm

/-- The condition codes of R236; the two above 0xD are illegal. -/
theorem condOf_table (f : LatFlags) :
    condOf f 0 = some true ∧ condOf f 1 = some f.z ∧ condOf f 2 = some (!f.z) ∧ condOf f 3 = some f.c ∧ condOf f 4 = some (!f.c) ∧
      condOf f 5 = some (decide (f.n ≠ f.v)) ∧ condOf f 6 = some (f.z || decide (f.n ≠ f.v)) ∧ condOf f 7 = some (!f.z && decide (f.n = f.v)) ∧
      condOf f 8 = some f.n ∧ condOf f 9 = some (!f.n) ∧ condOf f 10 = some f.s ∧ condOf f 11 = some (!f.s) ∧ condOf f 12 = some f.x ∧
      condOf f 13 = some (!f.x) ∧ ∀ k, 13 < k → condOf f k = none := by
  have hne : (f.n != f.v) = decide (f.n ≠ f.v) := by cases f.n <;> cases f.v <;> rfl
  have heq : (!(f.n != f.v)) = decide (f.n = f.v) := by cases f.n <;> cases f.v <;> rfl
  refine ⟨rfl, rfl, rfl, rfl, rfl, congrArg some hne, congrArg (fun b => some (f.z || b)) hne, congrArg (fun b => some (!f.z && b)) heq,
    rfl, rfl, rfl, rfl, rfl, rfl, fun k hk => ?_⟩
  match k, hk with
  | k + 14, _ => rfl

/-! ## An instruction that issues -/

@[simp] theorem State.jobAt_setJob (c x : Nat) (j : Option Job) (s : State) : (setJob c x j s).jobAt c x = j := SMap.get_put_self _ _ _ _

theorem jobAt_of_ctxs {s t : State} (h : t.ctxs = s.ctxs) (c x : Nat) : t.jobAt c x = s.jobAt c x := by rw [State.jobAt, h, State.jobAt]

theorem jobAt_ran {s t u : State} (h : ran s t = .next u) (c x : Nat) : u.jobAt c x = t.jobAt c x := by
  cases h
  rfl

/-- The state in which an instruction takes effect: its cell counts it and the turn passes on. -/
def issuing (c x : Nat) (s : State) : State := addPair (A.latCIssuedLo c) (A.latCIssuedHi c) 1 (tookTurn c x s)

theorem issuing_ctxs (c x : Nat) (s : State) : (issuing c x s).ctxs = s.ctxs := by simp [issuing, tookTurn]

theorem issued_jobAt (c x : Nat) (j : Job) (s : State) : (issued c x j s).jobAt c x = some j := State.jobAt_setJob _ _ _ _

theorem ran_of_kept {s t : State} (hpending : t.pending = s.pending) (hnow : t.now = s.now) : ran s t = .next t := by
  rw [ran, ← hpending, ← hnow]

theorem ran_issued (c x : Nat) (j : Job) (s : State) : ran s (issued c x j s) = .next (issued c x j s) :=
  ran_of_kept (by simp [issued]) (by simp [issued])

/-- A row whose instruction issues and lets the job go on as `k`, with no effect beside the job. -/
theorem latRow_issues {op mask : Nat} {f : State → Job → W32 → LatRes} {c x : Nat} {s : State} {j k : Job} (hop : op ≤ 0x33)
    (h : s.issues c x op mask j = true) (hf : f (issuing c x s) j.spent (s.nextWord j) = .run k (issuing c x s)) :
    latRow op mask f c x s = .next (issued c x k s) := by
  unfold State.issues at h
  simp only [Bool.and_eq_true, decide_eq_true_eq, Option.isNone_iff_eq_none] at h
  obtain ⟨⟨⟨⟨⟨⟨⟨⟨⟨hon, hcell⟩, hjob⟩, hturn⟩, -⟩, hlib⟩, hpc⟩, hbudget⟩, hcode⟩, hunused⟩ := h
  have hlat : latOp op mask f c x s = issued c x k s := by
    unfold latOp
    rw [hjob]
    dsimp only
    rw [hturn, hlib, hcode]
    dsimp only
    rw [if_neg (by decide), if_neg (by omega), if_neg (by omega), if_neg (by omega), if_neg (by simp), if_neg (not_not_intro hunused)]
    have hrun : f (addPair (A.latCIssuedLo c) (A.latCIssuedHi c) 1 (tookTurn c x s)) { j with executed := j.executed + 1 } (s.nextWord j)
        = .run k (issuing c x s) := hf
    rw [hrun]
    rfl
  rw [latRow, hon, decide_eq_true hcell, Bool.and_self, only_true, hlat, ran_issued]

theorem exec_latCmp {c : CellNo} {x : Ctx} {s : State} {j : Job} (h : s.issues c x 0x09 (mRa + mRb) j = true) :
    exec (.latCmp c x) s = .next (issued c x { j.spent with
      pc := j.pc + 1, flags := cmpFlags j.flags (j.reg (fRa (s.nextWord j))) (j.reg (fRb (s.nextWord j))) } s) :=
  latRow_issues (by decide) h rfl

theorem exec_latCmpi {c : CellNo} {x : Ctx} {s : State} {j : Job} (h : s.issues c x 0x13 (mRa + mImm) j = true) :
    exec (.latCmpi c x) s = .next (issued c x { j.spent with
      pc := j.pc + 1, flags := cmpFlags j.flags (j.reg (fRa (s.nextWord j))) (fSimm (s.nextWord j)) } s) :=
  latRow_issues (by decide) h rfl

/-- SRD lets its job go on with S as the stream is (R236). -/
theorem latSrd_run {j : Job} {w : W32} (t : State) (hsize : fSize w < 3) :
    ∃ k, latSrd t j w = .run k t ∧ k.flags = { j.flags with s := decide (j.req.item.len < j.pos + 2 ^ fSize w) } := by
  have hbytes : sizeOf_ (fSize w) = some (2 ^ fSize w) := by
    have hcases : fSize w = 0 ∨ fSize w = 1 ∨ fSize w = 2 := by omega
    obtain h | h | h := hcases <;> rw [h] <;> rfl
  unfold latSrd
  rw [hbytes]
  dsimp only
  split
  · next hin => exact ⟨_, rfl, by rw [decide_eq_false (Nat.not_lt.2 hin)]; rfl⟩
  · next hout => exact ⟨_, rfl, by rw [decide_eq_true (Nat.not_le.1 hout)]; rfl⟩

/-- XWAIT without an open request lets its job go on with X as the requests ended (R236, R245). -/
theorem latXwait_run {j : Job} (w : W32) (t : State) (hdone : ∀ l ∈ j.looks, l.done = true) :
    latXwait t j w = .run { j with flags := { j.flags with x := j.looks.any (·.error) } }.next t := by
  have hclosed : j.looks.any (fun l => !l.done) = false := by simpa using hdone
  unfold latXwait
  rw [hclosed]
  rfl

/-! ## What the end of a job leaves in the contexts

A job that ends has left its context before anything is returned or counted for it, and none of that touches a context. -/

theorem still_ctxs {s t : State} (h : t.still = s.still) : t.ctxs = s.ctxs := (congrArg State.ctxs h : t.still.ctxs = s.still.ctxs)

theorem raise_ctxs (src : Nat) (s : State) : (raise src s).ctxs = s.ctxs := still_ctxs (raise_still src s)

theorem stage_ctxs (e : JEntry) (s : State) : (stage e s).ctxs = s.ctxs := still_ctxs (stage_still e s)

theorem release_ctxs (id : Nat) (s : State) : (release id s).ctxs = s.ctxs :=
  (congrArg State.ctxs (release_stillHeld id s) : (release id s).stillHeld.ctxs = s.stillHeld.ctxs)

theorem latPace_ctxs (s : State) : (latPace s).ctxs = s.ctxs := by
  unfold latPace
  dsimp only
  split
  · split
    · rfl
    · exact raise_ctxs _ _
  · split <;> rfl

theorem returnJob_ctxs (j : Job) (s : State) : (returnJob j s).ctxs = s.ctxs := by
  unfold returnJob
  rw [latPace_ctxs]
  exact release_ctxs _ _

theorem laneDone_ctxs (j : JobReq) (cs : List Copy) (s : State) : (laneDone j cs s).ctxs = s.ctxs := rfl

theorem discardJob_ctxs (reason code : Nat) (j : Job) (s : State) : (discardJob reason code j s).ctxs = s.ctxs := by
  rw [discardJob, laneDone_ctxs, returnJob_ctxs]
  exact stage_ctxs _ _

theorem faultJob_ctxs (code index : Nat) (j : Job) (s : State) : (faultJob code index j s).ctxs = s.ctxs := by
  unfold faultJob
  rw [raise_ctxs, discardJob_ctxs]
  rfl

theorem assemble_ctxs (j : Job) (k : Nat) (o : JobResult) (s : State) : (assemble j k o s).2.ctxs = s.ctxs := by
  unfold assemble
  extract_lets i b n vs remote w6 r ext s1 src cs
  have h1 : s1.ctxs = s.ctxs := stage_ctxs _ _
  show (if cs = [] then s1 else _).ctxs = s.ctxs
  split
  · exact h1
  · exact h1

theorem foldl_ctxs {α : Type} {f : State → α → State} (h : ∀ s a, (f s a).ctxs = s.ctxs) : ∀ (l : List α) (s : State), (l.foldl f s).ctxs = s.ctxs
  | [], _ => rfl
  | a :: l, s => (foldl_ctxs h l (f s a)).trans (h s a)

theorem foldl_snd_ctxs {α β : Type} {f : β × State → α → β × State} (h : ∀ p a, (f p a).2.ctxs = p.2.ctxs) :
    ∀ (l : List α) (p : β × State), (l.foldl f p).2.ctxs = p.2.ctxs
  | [], _ => rfl
  | a :: l, p => (foldl_snd_ctxs h l (f p a)).trans (h p a)

theorem commitJob_ctxs (c : Nat) (j : Job) (outs : List JobResult) (s : State) : (commitJob c j outs s).ctxs = s.ctxs := by
  unfold commitJob
  extract_lets de s1 s2 top s3 step
  have h1 : s1.ctxs = s.ctxs := foldl_ctxs (fun _ _ => by simp) _ s
  have h2 : s2.ctxs = s1.ctxs := by simp [s2]
  have h3 : s3.ctxs = s2.ctxs := by simp [s3, returnJob_ctxs]
  exact (foldl_snd_ctxs (f := step) (fun p a => assemble_ctxs j a.1 a.2 p.2) _ ([], s3)).trans (h3.trans (h2.trans h1))

theorem libDone_ctxs (c k : Nat) (j : Job) (s : State) : (libDone c k j s).ctxs = s.ctxs := by
  unfold libDone
  extract_lets e mac
  split
  · simp [faultJob_ctxs]
  · extract_lets o s1
    have h1 : s1.ctxs = s.ctxs := foldl_ctxs (fun _ _ => by simp) _ s
    split
    · next r _ =>
      extract_lets s2 s3
      have h3 : s3.ctxs = s1.ctxs := by
        have h2 : s2.ctxs = s1.ctxs := by simp [s2]
        show (if r = 0x13 then s2 else raise 245 s2).ctxs = _
        split
        · exact h2
        · exact (raise_ctxs _ _).trans h2
      rw [discardJob_ctxs, h3, h1]
    · split
      · simp [faultJob_ctxs, h1]
      · simp [commitJob_ctxs, h1]

/-! ## Rows that keep the flags -/

/-- A result does not send its job on with other flags. -/
def LatRes.keeps (fl : LatFlags) : LatRes → Prop
  | .run k _ => k.flags = fl
  | _ => True

theorem settleJob_run (c x : Nat) (i k : Job) (s t : State) : settleJob c x i (.run k t) s = setJob c x (some k) t := rfl

theorem settleJob_wait (c x : Nat) (i : Job) (s : State) : settleJob c x i .wait s = s := rfl

/-- A result that ends a job empties the context and leaves the others. -/
theorem settleJob_ctxs {c x : Nat} {j : Job} {r : LatRes} {s : State} (hrun : ∀ k t, r ≠ .run k t) (hwait : r ≠ .wait) :
    (settleJob c x j r s).ctxs = (setJob c x none s).ctxs := by
  unfold settleJob
  extract_lets off de
  cases r with
  | run k t => exact absurd rfl (hrun k t)
  | wait => exact absurd rfl hwait
  | done => exact commitJob_ctxs _ _ _ _
  | drop =>
    dsimp only
    rw [discardJob_ctxs]
    rfl
  | abort code =>
    dsimp only
    rw [raise_ctxs, discardJob_ctxs]
    rfl
  | fault code => exact faultJob_ctxs _ _ _ _

/-- A job that an instruction leaves in the context has the flags that the result gives it. -/
theorem settleJob_flags {c x : Nat} {j i k : Job} {r : LatRes} {s : State} (hr : r.keeps j.flags) (hj : s.jobAt c x = some j)
    (hk : (settleJob c x i r s).jobAt c x = some k) : k.flags = j.flags := by
  cases r with
  | run i t =>
    rw [settleJob_run, State.jobAt_setJob] at hk
    cases hk
    exact hr
  | wait =>
    rw [settleJob_wait, hj] at hk
    cases hk
    rfl
  | done | drop | abort _ | fault _ =>
    rw [jobAt_of_ctxs (settleJob_ctxs (by simp) (by simp)), State.jobAt_setJob] at hk
    cases hk

/-- What the issue of a row can come to (R239, R240): nothing, a library program's whole run, a fault before the effect, or the effect. -/
theorem latOp_cases (op mask : Nat) (f : State → Job → W32 → LatRes) {c x : Nat} {s : State} {j : Job} (hj : s.jobAt c x = some j) :
    latOp op mask f c x s = s ∨ (∃ k, latOp op mask f c x s = libDone c k j (setJob c x none (tookTurn c x s))) ∨
      (∃ i code u, u.ctxs = s.ctxs ∧ latOp op mask f c x s = settleJob c x i (.fault code) u) ∨
      latOp op mask f c x s = settleJob c x j.spent (f (issuing c x s) j.spent (s.nextWord j)) (issuing c x s) := by
  unfold latOp
  rw [hj]
  dsimp only
  split
  · exact .inl rfl
  split
  · next k _ =>
    split
    · exact .inr (.inl ⟨k, rfl⟩)
    · exact .inl rfl
  split
  · exact .inr (.inr (.inl ⟨j, 7, s, rfl, rfl⟩))
  split
  · exact .inr (.inr (.inl ⟨j, 9, s, rfl, rfl⟩))
  split
  · exact .inr (.inr (.inl ⟨j.spent, 1, tookTurn c x s, rfl, rfl⟩))
  split
  · exact .inl rfl
  split
  · exact .inl rfl
  · next r hr =>
    split
    · exact .inr (.inr (.inl ⟨j.spent, 1, issuing c x s, issuing_ctxs c x s, rfl⟩))
    · exact .inr (.inr (.inr rfl))

/-- A row of which no result changes the flags leaves those of a job that stays. -/
theorem latRow_flags {op mask : Nat} {f : State → Job → W32 → LatRes} {c x : Nat} {s t : State} {j k : Job}
    (hf : ∀ s j w, (f s j w).keeps j.flags) (hj : s.jobAt c x = some j) (h : latRow op mask f c x s = .next t) (hk : t.jobAt c x = some k) :
    k.flags = j.flags := by
  have kept (hk : s.jobAt c x = some k) : k.flags = j.flags := congrArg Job.flags (Option.some.inj (hk.symm.trans hj))
  rw [jobAt_ran h] at hk
  obtain ⟨-, ho⟩ | ⟨-, ho⟩ := only_cases (s.coreOn && decide ((s.cell c).st = .inService)) (latOp op mask f c x) s
  · rw [ho] at hk
    obtain hl | ⟨n, hl⟩ | ⟨i, code, u, hu, hl⟩ | hl := latOp_cases op mask f hj
    · rw [hl] at hk
      exact kept hk
    · rw [hl] at hk
      rw [jobAt_of_ctxs (libDone_ctxs _ _ _ _), State.jobAt_setJob] at hk
      cases hk
    · rw [hl] at hk
      exact settleJob_flags (r := .fault code) trivial ((jobAt_of_ctxs hu c x).trans hj) hk
    · rw [hl] at hk
      have hr : (f (issuing c x s) j.spent (s.nextWord j)).keeps j.flags := hf _ j.spent _
      exact settleJob_flags hr ((jobAt_of_ctxs (issuing_ctxs c x s) c x).trans hj) hk
  · rw [ho] at hk
    exact kept hk

/-! ## Every row but the four -/

theorem keeps_ret (s : State) (j : Job) (rd : Nat) (v : W32) : (ret s j rd v).keeps j.flags := rfl

/-- A fault ends the job, so that a guard takes nothing from what keeps the flags. -/
theorem keeps_unless {c : Prop} [Decidable c] {code : Nat} {r : LatRes} {fl : LatFlags} (h : r.keeps fl) :
    (if c then .fault code else r).keeps fl := by
  split
  · trivial
  · exact h

theorem keeps_jumpTo (s : State) (j : Job) (target : Int) : (jumpTo s j target).keeps j.flags := by
  unfold jumpTo
  split <;> trivial

theorem keeps_latCpy (s : State) (j : Job) (w : W32) : (latCpy s j w).keeps j.flags := by
  unfold latCpy
  extract_lets d a n
  split
  · rfl
  · exact keeps_unless (keeps_unless rfl)

theorem keeps_latRule (s : State) (j : Job) (w : W32) : (latRule s j w).keeps j.flags := by
  unfold latRule
  extract_lets n tan a seq
  split
  · trivial
  · exact keeps_unless (keeps_unless rfl)

/-- XREQ adds its request to the job, whether it is answered anew or as before (R245, R246). -/
theorem keeps_latXreq (s : State) (j : Job) (w : W32) : (latXreq s j w).keeps j.flags := by
  unfold latXreq
  extract_lets a d idx j'
  refine keeps_unless ?_
  split
  · trivial
  · split <;> rfl

/-- Every row of the table but CMP, CMPI, SRD and XWAIT issues an instruction of which no result changes the flags (R236). -/
theorem exec_keeping_row {i : Instr} {c : CellNo} {x : Ctx} (hi : i.latAt = some (c, x)) (hs : i.setsFlags = false) :
    ∃ op mask f, (∀ s, exec i s = latRow op mask f c x s) ∧ ∀ s j w, (f s j w).keeps j.flags := by
  have row {op mask : Nat} {f : State → Job → W32 → LatRes} {c' : CellNo} {x' : Ctx} (hi : some (c', x') = some (c, x))
      (hexec : ∀ s, exec i s = latRow op mask f c' x' s) (hf : ∀ s j w, (f s j w).keeps j.flags) :
      ∃ op mask f, (∀ s, exec i s = latRow op mask f c x s) ∧ ∀ s j w, (f s j w).keeps j.flags := by
    cases hi
    exact ⟨op, mask, f, hexec, hf⟩
  cases i with
  | latCmp | latCmpi | latSrd | latXwait => cases hs
  | latAdd | latSub | latAnd | latOr | latXor | latShl | latShr | latSar | latMul | latBswap | latAddi | latAndi | latOri | latXori | latShli
  | latShri | latSari | latMovi | latLui | latClz | latWget | latSpos =>
    exact row hi (fun _ => rfl) fun _ _ _ => keeps_ret _ _ _ _
  | latDone | latDrop | latAbort => exact row hi (fun _ => rfl) fun _ _ _ => trivial
  | latCnt => exact row hi (fun _ => rfl) fun _ _ _ => rfl
  | latExt | latIns | latWset | latSskip | latSseek => exact row hi (fun _ => rfl) fun _ _ _ => keeps_unless rfl
  | latLdc | latEmit => exact row hi (fun _ => rfl) fun _ _ _ => keeps_unless (keeps_unless rfl)
  | latSel | latMeta =>
    refine row hi (fun _ => rfl) fun s j w => ?_
    split
    · trivial
    · rfl
  | latLdw | latSto | latLdo | latLd | latSt =>
    refine row hi (fun _ => rfl) fun s j w => ?_
    simp only [latLdw, latSto, latLdo, latLd, latSt]
    split
    · trivial
    · exact keeps_unless rfl
  | latCpy => exact row hi (fun _ => rfl) keeps_latCpy
  | latB =>
    refine row hi (fun _ => rfl) fun s j w => ?_
    split
    · trivial
    · split
      · exact keeps_jumpTo _ _ _
      · rfl
  | latCall => exact row hi (fun _ => rfl) fun s j _ => keeps_unless (keeps_jumpTo s { j with stack := (j.pc + 1) :: j.stack } _)
  | latRet =>
    refine row hi (fun _ => rfl) fun s j w => ?_
    split
    · trivial
    · next l _ => exact keeps_jumpTo s { j with stack := l } _
  | latJr => exact row hi (fun _ => rfl) fun _ _ _ => keeps_jumpTo _ _ _
  | latDbnz =>
    refine row hi (fun _ => rfl) fun s j w => ?_
    extract_lets v i
    split
    · exact keeps_jumpTo s i _
    · rfl
  | latXreq => exact row hi (fun _ => rfl) keeps_latXreq
  | latRule => exact row hi (fun _ => rfl) keeps_latRule
  | _ => cases hi

/-- Settles O26: the compares by `latRow_issues` and `cmpFlags_eq`, SRD and XWAIT by what each leaves of its job, and every other row of the
table by `latRow_flags`. -/
theorem latticeFlags : Obligations.LatticeFlags := by
  unfold Obligations.LatticeFlags
  refine ⟨fun c x s j => ⟨fun h => ?_, fun h => ?_⟩, condOf_table, fun c x s j => ⟨fun h hsize => ?_, fun h hdone => ?_⟩, ?_⟩
  · have hrun := exec_latCmp h
    rw [cmpFlags_eq] at hrun
    exact hrun
  · have hrun := exec_latCmpi h
    rw [fSimm_eq, cmpFlags_eq] at hrun
    exact hrun
  · obtain ⟨k, hrun, hk⟩ := latSrd_run (j := j.spent) (issuing c x s) hsize
    exact ⟨_, latRow_issues (by decide) h hrun, k, issued_jobAt _ _ _ _, hk⟩
  · exact ⟨_, latRow_issues (by decide) h (latXwait_run _ _ hdone), _, issued_jobAt _ _ _ _, rfl⟩
  · intro i c x s t j k hi hs hj ht hk
    obtain ⟨op, mask, f, hexec, hf⟩ := exec_keeping_row hi hs
    exact latRow_flags hf hj ((hexec s).symm.trans ht) hk

end Sys2Proof.Machine
end

section
/-! PROOF. Keep bits and the reset of a facet (R442, R443, R542, R579). A facet reset ends the reads that wait in the facet's windows (R459). One of
them may be the last operation of another facet's frame whose write of PWR_RESET_CMD waits for the reply: the reply goes out, the device is reset,
and with it go the keep bits of all facets. -/

namespace Sys2Proof.Machine

/-- The state that a command leaves. -/
def leftBy (s : State) (i : Instr) : State :=
  match exec i s with
  | .next t => t
  | _ => s

/-- A frame of F0 that asks for a device reset and then reads through the aperture of window 0. -/
def resetThenFarRead : OctExec :=
  { id := 7, sess := 0, facet := 0, peer := false, rank := 0, sid := 0, epoch := 0, stamp := 0, vertex := 8, seqNo := 1, itemSeq := 0, crc := 0,
    stop := false, dst := ⟨8, [], none, none⟩, ops := [⟨2, 1, 0, A.pwrResetCmd, [0x1A5C3]⟩, ⟨1, 1, 0, 0x128040, []⟩], done := [], held := false,
    stale := false, resets := false }

/-- The processor runs, F2 and F3 keep, window 0 is F2's and its peer is UP; the frame of F0 is about to execute. -/
def twoFacetsKeep : State :=
  { State.reset with
    mp := .running
    regs := RegFile.write [] A.wakFacetKeep 0xC
    live := { State.reset.live with regs := RegFile.write State.reset.live.regs (A.brgWinCtrl 0) 0x201 }
    accord := { State.reset.accord with peers := [(0, { PeerSt.reset with state := 1 })] }
    octRun := [resetThenFarRead] }

/-- The frame has asked for the reset and waits for its far read, and F2 has asked for its own reset. -/
def resetOwed : State := [Instr.octWrite 7, .octRead 7, .facetReset 2 0x102].foldl leftBy twoFacetsKeep

/-- The reset of F2, as it is asked for in `resetOwed`. -/
def resetOfF2 : FacetReset := ⟨2, 0, 0, none⟩

theorem resetOwed_premises :
    resetOwed.coreOn = true ∧ resetOwed.facetReset = some resetOfF2 ∧ (∀ p ∈ resetOwed.flying, p.2.item.facet ≠ resetOfF2.facet) ∧
      tst (resetOwed.reg A.wakFacetKeep) 3 = true := by
  and_intros <;> decide +kernel

/-- The reset of F2 answers the far read, the frame of F0 has its reply, and the device reset that follows (cause 4) clears the keep bit of F3. -/
theorem resetOwed_loses_keep :
    (facetResetDone resetOfF2 resetOwed).power.cause = 4 ∧
      tst ((facetResetDone resetOfF2 resetOwed).reg A.wakFacetKeep) 3 = false := by
  and_intros <;> decide +kernel

/-- What a facet reset that completes leaves in WAK_FACET_KEEP is what its steps leave there. -/
theorem completes_facetResetComplete {s : State} {r : FacetReset} (hon : s.coreOn = true) (hr : s.facetReset = some r) (keep : Nat → Bool) :
    Completes (exec .facetResetComplete s) (fun t => ∀ g < 32, tst (t.reg A.wakFacetKeep) g = keep g) ↔
      ∀ g < 32, tst ((facetResetDone r s).reg A.wakFacetKeep) g = keep g := by
  show Completes (execFacetResetComplete s) _ ↔ _
  unfold execFacetResetComplete
  rw [hr]
  dsimp only
  rw [hon, only_true, completes_ran]
  generalize facetResetDone r s = t
  exact Iff.rfl

/-- Refutes O48: the reset of F2 in `resetOwed` clears the keep bit of F3, against the clause of R542 that it clears no other. -/
theorem not_powerModesChange : ¬ Obligations.PowerModesChange := by
  unfold Obligations.PowerModesChange
  rintro ⟨-, hreset, -⟩
  obtain ⟨hon, hr, hflying, hkept⟩ := resetOwed_premises
  obtain ⟨-, hlost⟩ := resetOwed_loses_keep
  have hbits := (completes_facetResetComplete hon hr _).1 (hreset resetOwed resetOfF2 hon hr (by decide) hflying)
  have hbit := hbits 3 (by decide)
  rw [hlost, hkept] at hbit
  exact absurd hbit (by decide)

end Sys2Proof.Machine
end

section
/-! PROOF. Failed unlocks and the cells of their lines (R116, R609). An executed line lets its input record go, and the cells of the record come off
the count of its facet, BUF_Fn_USE. The model keeps the facet as a plain number, and the counts lie apart by a stride, so that the count of a number
far beyond F15 is a register of another page. The device has sixteen facets, and no arrival of a line gives such a number; but the statement is
about every state, and has no premise on the input records. -/

namespace Sys2Proof.Machine

/-- The number of which `A.bufFuse` is SVC_UNLOCK_FAILS. -/
def strayFacet : Nat := (A.svcUnlockFails - A.bufFuse 0) / 4

/-- The line `UNLOCK V 5`. -/
def unlockLine : Item :=
  { Item.nil with uid := 1, vertex := 84, facet := strayFacet, data := MonCmd.unlock.text ++ [0x20, 0x56, 0x20, 0x35], len := 10 }

/-- The processor runs and that line waits for the monitor; its input record holds one cell. -/
def strayLine : State :=
  { State.reset with
    mp := .running
    inputs := [{ id := 0, uid := 1, vertex := 84, facet := strayFacet, cells := 1, refs := 1 }]
    svc := { MonitorSt.reset with lines := [unlockLine] } }

theorem strayLine_premises :
    strayLine.monReady .unlock [[0x56], [0x35]] = true ∧ strayLine.svc.refuseUntil ≤ strayLine.now := by
  and_intros <;> decide +kernel

/-- The failure is counted, and then the cell of the line comes off the count. -/
theorem strayLine_uncounted :
    strayLine.reg A.svcUnlockFails = 0 ∧ (leftBy strayLine (.monUnlock false)).reg A.svcUnlockFails = 0 := by
  and_intros <;> decide +kernel

/-- What holds of the completion of a command holds of the state that it leaves. -/
theorem leftBy_of_completes {s : State} {i : Instr} {P : State → Prop} (h : Completes (exec i s) P) : P (leftBy s i) := by
  obtain ⟨t, ht, hP⟩ := h
  unfold leftBy
  rw [ht]
  exact hP

/-- Refutes O57: an UNLOCK that fails in `strayLine` leaves SVC_UNLOCK_FAILS at zero, against the clause that it counts one. -/
theorem not_unlockNeedsTheKey : ¬ Obligations.UnlockNeedsTheKey := by
  unfold Obligations.UnlockNeedsTheKey
  intro h
  obtain ⟨-, hunlock, -⟩ := h strayLine
  obtain ⟨hready, hopen⟩ := strayLine_premises
  obtain ⟨hbefore, hafter⟩ := strayLine_uncounted
  obtain ⟨-, hfails, -⟩ := hunlock [0x56] [0x35] 2 hready (.inr ⟨rfl, rfl⟩)
  obtain ⟨-, -, -, -, hcount, -⟩ := leftBy_of_completes (hfails hopen)
  rw [hbefore, hafter] at hcount
  exact absurd hcount (by decide)

end Sys2Proof.Machine
end

section
/-! PROOF. Counters of code RC and the header registers of a page (R369, R621, R630, R631, R634): what a read of one word is once the rights are
judged, what a taken write of a header register does, and the clauses from these. -/

namespace Sys2Proof.Machine

/-! ## The header rows of the register map (R618) -/

theorem farWindow_near {addr : Nat} {p : PageRef} (hp : pageOf addr = some p) (hkind : p.kind ≠ .aperture) : farWindow addr = none := by
  unfold farWindow
  rw [hp]
  exact if_neg fun h => hkind h.1

theorem regRow_header {addr : Nat} {p : PageRef} (hp : pageOf addr = some p) (hoff : addr % 0x1000 < 0x40) :
    regRow addr = RegMap.header.find? (fun r => r.covers (addr % 0x1000)) := by
  unfold regRow
  rw [hp]
  exact if_pos hoff

/-- No header register is a counter, so the counters of a page lie in its block. -/
theorem counter_in_block {addr : Nat} {p : PageRef} {r : RegRow} (hp : pageOf addr = some p) (hr : regRow addr = some r) (hrc : r.acc = .rc) :
    0x40 ≤ addr % 0x1000 := by
  have header_no_counter : ∀ r ∈ RegMap.header, r.acc ≠ .rc := by decide
  refine Nat.le_of_not_lt fun hoff => ?_
  rw [regRow_header hp hoff] at hr
  exact header_no_counter r (List.mem_of_find?_eq_some hr) hrc

/-! ## A read that is permitted (R422) -/

theorem openHeader_mayRead {off : Nat} (q : Req) (p : PageRef) (s : State) (h : openHeader off = true) : s.mayRead q p off = true := by
  unfold State.mayRead
  exact if_pos (.inr h)

/-- A permitted read outside the DRAM window answers what `readOpen` says, beside renewing leases. -/
theorem readReg_permitted {q : Req} {addr : Nat} {p : PageRef} {s : State} (hmay : s.mayRead q p (addr % 0x1000) = true)
    (hp : pageOf addr = some p) (halign : addr % 4 = 0) (hring : p.kind ≠ .rng ∨ addr % 0x1000 < 0x800) :
    ∃ l, readReg q addr s = (.ok, readOpen q p addr { s with locks := l }) := by
  obtain ⟨l, hl⟩ := renewAccess_locks q p (addr % 0x1000) s
  have hinside : (decide (p.kind = .rng) && decide (0x800 ≤ addr % 0x1000)) = false := by
    obtain h | h := hring
    · simp [h]
    · simp [h]
  refine ⟨l, ?_⟩
  unfold readReg
  rw [hp, if_neg (by omega)]
  dsimp only
  rw [hmay, hinside, if_neg (by simp), hl]

/-- The read as a command of its own: the answer is the value, and the state is what `readOpen` leaves. -/
theorem rowRead_permitted {f : Facet} {addr : Nat} {p : PageRef} {s : State} (hr : s.readable f addr = true) (hp : pageOf addr = some p)
    (halign : addr % 4 = 0) (hring : p.kind ≠ .rng ∨ addr % 0x1000 < 0x800) :
    ∃ l, rowRead f addr s = ran s (answer .ok [(readOpen (s.plain f) p addr { s with locks := l }).1]
      (readOpen (s.plain f) p addr { s with locks := l }).2) := by
  unfold State.readable at hr
  rw [hp, Bool.and_eq_true] at hr
  obtain ⟨hon, hmay⟩ := hr
  obtain ⟨l, hl⟩ := readReg_permitted hmay hp halign hring
  refine ⟨l, ?_⟩
  unfold rowRead
  rw [hon, only_true, hl]

/-! ## Counters (R369) -/

theorem counterAt_row {addr : Nat} (h : counterAt addr = true) : ∃ r, regRow addr = some r ∧ r.acc = .rc ∧ r.pair = .lo := by
  unfold counterAt at h
  split at h
  · exact absurd h Bool.false_ne_true
  · next r hr =>
    rw [Bool.and_eq_true, decide_eq_true_eq, decide_eq_true_eq] at h
    exact ⟨r, hr, h⟩

theorem readOpen_counter {q : Req} {addr : Nat} {p : PageRef} {s : State} (hp : pageOf addr = some p) (hkind : p.kind ≠ .aperture)
    (hc : counterAt addr = true) : readOpen q p addr s = readCounter q addr s := by
  obtain ⟨r, hr, hrc, hlo⟩ := counterAt_row hc
  have hblock := counter_in_block hp hr hrc
  unfold readOpen
  rw [if_neg hkind, hr]
  dsimp only
  rw [if_neg (by omega), if_pos hrc, if_pos hlo]

theorem readCounter_fields (q : Req) (addr : Nat) (s : State) :
    let key := addr + 2 ^ 24 * (if q.facet = 0 then 0 else 1)
    let total := SMap.get 0 s.counters addr
    let d := total - SMap.get 0 s.baseline key
    (readCounter q addr s).1 = loW d ∧ SMap.get none (readCounter q addr s).2.hiLatch (halfKey (addr + 4) q.facet) = some (hiW d) ∧
      SMap.get 0 (readCounter q addr s).2.baseline key = total ∧
      (∀ k, k ≠ key → SMap.get 0 (readCounter q addr s).2.baseline k = SMap.get 0 s.baseline k) ∧
      (readCounter q addr s).2.counters = s.counters := by
  unfold readCounter
  dsimp only
  exact ⟨rfl, SMap.get_put_self .., SMap.get_put_self .., fun k hk => SMap.get_put_other _ _ _ hk, rfl⟩

/-- A read of a counter answers the total less the reader's baseline, which moves to the total, and latches _HI. -/
theorem counter_read {f : Facet} {addr : Nat} {p : PageRef} {s : State} (hr : s.readable f addr = true) (halign : addr % 4 = 0)
    (hc : counterAt addr = true) (hp : pageOf addr = some p) (hkind : p.kind = .eth) :
    Completes (rowRead f addr s) fun t =>
      let key := addr + 2 ^ 24 * (if f = 0 then 0 else 1)
      let total := SMap.get 0 s.counters addr
      let d := total - SMap.get 0 s.baseline key
      t.resp = ⟨.ok, [loW d]⟩ ∧ SMap.get none t.hiLatch (halfKey (addr + 4) f) = some (hiW d) ∧
      SMap.get 0 t.baseline key = total ∧ (∀ k, k ≠ key → SMap.get 0 t.baseline k = SMap.get 0 s.baseline k) ∧ t.counters = s.counters := by
  obtain ⟨l, hl⟩ := rowRead_permitted hr hp halign (.inl (by simp [hkind]))
  obtain ⟨hvalue, hlatch, hmoved, hkept, htotal⟩ := readCounter_fields (s.plain f) addr { s with locks := l }
  have hreader : (if (s.plain f).facet = 0 then 0 else 1) = if f = 0 then 0 else 1 := ite_congr (propext Fin.val_eq_zero_iff) (fun _ => rfl) fun _ => rfl
  rw [hreader] at hvalue hlatch hmoved hkept
  rw [hl, readOpen_counter hp (by simp [hkind]) hc, completes_ran]
  exact ⟨congrArg (fun w => Access.mk .ok [w]) hvalue, hlatch, hmoved, hkept, htotal⟩

/-! ## FAULT_CODE (R631) -/

theorem readOpen_faultCode {q : Req} {addr : Nat} {p : PageRef} {s : State} (hp : pageOf addr = some p) (hkind : p.kind ≠ .aperture)
    (hoff : addr % 0x1000 = 0x20) : readOpen q p addr s = (s.viewReg q addr, if q.facet = 0 then latchFault p s else s) := by
  have hrow : regRow addr = some ⟨0x020, 1, 0, 1, 0, .ro, 0, 0xFFFFFFFF, .none⟩ := by
    rw [regRow_header hp (by omega), hoff]
    decide
  unfold readOpen
  rw [if_neg hkind, hrow]
  dsimp only
  rw [if_pos hoff]

theorem latchFault_latches (p : PageRef) (s : State) :
    SMap.get [] (latchFault p s).faultLatch p.base = [s.reg (p.base + 0x24), s.reg (p.base + 0x28), s.reg (p.base + 0x2C)] := by
  unfold latchFault
  exact SMap.get_put_self _ _ _ [_, _, _]

theorem faultCode_read {addr : Nat} {p : PageRef} {s : State} (hr : s.readable 0 addr = true) (hp : pageOf addr = some p)
    (hkind : p.kind ≠ .aperture) (hoff : addr % 0x1000 = 0x20) :
    Completes (rowRead 0 addr s) fun t =>
      t.resp.rsp = .ok ∧
      SMap.get [] t.faultLatch p.base = [s.reg (p.base + 0x24), s.reg (p.base + 0x28), s.reg (p.base + 0x2C)] ∧ t.regs = s.regs := by
  obtain ⟨l, hl⟩ := rowRead_permitted (f := 0) hr hp (by omega) (.inr (by omega))
  rw [hl, readOpen_faultCode hp hkind hoff, completes_ran]
  exact ⟨rfl, latchFault_latches p { s with locks := l }, rfl⟩

/-! ## A taken write -/

theorem granted_page {s : State} {f addr : Nat} {v : W32} {p : PageRef} (hg : s.granted f addr v = true) (hp : pageOf addr = some p) :
    s.coreOn = true ∧ s.power.resetDue = false ∧ s.mayWrite (s.plain f) p (addr % 0x1000) = true ∧
      s.lockedOut (s.plain f) p (addr % 0x1000) v = false := by
  unfold State.granted at hg
  rw [hp] at hg
  simpa only [Bool.and_eq_true, Bool.not_eq_true', and_assoc] using hg

/-- The outcome of an answered write that asks for no device reset. -/
theorem completes_answered {s t : State} {r : Rsp} {d : List W32} {P : State → Prop} (hdue : t.power.resetDue = false)
    (h : P { answer r d t with pending := s.pending, now := s.now }) : Completes (ran s (resetIfDue (answer r d t))) P := by
  have hkept : resetIfDue (answer r d t) = answer r d t := if_neg fun h => Bool.noConfusion (hdue.symm.trans h)
  rw [hkept, completes_ran]
  exact h

/-- A taken write of a header register near by does what `writeHeader` says, beside renewing leases, and the writer has its answer. -/
theorem rowWrite_header {f : Facet} {addr : Nat} {v : W32} {p : PageRef} {s : State} (hg : s.granted f addr v = true) (hp : pageOf addr = some p)
    (halign : addr % 4 = 0) (hheader : addr % 0x1000 < 0x40) (hkind : p.kind ≠ .aperture) :
    ∃ l, rowWrite f addr v s
      = ran s (resetIfDue (answer (writeHeader (s.plain f) p (addr % 0x1000) v { s with locks := l }).1 []
          (writeHeader (s.plain f) p (addr % 0x1000) v { s with locks := l }).2)) := by
  obtain ⟨hon, -, hmay, hfree⟩ := granted_page hg hp
  obtain ⟨l, hl⟩ := renewAccess_locks (s.plain f) p (addr % 0x1000) s
  have hreg : writeReg (s.plain f) addr v s = writeHeader (s.plain f) p (addr % 0x1000) v { s with locks := l } := by
    unfold writeReg
    rw [hp, if_neg (by omega)]
    dsimp only
    rw [hmay, if_neg (by decide), if_neg hkind, hfree, if_neg (by decide), if_pos hheader, hl]
  have hnoLock (k : Nat) (hk : k < 8) : addr ≠ A.brgWinLock k := by
    unfold A.brgWinLock
    omega
  have hany : writeAny (s.plain f) addr v s = writeHeader (s.plain f) p (addr % 0x1000) v { s with locks := l } := by
    unfold writeAny
    rw [farWindow_near hp hkind]
    dsimp only
    rw [hreg, if_neg fun h => hnoLock _ h.2.2 h.2.1]
  refine ⟨l, ?_⟩
  unfold rowWrite
  rw [hon, only_true, hany]

/-! ## EV_RAW (R630) and SYS_STAGE_VIEW (R634) -/

theorem writeHeader_evRaw (q : Req) (p : PageRef) (v : W32) (s : State) :
    writeHeader q p 0x10 v s = (.ok, setReg (p.base + 0x10) (s.reg (p.base + 0x10) &&& ~~~v) s) := rfl

theorem evRaw_clears {addr : Nat} {v : W32} {p : PageRef} {s : State} (hg : s.granted 0 addr v = true) (hp : pageOf addr = some p)
    (hkind : p.kind ≠ .aperture) (hoff : addr % 0x1000 = 0x10) :
    Completes (rowWrite 0 addr v s) fun t =>
      t.resp = ⟨.ok, []⟩ ∧ t.reg (p.base + 0x10) = s.reg (p.base + 0x10) &&& ~~~v ∧
      (∀ a, a ≠ p.base + 0x10 → t.reg a = s.reg a) ∧ t.staging = s.staging ∧ t.live = s.live := by
  obtain ⟨-, hdue, -, -⟩ := granted_page hg hp
  obtain ⟨l, hl⟩ := rowWrite_header (f := 0) hg hp (by omega) (by omega) hkind
  rw [hl, hoff, writeHeader_evRaw]
  refine completes_answered (by exact hdue) ?_
  exact ⟨rfl, (State.reg_setReg ..).trans (if_pos rfl), fun a ha => (State.reg_setReg ..).trans (if_neg ha), rfl, rfl⟩

/-- SYS_STAGE_VIEW stores its bit 0 for the facet that writes it. -/
theorem writeBlock_stageView (q : Req) (v : W32) (s : State) :
    writeBlock q sysPage A.sysStageView v s = (.ok, setReg (selKey A.sysStageView q.facet) (v &&& 1 ||| 0 &&& ~~~1) s) := by
  have hrow : regRow A.sysStageView = some ⟨0x070, 1, 0, 1, 0, .rw, 0, 1, .none⟩ := by decide
  unfold writeBlock
  rw [hrow]
  rfl

theorem stageView_selects {f : Facet} {v : W32} {s : State} (hg : s.granted f A.sysStageView v = true) :
    Completes (rowWrite f A.sysStageView v s) fun t =>
      t.resp = ⟨.ok, []⟩ ∧ tst (t.reg (selKey A.sysStageView f)) 0 = tst v 0 ∧
      (∀ g : Facet, g ≠ f → t.reg (selKey A.sysStageView g) = s.reg (selKey A.sysStageView g)) := by
  have hp : pageOf A.sysStageView = some sysPage := by decide
  obtain ⟨-, hdue, -, -⟩ := granted_page hg hp
  obtain ⟨l, hl⟩ := rowWrite_block hg hp (by decide) (by decide) (by decide) (by decide) (fun k => by unfold A.brgWinLock A.sysStageView; omega)
  have hother (g : Facet) (hne : g ≠ f) : selKey A.sysStageView g ≠ selKey A.sysStageView f := fun h => hne (Fin.ext (by
    unfold selKey at h
    omega))
  rw [hl, writeBlock_stageView]
  refine completes_answered (by exact hdue) ?_
  exact ⟨rfl, (congrArg (tst · 0) ((State.reg_setReg ..).trans (if_pos rfl))).trans (by simp [tst]),
    fun g hne => (State.reg_setReg ..).trans (if_neg (hother g hne))⟩

/-! ## The open header registers (R621) -/

/-- What reading a header register does beside its value leaves the registers, the live bank and the staging bank. -/
theorem readEffect_header (q : Req) (p : PageRef) {addr : Nat} (s : State) (hheader : addr % 0x1000 < 0x40) :
    (readEffect q p addr s).regs = s.regs ∧ (readEffect q p addr s).live = s.live ∧ (readEffect q p addr s).staging = s.staging := by
  unfold readEffect
  by_cases hmeasured : measured addr = true
  · rw [if_pos hmeasured]
    exact ⟨rfl, rfl, rfl⟩
  · rw [if_neg hmeasured]
    dsimp only
    split
    · rw [if_neg (by omega)]; exact ⟨rfl, rfl, rfl⟩
    · rw [if_neg (by omega), if_neg (by omega)]; exact ⟨rfl, rfl, rfl⟩
    · rw [if_neg (by omega)]; exact ⟨rfl, rfl, rfl⟩
    · exact ⟨rfl, rfl, rfl⟩

theorem openHeader_offsets {off : Nat} (h : openHeader off = true) : off = 0 ∨ off = 4 ∨ off = 0x30 ∨ off = 0x3C := by
  simpa [openHeader, or_assoc] using h

/-- The open header registers are no counters and no halves of pairs. -/
theorem openHeader_row {addr : Nat} {p : PageRef} (hp : pageOf addr = some p) (hopen : openHeader (addr % 0x1000) = true) :
    ∃ r, regRow addr = some r ∧ r.acc ≠ .rc ∧ r.pair = .none := by
  have hoff := openHeader_offsets hopen
  rw [regRow_header hp (by omega)]
  obtain h | h | h | h := hoff <;> rw [h] <;> exact ⟨_, rfl, by decide, by decide⟩

/-- A read of an open header register on a page near by answers the register as it stands, with the effects of any read. -/
theorem readOpen_openHeader (q : Req) {p : PageRef} {addr : Nat} (s : State) (hp : pageOf addr = some p) (hkind : p.kind ≠ .aperture)
    (hopen : openHeader (addr % 0x1000) = true) : readOpen q p addr s = (s.viewReg q addr, readEffect q p addr s) := by
  have hoff := openHeader_offsets hopen
  obtain ⟨r, hr, hacc, hpair⟩ := openHeader_row hp hopen
  have htime : addr ≠ A.locTimeSecLo ∧ addr ≠ A.locTimeNs ∧ addr ≠ A.locTimeFrac := by
    unfold A.locTimeSecLo A.locTimeNs A.locTimeFrac
    omega
  unfold readOpen
  rw [if_neg hkind, hr]
  dsimp only
  rw [if_neg (by omega), if_neg hacc, if_neg htime.1, hpair, if_neg (by decide), if_neg (by simp [htime.2])]

theorem readOpen_openHeader_keeps (q : Req) {p : PageRef} {addr : Nat} (s : State) (hp : pageOf addr = some p)
    (hopen : openHeader (addr % 0x1000) = true) :
    (readOpen q p addr s).2.regs = s.regs ∧ (readOpen q p addr s).2.live = s.live ∧ (readOpen q p addr s).2.staging = s.staging := by
  have hoff := openHeader_offsets hopen
  by_cases hkind : p.kind = .aperture
  · have hself : readOpen q p addr s = (s.viewReg q addr, s) := if_pos hkind
    rw [hself]
    exact ⟨rfl, rfl, rfl⟩
  · rw [readOpen_openHeader q s hp hkind hopen]
    exact readEffect_header q p s (by omega)

/-- PAGE_ID, PAGE_CAPS, OWNER and LOCK read OK for every request. -/
theorem openHeader_reads {q : Req} {addr : Nat} {p : PageRef} (s : State) (hopen : openHeader (addr % 0x1000) = true)
    (hp : pageOf addr = some p) :
    ∃ w t, readReg q addr s = (.ok, w, t) ∧ t.regs = s.regs ∧ t.live = s.live ∧ t.staging = s.staging := by
  have hoff := openHeader_offsets hopen
  obtain ⟨l, hl⟩ := readReg_permitted (openHeader_mayRead q p s hopen) hp (by omega) (.inr (by omega))
  exact ⟨(readOpen q p addr { s with locks := l }).1, (readOpen q p addr { s with locks := l }).2, hl,
    readOpen_openHeader_keeps q { s with locks := l } hp hopen⟩

/-! ## The rows -/

theorem exec_counterRead {f : Facet} {addr : W32} (s : State) (hc : counterAt addr.toNat = true) :
    exec (.counterRead f addr) s = rowRead f addr.toNat s := if_pos hc

theorem exec_faultCodeRead (f : Facet) (page : PageNo) (s : State) :
    exec (.faultCodeRead f page) s = rowRead f (0x1000 * page.val + 0x20) s := rfl

theorem exec_evRawClear (f : Facet) (page : PageNo) (v : W32) (s : State) :
    exec (.evRawClear f page v) s = rowWrite f (0x1000 * page.val + 0x10) v s := rfl

theorem exec_stageViewWrite (f : Facet) (v : W32) (s : State) : exec (.stageViewWrite f v) s = rowWrite f A.sysStageView v s := rfl

/-- Settles O11: the counter by `counter_read`, the header registers of F0 and the view by what their read or write comes to, and the four open
registers by `openHeader_reads`. -/
theorem countersAndHeaders : Obligations.CountersAndHeaders := by
  unfold Obligations.CountersAndHeaders
  have hmod (page : PageNo) {off : Nat} (h : off < 0x1000) : (0x1000 * page.val + off) % 0x1000 = off := by omega
  refine ⟨?_, ⟨?_, ?_, ?_⟩, ?_⟩
  · intro f addr s p hr halign hc hp hkind
    rw [exec_counterRead s hc]
    exact counter_read hr halign hc hp hkind
  · intro page s p hr hp hkind
    rw [exec_faultCodeRead]
    exact faultCode_read hr hp hkind (hmod page (by decide))
  · intro page v s p hg hp hkind
    rw [exec_evRawClear]
    exact evRaw_clears hg hp hkind (hmod page (by decide))
  · intro f v s hg
    rw [exec_stageViewWrite]
    exact stageView_selects hg
  · intro q page k s p addr hp
    have hopen : ∀ k : Fin 4, [0x00, 0x04, 0x30, 0x3C].getD k.val 0 < 0x1000 ∧ openHeader ([0x00, 0x04, 0x30, 0x3C].getD k.val 0) = true := by
      decide
    obtain ⟨hlt, hk⟩ := hopen k
    exact openHeader_reads s ((congrArg openHeader (hmod page hlt)).trans hk) hp

end Sys2Proof.Machine
end
